-- ==== Sys2Proof/Word.lean ====
section
/-!
DEFINITION. Word.lean: the word types of the Colale C512. Bit-field, byte-order and CRC helpers are in
Machine/Bits.lean.
-/
namespace Sys2Proof

/-- A byte of a frame, a payload or the Gallery memory. -/
abbrev Byte := BitVec 8
/-- A 16-bit value: occurrence counters, sequence numbers, the epoch. -/
abbrev W16 := BitVec 16
/-- A register or persistent word (R361, R367). -/
abbrev W32 := BitVec 32
/-- A schedule step (R102) or a Gallery record (R256). -/
abbrev W64 := BitVec 64
/-- The coarse count: TBCLK periods modulo 2^54 (R27). -/
abbrev Coarse := BitVec 54
/-- A stamp: COARSE [63:10] and FRAC [9:0], in 2^-10 ns (R56). -/
abbrev Stamp := BitVec 64
/-- A nominal instant of the schedule, in 2^-4 ns, modulo the coarse wrap (R103). -/
abbrev Nominal := BitVec 58

end Sys2Proof
end

