-- ==== Sys2Proof/Syntax.lean ====
section
/-!
DEFINITION. Syntax.lean: the commands of the Colale C512, one constructor for each row of spec/opcode_table.json,
with the operands that come from outside the part. A row that the Lodge executes names the mailbox that holds its
command; a row that the hardware brings about names the unit and what an analog or board-side part delivers to it.
-/
namespace Sys2Proof

/-- How a persistent word reads under its check bits (R372). -/
inductive ReadResult where
  | good | corrected | uncorrectable
  deriving DecidableEq, Repr

/-- The persistent words whose check bits find an error as a command reads them (R372); all others read well. -/
abbrev Reads := List (Nat × ReadResult)

/-- The command that a reset cuts short (R374, R397): the mailbox whose command the Lodge is executing, how many of its words
have committed, and how many of a running ENV_LOAD. -/
structure Cut where
  box : Option Nat
  words : Nat
  envWords : Nat
  deriving DecidableEq, Repr

/-- One cycle of TCK (R429): the levels of TMS and TDI at its rising edge. -/
structure Tck where
  tms : Bool
  tdi : Bool
  deriving DecidableEq, Repr

/-- What one temperature conversion yields (R399): a value in 0.125 °C, or nothing (it did not complete, or the
remote diode is open or short). -/
inductive Conversion where
  | value (t : Int) | none
  deriving DecidableEq, Repr

/-- The protocol of a received packet (R286). -/
inductive IpProto where
  | udp | icmp | other
  deriving DecidableEq, Repr

/-- The IPv4 and UDP headers of a received packet, as far as R286 judges them. -/
structure RxIp where
  hdrOk : Bool
  ihl : Nat
  fragmented : Bool
  src : W32
  dst : W32
  proto : IpProto
  udpSumOk : Bool
  srcPort : Nat
  dstPort : Nat
  deriving DecidableEq, Repr

/-- EtherType of a received frame (R286). -/
inductive RxType where
  | ipv4 (ip : RxIp) | arp | other
  deriving DecidableEq, Repr

/-- A MAC frame taken whole from a host port (R286), its UDP payload as bytes. -/
structure RxFrame where
  fcsOk : Bool
  dstMac : BitVec 48
  srcMac : BitVec 48
  vid : Option Nat
  type : RxType
  payload : List Byte
  deriving DecidableEq, Repr

/-- An ARP message (R285): a request for an address, or a reply that names one; a request leaves the target MAC zero. -/
structure ArpMsg where
  request : Bool
  senderIp : W32
  senderMac : BitVec 48
  targetIp : W32
  targetMac : BitVec 48
  deriving DecidableEq, Repr

/-- An ICMP echo request (R288), with its identifier and sequence number. -/
structure EchoMsg where
  src : W32
  srcMac : BitVec 48
  ident : W16
  seqNo : W16
  data : List Byte
  deriving DecidableEq, Repr

/-- What the SURVEY self-test of start-up found (R394 step 5, R396). -/
structure SelfTest where
  badCores : List Nat
  badUnits : List Nat
  deriving DecidableEq, Repr

/-- What LPDDR5X training found (R252): GiB per channel (0: none fitted), one density or several, and the channels
that failed. -/
structure Training where
  density : Nat
  same : Bool
  failed : List Nat
  deriving DecidableEq, Repr

/-- What a calibration fill measured at its end (R91, R95): S_CORE per core. -/
structure FillResult where
  skews : List (Nat × BitVec 24)
  deriving DecidableEq, Repr

/-- The commands. Docstrings name the row of the opcode table. -/
inductive Instr where
  /-- POWER_UP: `byPwrgood` tells a rise of PWRGOOD from a release of RST_N. -/
  | powerUp (byPwrgood : Bool) (test : SelfTest) (reads : Reads)
  | pwrgoodFall (cut : Cut)
  | rstNAssert (cut : Cut)
  | memoryTrainingEnd (r : Training)
  | startUpEnd
  | refinAbsence
  /-- FREQUENCY_GATE: in window or not, the offset of REFIN against the compensated crystal in ppb, and the crystal error
  that the gate measures against REFIN, in 2^-33 ppb (R19). -/
  | frequencyGate (inWindow : Bool) (ofs : W32) (y : Int)
  | phaseLoss
  | qualificationEnd
  | acquireComplete
  | spanStart
  | xtalUpdate
  | holdLimit
  | learnUpdate
  /-- REPLICA_COMPARE: the upsets that have struck replicas since the last comparison (flight, offset). -/
  | replicaCompare (upsets : List (Nat × Coarse))
  | coarseWrap
  | ppsEdge (rising : Bool)
  | ppsMissing
  | timeMarker
  | epochSetApply
  | epochSetTimeout
  /-- EDGE_ARRIVAL at input `n` at `t` (2^-10 ns of up-time): polarity, the coarse count that the converter latches, the
  raw code it will give. Inputs 0 to 523 are the balls of the channels with CT2 and CT3 as 522 and 523; 524 and 525 are
  the CLN_TRG and CLN_TIME receivers (R43, R44). -/
  | edgeArrival (n t : Nat) (rising : Bool) (cn : Coarse) (code : Nat)
  | conversionDone (core conv : Nat)
  | armedHandover (core : Nat)
  | calibrationEdge (core code : Nat)
  | stampPush (ch : Nat)
  /-- CLOSE_WORD_PRESENT for the shot in ledger slot `tag`. -/
  | closeWordPresent (tag : Nat)
  | closeWordRetry (ch : Nat)
  | queuePop (ch : Nat)
  | coreSwitch (ch : Nat)
  /-- CALIBRATION_PERIOD_END: the trims that the trimming step of a fill, if it ends here, has found, per converter
  (8 × core + converter; R88, R91). -/
  | calibrationPeriodEnd (trims : List (Nat × Byte))
  | tableSwitch (flight : Nat)
  | calFillEnd (r : FillResult)
  | entryAllocate
  | effectivePowerStep
  | selectWord
  | shotPosition
  | voidDecision (tag : Nat)
  | stampAssignment (ch : Nat)
  /-- DWELL_END_TOKEN for channel `ch`. -/
  | dwellEndToken (ch : Nat)
  | incrementIssue (ch : Nat)
  | bufferSwap (ch : Nat)
  | readoutPassEnd (ch : Nat)
  | dwellJoin
  | extractionPhase1 (ch : Nat)
  | extractionPhase2 (ch : Nat)
  | laneLate (flight : Nat)
  | dwellDecision
  /-- CLUSTER_CLOSE in flight `flight`: of the gate's popped stamps, or (`outside`) of the OUTSIDE stamps. -/
  | clusterClose (flight : Nat) (outside : Bool)
  | acquisitionIntervalEnd (flight : Nat)
  | trackerMiss (flight tracker : Nat)
  | gateBoundary (slot : Nat)
  | gateResult (slot : Nat)
  | intervalJudge (slot : Nat)
  | slotRunStart (slot : Nat)
  | syncPulse (n : Nat)
  | cameraLoopUpdate (n : Nat)
  | linkCycle
  /-- STATUS_WORD: the 40 bits received in the status slot, and whether its start mark lay in range. -/
  | statusWord (inTime : Bool) (w : BitVec 40)
  | statusWordDeadline
  | eyeBudgetInterval
  | diagDue (pline : Nat)
  | voidRun (pline : Nat)
  | fbPathCheck (drv : Nat)
  | testPass
  | testPassReport (drv : Nat)
  /-- TRGIN_TRIGGER: the level that qualified and the coarse count of its active edge. -/
  | trginTrigger (high : Bool) (time : Coarse)
  | triggerDelivery
  | trgoutEnd
  | beacon
  | unitSlot
  | beaconReceive (w : W64)
  | trigWordReceive (w : W64)
  | roundWordReceive (w : W64)
  | markWordReceive (w : W64)
  | beaconLoss
  | roundStart
  | roundUpdate
  | envsumDone
  | galleryRecordWrite
  | evtRecordSlot
  | epochHoldRelease
  | captureReady
  | captureDone
  /-- MEMORY_CHECK of channel `c`: whether its read DQ calibration check passed. -/
  | memoryCheck (c : Nat) (ok : Bool)
  /-- MR4_READ: whether a device asked for more refresh than the fixed schedule gives. -/
  | mr4Read (hot : Bool)
  | refresh
  | capReadStreamEnd
  | frameReceive (port : Nat) (f : RxFrame)
  | arpReceive (port : Nat) (a : ArpMsg)
  | icmpEcho (port : Nat) (e : EchoMsg)
  | arpTimer (port : Nat)
  | arpUnresolved (port : Nat)
  /-- FRAME_TRANSMIT on path 0 (ETH0), 1 (ETH1) or 2 (SPI). -/
  | frameTransmit (path : Nat)
  | notificationFrame
  | phyLinkUp (port : Nat)
  | portUp (port : Nat)
  | phyLinkDown (port : Nat)
  | portDown (port : Nat)
  | keepaliveExpiry (port : Nat)
  | spiWrite (bytes : List Byte)
  /-- SPI_READ: how many bytes of the head frame the host clocked. -/
  | spiRead (clocked : Nat)
  | spiStatus
  | spiOther (instr : Byte) (clocked : Nat)
  /-- LOCKSTEP_MISMATCH: the mailbox whose command the Lodge was executing, if any; how many persistent words of that
  command, and of a running ENV_LOAD, hold their new values (R301, R420). -/
  | lockstepMismatch (cut : Option Nat) (words envWords : Nat)
  | lodgeRestartEnd
  | scrubRead (r : ReadResult)
  | correctionRewrite
  | limpEntry
  | limpReturn
  | limpPendClear
  /-- MODE_SET_COMPLETE: with what the self-test of an entry to SURVEY found (R394, R396). -/
  | modeSetComplete (test : SelfTest)
  | sensorConversion (s : Nat) (c : Conversion)
  | throttleEvaluation
  | flrst (flight : Nat)
  | flrstEnd (flight : Nat)
  | faultLogEntry
  | traceRecordSend
  | traceTimeRecord
  | traceCounterBurst
  | jtagIdcode (clocks : List Tck)
  /-- JTAG_SAMPLE: the levels on the input pins, in the cells of R429. -/
  | jtagSample (pins : BitVec 24) (clocks : List Tck)
  /-- JTAG_BYPASS, or any other instruction code. -/
  | jtagBypass (code : BitVec 4) (clocks : List Tck)
  | admissionComplete
  | histSnapArmTimeout
  | envLoadComplete
  | clnMeasureTimeout
  | ident (m : Nat)
  | ping (m : Nat)
  | linkCfg (m : Nat)
  | modeSet (m : Nat)
  | regRd (m : Nat) (reads : Reads)
  | regWr (m : Nat)
  | tbNowLoRead
  | flEcntLoRead (ch : Nat)
  | shShotnumLoRead
  | msSgatecntRead (slot : Nat)
  | glWcountLoRead
  | avLcntRead
  /-- RC_READ of the register at byte address `addr`. -/
  | rcRead (addr : Nat)
  | caSelWrite (v : W32)
  | shLselWrite (v : W32)
  | evTest (v : W32)
  | avTrdump (v : W32)
  | pregWr (m : Nat)
  | pregWear (m : Nat)
  | tbCfg (m : Nat)
  | epochSet (m : Nat)
  | calRun (m : Nat)
  | skewSet (m : Nat)
  | schedLoad (m : Nat)
  | schedLoadCommit (m : Nat)
  | schedStart (m : Nat)
  | schedStop (m : Nat)
  | emitLimit (m : Nat)
  | lineMap (m : Nat)
  | clearfail (m : Nat)
  | histCfg (m : Nat)
  | rejectCfg (m : Nat)
  | histSnapArm (m : Nat)
  | histSnapRead (m : Nat)
  | histSnapInfo (m : Nat)
  | measCfg (m : Nat)
  | measCfgSync (m : Nat)
  | measRead (m : Nat)
  | envLoad (m : Nat)
  | trigCfg (m : Nat)
  | trigCfgFire (m : Nat)
  | arm (m : Nat)
  | disarm (m : Nat)
  | markSet (m : Nat)
  | capReadInfo (m : Nat)
  | capReadRead (m : Nat)
  | capReadStream (m : Nat)
  | capReadRelease (m : Nat)
  | clnCfg (m : Nat)
  | clnCfgMeasure (m : Nat)
  | clnCfgMark (m : Nat)
  | evtMask (m : Nat)
  | evtRead (m : Nat)
  | evtClear (m : Nat)
  | thermCfgLimits (m : Nat)
  | thermCfgSensor (m : Nat)
  | spareMapSwap (m : Nat)
  | spareMapHome (m : Nat)
  | spareMapRetire (m : Nat)
  | memret (m : Nat)
  | memclr (m : Nat)
  | faultLog (m : Nat) (reads : Reads)
  /-- CLN_WORD_DISCARD: a word on CLN_TRG, and whether its start mark lay in its slot. -/
  | clnWordDiscard (w : W64) (inSlot : Bool)
  | heardExpiry (u : Nat)
  | zqCalibration
  deriving DecidableEq, Repr

end Sys2Proof
end

