-- ==== Sys2Proof/Decode.lean ====
section
/-!
DEFINITION. Decode.lean: the command that a word spells by the opcode table. The table of this part gives no row any bits
(its commands are happenings at pins, in units and in mailboxes), so no word spells a command. The encodings that the part
itself decodes (frames, bus words, mailbox opcodes) are read by the meanings of the rows that receive them.
-/
namespace Sys2Proof

/-- No row has bits: no word spells a command. -/
def decodeTableWord (_nbits _w : Nat) : Option Instr := none

end Sys2Proof
end

