-- ==== Sys2Proof/Machine/Bits.lean ====
section
/-!
DEFINITION. Bits.lean: bit fields, byte order (R314: most significant byte first), signed readings, rounding and the
three CRCs of the spec.
-/
namespace Sys2Proof.Machine

/-- Bits [lo + w - 1 : lo] of a number. -/
def bits (x lo w : Nat) : Nat := x / 2 ^ lo % 2 ^ w

/-- Bits [lo + w - 1 : lo] of a register. -/
def fld (x : W32) (lo w : Nat) : Nat := bits x.toNat lo w

/-- Bit `i` of a register. -/
def bit (x : W32) (i : Nat) : Bool := x.getLsbD i

/-- One bit as a number. -/
def b2n (b : Bool) : Nat := if b then 1 else 0

/-- `v` placed at bit `lo`, cut to `w` bits. -/
def put (v lo w : Nat) : Nat := v % 2 ^ w * 2 ^ lo

/-- A register from a number. -/
def w32 (n : Nat) : W32 := BitVec.ofNat 32 n

/-- The bits of `mask` taken from `new`, all others from `old` (R326). -/
def masked (old new mask : W32) : W32 := (old &&& ~~~mask) ||| (new &&& mask)

/-- Register bit `i` set or cleared. -/
def setBit (x : W32) (i : Nat) (b : Bool) : W32 :=
  if b then x ||| w32 (2 ^ i) else x &&& ~~~(w32 (2 ^ i))

/-- The two's complement reading of the low `w` bits of a number. -/
def signed (w x : Nat) : Int :=
  let y := x % 2 ^ w
  if y < 2 ^ (w - 1) then Int.ofNat y else Int.ofNat y - Int.ofNat (2 ^ w)

/-- The low `w` bits of an integer in two's complement. -/
def unsigned (w : Nat) (x : Int) : Nat := (x % Int.ofNat (2 ^ w)).toNat

/-- `n` bytes of a number, most significant first (R314). -/
def beBytes : Nat → Nat → List Byte
  | 0, _ => []
  | n + 1, v => BitVec.ofNat 8 (v / 2 ^ (8 * n)) :: beBytes n v

/-- The number that bytes spell, most significant first (R314). -/
def beNat (bs : List Byte) : Nat := bs.foldl (fun a b => a * 256 + b.toNat) 0

/-- `n` payload bytes from offset `i`, as a number. -/
def pNat (p : List Byte) (i n : Nat) : Nat := beNat ((p.drop i).take n)

/-- A register image at payload offset `i`. -/
def pWord (p : List Byte) (i : Nat) : W32 := w32 (pNat p i 4)

/-- A saturating 32-bit counter of a `Nat`. -/
def sat32 (n : Nat) : Nat := min n (2 ^ 32 - 1)

/-- The integer nearest `a / b` (b > 0), halves away from zero. -/
def roundDiv (a b : Int) : Int :=
  if a < 0 then -((-a * 2 + b) / (2 * b)) else (a * 2 + b) / (2 * b)

/-- Ceiling of `a / b`. -/
def ceilDiv (a b : Nat) : Nat := (a + b - 1) / b

/-- The integer square root, by bisection on the bits below `2 ^ n`. -/
def isqrt : Nat → Nat → Nat → Nat
  | 0, r, _ => r
  | n + 1, r, x => isqrt n (if (r + 2 ^ n) * (r + 2 ^ n) ≤ x then r + 2 ^ n else r) x

/-- One bit step of a CRC whose register is shifted left. -/
def crcStep (w : Nat) (poly : BitVec w) (c : BitVec w) : BitVec w :=
  if c.msb then (c <<< 1) ^^^ poly else c <<< 1

/-- `n` bit steps. -/
def crcSteps (w : Nat) (poly : BitVec w) : Nat → BitVec w → BitVec w
  | 0, c => c
  | n + 1, c => crcSteps w poly n (crcStep w poly c)

/-- A CRC over whole bytes, most significant bit first, without reflection. -/
def crcMsb (w : Nat) (poly init : BitVec w) (bs : List Byte) : BitVec w :=
  bs.foldl (fun (c : BitVec w) (b : Byte) => crcSteps w poly 8 (c ^^^ BitVec.ofNat w (b.toNat * 2 ^ (w - 8)))) init

/-- CRC-8 of the low `n` bits of a number, most significant bit first: x^8 + x^2 + x + 1, initial value 0xFF (R143). -/
def crc8Bits : Nat → Nat → BitVec 8 → BitVec 8
  | 0, _, c => c
  | n + 1, x, c => crc8Bits n x (if c.msb != x.testBit n then (c <<< 1) ^^^ 0x07 else c <<< 1)

/-- CRC-8 of the low `n` bits of a number (R138, R143). -/
def crc8 (n x : Nat) : Nat := (crc8Bits n x 0xFF).toNat

/-- CRC-16 of bus words: polynomial 0x1021, initial value 0xFFFF (R245). -/
def crc16 (bs : List Byte) : BitVec 16 := crcMsb 16 0x1021 0xFFFF bs

/-- One bit step of the reflected CRC-32. -/
def crc32Step (c : W32) : W32 := if c.getLsbD 0 then (c >>> 1) ^^^ 0xEDB88320 else c >>> 1

/-- Eight bit steps of the reflected CRC-32. -/
def crc32Byte (c : W32) (b : Byte) : W32 :=
  let x := c ^^^ b.zeroExtend 32
  crc32Step (crc32Step (crc32Step (crc32Step (crc32Step (crc32Step (crc32Step (crc32Step x)))))))

/-- CRC-32 of IEEE 802.3 (R292). -/
def crc32 (bs : List Byte) : W32 := ~~~(bs.foldl crc32Byte 0xFFFFFFFF)

/-- Bytes of a 32-bit word, most significant first. -/
def wBytes (w : W32) : List Byte := beBytes 4 w.toNat

/-- A stamp word whose FRAC is zero (R56). -/
def stampOf (c : Coarse) : Stamp := (c.zeroExtend 64) <<< 10

/-- COARSE of a stamp (R56). -/
def Stamp.coarse (st : Stamp) : Coarse := (st >>> 10).truncate 54

/-- `a - b` of two stamps, signed modulo 2^64 (R31). -/
def stampDiff (a b : Stamp) : Int := (a - b).toInt

/-- How far `k` lies ahead of `now`, modulo the wrap of the coarse count (R111). -/
def ahead (k now : Coarse) : Nat := (k - now).toNat

/-- The first whole microsecond of the coarse count at least `n` ns after `c`; the count restarts at 0 (R28). -/
def wholeMicro (c : Coarse) (n : Nat) : Coarse :=
  let x := (c.toNat + n) % 2 ^ 54
  let y := (x + 999) / 1000 * 1000
  if 2 ^ 54 ≤ y then 0 else BitVec.ofNat 54 y

/-- The first bit set at or above `i`, of `n` bits looked at. -/
def lowestBit (x : Nat) : Nat → Nat → Option Nat
  | 0, _ => none
  | n + 1, i => if x.testBit i then some i else lowestBit x n (i + 1)

end Sys2Proof.Machine
end

