-- ==== Sys2Proof/Config.lean ====
section
/-!
DEFINITION. Config.lean: what one part fixes (factory values, silicon revision) and the values the spec leaves open.
An opaque constant has no body: nothing can be proved of its value, so every statement holds whatever it is.
-/
namespace Sys2Proof.Config

/-- ID.REV.MAJOR: 0x01 for A, 0x02 for B (per silicon, R6). -/
opaque revMajor : Byte
/-- ID.REV.MINOR (per silicon, R7). -/
opaque revMinor : Byte
/-- ID.REV.BUILD (per ROM, R7). -/
opaque revBuild : W16
/-- The 64-bit factory serial number (R320, R365). -/
opaque serial : BitVec 64
/-- The factory MAC address of port `p` (R285). -/
opaque mac : Nat → BitVec 48
/-- Word `a` of the factory area as it left the factory (R367): contents not in the spec. -/
opaque factoryWord : Nat → W32
/-- S_PIN of channel `i`, signed, 2^-16 ns (R95): a factory measurement. -/
opaque sPin : Nat → BitVec 24
/-- S_CORE of core `x` before the first calibration fill (CA.CORESKEW, reset "Factory value"). -/
opaque sCore : Nat → BitVec 24
/-- The correction of S_CORE by the factory temperature coefficient of island `f`, between the period of measurement
and a later period (R95: every 32 ms; the coefficient's value and format are not in the spec). -/
opaque islandDrift : Nat → Nat → Nat → BitVec 24
/-- Whether (m - LEARN) / 8 is rounded up where it is no whole LSB (R19: the spec states no rounding). -/
opaque learnRound : Int → Bool
/-- Whether the mean of the gate residuals (their sum in 2^-33 ppb and their number) is rounded up where it is no whole LSB
(R19: the spec states no rounding). -/
opaque learnMean : Int → Nat → Bool
/-- What a division whose divisor is zero gives where a result formula of R212, R215, R216 or R224 meets one: the spec
states no result. -/
opaque divByZero : Int → Int
/-- The high time that DUTY counts, at gate `r`, for a rising stamp that no falling stamp has followed yet (R216 forms a
result from stamps alone). -/
opaque openHigh : Nat → Int
/-- What the ledger and the trace show as the fire stamp of shot `n` while, or because, it has none (R115). -/
opaque noFireStamp : Nat → Stamp

/-- The group ID of dwell `d` when none of its positions fired (R131 gives a group to fired shots only). -/
opaque noGroup : Nat → BitVec 21

/-- Whether a quotient that is no whole LSB is rounded up, in the one-way delay (0) and in its mean (1) of R248: the spec
states no rounding. -/
opaque delayRound : Nat → Int → Bool

/-- Whether the mean of a sensor's last conversions (their sum and number) is rounded up where it is no whole LSB (R398:
the spec states no rounding). -/
opaque meanUp : Int → Nat → Bool

/-- Which channel fault 0x0602 names when a start-up finds P.GL_RETIRE.OUT set (R409; the word does not hold it). -/
opaque secondChannel : BitVec 3

/-- Whether a retired home core that a start-up finds without a spare had failed in a self-test (fault 0x0102) or as a
converter (0x0101): R409 counts the fault again, and no word keeps its code. -/
opaque retiredBySelfTest : Nat → Bool

/-- The running disparity of trace lane `n` at the end of reset (true: positive; R424 states none). -/
opaque laneDisparity : Nat → Bool

/-- The IPv4 identification of a packet that port `p` sends at up-time `t` (no rule gives it). -/
opaque ipIdent : Nat → Nat → W16

/-- The destination MAC address of a frame that port `p` sends at up-time `t` while ARP has not found the MAC of LK.DEST yet
(R285 states none). -/
opaque unresolvedMac : Nat → Nat → BitVec 48

/-- TH.STEP.THETA and TH.STEP.CSENS after an evaluation with an empty control set (R400 defines neither), by up-time. -/
opaque noTheta : Nat → Int
opaque noCsens : Nat → BitVec 4

end Sys2Proof.Config
end

