-- ==== Sys2Proof/Machine/State.lean ====
section
/-!
DEFINITION. State.lean: everything the spec gives the Colale C512, as plain data, and the state right after reset.
Things that repeat (channels, converters, ledger slots, persistent words) are sparse tables: a list of key and value in
rising key order that lists no entry equal to the value an unlisted key has.
-/
namespace Sys2Proof.Machine

/-- A sparse table. `Machine/Tab.lean` reads and writes it and states its canonical form. -/
abbrev Tab (α : Type) := List (Nat × α)

/-- Byte memory: the LPDDR5X contents of the Gallery (R254), record bytes least significant first (R256). -/
abbrev Memory := List Host.Cell

/-- The six modes (R385). -/
inductive Mode where
  | dormant | survey | sweep | watch | tally | limp
  deriving DecidableEq, Repr

/-- TB.STATUS.STATE (time base, table under R15). -/
inductive TbState where
  | freerun | acquire | locked | holdover
  deriving DecidableEq, Repr

/-- Status codes of an answer (R318). -/
inductive Status where
  | ok | busy | badop | badlen | badarg | mode | seq | worn | stale | notAdmitted | fault
  deriving DecidableEq, Repr

/-- An answer or completion: STATUS, ARG and the data from byte 4 on (R296, R297). -/
structure Answer where
  status : Status
  arg : Nat
  data : List Byte
  deriving DecidableEq, Repr

/-- Where a response goes (R289): the source address of its command on its path. -/
structure Peer where
  path : Nat
  ip : W32
  mac : BitVec 48
  port : Nat
  deriving DecidableEq, Repr

/-- Whose command a deferred operation completes (R317): mailbox, SEQ, opcode and source. -/
structure Ticket where
  mb : Nat
  seq : W16
  op : Nat
  src : Peer
  deriving DecidableEq, Repr

/-! ## Persistent store (R367 to R376) -/

/-- A word of the array: data, wear count (27 bits, saturating), and whether it is unreadable (R375). `stuck` is the
model's own: how many of the coming write verifications of this cell will fail (R368 step 4). -/
structure PWord where
  data : W32
  wear : Nat
  unreadable : Bool
  stuck : Nat
  deriving DecidableEq, Repr

/-- A used spare word: the address its tag records, and its cell (R369). -/
structure Spare where
  tag : Nat
  cell : PWord
  deriving DecidableEq, Repr

structure PStore where
  words : Tab PWord
  spares : Tab Spare
  /-- verification failures to come of spare cells that are still free (as `PWord.stuck`) -/
  stuck : Tab Nat
  lastKind : Nat
  spared : W32
  corr : W32
  unread : W32
  last : W32
  scrubs : W32
  scrubAddr : Nat
  /-- addresses of corrected reads whose rewrite is due (R372) -/
  rewrite : List Nat
  /-- the model's own: errors that stand in the array until a read of their words finds them (R372) -/
  upset : List (Nat × ReadResult)
  deriving DecidableEq, Repr

/-! ## Events (R377 to R383) -/

/-- An event source: occurrence counter, latched status, raises since the last EVT_READ (kept up to 32,769). -/
structure Source where
  occ : W16
  latched : Bool
  raises : Nat
  deriving DecidableEq, Repr

/-- The instant at which a command began to execute, as its LODGE record gives it (R425): the count as a stamp word, and
how many times the epoch had changed by then (R29). -/
structure Start where
  stamp : List Byte
  era : Nat
  deriving DecidableEq, Repr

/-- An EVT_CLEAR that runs (R382): its mailbox, the entries still to be judged, the outcomes so far, and its start. -/
structure Clearing where
  box : Nat
  left : List (Nat × W16)
  out : List Byte
  start : Start
  deriving DecidableEq, Repr

structure Events where
  src : Tab Source
  mask : Tab W32
  count : W32
  /-- the TBCLK cycle (up-time) of the newest raises, and the sources raised in it, each as it entered that cycle (R378,
  R382) -/
  cycleAt : Nat
  raised : List (Nat × Source)
  deriving DecidableEq, Repr

/-! ## Time base -/

/-- A pending EPOCH_SET (R32): APPLY, E, K and the command to complete. -/
structure EpochPend where
  apply : Nat
  e : W16
  k : Coarse
  tk : Ticket
  deriving DecidableEq, Repr

structure TimeBase where
  coarse : Coarse
  epoch : W16
  /-- the model's own: how many times the epoch has been advanced or loaded since reset, which tells the items of one epoch
  from those of the next (R29) -/
  era : Nat
  /-- the model's own: TBCLK cycles by which EPOCH_SETs have moved the flight cycles against the up-time, so that each still
  begins at an even coarse count (R55) -/
  align : Nat
  cfg : W32
  hold : W32
  state : TbState
  /-- ACQUIRE was entered from HOLDOVER (table under R15) -/
  fromHold : Bool
  xsensOk : Bool
  ppsOk : Bool
  ppsPres : Bool
  limpRef : Bool
  refFok : Bool
  refPres : Bool
  /-- a loss has been declared under R14 since reset (R15) -/
  lossSeen : Bool
  /-- consecutive frequency gates out of window (R14) -/
  badGates : Nat
  /-- the start-up qualification time of 20 ms has passed (R21, R22) -/
  startQual : Bool
  refofs : W32
  /-- the crystal correction y in force, in 2^-33 ppb (R18) -/
  y : Int
  /-- start of the running span, as up-time (R22) -/
  span : Option Nat
  holdMs : W32
  /-- TB.TERR in 2^-3 × 0.04 ns, that is 5 ps (R21) -/
  terr : Nat
  theta : Int
  theta0 : Int
  nowHi : W32
  epochL : W16
  pps : Coarse
  ppsErr : W32
  ppsPrev : Option Coarse
  pend : Option EpochPend
  /-- up-time of the PPS edge or marker that applies the pending EPOCH_SET, and the cable delay in ns that K takes (R33,
  R249) -/
  due : Option (Nat × Int)
  learn : W32
  learnWritten : W32
  /-- 100 s updates since P.XTAL_LEARN was last written (R19) -/
  learnSince : Nat
  /-- replica of flight f less the central count (R26) -/
  replicaOff : Tab Coarse
  /-- frequency gates of the LOCKED time since the last update of LEARN, and the sum of their residuals in 2^-33 ppb (R19) -/
  gates : Nat
  residual : Int
  deriving DecidableEq, Repr

/-! ## Stamp channels (chapter 2) -/

/-- A word of a stamp queue (R59, R60). -/
inductive QWord where
  | stamp (st : Stamp) (ova rising : Bool) (conv core : Nat)
  | close (merged mrg drop : Bool) (gen tag : Nat) (ova : Bool)
  deriving DecidableEq, Repr

/-- A queue entry: the word, its push cycle, the first flight cycle in which it can stand in S15 (R65), the side values of
the tap (R208), how many SKEW_SETs had answered at its push (R97), and the era of its stamp (R29). -/
structure QEntry where
  word : QWord
  push : Nat
  ready : Nat
  gap : Bool
  ecnt : BitVec 48
  skews : Nat
  era : Nat
  deriving DecidableEq, Repr

/-- A conversion on its way to the queue, in edge order (R49, R58). -/
structure Flying where
  core : Nat
  conv : Nat
  t : Nat
  rising : Bool
  cn : Coarse
  code : Nat
  done : Bool
  gap : Bool
  ecnt : BitVec 48
  /-- the era (`TimeBase.era`) in which the edge came -/
  era : Nat
  deriving DecidableEq, Repr

/-- A substitution under way (R72): the new flight-local core, Tsw, and the faulty core with its fault code. -/
structure Subst where
  core : Nat
  tsw : Coarse
  fault : Option Nat
  deriving DecidableEq, Repr

/-- What a channel did in one flight cycle `n`: DEPTH, PKT and VALID at its start, which judge every push and pop of it
(R64, R67), whether its retry latch was occupied (R67) and HOLD set then, whether the push port has been used (R58), and the
flags of FL.CHFLAG set in it (R76). -/
structure CycleNote where
  n : Nat
  depth : Nat
  pkt : Nat
  valid : Bool
  latched : Bool
  hold : Bool
  pushed : Bool
  flags : W32
  deriving DecidableEq, Repr

structure Chan where
  /-- FL.CHCFG and FL.CHFLAG -/
  cfg : W32
  flags : W32
  /-- FL.CORE: the core, numbered in the flight, that serves the channel -/
  core : Nat
  ecnt : BitVec 48
  stampCnt : W32
  mergeCnt : W32
  missCnt : W32
  ovrCnt : W32
  /-- ECNT_HI, STAMPCNT, MERGECNT, MISSCNT and OVRCNT as latched (R73) -/
  latched : Option (W16 × W32 × W32 × W32 × W32)
  queue : List QEntry
  /-- the retry latch (R62) -/
  latch : Option QWord
  ova : Bool
  mrg : Bool
  drop : Bool
  gap : Bool
  /-- the previous selected edge (R46) and the stamped edges of the last 44.0 ns (R52), in 2^-10 ns of up-time -/
  lastSel : Option Nat
  stamps : List Nat
  /-- counted edges of the last 1 µs (R48), and whether the excess has been reported -/
  recent : List Nat
  overFlag : Bool
  results : List Flying
  /-- conversions of hits that the new core of a planned substitution took before Tsw: they occupy it and give no stamp
  (R72) -/
  shadow : List Flying
  subst : Option Subst
  /-- the latest flight cycle in which the channel changed -/
  note : Option CycleNote
  deriving DecidableEq, Repr

/-- What occupies a converter (R49): a stamp conversion, or a calibration conversion with its raw code. -/
inductive Busy where
  | stamp | cal (code : Nat)
  deriving DecidableEq, Repr

structure Core where
  /-- FL.CORESTAT.STATE -/
  state : Nat
  chan : Nat
  armed : Option Nat
  busy : Tab Busy
  /-- random-edge source in use (false A, true B), failed sources, edges of the period (R78, R79) -/
  srcB : Bool
  failA : Bool
  failB : Bool
  edges : Nat
  calNext : Nat
  deriving DecidableEq, Repr

/-- A converter's calibration state (R81 to R89). `upd` is the calibration clock of its last update. -/
structure Conv where
  h : Tab Nat
  samples : Nat
  acc : Tab Nat
  table : Tab (Nat × Nat)
  next : Option (Tab (Nat × Nat))
  good : Tab (Nat × Nat)
  trim : Nat
  ovfl : Bool
  ovflNow : Bool
  upd : Nat
  ok : Bool
  fails : Nat
  /-- a converter fault: from then on it uses only tables that passed the check (R89) -/
  faulty : Bool
  abn : W32
  abnLast : W32
  sampLast : W32
  deriving DecidableEq, Repr

structure Flights where
  /-- the flight self-test of start-up has ended (R394 step 5) -/
  tested : Bool
  chans : Tab Chan
  cores : Tab Core
  f32sel : Nat
  /-- the source of F32 channels 10 and 11 in force: the Colonnade receivers (R44) -/
  clnLoop : Bool
  /-- flights whose consumer path is restarting (R414) -/
  flrst : List Nat
  deriving DecidableEq, Repr

structure Calib where
  freeze : Bool
  fill : Bool
  fillDone : Bool
  /-- period ends of the running fill: the first ends the trimming, the next four are summed (R91) -/
  fillStep : Nat
  /-- the flights have run since the last period end (R79) -/
  whole : Bool
  period : W32
  /-- period ends that aged converters (R82, R94) -/
  clock : Nat
  /-- calibration period in which S_CORE was measured last (R95) -/
  skewPeriod : W32
  sel : W32
  cStat : W32
  cSamp : W32
  cAbn : W32
  cTable : Tab W32
  convs : Tab Conv
  saved : Option (Tab Conv)
  calTk : Option Ticket
  sCore : Tab (BitVec 24)
  /-- SKEW_SETs that have answered, and the values they replaced, newest first: the number of the command, the channel,
  the old word (R97) -/
  skews : Nat
  skewWas : List (Nat × Nat × W32)
  deriving DecidableEq, Repr

/-! ## Shots (chapter 4) -/

structure Entry where
  num : Nat
  did : Nat
  step : Nat
  sidx : Nat
  line : Nat
  pline : Nat
  drv : Nat
  pwr : Nat
  q : Nat
  tplan : Coarse
  fire : Stamp
  /-- 2 FIRED or awaiting its fire stamp (1 ARMED), 3 CLOSED (R121) -/
  state : Nat
  void : Bool
  syn : Bool
  inc : Bool
  amb : Bool
  group : Nat
  /-- the FB stamp found in its range (R114, R418); its close words have been presented -/
  fb : Option Stamp
  shown : Bool
  /-- served channels that have not popped a closing word -/
  opens : List Nat
  deriving DecidableEq, Repr

/-- A shot position allocated 1 µs ahead (R120): the dwell, bank and frame it belongs to, its instant and dither code,
and whether thinning or a busy slot withholds it. -/
structure Position where
  did : Nat
  bank : Nat
  frame : Nat
  step : Nat
  sidx : Nat
  tplan : Coarse
  q : Nat
  thin : Bool
  full : Bool
  /-- last position of its dwell, of its frame -/
  last : Bool
  frameLast : Bool
  deriving DecidableEq, Repr

/-- A dwell from its effective power step to its decision (R123, R131, R149, R171, R176). -/
structure Dwell where
  did : Nat
  step : Nat
  line : Nat
  pline : Nat
  drv : Nat
  serve : W32
  pEff : Nat
  m : Nat
  t0 : Coarse
  /-- the SELECT word has been sent; its DIAG pulse is still to come (R154) -/
  selected : Bool
  diag : Bool
  nplan : Nat
  /-- positions reached, and not all reached yet -/
  reached : Nat
  firing : Bool
  /-- EMIT_LIMIT with DIS = 0 came too late for it (R151) -/
  barred : Bool
  nfired : Nat
  nvoid : Nat
  inc : Bool
  amb : Bool
  short : Bool
  group : Option Nat
  epoch : W16
  /-- latest window close over the positions reached so far (R171) -/
  tEnd : Option Stamp
  joined : Bool
  tokens : List Nat
  swapped : List Nat
  extracted : List Nat
  /-- a bin saturated on one of its channels (R169) -/
  satSeen : Bool
  /-- flights whose consumer path restarted while the dwell was accumulated: no records (R414) -/
  dead : List Nat
  /-- flights whose lanes missed a bound of R183 on it (R415) -/
  late : List Nat
  /-- return records per channel, until they enter the stream -/
  records : List (Nat × List (BitVec 128))
  placed : Bool
  /-- persistence counter of each channel whose pass has ended, channel and P (R233, R234) -/
  byMap : List (Nat × Nat)
  deriving DecidableEq, Repr

/-- A running scheduler: the next position to allocate, with its nominal instant (R103), and the dwell formed for its
step. -/
structure Sched where
  bank : Nat
  frame : Nat
  step : Nat
  sidx : Nat
  t : Nominal
  did : Option Nat
  endStop : Bool
  /-- the frames from the present one on whose nominal instant t_F is known, newest first: number, bank, t_F -/
  known : List (Nat × Nat × Nominal)
  deriving DecidableEq, Repr

/-- Standby bank state SH.STATUS.STBY. -/
inductive Stby where
  | empty | loading | committed | admission
  deriving DecidableEq, Repr

structure Shots where
  cfg : W32
  fbwin : W32
  bankA : Tab W64
  bankB : Tab W64
  lenA : Nat
  lenB : Nat
  active : Nat
  valid : Bool
  stby : Stby
  swPend : Bool
  /-- admission running: L and the command to complete (R108) -/
  admission : Option (Nat × Ticket)
  shotNum : W64
  shotHi : W32
  frameCnt : W32
  peak : Nat
  voidCnt : W32
  strayCnt : W32
  lfullCnt : W32
  skipCnt : W32
  serve : Tab W32
  lsel : Nat
  lent : Tab W32
  q : Nat
  run : Option Sched
  stepNow : Nat
  /-- the frame of the last position reached -/
  frameNow : Nat
  armed : List Position
  ledger : Tab Entry
  dwells : List Dwell
  nextDid : Nat
  /-- SCHED_START with APPLY = 2: offset and command to complete (R111, R334) -/
  trigStart : Option (Nat × Ticket)
  deriving DecidableEq, Repr

/-! ## Emitter link (chapter 5) -/

/-- A command word waiting for, or repeated on, the command channel: OP and ARG, and the physical line it concerns. -/
structure EmCmd where
  op : Nat
  arg : Nat
  deriving DecidableEq, Repr

structure Driver where
  present : Bool
  fs : Nat
  width : Nat
  eyeLim : Nat
  seq : Nat
  queue : List EmCmd
  /-- SEQ of a POLL and of a queued command whose exchange failed: it is repeated unchanged (R146) -/
  repeatPoll : Option Nat
  repeatCmd : Option Nat
  fails : Nat
  linkOk : Bool
  /-- it has answered since the start of SURVEY after reset (R394 step 7) -/
  answered : Bool
  alarm : Bool
  id : Nat
  dis : Bool
  selErr : Bool
  /-- TBCLK cycle (up-time) in which SELERR was set last (R364) -/
  selErrAt : Option Nat
  ovt : Bool
  uvlo : Bool
  selCnt : Nat
  flt : Bool
  temp : Nat
  voids : Nat
  lastVoid : Nat
  /-- last pulse count that READ_DIAG gave per DLINE (R417) -/
  pulses : Tab Nat
  /-- READ_DIAG under R417 is awaited -/
  fbAsk : Bool
  fbStep : Nat
  fbMatch : Nat
  fbSamples : List Int
  /-- lines tested in the running SURVEY pass and the strobe instant of each (R157) -/
  test : List (Nat × Coarse)
  testFb : List Nat
  /-- strobes sent in a pass that SURVEY has ended: their FB stamps do not count (R157) -/
  spent : List Coarse
  /-- the running pass found no FB stamp of the driver, and READ_DIAG is to decide (R417): whether pulses have been
  measured, and the line faults shown so far -/
  blind : Option (Bool × List (Nat × Nat))
  deriving DecidableEq, Repr

structure Line where
  /-- 0 untested, 1 passed its last test, 3 failed (R157, R158) -/
  state : Nat
  fkind : Nat
  diagDue : Bool
  voidRun : Nat
  energy : Nat
  eyeRaised : Bool
  lastQual : Nat
  deriving DecidableEq, Repr

/-- What is sent on a FIRE pair from instant `t` on (R136): a strobe, or a SELECT word. -/
inductive FireOut where
  | strobe (t : Coarse) | select (t : Coarse) (w : W32)
  deriving DecidableEq, Repr

/-- A word sent on a serial pair behind its start mark (R141, R245): the up-time at which the mark begins, and the word. -/
structure Sent (w : Nat) where
  start : Nat
  word : BitVec w
  deriving DecidableEq, Repr

/-- The exchange of the current link cycle (R141): driver, command, whether it is a queued one. -/
structure Exchange where
  drv : Nat
  cmd : EmCmd
  seq : Nat
  queued : Bool
  deriving DecidableEq, Repr

structure Emitter where
  cfg : W32
  plim : Nat
  dis : Bool
  crcErr : W32
  retry : W32
  eyeCnt : W32
  disCnt : W32
  diagCnt : W32
  drivers : Tab Driver
  lines : Tab Line
  /-- what each FIRE pair sends or is about to send -/
  fire : Tab (List FireOut)
  bcSeq : Nat
  /-- broadcast waiting or being copied: ARG, copies left (R146) -/
  bcast : List (Nat × Nat)
  pollNext : Nat
  cmdNext : Nat
  cmdLast : Bool
  exch : Option Exchange
  /-- the last command word sent on EMC -/
  emc : Option (Sent 40)
  testRun : Bool
  deriving DecidableEq, Repr

/-! ## Arcade and extraction (chapters 6 and 7) -/

/-- An entry of an increment queue (R166). -/
inductive Inc where
  | inc (i : Nat) (did tag : Nat) (amb : Bool)
  | early | outside
  | token (did : Nat)
  deriving DecidableEq, Repr

/-- A stamp or close word waiting in the assignment buffer (R127, R129). -/
inductive Wait where
  | stamp (st : Stamp)
  | close (gen tag : Nat) (drop : Bool)
  deriving DecidableEq, Repr

/-- Dwell counters of a buffer (R175). -/
structure DwellCnt where
  ninc : Nat
  namb : Nat
  nearly : Nat
  nout : Nat
  sat : Bool
  deriving DecidableEq, Repr

/-- A candidate peak of phase 1 (R183, R190). -/
structure Peak where
  b : Nat
  sPrev : Nat
  s : Nat
  sNext : Nat
  width : Nat
  edge : Bool
  deriving DecidableEq, Repr

/-- A lane job: the frozen histogram of one dwell on one channel and what phase 1 made of it (R183 to R190). -/
structure Lane where
  did : Nat
  bins : Tab Nat
  cnt : DwellCnt
  span : Option Nat
  veto : Bool
  xcfg : W32
  xsun : W32
  xrain : W32
  passEnd : Bool
  phase1 : Bool
  aHist : Nat
  peaks : List Peak
  overFlag : Bool
  deriving DecidableEq, Repr

structure AChan where
  early : W32
  out : W32
  dwells : W32
  vetoCnt : W32
  late : Bool
  sat : Bool
  /-- flight cycles in which LATE and SAT were set last (R181) -/
  lateAt : Option Nat
  satAt : Option Nat
  accY : Bool
  pass : Bool
  waitPass : Bool
  binsX : Tab Nat
  binsY : Tab Nat
  /-- the three newest increments not yet written: bin and value (R167) -/
  pipe : List (Nat × Nat)
  incs : List Inc
  waits : List Wait
  cnt : DwellCnt
  veto : Bool
  /-- swap that opened the accumulating buffer, as up-time, when A_out is valid for it (R186) -/
  opened : Option Nat
  lanes : List Lane
  deriving DecidableEq, Repr

/-- A snapshot slot (R178, R179). -/
structure Slot where
  chan : Nat
  present : Bool
  bins : Tab Nat
  cnt : DwellCnt
  did : Option Nat
  step : Nat
  line : Nat
  pline : Nat
  nplan : Nat
  nfired : Nat
  nvoid : Nat
  inc : Bool
  amb : Bool
  void : Bool
  short : Bool
  group : Nat
  deriving DecidableEq, Repr

structure SnapArm where
  line : Nat
  chans : List Nat
  tk : Ticket
  /-- TBCLK cycle (up-time) in which the ARM executed, and the dwell it has selected -/
  armedAt : Nat
  did : Option Nat
  deriving DecidableEq, Repr

structure Tracker where
  state : Nat
  period : Nat
  /-- t_pred in 2^-10 ns; hit or miss of the last 16 predictions, newest first -/
  tPred : Stamp
  hist : List Bool
  deriving DecidableEq, Repr

/-- Foreign-train locker of a flight (R195 to R197). -/
structure Locker where
  /-- stamps (less board skew) and channels that no cluster has taken yet: all popped ones, and the OUTSIDE ones -/
  pool : List (Stamp × Nat)
  outPool : List (Stamp × Nat)
  votes : Tab Nat
  /-- the latest OUTSIDE clusters, newest first, eight at most -/
  last : List Stamp
  /-- acquisition waits for the next interval (R198) -/
  idle : Bool
  deriving DecidableEq, Repr

structure Arcade where
  cfg : W32
  satCnt : W32
  chans : Tab AChan
  slots : List Slot
  snapOk : Bool
  snapN : Nat
  snapArm : Option SnapArm
  xcfg : W32
  xsun : W32
  xrain : W32
  ftcfg : W32
  rainCnt : W32
  recCnt : W32
  frameCnt : W32
  trackers : Tab Tracker
  lockers : Tab Locker
  /-- items of the open return frame, oldest first (R203) -/
  items : List (BitVec 128)
  streamOn : Bool
  streamEpoch : W16
  /-- flights faulted by a lane: 1 until its restart begins, then 2 + the dwells that met every bound (R415) -/
  laneBad : Tab Nat
  deriving DecidableEq, Repr

/-! ## Measurements (chapter 8) -/

structure Anchor where
  a : Stamp
  n : BitVec 48
  /-- the stamp itself, and the SKEW_SETs that had answered when it was pushed (R97) -/
  raw : Stamp
  skews : Nat
  deriving DecidableEq, Repr

/-- A stamp as a slot keeps it: the SKEW_SETs that had answered when it was pushed (R97), and GAP (R208). -/
structure Tapped where
  raw : Stamp
  skews : Nat
  gap : Bool
  deriving DecidableEq, Repr

/-- A counted edge at which the rate of R48 was exceeded: on input B, its edge count, and its instant less board skew. -/
structure OverRate where
  onB : Bool
  n : BitVec 48
  t : Stamp
  deriving DecidableEq, Repr

/-- What changes within a gate, as it stood at the last gate end (R222). -/
structure SlotEnd where
  n : Nat
  s1 : Int
  s2 : Nat
  mn : Int
  mx : Int
  unpair : W32
  gapCnt : W32
  deriving DecidableEq, Repr

/-- Allan level: sums, and the grid anchors kept (two at most, newest last) (R218). -/
structure Allan where
  avs : BitVec 128
  avn : W32
  grid : List Anchor
  deriving DecidableEq, Repr

/-- The result registers as a read of MS.SGATECNT latched them (R222). -/
structure SlotLatch where
  res : Int
  n : Nat
  mn : Int
  mx : Int
  unpair : W32
  gapCnt : W32
  deriving DecidableEq, Repr

structure MSlot where
  cfg : W32
  gate : W32
  ngates : W32
  hmin : W32
  hmax : W32
  pnom : W64
  /-- 0 OFF, 1 WAIT, 2 RUN, 3 DONE, 4 STOPPED -/
  state : Nat
  flags : W32
  gateCnt : W32
  res : Int
  n : Nat
  s1 : Int
  s2 : Nat
  mn : Int
  mx : Int
  sfull : Bool
  unpair : W32
  gapCnt : W32
  allan : Tab Allan
  /-- how T_start is chosen (R219), and T_start once it is known -/
  apply : Nat
  tStart : Option Coarse
  /-- boundaries passed, the latest of them, and the first gate that has no result yet -/
  k : Nat
  g : Coarse
  judged : Nat
  /-- anchors by boundary (R210), and the latest one of each input -/
  ancA : Tab Anchor
  ancB : Tab Anchor
  lastA : Anchor
  lastB : Anchor
  /-- TB.STATUS.STATE at boundaries, and the edges over the rate of R48 in gates not judged yet -/
  refs : Tab Nat
  sats : List OverRate
  /-- DUTY: rising and falling stamps; INTERVAL: starts and stops -/
  rises : List Tapped
  falls : List Tapped
  starts : List Tapped
  stops : List Tapped
  /-- INTERVAL: accepted pairs, the result of the last one (R214), and the gate and result of those of gates that have not
  ended, which enter the statistics with their gate (R213) -/
  pairs : Nat
  pairRes : Int
  open_ : List (Nat × Int)
  ev65 : Bool
  ev66 : Bool
  ev69 : Bool
  /-- the accumulators at the last gate end (R222) -/
  ended : SlotEnd
  /-- the result registers as latched by MS.SGATECNT (R222) -/
  latched : Option SlotLatch
  deriving DecidableEq, Repr

structure Sync where
  cfg : W32
  per : BitVec 48
  ofs : W32
  tgt : W32
  tol : W32
  locked : Bool
  good : Nat
  err : W32
  apply : Nat
  waiting : Bool
  tStart : Option Coarse
  j : Nat
  high : Option Nat
  /-- frame number and t_F of frames whose pulse is to come; and with the frame length (2^-4 ns) of those whose loop
  window has not closed; the stamps of the loop input taken so far, less board skew -/
  pulses : List (Nat × Nominal)
  frames : List (Nat × Nominal × Nat)
  edges : List Stamp
  /-- each OFS that pulses before an instant still use, newest first (R224), and the instant of the last pulse -/
  prevOfs : List (W32 × Coarse)
  last : Option Coarse
  deriving DecidableEq, Repr

structure Meas where
  slots : Tab MSlot
  syncs : Tab Sync
  deriving DecidableEq, Repr

/-! ## Balustrade and Colonnade (chapter 9) -/

structure EnvLoad where
  line : Nat
  c0 : Nat
  entries : List W16
  tk : Ticket
  deriving DecidableEq, Repr

structure Balustrade where
  cfg : W32
  pcfg : W32
  viol : Bool
  /-- TBCLK cycle (up-time) in which VIOL was set last (R364) -/
  violAt : Option Nat
  pmflt : W32
  violCnt : W32
  dwellCnt : W32
  envSum : W32
  sumBusy : Bool
  /-- persistence counters, key 512 × x + c (R233) -/
  persist : Tab Nat
  envLoad : Option EnvLoad
  deriving DecidableEq, Repr

/-- A trigger (R238): TIME, source unit, CAUSE, whether a bus word carried it, whether it is a local one, and the up-time at
which its TIME lies, which tells the CL.TRGCFG that applies to it (R242). -/
structure Trigger where
  time : Coarse
  src : Nat
  cause : Nat
  bus : Bool
  isLocal : Bool
  upAt : Int
  deriving DecidableEq, Repr

/-- A measurement round (R247): number, bus cycles since ROUND, whether the unit takes part, stamps r and q per unit,
SELF values and the reports about this unit. -/
structure Round where
  r : Nat
  cycle : Nat
  takes : Bool
  rs : Tab Stamp
  qs : Tab Stamp
  selfs : Tab W32
  reports : Tab W32
  /-- units whose PULSE word has been received -/
  got : List Nat
  /-- CLN_CFG MEASURE waits for this round (R350) -/
  asked : Bool
  deriving DecidableEq, Repr

structure Colonnade where
  cfg : W32
  /-- CL.CFG written and waiting for the next bus cycle (R350) -/
  next : Option W32
  heard : Nat
  round : Nat
  tset : Bool
  busOk : Bool
  lost : Bool
  trgcfg : W32
  /-- what CL.TRGCFG held before each write of the last 2^35 ns, and the up-time of the write, newest first (R242) -/
  trgHist : List (Nat × W32)
  /-- the level of TRGIN last reported with its edge, and the inactivity that a further trigger needs has been seen (R239) -/
  trgRun : Option (Bool × Coarse)
  trgReady : Bool
  trgCnt : W32
  trgRx : W32
  trgSup : W32
  crcErr : W32
  last : Trigger
  dly : Tab (BitVec 24)
  ofs : Tab W32
  skew : Tab W16
  valid : Nat
  triggers : List Trigger
  delivered : List Trigger
  /-- TRIG words to send: TIME, CAUSE, TSEQ, copies left (R246) -/
  send : List (Coarse × Nat × Nat × Nat)
  tseq : Nat
  /-- accepted (SRC, TSEQ, up-time) (R246) -/
  seen : List (Nat × Nat × Nat)
  trgOut : Bool
  cycle : W16
  receipt : Option Coarse
  rnd : Option Round
  askRound : Bool
  measTk : Option Ticket
  /-- CLN_CFG MARK that waits for its unit slot (R249): its mailbox and its start -/
  markAsk : Option (Nat × Start)
  markSent : Option Coarse
  /-- receipt of a MARK word, and the master that sent it -/
  markWin : Option (Coarse × Nat)
  /-- the last word driven on CLN_TRG; the up-time at which the last pulse on CLN_TIME begins -/
  line : Option (Sent 64)
  pulseFrom : Option Nat
  deriving DecidableEq, Repr

/-! ## Gallery (chapter 10) -/

/-- Partition (R255, R268 to R272). -/
structure Part where
  /-- 0 FREE, 1 writing, 2 HELD -/
  state : Nat
  trig : Bool
  short : Bool
  wc : Nat
  /-- position T of the honoured TRIG record, once it is written -/
  t : Option Nat
  time : Coarse
  pre : Nat
  post : Nat
  deriving DecidableEq, Repr

/-- GL.STATUS.STATE (chapter 10, "Capturing"). -/
inductive GlState where
  | idle | fill | ready | post | rearm | done | out
  deriving DecidableEq, Repr

/-- A record on its way to memory (R259): the word, its instant's coarse count when timed, its epoch. -/
structure GRec where
  word : W64
  time : Option Coarse
  epoch : W16
  /-- mark number, for a MARK record; the honoured TRIG record -/
  mark : Option Nat
  trig : Bool
  deriving DecidableEq, Repr

structure Stream where
  part : Nat
  pos : Nat
  left : Nat
  sent : Nat
  tk : Ticket
  /-- the writer has begun a segment that was not sent yet (R277) -/
  lost : Bool
  deriving DecidableEq, Repr

structure Gallery where
  cfg : W32
  rcfg : W32
  state : GlState
  part : Nat
  /-- a partition has been taken since reset -/
  used : Bool
  writing : Bool
  density : Nat
  pre : Nat
  post : Nat
  earlyTrg : W32
  rearmTrg : W32
  postTrg : W32
  wcount : W64
  wcountHi : W32
  esel : Tab W32
  evsel : Tab W32
  parts : Tab Part
  marks : Tab (Nat × Nat)
  /-- reference table, key (512 × line + channel) × 4 + RIDX (R261), and dwells per line since ARM -/
  refs : Tab Nat
  visits : Tab Nat
  /-- pending EVT records per source, with the OCC and instant of the raise (R262) -/
  evts : Tab (Nat × Coarse)
  evtNext : Nat
  buf : List GRec
  hold : List GRec
  holding : Bool
  base : Option (W16 × Nat)
  mem : Memory
  ev98 : Bool
  ev99 : Bool
  retired : Option Nat
  checks : Tab Nat
  stream : Option Stream
  selfRefresh : Bool
  trained : Bool
  deriving DecidableEq, Repr

/-! ## Host link (chapter 11) -/

/-- An outgoing Polcor frame before its FLAGS.PORT, FLAGS.SPI and CRC are formed (R290, R291). -/
structure Frame where
  kind : Nat
  op : Nat
  seq : W16
  mb : Nat
  deg : Bool
  rep : Bool
  compl : Bool
  /-- UDP port offset from UDPBASE (R289) -/
  udp : Nat
  dst : Option Peer
  /-- a mailbox's own answer to the command it holds, not a BUSY, SEQ or repeat (R294) -/
  own : Bool
  /-- SEQ is given: false for a violation or notification frame that has not left yet (R290) -/
  counted : Bool
  payload : List Byte
  deriving DecidableEq, Repr

/-- What a path sends: a Polcor frame, an ARP message or an ICMP echo reply. -/
inductive Out where
  | polcor (f : Frame)
  | arp (a : ArpMsg)
  | echo (e : EchoMsg)
  deriving DecidableEq, Repr

/-- IPv4 header of a packet sent (R283), but for what is the same on every one: no options, DF, TTL 64 and the checksum. -/
structure IpHead where
  dscp : Nat
  ident : W16
  src : W32
  dst : W32
  /-- source and destination UDP port; none: ICMP -/
  ports : Option (Nat × Nat)
  deriving DecidableEq, Repr

/-- A MAC frame sent (R283, R285, R289): addresses, the VLAN tag (PCP and VID), the IPv4 header (none: ARP), what it carries. -/
structure Wire where
  dst : BitVec 48
  src : BitVec 48
  tag : Option W16
  ip : Option IpHead
  out : Out
  deriving DecidableEq, Repr

/-- Mailbox (R294): unsynchronised, idle or executing. -/
inductive MbState where
  | unsync | idle | executing
  deriving DecidableEq, Repr

structure Mailbox where
  state : MbState
  l : W16
  op : Nat
  payload : List Byte
  src : Peer
  /-- acceptance order, for R282 -/
  order : Nat
  answer : Option Answer
  compl : Option Answer
  deriving DecidableEq, Repr

structure Port where
  /-- the PHY reports the link established; the port is up; low-power idle (R305) -/
  phy : Bool
  up : Bool
  lpi : Bool
  /-- destination MAC found by ARP (R285) -/
  arp : Option (BitVec 48)
  /-- a resolution has been asked for and not answered -/
  unres : Bool
  /-- up-time of the last echo reply (R288) -/
  icmpMs : Option Nat
  /-- what the port sent last -/
  wire : Option Wire
  deriving DecidableEq, Repr

/-- Output queues of a path by class (R302; the capture stream is read as it is sent), and the class 2 tokens. -/
structure PathQ where
  c1 : List Out
  c2 : List Out
  c3 : List Out
  /-- in 1/80,000 byte -/
  tokens : Nat
  /-- up-time at which the tokens were last counted -/
  since : Nat
  deriving DecidableEq, Repr

/-- The settings of a host port that LINK_CFG writes (R310). -/
structure PortRegs where
  pcfg : W32
  ip : W32
  mask : W32
  dest : W32
  dmacLo : W32
  dmacHi : W32
  deriving DecidableEq, Repr

/-- The writable registers of the link that LINK_CFG sets at once (R310). -/
structure LinkRegs where
  cfg : W32
  qos : W32
  evcfg : W32
  hosts : Tab W32
  ports : Tab PortRegs
  deriving DecidableEq, Repr

structure Link where
  regs : LinkRegs
  ports : Tab Port
  active : Option Nat
  crcErr : W32
  badFrame : W32
  rejHost : W32
  seqErr : W32
  busyCnt : W32
  retDrop : W32
  failCnt : W32
  boxes : Tab Mailbox
  accepted : Nat
  paths : Tab PathQ
  /-- violation frames sent in the last 200 µs, and those that wait for a port (R306) -/
  kept : List (Nat × Frame)
  waiting : List Frame
  evSeq : W16
  evSeqSpi : W16
  retSeq : W16
  capSeq : W16
  /-- accepted LINK_CFG payloads, by mailbox and SEQ, oldest first: each takes effect when its answer has left (R310) -/
  change : List (Nat × W16 × List Byte)
  /-- unmasked raises that no notification has carried yet; up-time of the last notification (R298) -/
  notify : Bool
  lastNotify : Option Nat
  rejMs : Option Nat
  dropMs : Option Nat
  /-- completions that fell due during a Lodge restart (R420) -/
  due : List (Ticket × Answer)
  /-- the EVT_CLEAR that runs (R382) -/
  clearing : Option Clearing
  /-- the last SPI WRITE was discarded; what SPI_MISO sent in the last transfer (R307) -/
  spiBad : Bool
  /-- class of a head frame that a READ has taken in part (R307) -/
  spiPart : Option Nat
  spiOut : List Byte
  deriving DecidableEq, Repr

/-! ## Modes, thermal, availability (chapters 14 and 15) -/

structure Sensor where
  /-- last ten valid conversions, newest first, in 0.125 °C (R398) -/
  last : List Int
  reading : Int
  fail : Bool
  excl : Bool
  bad : Nat
  good : Nat
  overFlag : Bool
  boot : W32
  deriving DecidableEq, Repr

structure Modes where
  /-- the control set as the last evaluation formed it, a bit per sensor (R402); failed sensors that CSENS named, whose BIAS the next
  evaluation sets (R401) -/
  ctl : Nat
  leads : List Nat
  mode : Mode
  pend : Option Mode
  /-- command of the pending MODE_SET -/
  pendTk : Option Ticket
  origin : Option Mode
  startup : Bool
  limpPend : Bool
  /-- a LIMP condition has begun to hold in a ranging mode, and LIMP is to be entered (R389), or while a MODE_SET is pending
  (R393) -/
  limpDue : Bool
  /-- LIMP entry or return waits for the command that the Lodge is executing (R316) -/
  limpLater : Bool
  /-- up-time from which no LIMP condition has held (R390), when QUIET counts -/
  quietFrom : Option Nat
  trainEnd : Bool
  step : Nat
  csens : Nat
  noctrl : Bool
  /-- the failed sensors that set TH.STEP.BIAS (R401) -/
  bias : List Nat
  thetaC : Int
  evaluated : Bool
  /-- up-time of the last step change -/
  stepAt : Option Nat
  up : W32
  down : W32
  lim : Tab W16
  sens : Tab Sensor
  deriving DecidableEq, Repr

/-- An outstanding or logged fault: code and unit (R408, R423), and which of the four words of the unit of a fault 0x0701
it is (every other fault has part 0). -/
structure FaultId where
  code : Nat
  unit : Nat
  part : Nat
  deriving DecidableEq, Repr

/-- A fault-log entry (R360): stamp, epoch, fault, action and result. -/
structure LogEntry where
  stamp : Stamp
  epoch : W16
  id : FaultId
  action : Nat
  result : Nat
  deriving DecidableEq, Repr

/-- A trace record before SEQ is given (R425). -/
structure TraceRec where
  type : Nat
  body : List Byte
  deriving DecidableEq, Repr

structure Avail where
  outst : List FaultId
  /-- stamp and epoch of the detection of the outstanding faults (R360, R425) -/
  found : List (FaultId × Stamp × W16)
  halt : Bool
  restart : Bool
  restarts : W32
  logNext : W32
  logLost : W32
  log : List LogEntry
  tokens : Nat
  tokenAt : Nat
  mismatches : List Nat
  replicaAt : Tab Nat
  fbSyn : Nat
  fbDly : Tab (BitVec 24)
  trcfg : W32
  trLost : W32
  trch : Tab W32
  trev : Tab W32
  lcnt : Tab W32
  lcntL : Option (Tab W32)
  fifo : List TraceRec
  trSeq : Byte
  dropped : Nat
  /-- the record sent last on the trace lanes, the symbol slot of its K27.7, and the running disparity of each lane there
  (true: positive; R424) -/
  lanes : List Byte
  laneAt : Nat
  laneRd : List Bool
  /-- an EPOCH record and what comes after it, waiting for the last item of the old epoch (R29) -/
  held : Option (List TraceRec)
  /-- the epoch has changed since AV.TRCFG.EN was cleared (R29) -/
  traceEpoch : Bool
  /-- mailbox whose command was executing when the restart began (R301) -/
  cut : Option Nat
  deriving DecidableEq, Repr

/-- The states of the TAP controller of IEEE 1149.1 (R429). -/
inductive TapState where
  | testLogicReset | runTestIdle
  | selectDr | captureDr | shiftDr | exit1Dr | pauseDr | exit2Dr | updateDr
  | selectIr | captureIr | shiftIr | exit1Ir | pauseIr | exit2Ir | updateIr
  deriving DecidableEq, Repr

/-- Pins (R432) and the test access port (R429): its state, the instruction, the shift registers (the bit nearest TDO first)
and what TDO gave in each cycle of the last command (none: not driven). -/
structure Pins where
  pwrgood : Bool
  rstN : Bool
  gmResetN : Bool
  /-- the lines of GM0 to GM7 are driven (R432) -/
  gmLines : Bool
  trgin : Bool
  ct : Nat
  ppsIn : Bool
  spiPins : Nat
  tap : TapState
  ir : BitVec 4
  irShift : List Bool
  dr : List Bool
  tdo : List (Option Bool)
  deriving DecidableEq, Repr

/-- The identity block's changing part (R361, R366). -/
structure Ident where
  powerUp : Bool
  factOk : Bool
  factSum : W32
  deriving DecidableEq, Repr

structure State where
  /-- commands that wait, first in, first out -/
  pending : List Instr
  /-- TBCLK cycles since the end of reset -/
  uptime : Nat
  id : Ident
  pins : Pins
  ps : PStore
  ev : Events
  tb : TimeBase
  fl : Flights
  ca : Calib
  sh : Shots
  em : Emitter
  ar : Arcade
  ms : Meas
  bl : Balustrade
  cl : Colonnade
  gl : Gallery
  lk : Link
  th : Modes
  av : Avail
  deriving DecidableEq, Repr

/-- Why a command stops. -/
inductive Fault where
  /-- The command names a channel, core, flight, slot, line, driver, port, path or mailbox that the part does not have
  (raised by every meaning whose operand `WellFormed` refuses). Safe: no such command reaches the hardware. -/
  | noSuchUnit
  deriving DecidableEq, Repr

/-- Why a command has no meaning. -/
inductive Refusal where
  /-- A command without a meaning yet (raised by an arm of `exec` alone). Safe: the machine stops. -/
  | notModelled (mnemonic : String)
  deriving DecidableEq, Repr

/-! ## After reset -/

/-- A stamp-free trigger: what CL.LASTTRG holds before the first one. -/
def noTrigger : Trigger := { time := 0, src := 0, cause := 0, bus := false, isLocal := false, upAt := 0 }

/-- The part right after reset by power-up, with its persistent store as shipped: in SURVEY with STARTUP = 1, before the
flight self-test of start-up (R394, R445). Every field has the value that its owning table gives; log 1, 2 and 3 name
those that no table gives. -/
def State.reset : State where
  pending := []
  uptime := 0
  id := { powerUp := true, factOk := true, factSum := Config.factoryWord 0x0103FFFC }
  pins := {
    pwrgood := true, rstN := true, gmResetN := false, gmLines := false, trgin := false, ct := 0, ppsIn := false
    spiPins := 0, tap := .testLogicReset, ir := 1, irShift := [], dr := [], tdo := [] }
  ps := {
    words := [], spares := [], stuck := [], lastKind := 0, spared := 0, corr := 0, unread := 0, last := 0, scrubs := 0
    scrubAddr := 0x01000000, rewrite := [], upset := [] }
  ev := { src := [], mask := [], count := 0, cycleAt := 0, raised := [] }
  tb := {
    coarse := 0, epoch := 0, era := 0, align := 0, cfg := 0x11, hold := 0x0A140A3C, state := .freerun, fromHold := false, xsensOk := true
    ppsOk := false, ppsPres := false, limpRef := false, refFok := false, refPres := false, lossSeen := false
    badGates := 0, startQual := false, refofs := 0, y := 0, span := none, holdMs := 0, terr := 0, theta := 0, theta0 := 0
    nowHi := 0, epochL := 0, pps := 0, ppsErr := 0, ppsPrev := none, pend := none, due := none, learn := 0
    learnWritten := 0, learnSince := 36, replicaOff := [], gates := 0, residual := 0 }
  fl := { tested := false, chans := [], cores := [], f32sel := 2, clnLoop := true, flrst := [] }
  ca := {
    freeze := false, fill := false, fillDone := false, fillStep := 0, whole := false, period := 0, clock := 0, skewPeriod := 0, sel := 0, cStat := 0
    cSamp := 0, cAbn := 0, cTable := [], convs := [], saved := none, calTk := none, sCore := []
    skews := 0, skewWas := [] }
  sh := {
    cfg := 0x01000002, fbwin := 0x00500010, bankA := [], bankB := [], lenA := 0, lenB := 0, active := 0, valid := false
    stby := .empty, swPend := false, admission := none, shotNum := 0, shotHi := 0, frameCnt := 0, peak := 0, voidCnt := 0
    strayCnt := 0, lfullCnt := 0, skipCnt := 0, serve := [], lsel := 0, lent := [], q := 1, run := none
    stepNow := 0, frameNow := 0, armed := [], ledger := [], dwells := [], nextDid := 0
    trigStart := none }
  em := {
    cfg := 0x800, plim := 0, dis := false, crcErr := 0, retry := 0, eyeCnt := 0, disCnt := 0, diagCnt := 0
    drivers := [], lines := [], fire := [], bcSeq := 0, bcast := [], pollNext := 0, cmdNext := 0
    cmdLast := false, exch := none, emc := none, testRun := false }
  ar := {
    cfg := 0x00010004, satCnt := 0, chans := [], slots := [], snapOk := false, snapN := 0, snapArm := none
    xcfg := 0x14030033, xsun := 0x100, xrain := 0x480, ftcfg := 0x8303E810, rainCnt := 0, recCnt := 0, frameCnt := 0
    trackers := [], lockers := [], items := [], streamOn := false, streamEpoch := 0, laneBad := [] }
  ms := { slots := [], syncs := [] }
  bl := {
    cfg := 0x00010000, pcfg := 0x02000008, viol := false, violAt := none, pmflt := 0, violCnt := 0, dwellCnt := 0, envSum := 0x2A03E7F5
    sumBusy := false, persist := [], envLoad := none }
  cl := {
    cfg := 0x40000000, next := none, heard := 0, round := 0, tset := false, busOk := false
    lost := false, trgcfg := 0x010A0002, trgHist := [], trgRun := none, trgReady := true, trgCnt := 0, trgRx := 0, trgSup := 0, crcErr := 0, last := noTrigger, dly := []
    ofs := [], skew := [], valid := 0, triggers := [], delivered := [], send := [], tseq := 0, seen := []
    trgOut := false, cycle := 0, receipt := none, rnd := none, askRound := false, measTk := none, markAsk := none
    markSent := none, markWin := none, line := none, pulseFrom := none }
  gl := {
    cfg := 6, rcfg := 0x10000080, state := .idle, part := 0, used := false, writing := false, density := 0, pre := 0, post := 0
    earlyTrg := 0, rearmTrg := 0, postTrg := 0, wcount := 0, wcountHi := 0, esel := [], evsel := [], parts := []
    marks := [], refs := [], visits := [], evts := [], evtNext := 0, buf := [], hold := []
    holding := false, base := none, mem := [], ev98 := false, ev99 := false, retired := none, checks := []
    stream := none, selfRefresh := false, trained := false }
  lk := {
    regs := { cfg := 0xCB48C810, qos := 0x2E000500, evcfg := 0xA03, hosts := [], ports := [] }
    ports := [], active := none, crcErr := 0, badFrame := 0, rejHost := 0, seqErr := 0, busyCnt := 0, retDrop := 0
    failCnt := 0, boxes := [], accepted := 0, paths := [], kept := [], waiting := [], evSeq := 0, evSeqSpi := 0
    retSeq := 0, capSeq := 0, change := [], notify := false, lastNotify := none, rejMs := none, dropMs := none
    due := [], clearing := none, spiBad := false, spiPart := none, spiOut := [] }
  th := {
    mode := .survey, pend := none, pendTk := none, origin := none, startup := true, limpPend := false, limpDue := false, limpLater := false
    quietFrom := none, trainEnd := false, step := 0, csens := 0, noctrl := false, bias := [], thetaC := 0
    ctl := 0, leads := [], evaluated := false, stepAt := none, up := 0, down := 0, lim := [], sens := [] }
  av := {
    outst := [], found := [], halt := false, restart := false, restarts := 0, logNext := 0, logLost := 0, log := [], tokens := 64
    tokenAt := 0, mismatches := [], replicaAt := [], fbSyn := 0, fbDly := [], trcfg := 0x8000000E, trLost := 0
    trch := [], trev := [], lcnt := [], lcntL := none, fifo := [], trSeq := 0, dropped := 0, lanes := [], laneAt := 0, laneRd := []
    held := none, traceEpoch := false, cut := none }

end Sys2Proof.Machine
end

