-- ==== Sys2Proof/Machine/Tab.lean ====
section
/-!
DEFINITION. Tab.lean: reading and writing sparse tables (channels, words, bins, ledger slots, memory bytes), and their
canonical form: keys strictly rising, and no entry equal to what an unlisted key reads as.
-/
namespace Sys2Proof.Machine

/-- Entry `k`; an unlisted key reads as `d k`. -/
def Tab.get {α : Type} (d : Nat → α) : Tab α → Nat → α
  | [], k => d k
  | (k', v) :: t, k => if k = k' then v else Tab.get d t k

/-- A table without key `k`. -/
def Tab.erase {α : Type} : Tab α → Nat → Tab α
  | [], _ => []
  | (k', v) :: t, k => if k = k' then Tab.erase t k else (k', v) :: Tab.erase t k

/-- A table in which key `k` is listed with value `v`. -/
def Tab.insert {α : Type} : Tab α → Nat → α → Tab α
  | [], k, v => [(k, v)]
  | (k', v') :: t, k, v =>
    if k < k' then (k, v) :: (k', v') :: t
    else if k = k' then (k, v) :: t
    else (k', v') :: Tab.insert t k v

/-- The table after writing `v` at `k`: the entry goes away where `v` is what an unlisted key reads as. -/
def Tab.put {α : Type} [DecidableEq α] (d : Nat → α) (t : Tab α) (k : Nat) (v : α) : Tab α :=
  if v = d k then Tab.erase t k else Tab.insert t k v

/-- The table with entry `k` changed by `f`. -/
def Tab.upd {α : Type} [DecidableEq α] (d : Nat → α) (t : Tab α) (k : Nat) (f : α → α) : Tab α :=
  Tab.put d t k (f (Tab.get d t k))

/-- Every listed entry of a table changed. -/
def Tab.remap {α : Type} [DecidableEq α] (d : Nat → α) (f : Nat → α → α) (t : Tab α) : Tab α :=
  (t.map (fun kv => (kv.1, f kv.1 kv.2))).filter (fun kv => !decide (kv.2 = d kv.1))

/-- Every key of a table is above `k`. -/
def Tab.above {α : Type} (k : Nat) : Tab α → Bool
  | [] => true
  | (k', _) :: t => k < k' && Tab.above k t

/-- The canonical form of a table. -/
def Tab.wf {α : Type} [DecidableEq α] (d : Nat → α) : Tab α → Bool
  | [] => true
  | (k, v) :: t => Tab.above k t && !decide (v = d k) && Tab.wf d t

/-- What a byte of the Gallery memory that nothing has written reads as (DESIGN CHOICE, log 40). -/
def Memory.empty (_ : Nat) : Byte := 0

/-- The canonical form of the Gallery memory. -/
def Memory.wf (m : Memory) : Bool := Tab.wf Memory.empty m

/-- One byte of the Gallery memory. -/
def Memory.read (m : Memory) (a : Nat) : Byte := Tab.get Memory.empty m a

/-- A byte of the Gallery memory written. -/
def Memory.write (m : Memory) (a : Nat) (b : Byte) : Memory := Tab.put Memory.empty m a b

/-- Bytes written at rising addresses. -/
def Memory.writeAll : List Byte → Memory → Nat → Memory
  | [], m, _ => m
  | b :: bs, m, a => Memory.writeAll bs (Memory.write m a b) (a + 1)

/-- `n` bytes read at rising addresses. -/
def Memory.readAll : Nat → Memory → Nat → List Byte
  | 0, _, _ => []
  | n + 1, m, a => Memory.read m a :: Memory.readAll n m (a + 1)

/-- The Gallery memory with the bytes that `gone` names erased: they read as bytes that nothing has written. -/
def Memory.wipe (m : Memory) (gone : Nat → Bool) : Memory := m.filter (fun c => !gone c.1)

/-- A table of counts: unlisted keys read zero. -/
def zeros (_ : Nat) : Nat := 0

/-- A table of registers: unlisted keys read zero. -/
def zeroW (_ : Nat) : W32 := 0

/-- All entries listed by a table, as a sum. -/
def Tab.sum (t : Tab Nat) : Nat := t.foldl (fun a kv => a + kv.2) 0

end Sys2Proof.Machine
end

