-- ==== Sys2Proof/Machine/Ops.lean ====
section
/-!
DEFINITION. Ops.lean: the operations that every block shares: when a command acts at all, raising events (R377 to
R383), the Loggia trace and its counters (R425, R426, R428), and detecting and repairing faults (R408, R409, R422).
-/
namespace Sys2Proof.Machine

/-- PWRGOOD and RST_N are high: the part is not held in reset (R445). -/
def State.live (s : State) : Bool := s.pins.pwrgood && s.pins.rstN

/-- A command's effect: a fault where it names a unit that the part does not have; nothing while the part is held in
reset; else the effect `f`. The queue of commands is not part of any effect. -/
def act (ok : Bool) (f : State → State) (s : State) : Host.Outcome State Fault Refusal :=
  if ok then .next { (if s.live then f s else s) with pending := s.pending } else .fault .noSuchUnit

/-- As `act`, for the rows that act on a part held in reset too. -/
def actAlways (ok : Bool) (f : State → State) (s : State) : Host.Outcome State Fault Refusal :=
  if ok then .next { f s with pending := s.pending } else .fault .noSuchUnit

/-! ## Modes -/

/-- Mode codes (chapter 12). -/
def Mode.code : Mode → Nat
  | .dormant => 0 | .survey => 1 | .sweep => 2 | .watch => 3 | .tally => 4 | .limp => 5

/-- The mode of a code. -/
def Mode.ofCode : Nat → Option Mode
  | 0 => some .dormant | 1 => some .survey | 2 => some .sweep | 3 => some .watch | 4 => some .tally | 5 => some .limp
  | _ => none

/-- The mode in force. -/
def State.mode (s : State) : Mode := s.th.mode

/-- The mode whose ranging units run: SWEEP or WATCH, also as the origin of LIMP (R385). -/
def State.ranging (s : State) : Option Mode :=
  match s.th.mode with
  | .sweep => some .sweep
  | .watch => some .watch
  | .limp => s.th.origin
  | _ => none

/-- SWEEP, WATCH or LIMP. -/
def State.ranges (s : State) : Bool := s.ranging.isSome

/-- WATCH, or LIMP entered from WATCH. -/
def State.watching (s : State) : Bool := s.ranging = some .watch

/-- Flights and calibration run: every mode but DORMANT, and from the start of the units of SURVEY on (R385, R387). -/
def State.awake (s : State) : Bool := s.th.mode ≠ .dormant || s.th.pend = some .survey

/-! ## The trace -/

/-- A record enters the trace FIFO of 4,096 records, whose last 64 places take only TIME, EPOCH, FAULT and LOST
records (R426). -/
def Avail.pushAs (hold urgent : Bool) (r : TraceRec) (a : Avail) : Avail :=
  if bit a.trcfg 31 then
    if a.fifo.length + (a.held.getD []).length < (if urgent then 4096 else 4032) then
      match a.held with
      | some l => if hold then { a with held := some (l ++ [r]) } else { a with fifo := a.fifo ++ [r] }
      | none => { a with fifo := a.fifo ++ [r] }
    else { a with trLost := a.trLost + 1, dropped := a.dropped + 1 }
  else a

/-- A record of the present epoch is traced: behind an EPOCH record that waits for items of the old one (R29). -/
def Avail.push (urgent : Bool) (r : TraceRec) (a : Avail) : Avail := a.pushAs true urgent r

/-- A record is traced whose item was stamped in era `e`: one of an earlier epoch goes before the EPOCH record (R29). -/
def State.pushStamped (s : State) (e : Nat) (r : TraceRec) : State :=
  { s with av := s.av.pushAs (e == s.tb.era) false r }

/-- Loggia counter `n` advances by `k` (R428). -/
def Avail.count (n k : Nat) (a : Avail) : Avail :=
  { a with lcnt := Tab.upd zeroW a.lcnt n (· + w32 k) }

/-- The present count as a stamp word, 8 bytes. -/
def State.nowBytes (s : State) : List Byte := beBytes 8 (stampOf s.tb.coarse).toNat

/-- The start of a command that begins to execute now. -/
def State.start (s : State) : Start := { stamp := s.nowBytes, era := s.tb.era }

/-- A Loggia counter advances. -/
def count (n k : Nat) (s : State) : State := { s with av := s.av.count n k }

/-! ## Events -/

/-- An event source that has never been raised (R377). -/
def freshSource (_ : Nat) : Source := { occ := 0, latched := false, raises := 0 }

/-- Reset value of EV.MASK[g] (P.EV_MASK). -/
def freshMask (g : Nat) : W32 := if g = 0 then 0xFFFFFFFB else 0xFFFFFFFF

/-- Source `n`. -/
def Events.get (e : Events) (n : Nat) : Source := Tab.get freshSource e.src n

/-- The mask bit of source `n` is 1 (R379). -/
def Events.masked (e : Events) (n : Nat) : Bool := bit (Tab.get freshMask e.mask (n / 32)) (n % 32)

/-- What a raise does to its source (R378); the raise count since the last read is kept up to 32,769 (R381). -/
def Source.raised (x : Source) : Source :=
  { occ := x.occ + 1, latched := true, raises := min (x.raises + 1) 32769 }

/-- The lapped flag (R381). -/
def Source.lapped (x : Source) : Bool := 32769 ≤ x.raises

/-- A raise of source `n` in the event block (R378). -/
def Events.raise (e : Events) (n : Nat) : Events :=
  { e with src := Tab.upd freshSource e.src n Source.raised, count := e.count + 1 }

/-- What the availability unit sees of a raise of source `n`: the group's counter (R428) and the EVENT record (R425). -/
def Avail.event (e : Events) (now : List Byte) (a : Avail) (n : Nat) : Avail :=
  let a := if n / 32 < 16 then a.count (176 + n / 32) 1 else a
  if bit a.trcfg 3 && bit (Tab.get zeroW a.trev (n / 32)) (n % 32) then
    a.push false { type := 4, body := beBytes 2 n ++ beBytes 2 ((e.get n).occ).toNat ++ now ++ [0, 0] }
  else a

/-- A raise makes an EVT record pending when GL.CFG.EVEN is 1, the source is selected and a partition is being written or the
next one is waited for (R262, R271). -/
def Gallery.event (e : Events) (c : Coarse) (g : Gallery) (n : Nat) : Gallery :=
  if (g.writing || g.state == .rearm) && bit g.cfg 2 && bit (Tab.get zeroW g.evsel (n / 32)) (n % 32) then
    { g with evts := Tab.insert g.evts n ((e.get n).occ.toNat, c) }
  else g

/-- The sources raised in TBCLK cycle `now` so far, as they entered it. -/
def Events.raisedIn (e : Events) (now : Nat) : List (Nat × Source) := if e.cycleAt = now then e.raised else []

/-- Source `n` as it entered TBCLK cycle `now`, the present one (R382). -/
def Events.entered (e : Events) (now n : Nat) : Source :=
  match (e.raisedIn now).find? (fun x => x.1 = n) with
  | some x => x.2
  | none => e.get n

/-- Source `n` has been raised in TBCLK cycle `now`, and its latch stands. -/
def Events.hasRaised (e : Events) (now n : Nat) : Bool := (e.get n).latched && (e.raisedIn now).any (fun x => x.1 = n)

/-- Sources raised in TBCLK cycle `now` that it has not raised yet (R378). -/
def Events.raiseAll (e : Events) (now : Nat) (ns : List Nat) : Events :=
  { ns.foldl Events.raise e with cycleAt := now, raised := ns.map (fun n => (n, e.get n)) ++ e.raisedIn now }

/-- Sources raised: each counts once in a TBCLK cycle, by however many commands or parts of one (R378). -/
def raises (ns : List Nat) (s : State) : State :=
  let ns := ns.eraseDups.filter (fun n => !s.ev.hasRaised s.uptime n)
  if ns.isEmpty then s else
  let ev := s.ev.raiseAll s.uptime ns
  { s with
    ev := ev
    av := ns.foldl (Avail.event ev s.nowBytes) s.av
    gl := ns.foldl (Gallery.event ev s.tb.coarse) s.gl
    lk := { s.lk with notify := s.lk.notify || ns.any (fun n => !s.ev.masked n) } }

/-- One source raised. -/
def raise (n : Nat) (s : State) : State := raises [n] s

/-- One source raised, when `b` holds. -/
def raiseIf (b : Bool) (n : Nat) (s : State) : State := if b then raise n s else s

/-! ## Sensors -/

/-- A temperature sensor before its first conversion (R398). -/
def freshSens (s : Nat) : Sensor :=
  { last := [], reading := 0, fail := false, excl := false, bad := 0, good := 0, overFlag := false
    boot := if s < 8 then 0xC000003C else 0x3C }

/-- Sensor `k`. -/
def State.sens (s : State) (k : Nat) : Sensor := Tab.get freshSens s.th.sens k

/-- Sensor `k` changed. -/
def updSens (k : Nat) (f : Sensor → Sensor) (s : State) : State :=
  { s with th := { s.th with sens := Tab.upd freshSens s.th.sens k f } }

/-- A sensor is fitted: on-die 0 to 7 always, 12 to 15 never, 8 to 11 as P.TH_SENS says (R398). -/
def State.fitted (s : State) (k : Nat) : Bool := k < 8 || (k < 12 && bit (s.sens k).boot 31)

/-! ## Serial words -/

/-- The level that a word gives its pair in the nanosecond from up-time `n` on (R141, R245): a start mark of 12 ns high and
12 ns low, then the bits, MSB first and Manchester-coded at 8 ns per bit, a 1 as high then low; none before it and after
it, when the part does not drive the pair. -/
def Sent.level {w : Nat} (x : Sent w) (n : Nat) : Option Bool :=
  let d := n - x.start
  if n < x.start ∨ 24 + 8 * w ≤ d then none
  else if d < 24 then some (d < 12)
  else some (x.word.getMsbD ((d - 24) / 8) != decide (4 ≤ (d - 24) % 8))

/-! ## LIMP conditions -/

/-- Local cores of flight `f` (R407): 18, or 16 in F32. -/
def coresOf (f : Nat) : Nat := if f < 32 then 18 else 16

/-- Channels of flight `f`: 16, or 12 in F32. -/
def chansOf (f : Nat) : Nat := if f < 32 then 16 else 12

/-- Global number of core `k` of flight `f` (R100). -/
def coreNo (f k : Nat) : Nat := 18 * f + k

/-- Flight of core `x` (R100). -/
def coreFlight (x : Nat) : Nat := min 32 (x / 18)

/-- Global number of channel `c` of flight `f` (table of chapter 2). -/
def chanNo (f c : Nat) : Nat := 16 * f + c

/-- Flight of channel `i`. -/
def chanFlight (i : Nat) : Nat := min 32 (i / 16)

/-- Number of channel `i` within its flight. -/
def chanLocal (i : Nat) : Nat := i - 16 * chanFlight i

/-- A core as the flight self-test leaves it (R394 step 5, R412): a home core serves its channel (STATE 1), any other is
ready (STATE 0). -/
def freshCore (x : Nat) : Core :=
  let k := x - 18 * coreFlight x
  let home := decide (k < chansOf (coreFlight x))
  { state := if home then 1 else 0, chan := if home then k else 0, armed := if home then some 0 else none, busy := [],
    srcB := false, failA := false, failB := false, edges := 0, calNext := 1 }

/-- A converter before its first calibration fill. -/
def freshConv (_ : Nat) : Conv :=
  { h := [], samples := 0, acc := [], table := [], next := none, good := [], trim := 0, ovfl := false, ovflNow := false,
    upd := 0, ok := false, fails := 0, faulty := false, abn := 0, abnLast := 0, sampLast := 0 }

/-- Core `x`. -/
def State.core (s : State) (x : Nat) : Core := Tab.get freshCore s.fl.cores x

/-- Converter `v` of core `x`. -/
def State.conv (s : State) (x v : Nat) : Conv := Tab.get freshConv s.ca.convs (8 * x + v)

/-- All eight CONVOK bits of core `x` are set (R89). -/
def State.convOk (s : State) (x : Nat) : Bool := (List.range 8).all (fun v => (s.conv x v).ok)

/-- The cores of flight `f` that are spares: those above its channels (R407). -/
def spareCores (f : Nat) : List Nat :=
  (List.range (coresOf f - chansOf f)).map (fun j => coreNo f (chansOf f + j))

/-- FL.FSTAT.SPARES: spare cores of flight `f` in STATE 0 (ready). Before the flight self-test has ended a core is
untested, and it is counted here as the test will leave it. -/
def State.sparesOf (s : State) (f : Nat) : Nat :=
  ((spareCores f).filter (fun x => (s.core x).state = 0)).length

/-- SPARES condition of R388. -/
def State.limpSpares (s : State) : Bool := (List.range 33).any (fun f => s.sparesOf f = 0)

/-- A LIMP condition holds (R388). -/
def State.limpCond (s : State) : Bool :=
  s.tb.limpRef || s.limpSpares || s.th.step = 7 || 2 ≤ s.av.outst.length

/-- The part's LIMP bookkeeping after something that may begin or end a condition: QUIET counts from the end of the last
condition (R390), and a condition that begins in a ranging mode makes LIMP entry due (R389); one that begins while a MODE_SET
is pending is kept for its completion (R393). -/
def settle (s : State) : State :=
  { s with th := { s.th with
      quietFrom := if s.limpCond then none else some (s.th.quietFrom.getD s.uptime)
      limpDue := s.th.limpDue || (s.limpCond && (s.th.mode == .sweep || s.th.mode == .watch || s.th.pend.isSome)) } }

/-- TH.LIMP.QUIET (R390). -/
def State.quiet (s : State) : Nat :=
  if s.th.mode = .limp ∨ s.th.limpPend = true then
    match s.th.quietFrom with
    | some u => min 1000 ((s.uptime - u) / 1000000)
    | none => 0
  else 0

/-! ## Faults -/

/-- A fault as it is detected: code, unit, action, whether it stays outstanding (R408), and the word of its unit. -/
structure Found where
  code : Nat
  unit : Nat
  action : Nat
  stays : Bool
  part : Nat
  deriving DecidableEq, Repr

/-- Events 224 to 256 for a fault whose unit is a flight or a core (R431). -/
def flightEvent (code unit : Nat) : List Nat :=
  if code = 0x0101 ∨ code = 0x0102 then [224 + coreFlight unit]
  else if code = 0x0103 ∨ (0x0201 ≤ code ∧ code ≤ 0x0204) then [224 + unit]
  else if code = 0x0901 ∧ unit ≤ 32 then [224 + unit]
  else []

/-- Identity of a found fault. -/
def Found.id (f : Found) : FaultId := { code := f.code, unit := f.unit, part := f.part }

/-- The log entry and trace record of a fault (R422, R425). -/
def logEntry (s : State) (id : FaultId) (action result : Nat) : LogEntry :=
  { stamp := stampOf s.tb.coarse, epoch := s.tb.epoch, id := id, action := action, result := result }

/-- A fault-log entry waits to be written (R422), and its FAULT record enters the trace (R425). -/
def Avail.note (a : Avail) (e : LogEntry) : Avail :=
  let a := { a with log := a.log ++ [e] }
  if bit a.trcfg 2 then
    a.push true { type := 5, body := beBytes 2 e.id.code ++ beBytes 2 e.id.unit ++
      [BitVec.ofNat 8 e.action, BitVec.ofNat 8 e.result] ++ beBytes 8 e.stamp.toNat }
  else a

/-- Faults are detected together (R409): each enters the log, the outstanding ones are counted, and events 192, 194 and
those of R431 are raised. -/
def detects (fs : List Found) (s : State) : State :=
  if fs.isEmpty then s else
  let new := (fs.filter (fun f => f.stays && !s.av.outst.contains f.id)).map Found.id
  let second := !s.av.outst.isEmpty || 2 ≤ fs.length && fs.any (·.stays)
  let a := { s.av with
    outst := s.av.outst ++ new
    found := s.av.found ++ new.map (fun id => (id, stampOf s.tb.coarse, s.tb.epoch)) }.count 241 fs.length
  let a := fs.foldl (fun a f => a.note (logEntry s f.id f.action (if f.stays then 0 else 2))) a
  settle (raises ([192] ++ (if second then [194] else []) ++ fs.flatMap (fun f => flightEvent f.code f.unit))
    { s with av := a })

/-- One fault is detected. -/
def detect (code unit action : Nat) (stays : Bool) (s : State) : State :=
  detects [{ code := code, unit := unit, action := action, stays := stays, part := 0 }] s

/-- A fault is outstanding (R409). -/
def State.outstanding (s : State) (code unit : Nat) : Bool :=
  s.av.outst.contains { code := code, unit := unit, part := 0 }

/-- The log entry of an outstanding fault that is repaired: it carries the stamp of the detection (R360). -/
def repairEntry (s : State) (id : FaultId) (action : Nat) : LogEntry :=
  match s.av.found.find? (fun x => x.1 = id) with
  | some (_, st, ep) => { stamp := st, epoch := ep, id := id, action := action, result := 1 }
  | none => logEntry s id action 1

/-- An outstanding fault stops being outstanding: a second log entry REPAIRED and event 193 (R409, R422). -/
def repairId (id : FaultId) (action : Nat) (s : State) : State :=
  if s.av.outst.contains id then
    let a := { s.av with
      outst := s.av.outst.filter (fun x => x ≠ id), found := s.av.found.filter (fun x => x.1 ≠ id) }
    settle (raise 193 { s with av := a.note (repairEntry s id action) })
  else s

/-- As `repairId`, of a fault that its code and unit name. -/
def repair (code unit action : Nat) (s : State) : State := repairId { code := code, unit := unit, part := 0 } action s

end Sys2Proof.Machine
end

