-- ==== Sys2Proof/Machine/Lanes.lean ====
section
/-!
DEFINITION. Lanes.lean: the four trace lanes (R424): the 8b/10b code, what a record puts on each lane, and what stands on a
lane in any symbol slot of 4 ns.
-/
namespace Sys2Proof.Machine

/-- The number of ones of a code group of `w` bits. -/
def groupOnes (w x : Nat) : Nat := ((List.range w).filter (fun i => x.testBit i)).length

/-- The 5b/6b code at negative disparity, D.0 to D.31. -/
def code6 : List Nat :=
  [0b100111, 0b011101, 0b101101, 0b110001, 0b110101, 0b101001, 0b011001, 0b111000] ++
  [0b111001, 0b100101, 0b010101, 0b110100, 0b001101, 0b101100, 0b011100, 0b010111] ++
  [0b011011, 0b100011, 0b010011, 0b110010, 0b001011, 0b101010, 0b011010, 0b111010] ++
  [0b110011, 0b100110, 0b010110, 0b110110, 0b001110, 0b101110, 0b011110, 0b101011]

/-- The 3b/4b code at negative disparity, D.x.0 to D.x.7. -/
def code4 : List Nat := [0b1011, 0b1001, 0b0101, 0b1100, 0b1101, 0b1010, 0b0110, 0b1110]

/-- A code group of `w` bits at disparity `rd` from its form at negative disparity, and the disparity after it: a group that is
not balanced changes it, and such a group, and one marked `two`, has its complement at positive disparity. -/
def group (w c : Nat) (two rd : Bool) : Nat × Bool :=
  let even := groupOnes w c * 2 == w
  (if rd && (!even || two) then 2 ^ w - 1 - c else c, if even then rd else !rd)

/-- A symbol of the lanes: a control symbol or a data byte. -/
structure Symbol where
  ctl : Bool
  byte : Byte
  deriving DecidableEq, Repr

/-- K27.7 and K28.5. -/
def k27 : Symbol := { ctl := true, byte := 0xFB }
def k28 : Symbol := { ctl := true, byte := 0xBC }

/-- The ten bits of a symbol at disparity `rd`, bit a first, and the disparity after it. -/
def Symbol.code (y : Symbol) (rd : Bool) : Nat × Bool :=
  let lo := y.byte.toNat % 32
  let hi := y.byte.toNat / 32
  let six := group 6 (if y.ctl && lo == 28 then 0b001111 else code6.getD lo 0) (lo == 7) rd
  let mid := six.2
  let alt := y.ctl || (if mid then [11, 13, 14].contains lo else [17, 18, 20].contains lo)
  let four :=
    if hi = 7 ∧ alt = true then group 4 0b0111 false mid
    else if y.ctl && (hi == 1 || hi == 2 || hi == 5 || hi == 6) then (if mid then code4.getD hi 0 else 15 - code4.getD hi 0, mid)
    else group 4 (code4.getD hi 0) (hi == 3) mid
  (six.1 * 16 + four.1, four.2)

/-- The disparity after symbols. -/
def disparity (ys : List Symbol) (rd : Bool) : Bool := ys.foldl (fun r y => (y.code r).2) rd

/-- What a record puts on lane `n`: K27.7, then its bytes n, n + 4, n + 8 and n + 12; nothing where there is no record. -/
def recSymbols (r : List Byte) (n : Nat) : List Symbol :=
  if r.isEmpty then [] else k27 :: (List.range 4).map (fun j => { ctl := false, byte := r.getD (4 * j + n) 0 })

/-- What lane `n` sends in slot `t` from the start of the last record on: that record, then K28.5. -/
def Avail.symbols (a : Avail) (n t : Nat) : List Symbol :=
  let r := recSymbols a.lanes n
  (r ++ List.replicate (t + 1 - a.laneAt - r.length) k28).take (t + 1 - a.laneAt)

/-- The running disparity of lane `n` at the start of the last record. -/
def Avail.startRd (a : Avail) (n : Nat) : Bool := a.laneRd.getD n (Config.laneDisparity n)

/-- The ten bits on lane `n` in slot `t`. -/
def Avail.laneCode (a : Avail) (n t : Nat) : Nat :=
  let ys := a.symbols n t
  ((ys.getLastD k28).code (disparity ys.dropLast (a.startRd n))).1

/-- Lane TRC`n` in slot `t`: not driven while the part is held in reset (R432), else its ten bits. -/
def State.laneOut (s : State) (n t : Nat) : Option Nat := if s.live then some (s.av.laneCode n t) else none

/-- The running disparity of lane `n` as slot `t` begins; each K28.5 changes it. -/
def Avail.rdAt (a : Avail) (n t : Nat) : Bool :=
  let r := recSymbols a.lanes n
  disparity r (a.startRd n) != ((t - a.laneAt - r.length) % 2 == 1)

/-- A record goes onto the lanes in slot `t`, or as soon as the one before it has left. -/
def Avail.onLanes (a : Avail) (t : Nat) (r : List Byte) : Avail :=
  let t := max t (a.laneAt + (recSymbols a.lanes 0).length)
  { a with lanes := r, laneAt := t, laneRd := (List.range 4).map (fun n => a.rdAt n t) }

end Sys2Proof.Machine
end

