-- ==== Sys2Proof/Machine/Slots.lean ====
section
/-!
DEFINITION. Slots.lean: measurement slots and SYNC outputs as data (chapter 8): reset values, fields, and what other
blocks tell them: an instant that starts a waiting run, and an input whose counter rate is exceeded.
-/
namespace Sys2Proof.Machine

/-- TB.STATUS.STATE codes. -/
def TbState.code : TbState → Nat
  | .freerun => 0 | .acquire => 1 | .locked => 2 | .holdover => 3

/-- A measurement slot after reset. -/
def freshSlot (_ : Nat) : MSlot :=
  { cfg := 0, gate := 0, ngates := 0, hmin := 0, hmax := 0, pnom := 0, state := 0, flags := 0, gateCnt := 0, res := 0,
    n := 0, s1 := 0, s2 := 0, mn := 0, mx := 0, sfull := false, unpair := 0, gapCnt := 0, allan := [], apply := 0,
    tStart := none, k := 0, g := 0, judged := 0, ancA := [], ancB := [], lastA := ⟨0, 0, 0, 0⟩, lastB := ⟨0, 0, 0, 0⟩, refs := [],
    sats := [], rises := [], falls := [], starts := [], stops := [], pairs := 0, pairRes := 0, open_ := [], ev65 := false,
    ev66 := false, ev69 := false, ended := ⟨0, 0, 0, 0, 0, 0, 0⟩, latched := none }

/-- A SYNC output after reset. -/
def freshSync (_ : Nat) : Sync :=
  { cfg := 0x64, per := 0, ofs := 0, tgt := 0, tol := 0x3E8, locked := false, good := 0, err := 0, apply := 0,
    waiting := false, tStart := none, j := 0, high := none, pulses := [], frames := [], edges := [], prevOfs := [],
    last := none }

/-- Slot `k`. -/
def State.slot (s : State) (k : Nat) : MSlot := Tab.get freshSlot s.ms.slots k

/-- Slot `k` changed. -/
def updSlot (k : Nat) (f : MSlot → MSlot) (s : State) : State :=
  { s with ms := { s.ms with slots := Tab.upd freshSlot s.ms.slots k f } }

/-- SYNC output `n`. -/
def State.sync (s : State) (n : Nat) : Sync := Tab.get freshSync s.ms.syncs n

/-- SYNC output `n` changed. -/
def updSync (n : Nat) (f : Sync → Sync) (s : State) : State :=
  { s with ms := { s.ms with syncs := Tab.upd freshSync s.ms.syncs n f } }

/-- MS.SCFG fields. -/
def MSlot.type (x : MSlot) : Nat := fld x.cfg 29 3
def MSlot.eselA (x : MSlot) : Nat := fld x.cfg 26 2
def MSlot.eselB (x : MSlot) : Nat := fld x.cfg 24 2
def MSlot.inA (x : MSlot) : Nat := fld x.cfg 14 10
def MSlot.inB (x : MSlot) : Nat := fld x.cfg 4 10

/-- The type takes an input B: INTERVAL or PHASE (R207). -/
def twoInputs (type : Nat) : Bool := type == 3 || type == 4

/-- MS.SYCFG fields. -/
def Sync.mode (y : Sync) : Nat := fld y.cfg 30 2
def Sync.loop (y : Sync) : Bool := bit y.cfg 29
def Sync.gain (y : Sync) : Nat := fld y.cfg 26 3
def Sync.edge (y : Sync) : Nat := fld y.cfg 24 2
def Sync.lin (y : Sync) : Nat := fld y.cfg 14 10
def Sync.width (y : Sync) : Nat := fld y.cfg 0 8

/-- A mode in which slots run: every one but DORMANT and SURVEY (R207). -/
def State.slotsRun (s : State) : Bool := s.th.mode != .dormant && s.th.mode != .survey

/-- The slots and PERIODIC outputs that wait for an instant chosen by APPLY `n` have it: `t` (R219, R342). -/
def startWaiters (n : Nat) (t : Coarse) (s : State) : State :=
  if !s.slotsRun then s else
  let slotAt (_ : Nat) (x : MSlot) : MSlot :=
    if x.state = 1 ∧ x.apply = n ∧ x.tStart.isNone = true then { x with tStart := some t, g := t } else x
  let out (_ : Nat) (y : Sync) : Sync :=
    if y.waiting = true ∧ y.apply = n then { y with tStart := some t, waiting := false } else y
  { s with ms := { slots := Tab.remap freshSlot slotAt s.ms.slots, syncs := Tab.remap freshSync out s.ms.syncs } }

/-- The counted edge `n` of channel `i`, at `t` (less board skew), is over the rate of R48: every running slot on the channel
keeps it for the gate it lies in (R213). -/
def markSats (i : Nat) (n : BitVec 48) (t : Stamp) (s : State) : State :=
  let mark (_ : Nat) (x : MSlot) : MSlot :=
    if x.state ≠ 2 then x else
    let x := if x.inA = i then { x with sats := ⟨false, n, t⟩ :: x.sats } else x
    if twoInputs x.type = true ∧ x.inB = i then { x with sats := ⟨true, n, t⟩ :: x.sats } else x
  { s with ms := { s.ms with slots := Tab.remap freshSlot mark s.ms.slots } }

end Sys2Proof.Machine
end

