-- ==== Sys2Proof/Machine/Persist.lean ====
section
/-!
DEFINITION. Persist.lean: the persistent store (R367 to R375): layout and reset values of its words, reading a word,
committing a write with verification, wear and retirement into spares, and finding a word unreadable.
-/
namespace Sys2Proof.Machine

/-- Reset values of P.TH_LIM[1] to P.TH_LIM[7] (word table of chapter 14). -/
def limReset (k : Nat) : W32 := w32 (0x02F8 + 0x20 * (k - 1))

/-- The reset value of the persistent word at byte address `a`, from its owning word table; a factory word holds what
Uhlone wrote before shipment (R367). -/
def wordReset (a : Nat) : W32 :=
  let o := a - 0x01000000
  if a < 0x01000000 then 0
  else if o = 0x200 then 0x11
  else if o = 0x280 then 0xFFFFFFFB
  else if 0x284 ≤ o ∧ o ≤ 0x2BC then 0xFFFFFFFF
  else if o = 0x300 then 0xCB48C810
  else if o = 0x320 ∨ o = 0x340 then 5
  else if o = 0x324 then 0xC0A8460A
  else if o = 0x344 then 0xC0A8470A
  else if o = 0x328 ∨ o = 0x348 then 0xFFFFFF00
  else if o = 0x32C then 0xC0A84601
  else if o = 0x34C then 0xC0A84701
  else if 0x400 ≤ o ∧ o < 0x440 ∧ o % 8 = 4 then 0xFFFFFFFF
  else if 0x600 ≤ o ∧ o < 0x61C then limReset ((o - 0x600) / 4 + 1)
  else if 0x640 ≤ o ∧ o < 0x660 then 0xC000003C
  else if 0x660 ≤ o ∧ o < 0x680 then 0x3C
  else if 0x800 ≤ o ∧ o < 0xC00 then w32 ((o - 0x800) / 4)
  else if 0x8000 ≤ o ∧ o < 0x40000 then Config.factoryWord a
  else 0

/-- The bits of the word at `a` that are not reserved. -/
def wordMask (a : Nat) : W32 :=
  let o := a - 0x01000000
  if o = 0x334 ∨ o = 0x354 then 0xFFFF
  else if o = 0x260 then 0x1F
  else if 0x400 ≤ o ∧ o < 0x440 ∧ o % 8 = 0 then 0xFFFF000F
  else if o = 0x460 then 0xFFFF
  else if 0x600 ≤ o ∧ o < 0x61C then 0xFFFF
  else if 0x640 ≤ o ∧ o < 0x660 then 0x4000FFFF
  else if 0x660 ≤ o ∧ o < 0x670 then 0xC000FFFF
  else if 0x670 ≤ o ∧ o < 0x680 then 0x4000FFFF
  else if o = 0x74C then 0xFFFF
  else if 0x800 ≤ o ∧ o < 0xC00 then 0x1FF
  else if 0x1000 ≤ o ∧ o < 0x1830 then 0xFFFF
  else 0xFFFFFFFF

/-- Words that PREG_WR may write (R327, R367). -/
def pregWritable (a : Nat) : Bool :=
  let o := a - 0x01000000
  0x01000000 ≤ a && (
    (0x200 ≤ o && o ≤ 0x214) || (0x280 ≤ o && o ≤ 0x2BC) || (0x400 ≤ o && o ≤ 0x43C) ||
    (0x600 ≤ o && o ≤ 0x6FC) || (0x4000 ≤ o && o ≤ 0x7FFC))

/-- A word of the array as it left the factory. Wear counts from zero (DESIGN CHOICE, log 5). -/
def freshWord (a : Nat) : PWord := { data := wordReset a, wear := 0, unreadable := false, stuck := 0 }

/-- The spare slot that holds address `a`: the highest one whose tag names it (R369). -/
def holder (sp : Tab Spare) (a : Nat) : Option (Nat × Spare) :=
  sp.foldl (fun r kv => if kv.2.tag = a then some kv else r) none

/-- The cell that holds word `a`: a spare, or the word itself. -/
def PStore.cell (p : PStore) (a : Nat) : PWord :=
  match holder p.spares a with
  | some (_, sp) => sp.cell
  | none => Tab.get freshWord p.words a

/-- The cell that holds word `a` replaced. -/
def PStore.setCell (p : PStore) (a : Nat) (c : PWord) : PStore :=
  match holder p.spares a with
  | some (k, sp) => { p with spares := Tab.insert p.spares k { sp with cell := c } }
  | none => { p with words := Tab.put freshWord p.words a c }

/-- The value a read of word `a` gives: its reset value while it is unreadable (R375). -/
def PStore.read (p : PStore) (a : Nat) : W32 :=
  let c := p.cell a
  if c.unreadable then wordReset a else c.data

/-- The committed value of word `a`. -/
def pread (s : State) (a : Nat) : W32 := s.ps.read a

/-- Free spare words (R369). -/
def PStore.free (p : PStore) : Nat := 4096 - p.spares.length

/-- The wear count saturates at 2^27 - 1 (R368). -/
def wearAdd (w n : Nat) : Nat := min (w + n) 134217727

/-- Steps 2 to 4 of R368 on one cell: up to `n` writes, each verified. While a spare is free, no write reaches a cell that
has worn out (R369). -/
def PWord.attempts (free : Bool) (v : W32) : Nat → PWord → Bool × PWord
  | 0, c => (false, c)
  | n + 1, c =>
    if free && 100000000 ≤ c.wear then (false, c)
    else if c.stuck = 0 then (true, { data := v, wear := wearAdd c.wear 1, unreadable := false, stuck := 0 })
    else PWord.attempts free v n { c with wear := wearAdd c.wear 1, stuck := c.stuck - 1 }

/-- Unit index of fault 0x0701 (R423). -/
def unitOfWord (a : Nat) : Nat := (a - 0x01000000) / 16

/-- The fault 0x0701 of word `a`: each word of a unit has a fault of its own. -/
def wordFault (a : Nat) : FaultId := { code := 0x0701, unit := unitOfWord a, part := a / 4 % 4 }

/-- A word is found unreadable (R375): once until it next commits. -/
def findUnreadable (a : Nat) (s : State) : State :=
  let c := s.ps.cell a
  if c.unreadable then s else
  let p := s.ps.setCell a { c with unreadable := true }
  detects [{ code := 0x0701, unit := unitOfWord a, action := 0, stays := true, part := a / 4 % 4 }]
    (raise 116 { s with ps := { p with unread := p.unread + 1, last := w32 a, lastKind := 2 } })

/-! ## Checked reads (R372) -/

/-- The check bits of word `a` give `r` as it is read: a corrected word waits for its rewrite, an uncorrectable one is
unreadable. -/
def checkWord (a : Nat) (r : ReadResult) (s : State) : State :=
  match r with
  | .good => s
  | .corrected => if s.ps.rewrite.contains a then s else { s with ps := { s.ps with rewrite := s.ps.rewrite ++ [a] } }
  | .uncorrectable => findUnreadable a s

/-- The error that stands in word `a` is gone: found, or overwritten. -/
def clearUpset (a : Nat) (s : State) : State :=
  { s with ps := { s.ps with upset := s.ps.upset.filter (fun x => x.1 ≠ a) } }

/-- Word `a` is read: an error that stands in it is found. -/
def checkRead (a : Nat) (s : State) : State :=
  match s.ps.upset.find? (fun x => x.1 == a) with
  | some x => checkWord a x.2 (clearUpset a s)
  | none => s

/-- Words are read one after the other. -/
def checkReads (as : List Nat) (s : State) : State := as.foldl (fun s a => checkRead a s) s

/-- A word moves into the lowest free spare, and on into further ones while their verification fails (R369, R371). A word that
is unreadable stays so until a write of it commits (R375). The number bounds the spares that can be taken. -/
def intoSpare : Nat → Nat → W32 → State → Bool × State
  | 0, _, _, s => (false, s)
  | n + 1, a, v, s =>
    let k := s.ps.spares.length
    if 4096 ≤ k then (false, s) else
    let cell : PWord := { data := 0, wear := 0, unreadable := (s.ps.cell a).unreadable, stuck := Tab.get zeros s.ps.stuck k }
    let (ok, cell) := cell.attempts false v 3
    let p := { s.ps with
      spares := Tab.insert s.ps.spares k { tag := a, cell := cell }
      stuck := Tab.erase s.ps.stuck k
      spared := s.ps.spared + 1, last := w32 a, lastKind := 1 }
    let s := raises ([112] ++ (if p.free = 256 then [113] else []) ++ (if p.free = 0 then [114] else []))
      { s with ps := p }
    if ok then (true, s) else intoSpare n a v s

/-- The write is refused: the previous value is written back and verified once more, else the word is unreadable
(R371). -/
def refuseWrite (a : Nat) (old : W32) (s : State) : State :=
  let c := s.ps.cell a
  let s := { s with ps := s.ps.setCell a { c with data := old, wear := wearAdd c.wear 1, stuck := c.stuck - 1 } }
  raise 115 (if c.stuck = 0 then s else findUnreadable a s)

/-- What a commit leaves when it succeeds: the commit counter (R428), and fault 0x0701 of the word ends (R408). -/
def committed (a : Nat) (was : Bool) (s : State) : State :=
  count 242 1 (if was then repairId (wordFault a) 0 s else s)

/-- Steps 2 to 5 of R368: the word is written, and commits or is refused with WORN (R369, R371). -/
def writeWord (a : Nat) (v : W32) (s : State) : Bool × State :=
  let s := clearUpset a s
  let c := s.ps.cell a
  let (ok, c') := c.attempts (0 < s.ps.free) v 3
  let s' := { s with ps := s.ps.setCell a c' }
  if ok then (true, committed a c.unreadable s')
  else
    let (ok, s') := intoSpare 4096 a v s'
    if ok then (true, committed a c.unreadable s') else (false, refuseWrite a c.data s')

/-- A write to a persistent word commits, or is refused with WORN: the word is read, and a value that it already holds is not
written (R368 step 1). -/
def commit (a : Nat) (v : W32) (s : State) : Bool × State :=
  let s := checkRead a s
  let c := s.ps.cell a
  if !c.unreadable && c.data == v then (true, committed a false s) else writeWord a v s

/-- Several words commit in order; the first worn word stops the command (R456). Answers how many committed. -/
def commits : List (Nat × W32) → State → Nat × Bool × State
  | [], s => (0, true, s)
  | (a, v) :: ws, s =>
    match commit a v s with
    | (true, s') => let (n, ok, s'') := commits ws s'; (n + 1, ok, s'')
    | (false, s') => (0, false, s')

/-- A commit by the part itself, whose refusal no command answers. -/
def commitOwn (a : Nat) (v : W32) (s : State) : State := (commit a v s).2

/-- A word is read, changed and committed. -/
def commitChanged (a : Nat) (f : W32 → W32) (s : State) : Bool × State :=
  let s := checkRead a s
  commit a (f (pread s a)) s

/-- An address of the block map that holds a word: not a reserved one, and not the spare pool (R367). -/
def mapped (a : Nat) : Bool :=
  let o := a - 0x01000000
  0x01000000 ≤ a && (
    (0x200 ≤ o && o ≤ 0x214) || o == 0x240 || o == 0x260 || (0x280 ≤ o && o ≤ 0x2BC) || (0x300 ≤ o && o ≤ 0x354) ||
    (0x400 ≤ o && o ≤ 0x460) || (0x600 ≤ o && o ≤ 0x6FC) || (0x700 ≤ o && o ≤ 0x74F) || (0x800 ≤ o && o ≤ 0xBFC) ||
    (0x1000 ≤ o && o ≤ 0x182C) || (0x4000 ≤ o && o ≤ 0x8BFFC))

/-- A stored word of the block map: reserved addresses and the spare pool read zero (R367). -/
def preadMapped (s : State) (a : Nat) : W32 :=
  if mapped a then
    let v := pread s a
    if 0x01000640 ≤ a ∧ a < 0x01000660 then v ||| 0x80000000 else v
  else 0

/-- Errors come to stand in the array: the words that a row names with its `Reads` (R372). A word that the row itself does not
read keeps its error until it is read. -/
def strike (reads : Reads) (s : State) : State :=
  { s with ps := { s.ps with upset := reads.filter (fun x => mapped x.1 && x.2 != .good) ++ s.ps.upset } }

end Sys2Proof.Machine
end

