-- ==== Sys2Proof/Machine/Frames.lean ====
section
/-!
DEFINITION. Frames.lean: Polcor frames (R290 to R292), the output queues of the paths (R302, R306, R308), answers and
completions of commands (R296, R297, R317), and the mailbox that the Lodge takes next (R282).
-/
namespace Sys2Proof.Machine

/-! ## Paths and ports -/

/-- The SPI path. -/
def spiPath : Nat := 2

/-- A port that has not been seen up. -/
def freshPort (_ : Nat) : Port :=
  { phy := false, up := false, lpi := false, arp := none, unres := false, icmpMs := none, wire := none }

/-- Port `p`. -/
def State.port (s : State) (p : Nat) : Port := Tab.get freshPort s.lk.ports p

/-- Port `p` changed. -/
def updPort (p : Nat) (f : Port → Port) (s : State) : State :=
  { s with lk := { s.lk with ports := Tab.upd freshPort s.lk.ports p f } }

/-- Reset values of the port settings (persistent words of the link). -/
def freshPortRegs (p : Nat) : PortRegs :=
  { pcfg := 5, ip := if p = 0 then 0xC0A8460A else 0xC0A8470A, mask := 0xFFFFFF00,
    dest := if p = 0 then 0xC0A84601 else 0xC0A84701, dmacLo := 0, dmacHi := 0 }

/-- Settings of port `p`. -/
def LinkRegs.port (r : LinkRegs) (p : Nat) : PortRegs := Tab.get freshPortRegs r.ports p

/-- Some port is up. -/
def State.anyUp (s : State) : Bool := (s.port 0).up || (s.port 1).up

/-- Bucket depth of class 2: 8,192 bytes (R302). -/
def fullTokens : Nat := 8192 * 80000

/-- A path with nothing to send. -/
def freshPath (_ : Nat) : PathQ := { c1 := [], c2 := [], c3 := [], tokens := fullTokens, since := 0 }

/-- Queues of path `p`. -/
def State.path (s : State) (p : Nat) : PathQ := Tab.get freshPath s.lk.paths p

/-- Queues of path `p` changed. -/
def updPath (p : Nat) (f : PathQ → PathQ) (s : State) : State :=
  { s with lk := { s.lk with paths := Tab.upd freshPath s.lk.paths p f } }

/-- The Colale is in LIMP: FLAGS.DEG of a frame formed now (R291). -/
def State.deg (s : State) : Bool := s.th.mode == .limp

/-- LK.CFG fields. -/
def LinkRegs.route (r : LinkRegs) : Nat := fld r.cfg 4 2
def LinkRegs.evSpi (r : LinkRegs) : Bool := bit r.cfg 3
def LinkRegs.spir (r : LinkRegs) : Nat := fld r.cfg 10 6
def LinkRegs.kal (r : LinkRegs) : Nat := fld r.cfg 6 4
def LinkRegs.udpBase (r : LinkRegs) : Nat := fld r.cfg 16 16

/-! ## Bytes of a frame -/

/-- The bytes of a Polcor frame that leaves on path `p` (R290 to R292). -/
def Frame.bytes (f : Frame) (p : Nat) : List Byte :=
  let flags := b2n f.deg * 128 + b2n f.rep * 64 + (if p = 1 then 32 else 0) + b2n f.compl * 16 + (if p = spiPath then 8 else 0)
  let head := [0xC5, 0xA1, 0x01, BitVec.ofNat 8 f.kind] ++ beBytes 2 f.seq.toNat ++
    [BitVec.ofNat 8 f.mb, BitVec.ofNat 8 flags] ++ beBytes 2 f.op ++ beBytes 2 f.payload.length
  head ++ f.payload ++ wBytes (crc32 (if f.kind = 4 then head else head ++ f.payload))

/-- Bytes that something takes on a path (R302): on a host port with preamble, headers and interframe gap as in H of
R303, its MAC data padded to 46 bytes; over SPI the Polcor frame. -/
def Out.size (p : Nat) : Out → Nat
  | .polcor f => f.payload.length + (if p = spiPath then 16 else 86)
  | .arp _ => 88
  | .echo e => max 88 (e.data.length + 70)

/-! ## MAC frames sent (R283, R285, R289) -/

/-- Bytes cut or filled up with zeros to `n`. -/
def padTo (n : Nat) (bs : List Byte) : List Byte := bs ++ List.replicate (n - bs.length) 0

/-- Bytes of a MAC address. -/
def macBytes (a : BitVec 48) : List Byte := beBytes 6 a.toNat

/-- The sum of the 16-bit words that bytes spell. -/
def inetWords : List Byte → Nat
  | a :: b :: r => a.toNat * 256 + b.toNat + inetWords r
  | [a] => a.toNat * 256
  | [] => 0

/-- The Internet checksum of IPv4, UDP and ICMP. -/
def inetSum (bs : List Byte) : Nat := 0xFFFF - (if inetWords bs = 0 then 0 else (inetWords bs - 1) % 0xFFFF + 1)

/-- A UDP packet; the checksum of a stream frame is sent as zero, which a computed one never is (R5, R289). -/
def udpBytes (h : IpHead) (sp dp : Nat) (stream : Bool) (body : List Byte) : List Byte :=
  let n := body.length + 8
  let head (sum : Nat) : List Byte := beBytes 2 sp ++ beBytes 2 dp ++ beBytes 2 n ++ beBytes 2 sum
  let sum := inetSum (wBytes h.src ++ wBytes h.dst ++ [0, 17] ++ beBytes 2 n ++ head 0 ++ body)
  head (if stream then 0 else if sum = 0 then 0xFFFF else sum) ++ body

/-- An ICMP echo reply with the data of its request (R288). -/
def echoBytes (e : EchoMsg) : List Byte :=
  let body := beBytes 2 e.ident.toNat ++ beBytes 2 e.seqNo.toNat ++ e.data
  [0, 0] ++ beBytes 2 (inetSum ([0, 0, 0, 0] ++ body)) ++ body

/-- The IPv4 header of a packet with `n` bytes after it: no options, DF, TTL 64, checksum set (R283). -/
def IpHead.bytes (h : IpHead) (n : Nat) : List Byte :=
  let head (sum : Nat) : List Byte := [0x45, BitVec.ofNat 8 (h.dscp * 4)] ++ beBytes 2 (20 + n) ++ beBytes 2 h.ident.toNat ++
    [0x40, 0, 64, if h.ports.isSome then 17 else 1] ++ beBytes 2 sum ++ wBytes h.src ++ wBytes h.dst
  head (inetSum (head 0))

/-- An ARP message. -/
def arpBytes (a : ArpMsg) : List Byte :=
  [0, 1, 8, 0, 6, 4, 0, if a.request then 1 else 2] ++ macBytes a.senderMac ++ wBytes a.senderIp ++ macBytes a.targetMac ++
    wBytes a.targetIp

/-- The MAC data of a frame that leaves port `p`. -/
def Wire.data (w : Wire) (p : Nat) : List Byte :=
  match w.ip, w.out with
  | some h, .polcor f =>
    let u := match h.ports with
      | some (sp, dp) => udpBytes h sp dp (f.kind == 4) (f.bytes p)
      | none => []
    h.bytes u.length ++ u
  | some h, .echo e => h.bytes (echoBytes e).length ++ echoBytes e
  | _, .arp a => arpBytes a
  | none, _ => []

/-- The MAC frame that leaves port `p`, from the destination address to the FCS (R283). -/
def Wire.bytes (w : Wire) (p : Nat) : List Byte :=
  let tag := match w.tag with
    | some t => [0x81, 0] ++ beBytes 2 t.toNat
    | none => []
  let m := macBytes w.dst ++ macBytes w.src ++ tag ++ (if w.ip.isSome then [8, 0] else [8, 6]) ++ padTo 46 (w.data p)
  m ++ (wBytes (crc32 m)).reverse

/-- The static destination MAC of a port is zero: it is found by ARP (R285). -/
def PortRegs.resolves (r : PortRegs) : Bool := r.dmacLo == 0 && r.dmacHi == 0

/-- The MAC address of LK.DEST: LK.DMAC where it is not zero, else what ARP found (R285). -/
def State.destMac (s : State) (p : Nat) : BitVec 48 :=
  let r := s.lk.regs.port p
  if r.resolves then (s.port p).arp.getD (Config.unresolvedMac p s.uptime)
  else BitVec.ofNat 48 (r.dmacHi.toNat * 2 ^ 32 + r.dmacLo.toNat)

/-- Where something goes that leaves port `p`: MAC address, IPv4 address and UDP port (R285, R288, R289). A response goes to
the source of its command, every other Polcor frame to LK.DEST. -/
def State.target (s : State) (p : Nat) : Out → BitVec 48 × W32 × Nat
  | .polcor f =>
    match f.dst with
    | some x => (x.mac, x.ip, x.port)
    | none => (s.destMac p, (s.lk.regs.port p).dest, s.lk.regs.udpBase + f.udp)
  | .arp a => (if a.request then 0xFFFFFFFFFFFF else a.targetMac, a.targetIp, 0)
  | .echo e => (e.srcMac, e.src, 0)

/-- A violation or notification frame, which has a DSCP and PCP of its own (LK.QOS). -/
def Out.urgent : Out → Bool
  | .polcor f => f.kind == 3 && (f.op == 0x0880 || f.op == 0x0990)
  | _ => false

/-- The MAC frame that carries `o` out of port `p`. -/
def State.wireOf (s : State) (p : Nat) (o : Out) : Wire :=
  let r := s.lk.regs.port p
  let q := s.lk.regs.qos
  let dest := s.target p o
  let head (ports : Option (Nat × Nat)) : IpHead :=
    { dscp := if o.urgent then fld q 24 6 else fld q 16 6, ident := Config.ipIdent p s.uptime, src := r.ip, dst := dest.2.1
      ports := ports }
  { dst := dest.1
    src := Config.mac p
    tag := if fld r.pcfg 16 12 = 0 then none
      else some (BitVec.ofNat 16 ((if o.urgent then fld q 8 3 else fld q 0 3) * 0x2000 + fld r.pcfg 16 12))
    ip := match o with
      | .polcor f => some (head (some (s.lk.regs.udpBase + f.udp, dest.2.2)))
      | .arp _ => none
      | .echo _ => some (head none)
    out := o }

/-- Length of the Polcor frames in a queue. -/
def bytesIn (p : Nat) (os : List Out) : Nat := os.foldl (fun n o => n + o.size p) 0

/-! ## Queues -/

/-- Frames were discarded: LK.RETDROP, and event 134 at most once per second (R302, R308). -/
def dropOut (n : Nat) (s : State) : State :=
  if n = 0 then s else
  let quiet := match s.lk.dropMs with
    | some u => u + 1000000000 ≤ s.uptime
    | none => true
  let s := { s with lk := { s.lk with retDrop := s.lk.retDrop + w32 n, dropMs := if quiet then some s.uptime else s.lk.dropMs } }
  raiseIf quiet 134 s

/-- Bytes that wait in the SPI queue. -/
def State.spiBytes (s : State) : Nat :=
  let q := s.path spiPath
  bytesIn spiPath q.c1 + bytesIn spiPath q.c2 + bytesIn spiPath q.c3

/-- A notification frame. -/
def Out.isNotification : Out → Bool
  | .polcor f => f.kind == 3 && f.op == 0x0990
  | _ => false

/-- A full SPI queue discards return frames first and notifications next (R308), newest first. -/
def trimSpi : Nat → Nat → PathQ → Nat × PathQ
  | 0, d, q => (d, q)
  | n + 1, d, q =>
    if bytesIn spiPath q.c1 + bytesIn spiPath q.c2 + bytesIn spiPath q.c3 ≤ 262144 then (d, q)
    else if q.c3.isEmpty then
      match q.c2.reverse.find? Out.isNotification with
      | some o => trimSpi n (d + 1) { q with c2 := (q.c2.reverse.erase o).reverse }
      | none => (d, q)
    else trimSpi n (d + 1) { q with c3 := q.c3.dropLast }

/-- Something joins class `c` (1 to 3) of path `p`. -/
def enqueue (p c : Nat) (o : Out) (s : State) : State :=
  let q := s.path p
  let q := match c with
    | 1 => { q with c1 := q.c1 ++ [o] }
    | 2 => { q with c2 := q.c2 ++ [o] }
    | _ => { q with c3 := q.c3 ++ [o] }
  if p = spiPath then
    let (d, q) := trimSpi (q.c2.length + q.c3.length) 0 q
    dropOut d (updPath p (fun _ => q) s)
  else updPath p (fun _ => q) s

/-- A frame of class 1 or 2 goes to the active port. While no port is up a class 2 frame is discarded, and up to 16
violation frames wait, the oldest discarded first (R302, R306). -/
def sendHost (c : Nat) (f : Frame) (s : State) : State :=
  match s.lk.active with
  | some p => enqueue p c (.polcor f) s
  | none =>
    if c = 1 then
      let w := s.lk.waiting ++ [f]
      { s with lk := { s.lk with waiting := w.drop (w.length - 16) } }
    else dropOut 1 s

/-- A violation or notification frame goes to the active port, and with LK.CFG.EVSPI over SPI too (R298, R308). -/
def sendEvent (c : Nat) (f : Frame) (s : State) : State :=
  let s := sendHost c f s
  if s.lk.regs.evSpi then enqueue spiPath c (.polcor f) s else s

/-- The return output buffer holds 262,144 bytes (R302). -/
def returnRoom (q : PathQ) (p : Nat) (o : Out) : Bool := bytesIn p q.c3 + o.size p ≤ 262144

/-- A return stream frame goes to the path that carries returns (LK.CFG.ROUTE); where none is up or the buffer is full
it is discarded whole (R302, R308). -/
def sendReturn (f : Frame) (s : State) : State :=
  match s.lk.regs.route with
  | 1 =>
    match s.lk.active with
    | some p => if returnRoom (s.path p) p (.polcor f) then enqueue p 3 (.polcor f) s else dropOut 1 s
    | none => dropOut 1 s
  | 2 => enqueue spiPath 3 (.polcor f) s
  | _ => s

/-! ## Mailboxes, answers and completions -/

/-- A source that is none. -/
def noPeer : Peer := { path := 0, ip := 0, mac := 0, port := 0 }

/-- A mailbox after reset (R294). -/
def freshBox (_ : Nat) : Mailbox :=
  { state := .unsync, l := 0, op := 0, payload := [], src := noPeer, order := 0, answer := none, compl := none }

/-- Mailbox `m`. -/
def State.box (s : State) (m : Nat) : Mailbox := Tab.get freshBox s.lk.boxes m

/-- Mailbox `m` changed. -/
def updBox (m : Nat) (f : Mailbox → Mailbox) (s : State) : State :=
  { s with lk := { s.lk with boxes := Tab.upd freshBox s.lk.boxes m f } }

/-- STATUS codes (R318). -/
def Status.code : Status → Nat
  | .ok => 0 | .busy => 1 | .badop => 2 | .badlen => 3 | .badarg => 4 | .mode => 5 | .seq => 6 | .worn => 7 | .stale => 8
  | .notAdmitted => 9 | .fault => 10

/-- The four-byte header of an answer and its data (R296). -/
def Answer.bytes (a : Answer) : List Byte := [BitVec.ofNat 8 a.status.code, 0] ++ beBytes 2 a.arg ++ a.data

def Answer.plain (st : Status) : Answer := { status := st, arg := 0, data := [] }
def Answer.okWith (data : List Byte) : Answer := { status := .ok, arg := 0, data := data }
def Answer.badarg (off : Nat) : Answer := { status := .badarg, arg := off, data := [] }
def Answer.notAdmitted (rule : Nat) : Answer := { status := .notAdmitted, arg := rule, data := [] }

/-- A stream frame (R203, R277). -/
def streamFrame (op : Nat) (seq : W16) (deg : Bool) (udp : Nat) (payload : List Byte) : Frame :=
  { kind := 4, op := op, seq := seq, mb := 0xFF, deg := deg, rep := false, compl := false, udp := udp, dst := none
    own := false, counted := true, payload := payload }

/-- An event frame that is no completion: its SEQ is given as it leaves (R290). -/
def eventFrame (op : Nat) (deg : Bool) (payload : List Byte) : Frame :=
  { kind := 3, op := op, seq := 0, mb := 0xFF, deg := deg, rep := false, compl := false, udp := 3, dst := none
    own := false, counted := false, payload := payload }

/-- A response frame that is not a mailbox's own answer: BUSY, SEQ or a repeat (R290, R295, R296). -/
def responseFrame (s : State) (m : Nat) (seq : W16) (op : Nat) (dst : Peer) (rep : Bool) (a : Answer) : Frame :=
  { kind := 2, op := op, seq := seq, mb := m, deg := s.deg, rep := rep, compl := false, udp := 0, dst := some dst,
    own := false, counted := true, payload := a.bytes }

/-- A completion frame (R290, R297). -/
def completionFrame (s : State) (tk : Ticket) (rep : Bool) (a : Answer) : Frame :=
  { kind := 3, op := tk.op, seq := tk.seq, mb := tk.mb, deg := s.deg, rep := rep, compl := true, udp := 3, dst := none,
    own := false, counted := true, payload := a.bytes }

/-- A response leaves towards its source: into the SPI queue, or on the port of arrival while that is up (R289). -/
def sendResponse (f : Frame) (dst : Peer) (s : State) : State :=
  if dst.path = spiPath then enqueue spiPath 2 (.polcor f) s
  else if (s.port dst.path).up then enqueue dst.path 2 (.polcor f) s
  else if s.anyUp then s else dropOut 1 s

/-- A mailbox whose response will be sent by no FRAME_TRANSMIT is idle at once: the SPI queue holds it, or it was
discarded (R294, R299). -/
def idleNow (s : State) (dst : Peer) : Bool := dst.path == spiPath || !(s.port dst.path).up

/-- The answer of mailbox `m` is stored with its command and the response sent (R294, R296). -/
def respond (m : Nat) (a : Answer) (s : State) : State :=
  let b := s.box m
  let s := updBox m (fun b => { b with answer := some a, state := if idleNow s b.src then .idle else .executing }) s
  sendResponse { responseFrame s m b.l b.op b.src false a with own := true } b.src s

/-- The Lodge answers the command of mailbox `m`, whose execution began at `now`; a LODGE record enters the trace, with
that stamp (R425), among the items of its epoch (R29). -/
def answer (m : Nat) (a : Answer) (now : Start) (s : State) : State :=
  let b := s.box m
  let rec6 : TraceRec := ⟨6, beBytes 2 b.op ++ [BitVec.ofNat 8 m, BitVec.ofNat 8 a.status.code] ++ beBytes 2 b.l.toNat ++ now.stamp⟩
  respond m a (count 175 1 (if bit s.av.trcfg 1 then s.pushStamped now.era rec6 else s))

/-- A completion is stored with its command, while the mailbox still holds it, and sent (R297). -/
def completeNow (tk : Ticket) (a : Answer) (s : State) : State :=
  let b := s.box tk.mb
  let s := if b.l = tk.seq ∧ b.op = tk.op then updBox tk.mb (fun b => { b with compl := some a }) s else s
  let f := completionFrame s tk false a
  if tk.src.path = spiPath then enqueue spiPath 2 (.polcor f) s else sendHost 2 f s

/-- A deferred operation completes; a completion that falls due during a Lodge restart waits for its end (R420). At a halt
every operation but a STREAM has been completed already (R421). -/
def complete (tk : Ticket) (a : Answer) (s : State) : State :=
  if s.av.halt ∧ tk.op ≠ 0x0806 then s
  else if s.av.restart then { s with lk := { s.lk with due := s.lk.due ++ [(tk, a)] } } else completeNow tk a s

/-- The command of mailbox `m`, for its completion. -/
def State.ticket (s : State) (m : Nat) : Ticket :=
  let b := s.box m
  { mb := m, seq := b.l, op := b.op, src := b.src }

/-- A command waits in mailbox `m` for the Lodge. -/
def State.waits (s : State) (m : Nat) : Bool := (s.box m).state == .executing && (s.box m).answer.isNone

/-- The Lodge is executing a command that takes its time, a MARK or an EVT_CLEAR (R249, R382). -/
def State.midCommand (s : State) : Bool := s.cl.markAsk.isSome || s.lk.clearing.isSome

/-- The Lodge takes commands: no restart, no halt, and no command that takes its time still running (R282). -/
def State.lodgeRuns (s : State) : Bool := !s.av.restart && !s.av.halt && !s.midCommand

/-- The mailbox whose command the Lodge takes next: MB00 when one waits there, else the earliest accepted (R282). -/
def State.nextBox (s : State) : Option Nat :=
  if s.waits 0 then some 0
  else (List.range 32).foldl (fun r m =>
    if s.waits m then
      match r with
      | none => some m
      | some n => if (s.box m).order < (s.box n).order then some m else r
    else r) none

/-- The opcodes of R319. -/
def opcodes : List Nat :=
  [0x0001, 0x0002, 0x0003, 0x0101, 0x0201, 0x0202, 0x0203, 0x0204, 0x0301, 0x0302, 0x0401, 0x0402, 0x0501, 0x0502, 0x0503,
   0x0504, 0x0505, 0x0601, 0x0602, 0x0603, 0x0701, 0x0702, 0x0801, 0x0802, 0x0803, 0x0804, 0x0805, 0x0806, 0x0807, 0x0901,
   0x0902, 0x0903, 0x0A01, 0x0B01, 0x0B02]

/-- Commands of no listed opcode that the Lodge takes next are answered BADOP (R315 step 1), up to `n` of them. -/
def answerBadop : Nat → State → State
  | 0, s => s
  | n + 1, s =>
    match s.nextBox with
    | some m =>
      if s.lodgeRuns ∧ opcodes.contains (s.box m).op = false then answerBadop n (answer m (.plain .badop) s.start s)
      else s
    | none => s

/-- What a command's own rule yields: the state, its answer (none: it answers later), and a completion that follows at
once. -/
structure Reply where
  s : State
  ans : Option Answer
  done : Option Answer
  deriving DecidableEq, Repr

def reply (s : State) (a : Answer) : Reply := { s := s, ans := some a, done := none }

/-- A command of the Lodge (R282, R315): the command in mailbox `m` runs when the Lodge takes it next and it is one of
this row: its opcode is `op` and its payload is of the row's subcommand (`row`). The checks are those of R315: `len`,
`mode`, then the command's own rule. Commands of no listed opcode behind it are answered in passing. -/
def lodge (m op : Nat) (row len : List Byte → Bool) (mode : State → List Byte → Bool)
    (own : Ticket → List Byte → State → Reply) (s : State) : State :=
  let b := s.box m
  if s.lodgeRuns ∧ s.nextBox = some m ∧ b.op = op ∧ row b.payload = true then
    answerBadop 32 (
    if !len b.payload then answer m (.plain .badlen) s.start s
    else if !mode s b.payload then answer m (.plain .mode) s.start s
    else
      let tk := s.ticket m
      let r := own tk b.payload s
      let s := match r.ans with
        | some a => answer m a s.start r.s
        | none => r.s
      match r.done with
      | some a => complete tk a s
      | none => s)
  else s

/-- Every payload is of this row. -/
def anyRow (_ : List Byte) : Bool := true

/-- LENGTH of a command whose subcommands 0 to `n - 1` all have `len` bytes. An undefined subcommand has no LENGTH rule to
fail (R315). -/
def subLen (n len : Nat) (p : List Byte) : Bool :=
  match p with
  | [] => false
  | b :: _ => decide (n ≤ b.toNat) || p.length == len

/-- All modes. -/
def anyMode (_ : State) (_ : List Byte) : Bool := true

/-- DORMANT, SURVEY or TALLY. -/
def restMode (s : State) : Bool := s.th.mode == .dormant || s.th.mode == .survey || s.th.mode == .tally

/-- DORMANT or SURVEY. -/
def deepMode (s : State) : Bool := s.th.mode == .dormant || s.th.mode == .survey

/-- SURVEY or TALLY. -/
def stillMode (s : State) : Bool := s.th.mode == .survey || s.th.mode == .tally

/-- Payload byte `i`. -/
def pByte (p : List Byte) (i : Nat) : Nat := pNat p i 1

/-- The greatest payload of a path (R290). -/
def pathLimit (path : Nat) : Nat := if path = spiPath then 4096 else 1408

/-! ## The return stream -/

/-- A frame of the return stream closes (R203). -/
def closeReturn (s : State) : State :=
  if s.ar.items.isEmpty then s else
  let f : Frame := streamFrame 0x0680 s.lk.retSeq s.deg 1 (s.ar.items.flatMap (fun x => beBytes 16 x.toNat))
  sendReturn f { s with
    ar := { s.ar with items := [], frameCnt := s.ar.frameCnt + 1 }
    lk := { s.lk with retSeq := s.lk.retSeq + 1 } }

/-- Items of a full return frame: 88 over UDP, 256 over SPI (R203). -/
def State.frameItems (s : State) : Nat := if s.lk.regs.route = 2 then 256 else 88

/-- An item is placed in the return stream; a full frame, and one that ends with a service item, closes (R203). -/
def placeItem (x : BitVec 128) (service : Bool) (s : State) : State :=
  let s := { s with ar := { s.ar with items := s.ar.items ++ [x] } }
  if service || s.frameItems ≤ s.ar.items.length then closeReturn s else s

/-- An EPOCH marker of the return stream (R201). -/
def epochItem (e : W16) : BitVec 128 := BitVec.ofNat 128 (e.toNat * 2 ^ 112 + 0x3FF * 2 ^ 46)

end Sys2Proof.Machine
end

