-- ==== Sys2Proof/Machine/Admission.lean ====
section
/-!
DEFINITION. Admission.lean: schedule steps (R102) and the admission rules: R108, the return-output admission of R303 and
the Gallery admission of R263, each for the configuration that a command would leave.
-/
namespace Sys2Proof.Machine

/-- A step word, taken apart (R102). -/
structure StepWord where
  line : Nat
  nshot : Nat
  period : Nat
  dscale : Nat
  serve : Nat
  pwr : Nat
  pre : Nat
  deriving DecidableEq, Repr

/-- The fields of a step word (R102). -/
def stepOf (w : W64) : StepWord :=
  let x := w.toNat
  { line := bits x 55 9, nshot := bits x 43 12, period := bits x 19 24, dscale := bits x 16 3, serve := bits x 12 4,
    pwr := bits x 6 6, pre := bits x 0 6 }

/-- The dither step s_b in ns (R104). -/
def StepWord.dither (b : StepWord) : Nat := if b.dscale = 0 then 0 else 2 ^ (b.dscale - 1)

/-- A step of a bank that no SCHED_LOAD has written holds zero (DESIGN CHOICE, log 7). -/
def noStep (_ : Nat) : W64 := 0

/-- The steps of a bank: false A, true B. -/
def State.bankOf (s : State) (b : Nat) : Tab W64 := if b = 0 then s.sh.bankA else s.sh.bankB

/-- The committed length of a bank. -/
def State.lenOf (s : State) (b : Nat) : Nat := if b = 0 then s.sh.lenA else s.sh.lenB

/-- Step `n` of bank `b`. -/
def State.stepAt (s : State) (b n : Nat) : StepWord := stepOf (Tab.get noStep (s.bankOf b) n)

/-- A serve mask before any write. -/
def freshServe (_ : Nat) : W32 := 0xFFFFFFFF

/-- SH.SERVE[j]. -/
def State.serve (s : State) (j : Nat) : W32 := Tab.get freshServe s.sh.serve j

/-- Bits set among the low 32. -/
def ones (x : Nat) : Nat := ((List.range 32).filter (fun i => x.testBit i)).length

/-- What the rules of admission depend on: W, G and J in ns (R108), N_r (R303), and the link settings. -/
structure Adm where
  w : Nat
  g : Nat
  j : Nat
  nret : Nat
  regs : LinkRegs
  deriving DecidableEq, Repr

/-- The window W in ns under an AR.CFG (R163). -/
def windowOf (cfg : W32) : Nat := 128 * fld cfg 0 4 * 2 ^ fld cfg 16 2

/-- SH.CFG.GUARD, SH.FBWIN.MIN and MAX in ns. -/
def guardOf (cfg : W32) : Nat := fld cfg 16 6
def fbMin (fb : W32) : Nat := fld fb 0 8
def fbMax (fb : W32) : Nat := fld fb 16 8

/-- The configuration in force. -/
def State.adm (s : State) : Adm :=
  { w := windowOf s.ar.cfg, g := guardOf s.sh.cfg, j := fbMax s.sh.fbwin - fbMin s.sh.fbwin,
    nret := fld s.ar.xcfg 4 2 + 1, regs := s.lk.regs }

/-! ## Rules 2 to 5 of R108, in 2^-4 ns -/

/-- Driver of physical line `x` (R135). -/
def driverOf (x : Nat) : Nat := if x < 256 then x / 32 else (x - 256) / 2

/-- DLINE of physical line `x` (R135). -/
def dlineOf (x : Nat) : Nat := if x < 256 then x % 32 else 32 + (x - 256) % 2

/-- The physical line that DLINE `n` of driver `d` is. -/
def lineAt (d n : Nat) : Nat := if n < 32 then 32 * d + n else 256 + 2 * d + (n - 32)

/-- A driver before SURVEY. -/
def freshDriver (_ : Nat) : Driver :=
  { present := false, fs := 0, width := 0, eyeLim := 0xFFFFFFFF, seq := 0, queue := [], repeatPoll := none,
    repeatCmd := none, fails := 0, linkOk := false, answered := false, alarm := false, id := 0, dis := false, selErr := false, selErrAt := none, ovt := false,
    uvlo := false, selCnt := 0, flt := false, temp := 0, voids := 0, lastVoid := 0, pulses := [], fbAsk := false,
    fbStep := 0, fbMatch := 0, fbSamples := [], test := [], testFb := [], spent := [], blind := none }

/-- Driver `d`. -/
def State.driver (s : State) (d : Nat) : Driver := Tab.get freshDriver s.em.drivers d

/-- The physical line of logical line `l` (P.LINEMAP). -/
def State.pline (s : State) (l : Nat) : Nat := (pread s (0x01000800 + 4 * l)).toNat % 512

/-- Rule 2, and the presence of the driver that the line leads to (R135). -/
def rule2 (s : State) (b : StepWord) : Bool :=
  b.line ≤ 255 && b.pwr ≤ 36 && s.serve b.serve != 0 && (s.driver (driverOf (s.pline b.line))).present

/-- Rule 3: P_b - 254 s_b >= 250 ns. -/
def rule3 (b : StepWord) : Bool := 16 * (254 * b.dither + 250) ≤ b.period

/-- Rule 4: P_b + 256 ns × PRE_b - 127 (s_a + s_b) >= W + G + J + 200 ns, with `a` the step before `b`. -/
def rule4 (c : Adm) (a b : StepWord) : Bool :=
  16 * (c.w + c.g + c.j + 200 + 127 * (a.dither + b.dither)) ≤ b.period + 4096 * b.pre

/-- Rule 5: ceil((W + G) / (P_b - 254 s_b - J)) <= 4. -/
def rule5 (c : Adm) (b : StepWord) : Bool :=
  16 * (254 * b.dither + c.j) < b.period && 16 * (c.w + c.g) ≤ 4 * (b.period - 16 * (254 * b.dither + c.j))

/-- The lowest of rules 2 to 5 that a step fails. `lo` is the lowest rule judged (3 for R110). -/
def stepFails (s : State) (c : Adm) (lo : Nat) (a b : StepWord) : Option Nat :=
  if lo ≤ 2 ∧ rule2 s b = false then some 2
  else if rule3 b = false then some 3
  else if rule4 c a b = false then some 4
  else if rule5 c b = false then some 5
  else none

/-- The step before step `n` of `len`, cyclically. -/
def prevStep (n len : Nat) : Nat := if n = 0 then len - 1 else n - 1

/-- The step after step `n` of `len`, cyclically. -/
def nextStep (n len : Nat) : Nat := if n + 1 < len then n + 1 else 0

/-! ## Rule 6 (R303) -/

/-- Bit rate in Mb/s of LK.PCFG.RATE. -/
def rateOf (pcfg : W32) : Nat := match fld pcfg 1 2 with | 0 => 10000 | 1 => 5000 | _ => 2500

/-- R of the host path: the lowest rate among enabled ports, if any is enabled. -/
def LinkRegs.hostRate (r : LinkRegs) : Option Nat :=
  (([0, 1].filter (fun p => bit (r.port p).pcfg 0)).map (fun p => rateOf (r.port p).pcfg)).min?

/-- A path under R303: whether it carries returns, n, H, V and R in Mb/s. -/
structure PathAdm where
  returns : Bool
  n : Nat
  h : Nat
  v : Nat
  r : Nat
  deriving DecidableEq, Repr

/-- The paths that carry returns or violation frames (R303). -/
def pathsOf (r : LinkRegs) : List PathAdm :=
  (match r.hostRate with
    | some rate => [{ returns := r.route == 1, n := 88, h := 86, v := 186, r := rate }]
    | none => []) ++
  (if r.route = 2 ∨ r.evSpi = true then
    [{ returns := r.route == 2, n := 256, h := 20, v := if r.evSpi then 120 else 0, r := r.spir }] else [])

/-- I_b. -/
def itemsOf (s : State) (c : Adm) (p : PathAdm) (b : StepWord) : Nat :=
  if p.returns then 16 * ones (s.serve b.serve).toNat * c.nret + 1 else 0

/-- Y_b. -/
def bytesOf (s : State) (c : Adm) (p : PathAdm) (b : StepWord) : Nat :=
  let i := itemsOf s c p b
  16 * i + p.h * ceilDiv i p.n + p.v

/-- Δ_b in 2^-4 ns; `b'` is the step after `b`. -/
def deltaOf (b b' : StepWord) : Int :=
  Int.ofNat ((b.nshot + 1) * b.period + 4096 * b'.pre) - Int.ofNat (16 * 127 * (b.dither + b'.dither)) - 16

/-- The test of R303 for one step and path: 8 Y_b / R <= 0.9 min(Δ_b, Δ_b'); `b''` is the step after `b'`. -/
def rule6 (s : State) (c : Adm) (p : PathAdm) (b b' b'' : StepWord) : Bool :=
  decide (Int.ofNat (8 * bytesOf s c p b * 160000) ≤ 9 * min (deltaOf b b') (deltaOf b' b'') * p.r)

/-- A step passes rule 6 on every path. -/
def stepFits (s : State) (c : Adm) (bank len n : Nat) : Bool :=
  let n' := nextStep n len
  (pathsOf c.regs).all (fun p => rule6 s c p (s.stepAt bank n) (s.stepAt bank n') (s.stepAt bank (nextStep n' len)))

/-! ## Admission of a bank -/

/-- The first step of a bank that fails one of rules `lo` to 5, with the rule. -/
def firstFail (s : State) (c : Adm) (lo bank len : Nat) : Option (Nat × Nat) :=
  (List.range len).findSome? (fun n =>
    (stepFails s c lo (s.stepAt bank (prevStep n len)) (s.stepAt bank n)).map (fun r => (n, r)))

/-- The outcome of admission (R108): the failing step and rule code, none when the bank is admitted. -/
def judge (s : State) (c : Adm) (bank len : Nat) : Option (Nat × Nat) :=
  if len = 0 ∨ 4096 < len then some (0xFFFF, 1)
  else match firstFail s c 2 bank len with
    | some f => some f
    | none => ((List.range len).find? (fun n => !stepFits s c bank len n)).map (fun n => (n, 6))

/-- The committed banks: the active one while it holds an admitted schedule, and the standby one once admitted. -/
def State.committedBanks (s : State) : List Nat :=
  (if s.sh.valid then [s.sh.active] else []) ++ (if s.sh.stby == .committed then [1 - s.sh.active] else [])

/-- The lowest failing rule of rules 3 to 6 over the committed banks, under a changed configuration (R110); with `only6`
the return-output admission alone (R303, R310). -/
def rejudge (s : State) (c : Adm) (only6 : Bool) : Option Nat :=
  s.committedBanks.findSome? (fun b =>
    let len := s.lenOf b
    match (if only6 then none else firstFail s c 3 b len) with
    | some (_, r) => some r
    | none => if (List.range len).all (stepFits s c b len) then none else some 6)

/-! ## Rule 7 (R263) -/

/-- D_b in 2^-4 ns (R263). -/
def dwellSpan (c : Adm) (b : StepWord) : Nat := b.nshot * (b.period - 16 * 254 * b.dither) + 16 * (c.w + c.g + 200)

/-- The inequality of R263 for `e` edge channels and one step, multiplied out by 11 D_b. -/
def galleryFits (s : State) (c : Adm) (e : Nat) (b : StepWord) : Bool :=
  let d := dwellSpan c b
  let items := 16 * ones (s.serve b.serve).toNat * c.nret + 1
  e * 2000000000 * d + 11 * items * 16000000000 + 11 * 15625000 * d ≤ 11 * 6000000000 * d

/-- E: the bits set in GL.ESEL when EEN = 1 (R263). -/
def State.edgeCount (s : State) : Nat :=
  if bit s.gl.cfg 0 then ((List.range 17).map (fun k => ones (Tab.get zeroW s.gl.esel k).toNat)).sum else 0

/-- The first step of a bank that R263 refuses. -/
def galleryFail (s : State) (c : Adm) (bank len : Nat) : Option Nat :=
  if bit s.gl.cfg 1 then (List.range len).find? (fun n => !galleryFits s c s.edgeCount (s.stepAt bank n)) else none

/-- The Gallery configuration is admitted over the committed banks (R263). -/
def galleryAdmits (s : State) (c : Adm) : Bool :=
  s.edgeCount * 2000000000 + 11 * 15625000 ≤ 11 * 6000000000 &&
    s.committedBanks.all (fun b => (galleryFail s c b (s.lenOf b)).isNone)

end Sys2Proof.Machine
end

