-- ==== Sys2Proof/Machine/Channels.lean ====
section
/-!
DEFINITION. Channels.lean: channels, converters and stamp queues (chapter 2), the stamp arithmetic (R86, R95), and
substitution of cores (R72, R411, R413).
-/
namespace Sys2Proof.Machine

/-- A channel right after reset: enabled, rising edges, served by its home core. -/
def freshChan (i : Nat) : Chan :=
  { cfg := 1, flags := 0, core := chanLocal i, ecnt := 0, stampCnt := 0, mergeCnt := 0, missCnt := 0, ovrCnt := 0,
    latched := none, queue := [], latch := none, ova := false, mrg := false, drop := false, gap := false,
    lastSel := none, stamps := [], recent := [], overFlag := false, results := [], shadow := [], subst := none,
    note := none }

/-- Channel `i`. -/
def State.chan (s : State) (i : Nat) : Chan := Tab.get freshChan s.fl.chans i

/-- Channel `i` changed. -/
def updChan (i : Nat) (f : Chan → Chan) (s : State) : State :=
  { s with fl := { s.fl with chans := Tab.upd freshChan s.fl.chans i f } }

/-- Core `x` changed. -/
def updCore (x : Nat) (f : Core → Core) (s : State) : State :=
  { s with fl := { s.fl with cores := Tab.upd freshCore s.fl.cores x f } }

/-- Converter `v` of core `x` changed. -/
def updConv (x v : Nat) (f : Conv → Conv) (s : State) : State :=
  { s with ca := { s.ca with convs := Tab.upd freshConv s.ca.convs (8 * x + v) f } }

/-- FL.CHCFG.EN, EDGE and HOLD. -/
def Chan.en (c : Chan) : Bool := bit c.cfg 0
def Chan.edge (c : Chan) : Nat := fld c.cfg 1 2
def Chan.hold (c : Chan) : Bool := bit c.cfg 7

/-- The flight cycle, numbered from reset: every cycle begins at an even coarse count (R55). -/
def State.cycle (s : State) : Nat := (s.uptime + s.tb.align) / 2

/-- PKT: accepted close words not yet popped (R64). -/
def Chan.pkt (c : Chan) : Nat :=
  (c.queue.filter (fun e => match e.word with | .close .. => true | .stamp .. => false)).length

/-- S15 holds a word in cycle `n` (R64, R65). -/
def Chan.valid (n : Nat) (c : Chan) : Bool :=
  match c.queue with
  | e :: _ => e.ready ≤ n
  | [] => false

/-- What the channel noted of flight cycle `n`: where nothing has happened in it yet, the state as it stands (R64). -/
def Chan.noteOf (n : Nat) (c : Chan) : CycleNote :=
  let fresh : CycleNote :=
    { n := n, depth := c.queue.length, pkt := c.pkt, valid := c.valid n, latched := c.latch.isSome,
      hold := c.hold, pushed := false, flags := 0 }
  match c.note with
  | some x => if x.n = n then x else fresh
  | none => fresh

/-- DEPTH at the start of cycle `n`. -/
def Chan.depthAt (n : Nat) (c : Chan) : Nat := (c.noteOf n).depth

/-- A word other than a dropped stamp can take the push port in cycle `n`: it began with DEPTH < 16, and no word has taken
the port in it (R58, R64). -/
def Chan.portOpen (n : Nat) (c : Chan) : Bool := c.depthAt n < 16 && !(c.noteOf n).pushed

/-- A sticky flag of FL.CHFLAG set in cycle `n`: 0 MERGE, 1 MISS, 2 OVR, 3 CNTSAT, 4 CLOSEMRG. -/
def Chan.flag (n k : Nat) (c : Chan) : Chan :=
  { c with flags := setBit c.flags k true, note := some { c.noteOf n with flags := setBit (c.noteOf n).flags k true } }

/-- What a read of FL.CHFLAG in cycle `n` leaves: the flags that were set in that cycle (R76). -/
def Chan.readFlags (n : Nat) (c : Chan) : Chan := { c with flags := c.flags &&& (c.noteOf n).flags }

/-- FL.CHCFG is written in cycle `n`. -/
def Chan.setCfg (n : Nat) (v : W32) (c : Chan) : Chan := { c with cfg := v, note := some (c.noteOf n) }

/-- Global number of the core that serves channel `i`. -/
def State.coreOf (s : State) (i : Nat) : Nat := coreNo (chanFlight i) (s.chan i).core

/-- The channels of flight `f`. -/
def flightChans (f : Nat) : List Nat := (List.range (chansOf f)).map (chanNo f)

/-- A table written anew for keys below `n`. -/
def Tab.rebuild {α : Type} [DecidableEq α] (d : Nat → α) (n : Nat) (f : Nat → α → α) (t : Tab α) : Tab α :=
  (List.range n).filterMap (fun k => let v := f k (Tab.get d t k); if v = d k then none else some (k, v))

/-- The cores of flight `f`. -/
def flightCores (f : Nat) : List Nat := (List.range (coresOf f)).map (coreNo f)

/-- The channel that core `x` serves. -/
def State.servedBy (s : State) (x : Nat) : Option Nat :=
  (flightChans (coreFlight x)).find? (fun i => s.coreOf i = x)

/-- The flights run: every mode but DORMANT, once the flight self-test has ended (R385, R394). -/
def State.flightsRun (s : State) : Bool := s.awake && s.fl.tested

/-- P.SKEW_BRD[i] as it stood when `n` SKEW_SETs had answered (R97). -/
def State.skewWord (s : State) (n i : Nat) : W32 :=
  match (s.ca.skewWas.filter (fun e => e.2.1 = i && n < e.1)).getLast? with
  | some e => e.2.2
  | none => pread s (0x01001000 + 4 * i)

/-- B of channel `i` (R96) when `n` SKEW_SETs had answered: its board skew, but zero on channels 522 and 523 while a
Colonnade receiver is selected. -/
def State.boardSkewAt (s : State) (n i : Nat) : Int :=
  if s.fl.clnLoop ∧ 522 ≤ i then 0 else signed 16 (s.skewWord n i).toNat

/-- B of channel `i` in use (R96). -/
def State.boardSkew (s : State) (i : Nat) : Int := s.boardSkewAt s.ca.skews i

/-- An interval between stamps `a` of channel `i` and `b` of channel `j` (R96), modulo 2^64 and signed (R31). -/
def State.interval (s : State) (i : Nat) (a : Stamp) (j : Nat) (b : Stamp) : Int :=
  (BitVec.ofInt 64 ((Int.ofNat b.toNat - s.boardSkew j) - (Int.ofNat a.toNat - s.boardSkew i))).toInt

/-! ## The armed converter -/

/-- The first of the seven or eight converters after `v`, in cyclic order, that `p` admits. -/
def nextConv (p : Nat → Bool) (v : Nat) : Nat → Option Nat
  | 0 => none
  | n + 1 => let u := (v + 1) % 8; if p u then some u else nextConv p u n

/-- A converter runs a stamp conversion. -/
def Core.stamping (c : Core) (v : Nat) : Bool := c.busy.any (fun kv => kv.1 = v && kv.2 = Busy.stamp)

/-- A converter is occupied. -/
def Core.occupied (c : Core) (v : Nat) : Bool := c.busy.any (fun kv => kv.1 = v)

/-- The calibration conversion of a converter, if one runs: its raw code. -/
def Core.calCode (c : Core) (v : Nat) : Option Nat :=
  c.busy.findSome? (fun kv => match kv.2 with
    | .cal code => if kv.1 = v then some code else none
    | .stamp => none)

/-- The next converter is armed: the first after `v` not occupied by a stamp conversion, whose calibration conversion is
abandoned and its sample discarded (R50, R51). -/
def armNext (x v : Nat) (s : State) : State :=
  let c := s.core x
  match nextConv (fun u => !c.stamping u) v 8 with
  | none => updCore x (fun c => { c with armed := none }) s
  | some u =>
    let s' := updCore x (fun c => { c with armed := some u, busy := Tab.erase c.busy u }) s
    if (c.calCode u).isSome then updConv x u (fun k => { k with abn := k.abn + 1 }) s' else s'

/-! ## Edges (R46 to R52) -/

/-- An edge of this polarity is selected for stamping under FL.CHCFG.EDGE. -/
def Chan.selects (c : Chan) (rising : Bool) : Bool :=
  match c.edge with | 0 => rising | 1 => !rising | 2 => true | _ => false

/-- An edge of this polarity is counted. -/
def Chan.counts (c : Chan) (rising : Bool) : Bool :=
  match c.edge with | 0 => rising | 1 => !rising | 2 => rising | _ => false

/-- The edge arrives less than 625 ps after the previous selected edge (R46). -/
def Chan.merges (c : Chan) (t : Nat) : Bool :=
  match c.lastSel with
  | some u => t < u + 640
  | none => false

/-- Stamps taken from edges in (t - 44.0 ns, t] (R52). -/
def Chan.inRotation (c : Chan) (t : Nat) : List Nat := c.stamps.filter (fun u => t < u + 45056)

/-- The edge counter, and the counted edges of the last 1 µs (R47, R48). It counts every counted edge exactly, also over the
time in which R48 lets it fall short (DESIGN CHOICE, log 80). -/
def Chan.countEdge (t : Nat) (rising : Bool) (c : Chan) : Chan :=
  if c.counts rising then
    { c with ecnt := c.ecnt + 1, recent := t :: c.recent.filter (fun u => t < u + 1024000) } else c

/-- What becomes of a selected edge (R46, R52). -/
inductive EdgeFate where
  | merged | missed | stamped
  deriving DecidableEq, Repr

/-- R46 and R52 as one choice. -/
def Chan.fate (c : Chan) (t : Nat) : EdgeFate :=
  if c.merges t then .merged else if 8 ≤ (c.inRotation t).length then .missed else .stamped

/-- Conversions of local core `k` that have not ended, oldest first. -/
def Chan.running (c : Chan) (k : Nat) : List Flying :=
  (c.results ++ c.shadow).filter (fun r => r.core = k ∧ r.done = false)

/-- The converter that takes a hit of channel `i` at `t` on core `x`: the armed one, or with none armed the one whose
occupancy has just ended (R50): that of the oldest conversion of the core whose 44.0 ns are over and whose converter no
later hit has taken. -/
def State.taker (s : State) (i x t : Nat) : Nat :=
  match (s.core x).armed with
  | some v => v
  | none =>
    let rs := (s.chan i).running (x - coreNo (chanFlight i) 0)
    match rs.find? (fun r => r.t + 45056 ≤ t && rs.all (fun q => q.conv ≠ r.conv || q.t ≤ r.t)) with
    | some r => r.conv
    | none => 0

/-- A core that begins to receive hits has its first converter armed; the spec names none, the model takes converter 0
(R72; DESIGN CHOICE, log 80). A calibration conversion on it is abandoned (R51). -/
def armFirst (x : Nat) (s : State) : State :=
  if (s.core x).armed.isNone && (s.core x).busy.all (fun kv => kv.2 ≠ Busy.stamp) then armNext x 7 s else s

/-- How far coarse count `c` lies ahead of the present one, in ns. -/
def State.aheadBy (s : State) (c : Coarse) : Int := (c - s.tb.coarse).toInt

/-- An edge at `t` (2^-10 ns of up-time) lies before coarse count `c`. -/
def State.edgeBefore (s : State) (t : Nat) (c : Coarse) : Bool :=
  decide ((t : Int) - 1024 * s.uptime < 1024 * s.aheadBy c)

/-- The core whose stamps channel `i` takes of edges at `t`: from Tsw on that of a planned substitution (R72). -/
def State.coreAt (s : State) (i t : Nat) : Nat :=
  match (s.chan i).subst with
  | some b => if s.edgeBefore t b.tsw then s.coreOf i else coreNo (chanFlight i) b.core
  | none => s.coreOf i

/-- A hit of channel `i` at `t` occupies a converter of core `x`, and the next one is armed; `keep` files the
conversion. -/
def takeHit (i x t : Nat) (keep : Nat → Chan → Chan) (s : State) : State :=
  let s := armFirst x s
  let v := s.taker i x t
  armNext x v (updCore x (fun c => { c with busy := Tab.insert c.busy v .stamp }) (updChan i (keep v) s))

/-- From Tsw - 100 ns to Tsw the new core of a planned substitution takes the channel's hits too (R72). -/
def feedNew (i t : Nat) (rising : Bool) (cn : Coarse) (code : Nat) (s : State) : State :=
  match (s.chan i).subst with
  | some b =>
    if s.edgeBefore t b.tsw && !s.edgeBefore t (b.tsw - 100) then
      takeHit i (coreNo (chanFlight i) b.core) t
        (fun v c => { c with shadow := c.shadow ++ [⟨b.core, v, t, rising, cn, code, false, false, c.ecnt, s.tb.era⟩] }) s
    else s
  | none => s

/-- A selected edge that is stamped: the armed converter takes it and the next one is armed. Its stamp belongs to the epoch in
force as the edge arrives, also where the count it latches is that of the wrap (DESIGN CHOICE, log 89). -/
def stampEdge (i t : Nat) (rising : Bool) (cn : Coarse) (code : Nat) (s : State) : State :=
  let x := s.coreAt i t
  let k := x - coreNo (chanFlight i) 0
  let s := feedNew i t rising cn code s
  takeHit i x t (fun v c => { c with
    lastSel := some t
    stamps := t :: c.inRotation t
    results := c.results ++ [⟨k, v, t, rising, cn, code, false, c.gap, c.ecnt, s.tb.era⟩]
    gap := false }) s

/-- The counted edges of the 1 µs up to `t` exceed the rate of R48. -/
def Chan.overAt (t : Nat) (c : Chan) : Bool := 1600 < (c.recent.filter (fun u => t < u + 1024000)).length

/-- An instant `t` (2^-10 ns of up-time) as a stamp. -/
def State.stampAt (s : State) (t : Nat) : Stamp := stampOf s.tb.coarse + BitVec.ofInt 64 ((t : Int) - 1024 * s.uptime)

/-- The rate check of R48 at a counted edge: CNTSAT and event 17 as the excess begins. -/
def checkRate (i t : Nat) (s : State) : State :=
  let c := s.chan i
  let now := c.overAt t
  let s := if now then markSats i c.ecnt (s.stampAt t - BitVec.ofInt 64 (s.boardSkew i)) s else s
  raiseIf (now && !c.overFlag) 17
    (updChan i (fun c => { (if now then c.flag s.cycle 3 else c) with overFlag := now }) s)

/-- The channel that input `n` feeds: CT2 and CT3, or the Colonnade receivers, feed channels 522 and 523 (R43, R44). -/
def State.inputChan (s : State) (n : Nat) : Option Nat :=
  if n < 522 then some n
  else if n < 524 then (if s.fl.clnLoop then none else some n)
  else if n < 526 ∧ s.fl.clnLoop then some (n - 2)
  else none

/-- An edge of channel `i` (R46 to R52): `t` in 2^-10 ns of up-time; `cn` the coarse count that the converter will
latch, `code` the raw code it will give. -/
def chanEdge (i t : Nat) (rising : Bool) (cn : Coarse) (code : Nat) (s : State) : State :=
  let c := s.chan i
  if !(c.en && s.flightsRun && (c.selects rising || c.counts rising)) then s else
  let lost := 32 + chanFlight i
  let s := updChan i (Chan.countEdge t rising) s
  let s :=
    if !c.selects rising then s else
    match c.fate t with
    | .merged => count lost (if lost < 64 then 1 else 0) (updChan i (fun c => { c.flag s.cycle 0 with
        lastSel := some t, mergeCnt := c.mergeCnt + 1, mrg := true, gap := true }) s)
    | .missed => count lost (if lost < 64 then 1 else 0) (updChan i (fun c => { c.flag s.cycle 1 with
        lastSel := some t, missCnt := c.missCnt + 1, drop := true, gap := true }) s)
    | .stamped => stampEdge i t rising cn code s
  if c.counts rising then checkRate i t s else s

/-- EDGE_ARRIVAL: an edge at an input whose source is not selected is neither stamped nor counted (R44). -/
def edgeArrival (n t : Nat) (rising : Bool) (cn : Coarse) (code : Nat) (s : State) : State :=
  match s.inputChan n with
  | some i => chanEdge i t rising cn code s
  | none => s

/-- EDGE_ARRIVAL. -/
def execEdgeArrival (n t : Nat) (rising : Bool) (cn : Coarse) (code : Nat) (s : State) :
    Host.Outcome State Fault Refusal :=
  act (n < 526 && code < 168) (edgeArrival n t rising cn code) s

/-! ## Substitution of cores (R72, R411, R413) -/

/-- The first whole microsecond of the coarse count at least 2 µs ahead (R411). -/
def switchInstant (c : Coarse) : Coarse := wholeMicro c 2000

/-- The spare cores chosen by substitutions that wait for their Tsw. -/
def State.chosen (s : State) (f : Nat) : List Nat :=
  (flightChans f).filterMap (fun i => (s.chan i).subst.map (fun b => coreNo f b.core))

/-- Core `x` is chosen by a substitution of another channel of the flight than `i`. -/
def State.chosenElse (s : State) (i x : Nat) : Bool :=
  (flightChans (chanFlight i)).any (fun j => j != i && (match (s.chan j).subst with
    | some b => coreNo (chanFlight i) b.core == x
    | none => false))

/-- The lowest ready spare for channel `i`: a spare of its flight in STATE 0 with every CONVOK bit set, which no other channel
has chosen (R411). -/
def State.readySpare (s : State) (i : Nat) : Option Nat :=
  (spareCores (chanFlight i)).find? (fun x => (s.core x).state = 0 && s.convOk x && !s.chosenElse i x)

/-- P.AV_CORERET word and bit of core `x`. -/
def coreRetAddr (x : Nat) : Nat := 0x01000704 + 4 * (x / 32)

/-- A core is retired: STATE 3, its bit in P.AV_CORERET, event 196, and event 197 when the flight's spare count reaches
zero (R411). -/
def retire (x : Nat) (s : State) : State :=
  let before := s.sparesOf (coreFlight x)
  let s := updCore x (fun c => { c with state := 3, chan := 0 }) s
  let s := (commitChanged (coreRetAddr x) (· ||| w32 (2 ^ (x % 32))) s).2
  let after := s.sparesOf (coreFlight x)
  settle (raises ([196] ++ (if before ≠ 0 ∧ after = 0 then [197] else [])) s)

/-- A substitution of channel `i` is planned onto core `x` at `tsw`. -/
def planSwitch (i x : Nat) (tsw : Coarse) (fault : Option Nat) (s : State) : State :=
  updChan i (fun c => { c with subst := some { core := x - coreNo (chanFlight i) 0, tsw := tsw, fault := fault } }) s

/-- A core fault on a core that serves channel `i`: the next ready spare is taken at Tsw; with none ready the channel
stays on its core and the fault stays outstanding (R411). -/
def planRepair (i : Nat) (code : Nat) (s : State) : State :=
  match s.readySpare i with
  | some x => planSwitch i x (switchInstant s.tb.coarse) (some code) s
  | none => updChan i (fun c => { c with subst := none }) s

/-- A core fault (codes 0x0101, 0x0102, R411 and R413): a serving core is substituted, any other is retired at once; a
spare that had been chosen is withdrawn and the next one is chosen. A fault that is outstanding already is not detected
again. -/
def coreFault (code x : Nat) (s : State) : State :=
  let f := coreFlight x
  if s.outstanding code x ∨ (s.core x).state = 3 then s else
  match s.servedBy x with
  | some i => planRepair i code (detect code x 1 true s)
  | none =>
    let waiting := (flightChans f).filter (fun i =>
      match (s.chan i).subst with
      | some b => coreNo f b.core = x
      | none => false)
    let s := retire x s
    let s := detect code x 2 (s.sparesOf f = 0) s
    waiting.foldl (fun s i =>
      match (s.chan i).subst with
      | some { fault := some fc, .. } => planRepair i fc s
      | _ => updChan i (fun c => { c with subst := none }) s) s

/-- A serving core that is retired or has an outstanding fault, with the fault's code. -/
def State.unfit (s : State) : List (Nat × Option Nat) :=
  (s.av.outst.filter (fun f => f.code = 0x0101 ∨ f.code = 0x0102)).map (fun f => (f.unit, some f.code)) ++
    (s.fl.cores.filter (fun (c : Nat × Core) => c.2.state = 3)).map (fun (c : Nat × Core) => (c.1, none))

/-- Core faults of cores that serve no channel stop being outstanding once their flight has a spare (R408). -/
def endFreed (s : State) : State :=
  (s.av.outst.filter (fun f => (f.code == 0x0101 || f.code == 0x0102) && (s.servedBy f.unit).isNone &&
    s.sparesOf (coreFlight f.unit) != 0)).foldl (fun s f => repairId f 2 s) s

/-- Spares may have become ready: a channel whose core is retired, or has a fault that found no spare, is placed on one
(R411, R412). -/
def replanCores (s : State) : State :=
  s.unfit.foldl (fun s (x : Nat × Option Nat) =>
    match s.servedBy x.1 with
    | some i =>
      if (s.chan i).subst.isSome then s else
      (match s.readySpare i with
        | some k => planSwitch i k (switchInstant s.tb.coarse) x.2 s
        | none => s)
    | none => s) s

/-- A converter fault (R89): event 21, its last table that passed the check, and the core fault. A table that has passed
and waits for its switch is still taken; CONVOK is left to the checks. It raises event 21 at each failing check or stamp at
raw code 167, a converter that has never passed a check gets the empty table (E and W zero), and the table goes back while
FREEZE = 1 too (DESIGN CHOICE, log 90). -/
def convFault (x v : Nat) (s : State) : State :=
  coreFault 0x0101 x (raise 21 (updConv x v (fun k => { k with
    faulty := true, table := k.good, next := if k.ok then k.next else none }) s))

/-- Core `x` has a core fault that is outstanding. -/
def State.coreFaulty (s : State) (x : Nat) : Bool := s.outstanding 0x0101 x || s.outstanding 0x0102 x

/-- The switch of a channel's core (R72), once the count has reached Tsw: the channel passes to the new core; the old core is
retired where it was faulty, else free, and its core faults end (R408). Event 197 tells that the flight's spare count has
reached zero (R411). -/
def coreSwitch (i : Nat) (s : State) : State :=
  let c := s.chan i
  match c.subst with
  | none => s
  | some b =>
    if 0 < s.aheadBy b.tsw then s else
    let f := chanFlight i
    let old := s.coreOf i
    let new := coreNo f b.core
    let home := b.core = chanLocal i
    let before := s.sparesOf f
    let s := updChan i (fun c => { c with core := b.core, subst := none }) s
    let s := armFirst new (updCore new (fun k => { k with state := if home then 1 else 2, chan := chanLocal i }) s)
    let s := updCore old (fun k => { k with state := if k.state = 3 then 3 else 0, chan := 0, armed := none }) s
    let s := raiseIf (before ≠ 0 && s.sparesOf f = 0) 197 (raise 19 s)
    endFreed (replanCores (if b.fault.isSome || s.coreFaulty old then
        repair 0x0102 old 1 (repair 0x0101 old 1 (retire old s))
      else settle s))

/-! ## Converters -/

/-- The conversion of a converter's stamp that ends: the oldest of the core's that has not ended. -/
def endStamp (i k v : Nat) (c : Chan) : Chan :=
  let rec go : List Flying → List Flying
    | [] => []
    | r :: rs => if r.core = k ∧ r.conv = v ∧ r.done = false then { r with done := true } :: rs else r :: go rs
  if i < 524 then { c with results := go c.results } else c

/-- The raw code of that conversion. -/
def Chan.endingCode (c : Chan) (k v : Nat) : Option Nat :=
  (c.results.find? (fun r => r.core = k ∧ r.conv = v ∧ r.done = false)).map Flying.code

/-- The hit of a new core before Tsw, on its converter `v`, ends without a stamp (R72). -/
def endShadow (k v : Nat) (c : Chan) : Chan :=
  match c.shadow.find? (fun r => r.core = k ∧ r.conv = v) with
  | some r => { c with shadow := c.shadow.erase r }
  | none => c

/-- A converter is free again; with none armed it is armed at once (R49, R50), on a core that receives a channel. So is that of
a spare chosen for a channel, before its first hit: there it is the converter whose calibration conversion ends first
(DESIGN CHOICE, log 89). -/
def release (x v : Nat) (s : State) : State :=
  let fed := (s.servedBy x).isSome || (s.chosen (coreFlight x)).contains x
  updCore x (fun c => { c with
    busy := Tab.erase c.busy v
    armed := match c.armed with
      | some u => some u
      | none => if fed then some v else none }) s

/-- As `release`, for the end of a hit of channel `i`: a converter that a later hit took at the instant of its release
stays occupied. -/
def releaseHit (i x v : Nat) (s : State) : State :=
  if ((s.chan i).running (x - coreNo (coreFlight x) 0)).any (fun r => r.conv = v) then s else release x v s

/-- A calibration sample of raw code `code` is accepted (R81). -/
def sampleConv (code : Nat) (k : Conv) : Conv :=
  if code = 167 then { k with ovflNow := true }
  else { k with h := Tab.upd zeros k.h code (· + 1), samples := k.samples + 1 }

/-- CONVERSION_DONE (R49): the occupancy ends; a stamp's result is ready, and one at raw code 167 is a converter fault
(R89); a calibration conversion's sample is counted (R81); a hit that a new core took before Tsw gives nothing (R72). In
DORMANT the converters are stopped (R385). -/
def conversionDone (x v : Nat) (s : State) : State :=
  let c := s.core x
  if !s.flightsRun then s else
  match c.calCode v with
  | some code => updConv x v (sampleConv code) (release x v s)
  | none =>
    let k := x - coreNo (coreFlight x) 0
    match (flightChans (coreFlight x)).find? (fun i => ((s.chan i).running k).any (fun r => r.conv = v)) with
    | none => s
    | some i =>
      match (s.chan i).endingCode k v with
      | none => releaseHit i x v (updChan i (endShadow k v) s)
      | some code =>
        let s := releaseHit i x v (updChan i (endStamp i k v) s)
        if code = 167 then convFault x v s else s

/-- CONVERSION_DONE. -/
def execConversionDone (core conv : Nat) (s : State) : Host.Outcome State Fault Refusal :=
  act (core < 592 && conv < 8) (conversionDone core conv) s

/-- ARMED_HANDOVER (R80): the armed role passes on while the core serves a channel, a retired one too. -/
def armedHandover (x : Nat) (s : State) : State :=
  let c := s.core x
  if s.flightsRun ∧ (s.servedBy x).isSome = true then
    match c.armed with
    | some v =>
      match nextConv (fun u => !c.stamping u) v 7 with
      | some _ => armNext x v s
      | none => s
    | none => s
  else s

/-- ARMED_HANDOVER. -/
def execArmedHandover (core : Nat) (s : State) : Host.Outcome State Fault Refusal :=
  act (core < 592) (armedHandover core) s

/-- CALIBRATION_EDGE (R78): the next converter in cyclic order that is neither armed nor occupied takes the edge, else it
is skipped. Both failed sources deliver nothing (R79), and a retired core takes no edges, so that its converters go stale
(DESIGN CHOICE, log 80). -/
def calibrationEdge (x code : Nat) (s : State) : State :=
  let c := s.core x
  if s.flightsRun ∧ !(c.failA ∧ c.failB) ∧ c.state ≠ 3 then
    let s := updCore x (fun c => { c with edges := c.edges + 1 }) s
    match nextConv (fun u => c.armed ≠ some u && !c.occupied u) ((c.calNext + 7) % 8) 8 with
    | some u => updCore x (fun c => { c with busy := Tab.insert c.busy u (.cal code), calNext := (u + 1) % 8 }) s
    | none => s
  else s

/-- CALIBRATION_EDGE. -/
def execCalibrationEdge (core code : Nat) (s : State) : Host.Outcome State Fault Refusal :=
  act (core < 592 && code < 168) (calibrationEdge core code) s

/-! ## The stamp and the queue -/

/-- The temperature correction of S_CORE in island `f`: none in the period of measurement (R95). -/
def State.drift (s : State) (f : Nat) : Int :=
  if s.ca.period = s.ca.skewPeriod then 0
  else (Config.islandDrift f s.ca.skewPeriod.toNat s.ca.period.toNat).toInt

/-- S_CORE of core `x` in use (R95). -/
def State.sCore (s : State) (x : Nat) : Int :=
  (Tab.get Config.sCore s.ca.sCore x).toInt + s.drift (coreFlight x)

/-- S64 of channel `i` served by core `x` (R95). Temperature changes S_CORE alone; S_PIN stays as measured (DESIGN CHOICE,
log 90). -/
def State.s64 (s : State) (i x : Nat) : Int := (Config.sPin i).toInt + s.sCore x

/-- E[c] of a table. -/
def tableE (t : Tab (Nat × Nat)) (c : Nat) : Nat := (Tab.get (fun _ => (0, 0)) t c).1

/-- The stamp of a conversion (R86): Cn × 1,024 - ((E[c'] + S64 + 32) >> 6), modulo 2^64, with c' at most 166. -/
def stampValue (cn : Coarse) (e : Nat) (s64 : Int) : Stamp :=
  BitVec.ofInt 64 (Int.ofNat (cn.toNat * 1024) - (Int.ofNat e + s64 + 32) / 64)

/-- The stamp of a result of channel `i`, with the table in force (R84). -/
def State.stampOfResult (s : State) (i : Nat) (r : Flying) : Stamp :=
  let x := coreNo (chanFlight i) r.core
  stampValue r.cn (tableE (s.conv x r.conv).table (min r.code 166)) (s.s64 i x)

/-- The push port is used in cycle `n` (R58). -/
def Chan.usePort (n : Nat) (c : Chan) : Chan := { c with note := some { c.noteOf n with pushed := true } }

/-- A queue word is accepted in cycle `n`: it stands in S15 from 16 cycles after its push on (R64, R65). -/
def Chan.accept (n skews era : Nat) (w : QWord) (gap : Bool) (ecnt : BitVec 48) (c : Chan) : Chan :=
  { c.usePort n with
    queue := c.queue ++ [{ word := w, push := n, ready := n + 16, gap := gap, ecnt := ecnt, skews := skews, era := era }]
    ova := false }

/-- A word with the OVA mark that the channel owes its next accepted word (R59, R60). -/
def QWord.withOva (o : Bool) : QWord → QWord
  | .stamp st a r v k => .stamp st (a || o) r v k
  | .close m mr d g t a => .close m mr d g t (a || o)

/-- The latched close word takes the push port (R62). -/
def acceptLatch (i : Nat) (s : State) : State :=
  match (s.chan i).latch with
  | some w =>
    if (s.chan i).portOpen s.cycle then
      updChan i (fun c => { c.accept s.cycle s.ca.skews s.tb.era (w.withOva c.ova) false c.ecnt with latch := none }) s
    else s
  | none => s

/-- As flight cycle `n` ends the queue is FULL with HOLD = 0, so that the next cycle begins so (R68). One that was FULL under
HOLD is left the whole next cycle for its consumer to pop (DEDUCED, log 92). -/
def Chan.fullAfter (n : Nat) (c : Chan) : Bool :=
  c.queue.length == 16 && !c.hold && !((c.noteOf n).hold && (c.noteOf n).depth == 16)

/-- Flight cycle `n` has ended: a queue that is FULL with HOLD = 0 is a fault of its flight (R68, 0x0201). -/
def checkFull (n : Nat) (s : State) : State :=
  if !s.flightsRun then s else
  let fs := ((s.fl.chans.filter (fun c => c.2.fullAfter n)).map (fun c => chanFlight c.1)).eraseDups
  detects ((fs.filter (fun f => !s.outstanding 0x0201 f)).map (fun f => ⟨0x0201, f, 4, true, 0⟩)) s

/-- Loggia counter of stamps accepted (R428). -/
def stampCounter (i : Nat) : Nat := if i < 512 then i / 16 else 128 + (i - 512)

/-- A stamp is pushed: dropped by overrun when the cycle began with FULL = 1 (R66), else accepted. -/
def pushStamp (i : Nat) (r : Flying) (s : State) : State :=
  let st := s.stampOfResult i r
  let s := updChan i (fun c => { c with results := c.results.tail }) s
  if 16 ≤ (s.chan i).depthAt s.cycle then
    raise 16 (updChan i (fun c =>
      { (c.usePort s.cycle).flag s.cycle 2 with ovrCnt := c.ovrCnt + 1, ova := true, drop := true }) s)
  else
    count (stampCounter i) 1 (updChan i (fun c =>
      { c.accept s.cycle s.ca.skews r.era (.stamp st c.ova r.rising r.conv r.core) r.gap r.ecnt with stampCnt := c.stampCnt + 1 }) s)

/-- STAMP_PUSH (R58), at most one word in a flight cycle: a latched close word goes first in a cycle that began with DEPTH
below 16; else the oldest result, once it is ready. In DORMANT the flight is stopped (R74). -/
def stampPush (i : Nat) (s : State) : State :=
  let c := s.chan i
  if !s.flightsRun || (c.noteOf s.cycle).pushed then s else
  if c.latch.isSome ∧ c.depthAt s.cycle < 16 then acceptLatch i s
  else match c.results with
    | r :: _ => if r.done then pushStamp i r s else s
    | [] => s

/-- STAMP_PUSH. -/
def execStampPush (ch : Nat) (s : State) : Host.Outcome State Fault Refusal := act (ch < 524) (stampPush ch) s

/-- CLOSE_WORD_RETRY (R62). -/
def closeWordRetry (i : Nat) (s : State) : State := if s.flightsRun then acceptLatch i s else s

/-- CLOSE_WORD_RETRY. -/
def execCloseWordRetry (ch : Nat) (s : State) : Host.Outcome State Fault Refusal :=
  act (ch < 524) (closeWordRetry ch) s

/-- A close word offered while another waits in the latch merges into it (R62). -/
def QWord.mergeClose (gen tag : Nat) (mrg drop : Bool) : QWord → QWord
  | .close _ mr d _ _ o => .close true (mr || mrg) (d || drop) gen tag o
  | w => w

/-- A close word presented in cycle `n` merges: the retry latch is occupied, or was as the cycle began (R62, R67). -/
def Chan.mergesClose (n : Nat) (c : Chan) : Bool := c.en && (c.latch.isSome || (c.noteOf n).latched)

/-- The newest queue word merges a further close word. -/
def mergeLast (gen tag : Nat) (mrg drop : Bool) : List QEntry → List QEntry
  | [] => []
  | [e] => [{ e with word := e.word.mergeClose gen tag mrg drop }]
  | e :: es => e :: mergeLast gen tag mrg drop es

/-- A close word of shot (GEN, TAG) is presented to channel `i` (R61, R62). One presented in a cycle that began with the
latch occupied merges with the latched word, also where that word has taken the push port in the cycle (R67). With an empty
latch it takes the push port if
the port is still free in its cycle, also beside an eligible stamp, which then waits (DESIGN CHOICE, log 80); else it goes to
the latch. -/
def presentClose (gen tag i : Nat) (s : State) : State :=
  let c := s.chan i
  if !c.en then s else
  match c.latch with
  | some w => updChan i (fun c => { c.flag s.cycle 4 with
      latch := some (w.mergeClose gen tag c.mrg c.drop), mrg := false, drop := false }) s
  | none =>
    let w : QWord := .close false c.mrg c.drop gen tag false
    if (c.noteOf s.cycle).latched then
      updChan i (fun c => { c.flag s.cycle 4 with
        queue := mergeLast gen tag c.mrg c.drop c.queue, mrg := false, drop := false }) s
    else if c.portOpen s.cycle then
      updChan i (fun c => { c.accept s.cycle s.ca.skews s.tb.era (w.withOva c.ova) false c.ecnt with
        mrg := false, drop := false }) s
    else updChan i (fun c => { c with latch := some w, mrg := false, drop := false }) s

/-- S15 of channel `i` holds a word. -/
def State.valid (s : State) (i : Nat) : Bool := (s.chan i).valid s.cycle

/-- The head word leaves; the next one reaches S15 in the following cycle at the earliest. -/
def popHead (i : Nat) (s : State) : State :=
  updChan i (fun c => { c with
    note := some (c.noteOf s.cycle)
    queue := match c.queue with
      | _ :: e :: q => { e with ready := max e.ready (s.cycle + 1) } :: q
      | _ => [] }) s

/-- The 80 bits of a queue word (R59, R60), as 10 bytes. -/
def QWord.bytes : QWord → List Byte
  | .stamp st o r v k => beBytes 8 st.toNat ++
      beBytes 2 (put (b2n o) 14 1 + put (if r then 0 else 1) 12 2 + put v 9 3 + put k 4 5)
  | .close m mr d g t o => beBytes 10 (put (b2n m) 41 1 + put (b2n mr) 40 1 + put (b2n d) 39 1 + put g 29 8 +
      put t 16 13 + 2 ^ 15 + put (b2n o) 14 1 + 2 * 2 ^ 12)

/-- FL.ECNT_LO latches the channel's other counters (R73). -/
def latchCounts (i : Nat) (s : State) : State :=
  updChan i (fun c => { c with latched := some ((c.ecnt >>> 32).truncate 16, c.stampCnt, c.mergeCnt, c.missCnt, c.ovrCnt) }) s

/-- FL_ECNT_LO_READ. -/
def execFlEcntLoRead (ch : Nat) (s : State) : Host.Outcome State Fault Refusal := act (ch < 524) (latchCounts ch) s

end Sys2Proof.Machine
end

