-- ==== Sys2Proof/Machine/TimeBase.lean ====
section
/-!
DEFINITION. TimeBase.lean: reference states, holdover, PPS_IN and TB_CFG (chapter 1). Epoch changes are in Epoch.lean.
-/
namespace Sys2Proof.Machine

/-- TB.CFG and TB.HOLD fields. -/
def TimeBase.refEn (t : TimeBase) : Bool := bit t.cfg 4
def TimeBase.ppsEn (t : TimeBase) : Bool := bit t.cfg 7
def TimeBase.xsens (t : TimeBase) : Nat := fld t.cfg 12 4
def TimeBase.uncert (t : TimeBase) : Nat := fld t.hold 16 8
def TimeBase.terrMax (t : TimeBase) : Nat := fld t.hold 8 8
def TimeBase.holdMax (t : TimeBase) : Nat := fld t.hold 0 8

/-- TB.HOLDTIME in ms: of the running span, else of the last one (R22, R23). -/
def State.holdTime (s : State) : Nat :=
  match s.tb.span with
  | some u => sat32 ((s.uptime - u) / 1000000)
  | none => s.tb.holdMs.toNat

/-- REFIN is qualified: ACQUIRE or LOCKED (R14). -/
def TbState.qualified (t : TbState) : Bool := t == .acquire || t == .locked

/-- A span begins (R22). Its first temperature is that of the last 10 ms update, also where the same TB_CFG selects another
sensor (DESIGN CHOICE, log 89). -/
def startSpan (s : State) : State :=
  { s with tb := { s.tb with span := some s.uptime, terr := 0, holdMs := 0, theta0 := s.tb.theta } }

/-- A declaration of REFIN loss (R14, R15): event 8; LOCKED goes to HOLDOVER and a span begins; ACQUIRE goes back to the
state it was entered from, and in FREERUN after the start-up qualification time a span runs (R21; DEDUCED, log 11). -/
def declareLoss (s : State) : State :=
  raise 8 (match s.tb.state with
    | .locked => startSpan { s with tb := { s.tb with state := .holdover, lossSeen := true, badGates := 0 } }
    | .acquire =>
      let s := { s with tb := { s.tb with
        state := if s.tb.fromHold then .holdover else .freerun, lossSeen := true, badGates := 0 } }
      if !s.tb.fromHold && s.tb.refEn && s.tb.startQual && s.tb.span.isNone then startSpan s else s
    | _ => s)

/-- REFIN_ABSENCE (R14): no edge for four periods. -/
def refinAbsence (s : State) : State :=
  let s := { s with tb := { s.tb with refPres := false } }
  if s.tb.state.qualified then declareLoss s else s

/-- REFIN_ABSENCE. -/
def execRefinAbsence (s : State) : Host.Outcome State Fault Refusal := act true refinAbsence s

/-- A persistent word read as a signed number. -/
def preadInt (s : State) (a : Nat) : Int := (pread s a).toInt

/-- The words of the polynomial of R18. -/
def polyWords : List Nat := [0x01000204, 0x01000208, 0x0100020C, 0x01000210]

/-- The polynomial part of R18, in 2^-33 ppb, at temperature `theta` (0.125 °C). -/
def State.polynomial (s : State) (theta : Int) : Int :=
  let t := theta - 200
  preadInt s 0x01000204 * 2 ^ 25 + preadInt s 0x01000208 * t * 2 ^ 18 + preadInt s 0x0100020C * t * t * 2 ^ 11 +
    preadInt s 0x01000210 * t * t * t

/-- The crystal error y of R18, in 2^-33 ppb, at temperature `theta` (0.125 °C). -/
def State.crystal (s : State) (theta : Int) : Int := s.polynomial theta + s.tb.learn.toInt * 2 ^ 25

/-- The temperature that the time base uses: of the selected sensor while it is valid (R18, R20). -/
def State.theta (s : State) : Int := if s.tb.xsensOk then (s.sens s.tb.xsens).reading else s.tb.theta

/-- A gate of LOCKED operation adds its residual, the measured crystal error less the polynomial part (R19). -/
def learnGate (y : Int) (s : State) : State :=
  if s.tb.state = .locked then
    let s := checkReads polyWords s
    { s with tb := { s.tb with gates := s.tb.gates + 1, residual := s.tb.residual + (y - s.polynomial s.theta) } }
  else s

/-- FREQUENCY_GATE (R14, R18, R19): the gate's verdict, offset and measured crystal error; two bad gates in a row declare a
loss. REFPRES, cleared by an absence, sets again at a gate in window (R15 does not say when; DESIGN CHOICE, log 79). -/
def frequencyGate (ok : Bool) (ofs : W32) (y : Int) (s : State) : State :=
  let s := learnGate y { s with tb := { s.tb with
    refFok := ok, refPres := s.tb.refPres || ok, refofs := ofs, badGates := if ok then 0 else s.tb.badGates + 1 } }
  if s.tb.state.qualified && 2 ≤ s.tb.badGates then declareLoss s else s

/-- FREQUENCY_GATE. -/
def execFrequencyGate (inWindow : Bool) (ofs : W32) (y : Int) (s : State) : Host.Outcome State Fault Refusal :=
  act true (frequencyGate inWindow ofs y) s

/-- PHASE_LOSS (R14): it acts while REFIN is qualified only. -/
def phaseLoss (s : State) : State := if s.tb.state.qualified then declareLoss s else s

/-- PHASE_LOSS. -/
def execPhaseLoss (s : State) : Host.Outcome State Fault Refusal := act true phaseLoss s

/-- QUALIFICATION_END (R15): REFIN, used, present and in window, is accepted. -/
def qualificationEnd (s : State) : State :=
  if s.tb.refEn && s.tb.refPres && s.tb.refFok && !s.tb.state.qualified then
    { s with tb := { s.tb with state := .acquire, fromHold := s.tb.state == .holdover, badGates := 0 } }
  else s

/-- QUALIFICATION_END. -/
def execQualificationEnd (s : State) : Host.Outcome State Fault Refusal := act true qualificationEnd s

/-- A span ends: TB.TERR and LIMPREF clear, TB.HOLDTIME keeps its length (R23). -/
def endSpan (s : State) : State :=
  settle { s with tb := { s.tb with holdMs := w32 s.holdTime, span := none, terr := 0, limpRef := false } }

/-- ACQUIRE_COMPLETE (R17, R23). -/
def acquireComplete (s : State) : State :=
  if s.tb.state = .acquire then
    raise 9 (endSpan { s with tb := { s.tb with state := .locked, gates := 0, residual := 0 } })
  else s

/-- ACQUIRE_COMPLETE. -/
def execAcquireComplete (s : State) : Host.Outcome State Fault Refusal := act true acquireComplete s

/-- SPAN_START (R21, R22): the start-up qualification time of 20 ms has passed. -/
def spanStart (s : State) : State :=
  let s := { s with tb := { s.tb with startQual := true } }
  if s.tb.state = .freerun ∧ s.tb.refEn = true ∧ s.tb.span = none then startSpan s else s

/-- SPAN_START. -/
def execSpanStart (s : State) : Host.Outcome State Fault Refusal := act true spanStart s

/-- XTAL_UPDATE (R18, and the integration of TB.TERR under R20 and R21), in units of 5 ps. -/
def xtalUpdate (s : State) : State :=
  let s := checkReads polyWords s
  let th := s.theta
  let u := 2 * (10 * s.tb.uncert + (if s.tb.xsensOk then 0 else 200)) + 5 * (th - s.tb.theta0).natAbs
  { s with tb := { s.tb with
    theta := th, y := s.crystal th, terr := if s.tb.span.isSome then s.tb.terr + u else s.tb.terr } }

/-- XTAL_UPDATE. -/
def execXtalUpdate (s : State) : Host.Outcome State Fault Refusal := act true xtalUpdate s

/-- A limit of R21 is exceeded. -/
def State.limitExceeded (s : State) : Bool :=
  s.tb.span.isSome &&
    ((s.tb.terrMax != 0 && s.tb.terrMax * 2000000 < s.tb.terr) || (s.tb.holdMax != 0 && s.tb.holdMax * 10000 < s.holdTime))

/-- HOLD_LIMIT (R21). -/
def holdLimit (s : State) : State :=
  if s.limitExceeded && !s.tb.limpRef then settle (raise 10 { s with tb := { s.tb with limpRef := true } }) else s

/-- HOLD_LIMIT. -/
def execHoldLimit (s : State) : Host.Outcome State Fault Refusal := act true holdLimit s

/-- LEARN + (m - LEARN) / 8, in LSB (R19). -/
def learned (l m : Int) : Int :=
  let d := m - l
  l + d / 8 + (if d % 8 ≠ 0 ∧ Config.learnRound d then 1 else 0)

/-- The mean residual m of the gates, in 2^-8 ppb (R19). -/
def TimeBase.meanResidual (t : TimeBase) : Int :=
  let d := Int.ofNat (t.gates * 2 ^ 25)
  t.residual / d + (if t.residual % d ≠ 0 ∧ Config.learnMean t.residual t.gates then 1 else 0)

/-- LEARN_UPDATE (R19): the mean of the gates since LOCKED or since the last update; P.XTAL_LEARN is written at most once in
36 updates of 100 s, and only for a change of more than 5 ppb. -/
def learnUpdate (s : State) : State :=
  if s.tb.state = .locked ∧ s.tb.gates ≠ 0 then
    let l := BitVec.ofInt 32 (learned s.tb.learn.toInt s.tb.meanResidual)
    let write := decide (36 ≤ s.tb.learnSince + 1 ∧ 1280 < (l.toInt - s.tb.learnWritten.toInt).natAbs)
    let s := { s with tb := { s.tb with
      learn := l, gates := 0, residual := 0, learnSince := if write then 0 else s.tb.learnSince + 1
      learnWritten := if write then l else s.tb.learnWritten } }
    if write then commitOwn 0x01000214 l s else s
  else s

/-- LEARN_UPDATE. -/
def execLearnUpdate (s : State) : Host.Outcome State Fault Refusal := act true learnUpdate s

/-- The reload of one island after a mismatch (R26, R416): fault 0x0103 ends with the reload, but stays outstanding after
a second mismatch of the island within 60 s, and from then on until RST_N (R408). -/
def reload (s : State) (f : Nat) : State :=
  let again := match Tab.get (fun _ => none) (s.av.replicaAt.map (fun kv => (kv.1, some kv.2))) f with
    | some u => decide (s.uptime < u + 60000000000)
    | none => false
  let stands := s.outstanding 0x0103 f
  let s := detect 0x0103 f 3 true s
  let s := if again || stands then s else repair 0x0103 f 3 s
  { s with
    av := { s.av with replicaAt := Tab.insert s.av.replicaAt f s.uptime }
    tb := { s.tb with replicaOff := Tab.erase s.tb.replicaOff f } }

/-- REPLICA_COMPARE (R26): replicas struck since the last comparison are found and reloaded. -/
def replicaCompare (upsets : List (Nat × Coarse)) (s : State) : State :=
  let off := upsets.foldl (fun t fo => Tab.upd (fun _ => (0 : Coarse)) t fo.1 (· + fo.2)) s.tb.replicaOff
  (off.map Prod.fst).foldl reload { s with tb := { s.tb with replicaOff := off } }

/-- REPLICA_COMPARE. -/
def execReplicaCompare (upsets : List (Nat × Coarse)) (s : State) : Host.Outcome State Fault Refusal :=
  act (upsets.all (fun u => u.1 < 33)) (replicaCompare upsets) s

/-- TB.PPS_ERR (R35): the count modulo 10^9, mapped into -500,000,000 to 499,999,999. -/
def ppsError (c : Coarse) : Int :=
  let r := c.toNat % 1000000000
  if r < 500000000 then r else (r : Int) - 1000000000

/-- Two successive PPS edges lie 10^9 ns ± 10 µs apart (R36). -/
def ppsRegular (a b : Coarse) : Bool := ((b - a).toInt - 1000000000).natAbs ≤ 10000

/-- PPS_EDGE (R35, R36): an active edge, under TB.CFG.PPSEDGE, is latched and judged; a waiting EPOCH_SET with APPLY = 1
becomes due (R33), and runs that wait for the edge start at it (R219). The registers latch the count as it stands at the
edge, before an EPOCH_SET loads it (DESIGN CHOICE, log 79). -/
def ppsEdge (rising : Bool) (s : State) : State :=
  let s := { s with pins := { s.pins with ppsIn := rising } }
  if s.tb.ppsEn && (rising != bit s.tb.cfg 8) then
    let c := s.tb.coarse
    let off := match s.tb.ppsPrev with
      | some p => !ppsRegular p c
      | none => false
    let due := match s.tb.pend with
      | some p => if p.apply = 1 then some (s.uptime, 0) else s.tb.due
      | none => s.tb.due
    let s := startWaiters 2 c s
    raiseIf off 12 { s with tb := { s.tb with
      pps := c, ppsErr := BitVec.ofInt 32 (ppsError c), ppsPres := true, ppsPrev := some c, due := due
      ppsOk := if off then false else s.tb.ppsPrev.isSome || s.tb.ppsOk } }
  else s

/-- PPS_EDGE. -/
def execPpsEdge (rising : Bool) (s : State) : Host.Outcome State Fault Refusal := act true (ppsEdge rising) s

/-- PPS_MISSING (R36). With PPSEN = 0 PPS_IN is not judged, and PPSOK, PPSPRES and the latched count stay as they were
(DESIGN CHOICE, log 79). -/
def ppsMissing (s : State) : State :=
  if s.tb.ppsEn then raise 11 { s with tb := { s.tb with ppsOk := false, ppsPres := false } } else s

/-- PPS_MISSING. -/
def execPpsMissing (s : State) : Host.Outcome State Fault Refusal := act true ppsMissing s

/-- TB_NOW_LO_READ (R41): a read of TB.NOW_LO latches the rest of the count and the epoch. -/
def latchNow (s : State) : State :=
  { s with tb := { s.tb with nowHi := (s.tb.coarse >>> 22).truncate 32, epochL := s.tb.epoch } }

/-- TB_NOW_LO_READ. -/
def execTbNowLoRead (s : State) : Host.Outcome State Fault Refusal := act true latchNow s

/-! ## Configuration (R39) -/

/-- Writable bits of TB.CFG. -/
def tbCfgMask : W32 := 0xF193

/-- A change of REFSEL, REFEN or XSENS is accepted in DORMANT and SURVEY only. -/
def tbCfgModeOk (s : State) (new : W32) : Bool :=
  deepMode s || ((s.tb.cfg ^^^ new) &&& 0xF013) == 0

/-- TB.CFG takes a value (R22, R23): clearing REFEN ends any span and returns to FREERUN; setting it begins one once the
start-up qualification time has passed. Selecting another sensor decides XSENSOK anew, by whether that sensor is fitted and
valid (DESIGN CHOICE for a sensor that is not, log 79; R20). -/
def setTbCfg (new : W32) (s : State) : State :=
  let old := s.tb
  let s := { s with tb := { s.tb with cfg := new &&& tbCfgMask } }
  let s :=
    if old.xsens ≠ s.tb.xsens then
      let ok := s.fitted s.tb.xsens && !(s.sens s.tb.xsens).fail
      raiseIf (!ok && old.xsensOk) 15 { s with tb := { s.tb with xsensOk := ok } }
    else s
  if old.refEn && !s.tb.refEn then endSpan { s with tb := { s.tb with state := .freerun } }
  else if !old.refEn && s.tb.refEn && s.tb.startQual && s.tb.state == .freerun then startSpan s
  else s

/-- TB_CFG (R39, R329). -/
def tbCfgOwn (_ : Ticket) (p : List Byte) (s : State) : Reply :=
  let sel := pByte p 0
  let wcfg := sel.testBit 0
  let whold := sel.testBit 1
  let boot := sel.testBit 2
  let cfg := pWord p 4 &&& tbCfgMask
  let hold := pWord p 8
  if wcfg && !tbCfgModeOk s cfg then reply s (.plain .mode)
  else if (!wcfg && !whold) || (boot && !wcfg) then reply s (.badarg 0)
  else if wcfg && fld cfg 0 2 == 3 then reply s (.badarg 7)
  else if whold && fld hold 24 8 == 0 then reply s (.badarg 8)
  else
    let (ok, s) := if boot then commit 0x01000200 cfg s else (true, s)
    if !ok then reply s { status := .worn, arg := 0, data := [0, 0, 0, 0] }
    else
      let s := if wcfg then setTbCfg cfg s else s
      reply (if whold then { s with tb := { s.tb with hold := hold } } else s) (.plain .ok)

/-- TB_CFG. -/
def execTbCfg (m : Nat) (s : State) : Host.Outcome State Fault Refusal :=
  act (m < 32) (lodge m 0x0301 anyRow (fun p => p.length == 12) anyMode tbCfgOwn) s

end Sys2Proof.Machine
end

