-- ==== Sys2Proof/Machine/Calibration.lean ====
section
/-!
DEFINITION. Calibration.lean: calibration periods, tables, checks, the fill, CAL_RUN, SKEW_SET and CA.SEL (chapter 3).
-/
namespace Sys2Proof.Machine

/-- The accumulated histogram after a period (R82): the shift is left out during a fill. -/
def accumulate (fill : Bool) (acc h : Tab Nat) : Tab Nat :=
  Tab.rebuild zeros 167 (fun c a => (if fill then a else a - a / 8) + Tab.get zeros h c) acc

/-- E and W of every code (R83), from the histogram and its total. -/
def formRows (t : Nat) (acc : Tab Nat) : Nat → Nat → Nat → List (Nat × (Nat × Nat))
  | 0, _, _ => []
  | n + 1, c, below =>
    let h := Tab.get zeros acc c
    let e := (65536 * (2 * below + h) + t) / (2 * t)
    let w := min 255 ((2 * 16384 * h + t) / (2 * t))
    (if e = 0 ∧ w = 0 then [] else [(c, (e, w))]) ++ formRows t acc n (c + 1) (below + h)

/-- The bin-width table (R83): E in 2^-16 ns, W in 2^-14 ns, halves rounded up. -/
def formTable (acc : Tab Nat) : Tab (Nat × Nat) :=
  let t := Tab.sum acc
  if t = 0 then [] else formRows t acc 167 0 0

/-- W[c] of a table. -/
def tableW (t : Tab (Nat × Nat)) (c : Nat) : Nat := (Tab.get (fun _ => (0, 0)) t c).2

/-- The highest occupied code of a histogram: a code is occupied where H[c] is not zero (DESIGN CHOICE, log 81). -/
def topCode (acc : Tab Nat) : Nat := acc.foldl (fun m kv => if kv.2 = 0 then m else max m kv.1) 0

/-- The check of R89. A converter without a previous table has nothing to compare with. -/
def tablePasses (ovfl : Bool) (acc : Tab Nat) (new old : Tab (Nat × Nat)) : Bool :=
  let top := topCode acc
  !ovfl && 149 ≤ top && top ≤ 166 &&
    (List.range (top + 1)).all (fun c => 32 ≤ tableW new c && tableW new c ≤ 192) &&
    (old.isEmpty || (List.range 167).all (fun c =>
      ((tableE new c : Int) - (tableE old c : Int)).natAbs ≤ 64))

/-- What a period end does to the histograms (R82, R91): in normal operation, as the end of a fill's trimming, as one of
its four summed periods, or after them. -/
inductive PeriodKind where
  | normal | trim | sum | wait
  deriving DecidableEq, Repr

/-- The kind of the period end that now comes (R91). Where a fill starts between two ends of the grid of R81, the first end
after its start ends the trimming, and the next four are summed (DESIGN CHOICE, log 90). -/
def Calib.periodKind (c : Calib) : PeriodKind :=
  if !c.fill then .normal else if c.fillStep = 0 then .trim else if c.fillStep ≤ 4 then .sum else .wait

/-- A converter at a period end (R82, R83, R89); `clock` counts period ends that age converters. -/
def periodConv (kind : PeriodKind) (freeze : Bool) (clock : Nat) (k : Conv) : Conv :=
  let k := { k with sampLast := w32 k.samples, abnLast := k.abn, abn := 0, ovfl := k.ovflNow, ovflNow := false }
  if kind = .trim then { k with h := [], samples := 0 }
  else if freeze ∨ kind = .wait ∨ k.samples < 2 ^ 18 then k
  else if kind = .sum then { k with acc := accumulate true k.acc k.h, h := [], samples := 0, upd := clock }
  else
    let acc := accumulate false k.acc k.h
    let new := formTable acc
    let ok := tablePasses k.ovfl acc new k.table
    { k with acc := acc, h := [], samples := 0, upd := clock, next := some new, ok := ok,
             fails := if ok then 0 else k.fails + 1 }

/-- AGE of a converter (R82). -/
def State.convAge (s : State) (k : Conv) : Nat := min 255 (s.ca.clock - k.upd)

/-- STALE of a converter (R85). -/
def State.convStale (s : State) (k : Conv) : Bool := 32 ≤ s.convAge k

/-- CA.STATUS.STALE: stale converters of the 4,736 (R85). -/
def State.staleCount (s : State) : Nat :=
  (s.ca.convs.filter (fun kv => s.convStale kv.2)).length +
    (if s.convStale (freshConv 0) then 4736 - s.ca.convs.length else 0)

/-- A source whose rate over the period lies outside 200 to 300 M edges/s is replaced by the other one (R79). A period in
which the flights did not run throughout is not `judged`. -/
def periodCore (judged : Bool) (c : Core) : Core :=
  let bad := judged && (c.edges < 6400000 || 9600000 < c.edges)
  if c.state = 3 ∨ (c.failA = true ∧ c.failB = true) then { c with edges := 0 }
  else if bad then
    { c with edges := 0, srcB := !c.srcB, failA := c.failA || !c.srcB, failB := c.failB || c.srcB }
  else { c with edges := 0 }

/-- The trims of converters (R88). -/
def setTrims (ts : List (Nat × Byte)) (convs : Tab Conv) : Tab Conv :=
  ts.foldl (fun t kt => Tab.upd freshConv t kt.1 (fun k => { k with trim := kt.2.toNat })) convs

/-- CALIBRATION_PERIOD_END (R79, R81, R82, R85, R89). In DORMANT only the period is counted (R385). The first period end of
a fill ends its trimming, and records the trims (R88, R91). -/
def calibrationPeriodEnd (trims : List (Nat × Byte)) (s : State) : State :=
  let judged := s.ca.whole
  let s := { s with ca := { s.ca with period := s.ca.period + 1, whole := s.flightsRun } }
  if !s.flightsRun then s else
  let kind := s.ca.periodKind
  let clock := if s.ca.freeze then s.ca.clock else s.ca.clock + 1
  let aged := clock ≠ s.ca.clock
  let updates := (s.ca.convs.filter (fun kv => 2 ^ 18 ≤ kv.2.samples && kind == .normal && aged)).length
  let convs := Tab.remap freshConv (fun _ => periodConv kind s.ca.freeze clock) s.ca.convs
  let ca := { s.ca with
    clock := clock, convs := if kind = .trim then setTrims trims convs else convs
    fillStep := if s.ca.fill then s.ca.fillStep + 1 else 0 }
  let cores := Tab.rebuild freshCore 592 (fun _ => periodCore judged) s.fl.cores
  let switched := (List.range 592).any (fun x => (s.core x).srcB != (Tab.get freshCore cores x).srcB)
  let s := count 243 updates { s with ca := ca, fl := { s.fl with cores := cores } }
  let stale := aged && (s.ca.convs.any (fun kv => clock - kv.2.upd = 32) || (clock = 32 && s.ca.convs.length < 4736))
  let s := raises ((if stale then [20] else []) ++ (if switched then [22] else [])) s
  replanCores ((s.ca.convs.filter (fun kv => 2 ≤ kv.2.fails && kv.2.upd = clock && !kv.2.ok && aged && kind == .normal)).foldl
    (fun s kv => convFault (kv.1 / 8) (kv.1 % 8) s) s)

/-- CALIBRATION_PERIOD_END. -/
def execCalibrationPeriodEnd (trims : List (Nat × Byte)) (s : State) : Host.Outcome State Fault Refusal :=
  act (trims.all (fun t => t.1 < 4736)) (calibrationPeriodEnd trims) s

/-- A converter takes a table formed for it (R83): one that passed becomes its last good table, and after a converter fault
one that failed is not taken (R89). -/
def Conv.takeTable (t : Tab (Nat × Nat)) (k : Conv) : Conv :=
  if k.faulty ∧ k.ok = false then { k with next := none }
  else { k with table := t, next := none, good := if k.ok then t else k.good }

/-- A converter at the table switch (R83). -/
def switchConv (k : Conv) : Conv :=
  match k.next with
  | some t => k.takeTable t
  | none => k

/-- TABLE_SWITCH (R83, R94): all converters of a flight together, in a flight cycle, so not in DORMANT (R385). -/
def tableSwitch (f : Nat) (s : State) : State :=
  if s.ca.freeze || !s.flightsRun then s else
  { s with
    ca.convs := Tab.remap freshConv (fun x k => if coreFlight (x / 8) = f then switchConv k else k) s.ca.convs }

/-- TABLE_SWITCH. -/
def execTableSwitch (flight : Nat) (s : State) : Host.Outcome State Fault Refusal :=
  act (flight < 33) (tableSwitch flight) s

/-- A fill starts (R91, R94): H and h are cleared and FREEZE too; a table that waits for its switch still takes effect (R83).
The converters are kept as they were in case it is cancelled. -/
def startFill (tk : Option Ticket) (s : State) : State :=
  { s with ca := { s.ca with
      saved := some s.ca.convs, fill := true, fillStep := 0, freeze := false, calTk := tk
      convs := Tab.remap freshConv (fun _ k => { k with h := [], samples := 0, acc := [] }) s.ca.convs } }

/-- A converter at the end of a fill (R91 step 3). The table takes effect here, and a sample at raw code 167 fails it only in the
period that ended last (DESIGN CHOICE, log 90). -/
def fillConv (clock : Nat) (k : Conv) : Conv :=
  if 2 ^ 21 ≤ Tab.sum k.acc then
    let new := formTable k.acc
    let ok := tablePasses k.ovfl k.acc new k.table
    Conv.takeTable new { k with ok := ok, upd := clock, fails := if ok then 0 else k.fails + 1 }
  else k

/-- Cores with a converter fault that are not retired (R93). -/
def State.faultyCores (s : State) : List Nat :=
  (List.range 592).filter (fun x => s.outstanding 0x0101 x && (s.core x).state ≠ 3)

/-- CAL_FILL_END (R91, R93, R95). While FREEZE = 1 no converter takes a table (R94). S_CORE of the reference core F32.C00
stays its factory value. -/
def calFillEnd (r : FillResult) (s : State) : State :=
  if !s.ca.fill then s else
  let tk := s.ca.calTk
  let formed := (s.ca.convs.filter (fun kv => 2 ^ 21 ≤ Tab.sum kv.2.acc && !s.ca.freeze)).map Prod.fst
  let s := count 243 formed.length { s with ca := { s.ca with
    convs := if s.ca.freeze then s.ca.convs else Tab.remap freshConv (fun _ => fillConv s.ca.clock) s.ca.convs
    fill := false, fillDone := true, saved := none, calTk := none, skewPeriod := s.ca.period
    sCore := (r.skews.filter (fun ks => ks.1 ≠ 576)).foldl
      (fun (t : Tab (BitVec 24)) (ks : Nat × BitVec 24) => Tab.insert t ks.1 ks.2) s.ca.sCore } }
  let s := replanCores ((s.ca.convs.filter (fun kv => 2 ≤ kv.2.fails && !kv.2.ok && formed.contains kv.1)).foldl
    (fun s kv => convFault (kv.1 / 8) (kv.1 % 8) s) s)
  match tk with
  | none => s
  | some tk =>
    let bad := s.faultyCores
    complete tk { status := if bad.isEmpty then .ok else .fault, arg := 0,
                  data := beBytes 2 bad.length ++ beBytes 2 (bad.headD 0xFFFF) } s

/-- CAL_FILL_END. -/
def execCalFillEnd (r : FillResult) (s : State) : Host.Outcome State Fault Refusal :=
  act (r.skews.all (fun k => k.1 < 592)) (calFillEnd r) s

/-- A mode change cancels a fill (R93): every converter keeps its table, which the fill has not changed, and has H and the trim
of before the fill again (DESIGN CHOICE, log 81); CAL_RUN completes with MODE. -/
def cancelFill (s : State) : State :=
  if !s.ca.fill then s else
  let tk := s.ca.calTk
  let was := s.ca.saved.getD s.ca.convs
  let back := was.foldl (fun t (kv : Nat × Conv) => Tab.upd freshConv t kv.1 (fun k => { k with acc := kv.2.acc, trim := kv.2.trim }))
    (Tab.remap freshConv (fun _ k => { k with acc := [], trim := 0 }) s.ca.convs)
  let s := { s with ca := { s.ca with convs := back, saved := none, fill := false, calTk := none } }
  match tk with
  | some tk => complete tk (.plain .mode) s
  | none => s

/-- CAL_RUN (R93, R395). -/
def calRunOwn (tk : Ticket) (_ : List Byte) (s : State) : Reply :=
  if s.th.startup || s.ca.fill then reply s (.plain .busy) else reply (startFill (some tk) s) (.plain .ok)

/-- CAL_RUN. -/
def execCalRun (m : Nat) (s : State) : Host.Outcome State Fault Refusal :=
  act (m < 32) (lodge m 0x0401 anyRow (fun p => p.isEmpty) (fun s _ => s.th.mode == .survey) calRunOwn) s

/-- SKEW_SET (R97, R332). -/
def skewSetOwn (_ : Ticket) (p : List Byte) (s : State) : Reply :=
  let i := pNat p 0 2
  let n := pByte p 2
  if n = 0 ∨ 32 < n ∨ 524 < i + n then reply s (.badarg 2)
  else
    let was := (List.range n).map (fun j => (s.ca.skews + 1, i + j, pread s (0x01001000 + 4 * (i + j))))
    let (k, ok, s) := commits ((List.range n).map (fun j => (0x01001000 + 4 * (i + j), w32 (pNat p (4 + 2 * j) 2)))) s
    let s := { s with ca := { s.ca with skews := s.ca.skews + 1, skewWas := was ++ s.ca.skewWas } }
    if ok then reply s (.plain .ok) else reply s { status := .worn, arg := 0, data := beBytes 2 k ++ [0, 0] }

/-- SKEW_SET. -/
def execSkewSet (m : Nat) (s : State) : Host.Outcome State Fault Refusal :=
  act (m < 32) (lodge m 0x0402 anyRow (fun p => 4 ≤ p.length && p.length == 4 + 2 * pByte p 2) (fun s _ => restMode s)
    skewSetOwn) s

/-- TOP of the current table: the highest code with a width W[c] that is not zero (DESIGN CHOICE, log 81). -/
def tableTop (t : Tab (Nat × Nat)) : Nat := t.foldl (fun m kv => if kv.2.2 = 0 then m else max m kv.1) 0

/-- CA.CONVSTAT of a converter. -/
def State.convStat (s : State) (k : Conv) : W32 :=
  w32 (put (s.convAge k) 24 8 + put (tableTop k.table) 16 8 + put k.trim 8 8 + put (b2n k.ovfl) 2 1 +
    put (b2n (s.convStale k)) 1 1 + b2n k.ok)

/-- A write to CA.SEL (R100): the selected converter's state and whole table are copied. CORE above 591 is refused. -/
def caSelWrite (v : W32) (s : State) : State :=
  if 591 < fld v 3 10 then s else
  let k := s.conv (fld v 3 10) (fld v 0 3)
  { s with ca := { s.ca with
      sel := v &&& 0x1FFF, cStat := s.convStat k, cSamp := k.sampLast, cAbn := k.abnLast
      cTable := k.table.map (fun kv => (kv.1, w32 (put kv.2.2 24 8 + put kv.2.1 0 17))) } }

/-- CA_SEL_WRITE. -/
def execCaSelWrite (v : W32) (s : State) : Host.Outcome State Fault Refusal := act true (caSelWrite v) s

end Sys2Proof.Machine
end

