-- ==== Sys2Proof/Machine/Emitter.lean ====
section
/-!
DEFINITION. Emitter.lean: lines and drivers, SELECT words, the command channel, line substitution, diagnostics and test
passes, the fire-feedback path, EMIT_LIMIT and LINE_MAP (chapter 5, R417, R418).
-/
namespace Sys2Proof.Machine

/-- A physical line before its first test. -/
def freshLine (_ : Nat) : Line :=
  { state := 0, fkind := 0, diagDue := false, voidRun := 0, energy := 0, eyeRaised := false, lastQual := 0 }

/-- Physical line `x`. -/
def State.line (s : State) (x : Nat) : Line := Tab.get freshLine s.em.lines x

/-- Physical line `x` changed. -/
def updLine (x : Nat) (f : Line → Line) (s : State) : State :=
  { s with em := { s.em with lines := Tab.upd freshLine s.em.lines x f } }

/-- Driver `d` changed. -/
def updDriver (d : Nat) (f : Driver → Driver) (s : State) : State :=
  { s with em := { s.em with drivers := Tab.upd freshDriver s.em.drivers d f } }

/-- The drivers present (R135). -/
def State.present (s : State) : List Nat := (List.range 8).filter (fun d => (s.driver d).present)

/-- The logical line that maps to physical line `x`. -/
def State.logical (s : State) (x : Nat) : Option Nat := (List.range 256).find? (fun l => s.pline l = x)

/-- EM.LINESTAT.STATE: a mapped line that has passed its test is in use. -/
def State.lineState (s : State) (x : Nat) : Nat :=
  if (s.line x).state = 1 ∧ (s.logical x).isSome then 2 else (s.line x).state

/-- EM.CFG.VOIDLIM. -/
def State.voidLim (s : State) : Nat := fld s.em.cfg 8 8

/-! ## The FIRE pair -/

/-- Instant and length in ns of what a FIRE pair sends: 6 ns for a strobe, 64 ns for a SELECT word (R136, R138). -/
def FireOut.start : FireOut → Coarse
  | .strobe t | .select t _ => t
def FireOut.length : FireOut → Nat
  | .strobe _ => 6
  | .select .. => 64

/-- How far coarse count `c` lies after the start, in ns; before it the value is negative. -/
def FireOut.age (o : FireOut) (c : Coarse) : Int := (c - o.start).toInt

/-- What the pair sends is over by `c`. -/
def FireOut.ended (o : FireOut) (c : Coarse) : Bool := Int.ofNat o.length ≤ o.age c

/-- The level that it gives the pair in the nanosecond from `c` on: a strobe is high throughout; a SELECT word is
Manchester-coded at a half-bit of 1 ns, most significant bit first, a 1 as high then low (R136). -/
def FireOut.level (o : FireOut) (c : Coarse) : Bool :=
  let n := (o.age c).toNat
  decide (0 ≤ o.age c) && n < o.length && (match o with
    | .strobe _ => true
    | .select _ w => w.getLsbD (31 - n / 2) != (n % 2 == 1))

/-- Nothing on a FIRE pair. -/
def noFire (_ : Nat) : List FireOut := []

/-- What the FIRE pair of driver `d` sends or is about to send. -/
def State.firePair (s : State) (d : Nat) : List FireOut := Tab.get noFire s.em.fire d

/-- The level of the FIRE pair of driver `d`: low whenever nothing is sent (R136). -/
def State.fireLevel (s : State) (d : Nat) : Bool := (s.firePair d).any (fun o => o.level s.tb.coarse)

/-- Something is sent on the FIRE pair of driver `d`; nothing goes to an absent driver (R135). -/
def driveFire (d : Nat) (o : FireOut) (s : State) : State :=
  if (s.driver d).present then
    { s with em := { s.em with
      fire := Tab.put noFire s.em.fire d ((s.firePair d).filter (fun x => !x.ended s.tb.coarse) ++ [o]) } }
  else s

/-- A SELECT word (R138). -/
def selectWord (dline amp width : Nat) (diag off : Bool) : W32 :=
  let body := put dline 14 6 + put amp 8 6 + put width 4 4 + put (b2n diag) 3 1 + put (b2n off) 2 1
  w32 (0xA * 2 ^ 28 + body * 256 + crc8 20 body)

/-- Where a SELECT word with OFF begins on the pair of driver `d` (R139): 8 ns after the end of a fire strobe in progress,
or at once. -/
def State.offInstant (s : State) (d : Nat) : Coarse :=
  match (s.firePair d).find? (fun o => o.length = 6 && decide (0 ≤ o.age s.tb.coarse) && !o.ended s.tb.coarse) with
  | some o => o.start + 14
  | none => s.tb.coarse

/-- A SELECT word with OFF goes to every present driver (R139). -/
def selectOff (s : State) : State :=
  s.present.foldl (fun s d => driveFire d (.select (s.offInstant d) (selectWord 0 0 0 false true)) s) s

/-- round(256 × 2^(-AMP/15)) for AMP 0 to 30 (R152). -/
def energyTable : List Nat :=
  [256, 244, 233, 223, 213, 203, 194, 185, 177, 169, 161, 154, 147, 140, 134, 128, 122, 117, 111, 106, 102, 97, 93, 88,
    84, 81, 77, 74, 70, 67, 64]

/-- Energy of a pulse, in 2^-8 ns at full-scale current (R152). -/
def pulseEnergy (amp width : Nat) : Nat := energyTable.getD amp 0 * width

/-- A pulse is sent on a line: its energy adds to the sum (R152), and one of at least 4 ns qualifies: the line's time
starts again, and no diagnostic pulse is due (R154). -/
def charge (x amp width : Nat) (s : State) : State :=
  updLine x (fun l => { l with
    energy := l.energy + pulseEnergy amp width
    diagDue := l.diagDue && width < 4
    lastQual := if 4 ≤ width then s.uptime else l.lastQual }) s

/-! ## The command channel (R141 to R147) -/

/-- A command waits for driver `d`; nothing is sent to an absent driver (R135). -/
def queueCmd (d op arg : Nat) (s : State) : State :=
  if (s.driver d).present then updDriver d (fun r => { r with queue := r.queue ++ [⟨op, arg⟩] }) s else s

/-- A broadcast DISABLE waits, to be sent three times (R146). -/
def broadcast (arg : Nat) (s : State) : State := { s with em := { s.em with bcast := s.em.bcast ++ [(arg, 3)] } }

/-- READ_DIAG of physical line `x` is queued for its driver. -/
def readDiag (x : Nat) (s : State) : State := queueCmd (driverOf x) 4 (dlineOf x) s

/-- A command or status word (R142). -/
def emcWord (drv : Nat) (flag : Bool) (op seq arg : Nat) : BitVec 40 :=
  let body := put drv 29 3 + put (b2n flag) 28 1 + put op 24 4 + put seq 20 4 + put arg 0 20
  BitVec.ofNat 40 (body * 256 + crc8 32 body)

/-- The first driver after `d`, in cyclic order over the eight, that `p` admits; `d` itself comes first. -/
def nextDriver (p : Nat → Bool) (d : Nat) : Option Nat :=
  (List.range 8).findSome? (fun j => let u := (d + j) % 8; if p u then some u else none)

/-- An exchange with driver `d` failed (R146): it is repeated with its SEQ; the third failure in a row clears LINKOK,
raises event 35 and is fault 0x0303. -/
def exchangeFails (crc : Bool) (s : State) : State :=
  match s.em.exch with
  | none => s
  | some e =>
    let third := (s.driver e.drv).fails = 2
    let s := { s with em := { s.em with
      exch := none, retry := s.em.retry + 1, crcErr := if crc then s.em.crcErr + 1 else s.em.crcErr } }
    let s := updDriver e.drv (fun r => { r with
      fails := min 3 (r.fails + 1)
      linkOk := r.linkOk && !third
      repeatPoll := if e.queued then r.repeatPoll else some e.seq
      repeatCmd := if e.queued then some e.seq else r.repeatCmd }) s
    if third then detect 0x0303 e.drv 0 true (raise 35 s) else s

/-- A word addressed to driver `d` is sent: its SEQ is that of the failed exchange it repeats, else a new one. -/
def sendTo (d : Nat) (c : EmCmd) (queued : Bool) (again : Option Nat) (s : State) : State :=
  let seq := again.getD (((s.driver d).seq + 1) % 16)
  let s := updDriver d (fun r => { r with
    seq := if again.isSome then r.seq else seq
    repeatPoll := if queued then r.repeatPoll else none
    repeatCmd := if queued then none else r.repeatCmd }) s
  count (156 + d) 1 { s with em := { s.em with
    exch := some ⟨d, c, seq, queued⟩, emc := some ⟨s.uptime, emcWord d false c.op seq c.arg⟩, cmdLast := queued } }

/-- The level to which the part drives the EMC pair: none once it has released it, 344 ns into the link cycle (R141). -/
def State.emcLevel (s : State) : Option Bool := s.em.emc.bind (fun x => x.level s.uptime)

/-- LINK_CYCLE (R141, R145): where the coarse count is a multiple of 1,024, a broadcast DISABLE first; else a queued command,
at most every second cycle; else a POLL. -/
def linkCycle (s : State) : State :=
  if s.tb.coarse.toNat % 1024 ≠ 0 then s else
  let s := exchangeFails false s
  match s.em.bcast with
  | (arg, n) :: rest =>
    let seq := if n = 3 then (s.em.bcSeq + 1) % 16 else s.em.bcSeq
    { s with em := { s.em with
      bcSeq := seq, bcast := if n ≤ 1 then rest else (arg, n - 1) :: rest, cmdLast := false
      emc := some ⟨s.uptime, emcWord 0 true 3 seq arg⟩ } }
  | [] =>
    let wants (d : Nat) : Bool := (s.driver d).present && !(s.driver d).queue.isEmpty
    match (if s.em.cmdLast then none else nextDriver wants s.em.cmdNext) with
    | some d =>
      let c := (s.driver d).queue.headD ⟨0, 0⟩
      sendTo d c true (s.driver d).repeatCmd { s with em := { s.em with cmdNext := (d + 1) % 8 } }
    | none =>
      match nextDriver (fun d => (s.driver d).present) s.em.pollNext with
      | some d => sendTo d ⟨0, 0⟩ false (s.driver d).repeatPoll { s with em := { s.em with pollNext := (d + 1) % 8 } }
      | none => { s with em := { s.em with cmdLast := false, emc := none } }

/-- LINK_CYCLE. -/
def execLinkCycle (s : State) : Host.Outcome State Fault Refusal := act true linkCycle s

/-- STATUS_WORD_DEADLINE (R146). -/
def execStatusWordDeadline (s : State) : Host.Outcome State Fault Refusal := act true (exchangeFails false) s

/-! ## Line faults (R158, R159) -/

/-- Word and mask of P.LINEFAIL for line `x`. -/
def failAddr (x : Nat) : Nat := 0x01000440 + 4 * (x / 32)
def failBit (x : Nat) : W32 := w32 (2 ^ (x % 32))

/-- The ready spare of the driver of line `x` (R158 step 3). -/
def State.lineSpare (s : State) (x : Nat) : Option Nat :=
  [256 + 2 * driverOf x, 257 + 2 * driverOf x].find? (fun y => s.lineState y = 1)

/-- Spare `y` serves logical line `l` in place of the failed line `x` (R158 steps 4 and 5). -/
def takeSpare (x l y : Nat) (s : State) : State :=
  let (ok, s) := commit (0x01000800 + 4 * l) (w32 y) s
  if ok then repair 0x0301 x 5 (raise 33 s) else raise 34 s

/-- A fault of kind `kind` is reported on physical line `x` (R158, R159). A line marked failed is not marked again. -/
def lineFault (x kind : Nat) (s : State) : State :=
  if (s.line x).state = 3 then s else
  let s := updLine x (fun l => { l with state := 3, fkind := kind }) s
  let s := raise 32 (commitChanged (failAddr x) (· ||| failBit x) s).2
  match s.logical x with
  | none => detect 0x0301 x 0 false s
  | some l =>
    let s := detect 0x0301 x 5 true s
    match s.lineSpare x with
    | none => raise 34 s
    | some y => takeSpare x l y s

/-! ## The fire-feedback path (R417, R418) -/

/-- Bit `d` of AV.FBSYN. -/
def State.synthetic (s : State) (d : Nat) : Bool := s.av.fbSyn.testBit d

/-- Mean of (fire stamp - T_plan × 1,024) over the last 256 non-void shots of driver `d` (R418). -/
def State.fbMean (s : State) (d : Nat) : BitVec 24 :=
  let l := (s.driver d).fbSamples
  if l.isEmpty then 0 else BitVec.ofInt 24 (roundDiv l.sum (Int.ofNat l.length))

/-- AV.FBDLY[d]: frozen while bit `d` of AV.FBSYN is set (R418). -/
def State.fbDelay (s : State) (d : Nat) : BitVec 24 :=
  if s.synthetic d then Tab.get (fun _ => (0 : BitVec 24)) s.av.fbDly d else s.fbMean d

/-- Bit `d` of AV.FBSYN sets (R417 action 2). -/
def setSynthetic (d : Nat) (s : State) : State :=
  let dly := s.fbMean d
  raise 198 (updDriver d (fun r => { r with fbStep := 2, fbMatch := 0, voids := 0 }) { s with av := { s.av with
    fbSyn := s.av.fbSyn ||| 2 ^ d, fbDly := Tab.insert s.av.fbDly d dly } })

/-- The voids of driver `d` are a fire-feedback fault (R417): a ready spare core of F32 takes the FB channel, else the
driver goes to synthetic fire stamps. -/
def fbFault (d : Nat) (s : State) : State :=
  if s.outstanding 0x0302 d then s else
  let s := detect 0x0302 d 1 true s
  match s.readySpare (512 + d) with
  | some x =>
    updDriver d (fun r => { r with fbStep := 1 }) (planSwitch (512 + d) x (switchInstant s.tb.coarse) (some 0x0302) s)
  | none => setSynthetic d s

/-- FB_PATH_CHECK (R417): consecutive void shots of a driver reach VOIDLIM. After a substitution the synthetic fire stamp
follows; before it READ_DIAG of the last void line decides. -/
def fbPathCheck (d : Nat) (s : State) : State :=
  let r := s.driver d
  if r.voids < s.voidLim ∨ r.fbAsk = true ∨ s.synthetic d = true then s
  else if r.fbStep = 1 then
    if (s.chan (512 + d)).subst.isSome then s else setSynthetic d s
  else readDiag r.lastVoid (updDriver d (fun r => { r with fbAsk := true }) s)

/-- FB_PATH_CHECK. -/
def execFbPathCheck (drv : Nat) (s : State) : Host.Outcome State Fault Refusal := act (drv < 8) (fbPathCheck drv) s

/-- CORE_SWITCH (R72); of an FB channel, the driver's count of void shots starts again at Tsw (R417 action 2). -/
def switchCore (i : Nat) (s : State) : State :=
  let t := coreSwitch i s
  if 512 ≤ i ∧ i < 520 ∧ (s.chan i).subst.isSome = true ∧ (t.chan i).core ≠ (s.chan i).core then
    updDriver (i - 512) (fun r => { r with voids := 0 }) t
  else t

/-- CORE_SWITCH. -/
def execCoreSwitch (ch : Nat) (s : State) : Host.Outcome State Fault Refusal := act (ch < 524) (switchCore ch) s

/-- VOID_RUN (R156): VOIDRUN of a line reaches VOIDLIM. -/
def voidRun (x : Nat) (s : State) : State :=
  if (s.line x).voidRun = s.voidLim ∧ (s.line x).state ≠ 3 then
    readDiag x (updDriver (driverOf x) (fun r => { r with fbAsk := true }) (raise 39 s))
  else s

/-- VOID_RUN. -/
def execVoidRun (pline : Nat) (s : State) : Host.Outcome State Fault Refusal := act (pline < 272) (voidRun pline) s

/-! ## Status words -/

/-- A driver state in an answer (R144): DRVSTAT; a POLL answer's SELERR and alarms; a latched line fault, which in a test pass is
left to READ_DIAG (R157). -/
def driverState (d : Nat) (poll flt : Bool) (st : Nat) (s : State) : State :=
  let alarm := bits st 16 2 ≠ 0
  let se := poll && st.testBit 18
  let began := poll && decide alarm && !(s.driver d).alarm
  let s := updDriver d (fun r => { r with
    dis := st.testBit 19, ovt := st.testBit 17, uvlo := st.testBit 16, selCnt := bits st 0 8, flt := flt
    selErr := r.selErr || se, selErrAt := if se then some s.uptime else r.selErrAt, alarm := if poll then decide alarm else r.alarm }) s
  let s := raises ((if se then [36] else []) ++ (if began then [40] else [])) s
  let n := bits st 10 6
  let clearing := (s.driver d).queue.any (fun c => c.op = 5 ∧ c.arg = n)
  let tested := !(s.driver d).test.isEmpty
  if flt && n < 34 && bits st 8 2 != 0 && !clearing && !tested then lineFault (lineAt d n) (bits st 8 2) s else s

/-- A line of driver `d` has become ready: a failed line whose fault lasts while no spare is ready (R159, R408) is
substituted (DEDUCED, log 60). -/
def lineReady (d : Nat) (s : State) : State :=
  (s.av.outst.filter (fun i => i.code = 0x0301 && driverOf i.unit == d)).foldl (fun s i =>
    match s.logical i.unit, s.lineSpare i.unit with
    | some l, some y => takeSpare i.unit l y s
    | _, _ => s) s

/-- A line tested in the running pass passes or not (R157): with an FB stamp in range and no fault it is ready or in use;
without one a line that maps no logical line is untested, and a line in use keeps its state. -/
def judgeLine (d x : Nat) (s : State) : State :=
  let hit := (s.driver d).testFb.contains x
  let s := updDriver d (fun r => { r with test := r.test.filter (fun t => t.1 ≠ x) }) s
  if (s.line x).state = 3 then s
  else if hit then lineReady d (updLine x (fun l => { l with state := 1 }) s)
  else if (s.logical x).isSome then s
  else updLine x (fun l => { l with state := 0 }) s

/-- READ_DIAG has decided on a driver that gave no FB stamp in a test pass (R417): with pulses measured none of its lines is
marked failed; with none measured the line faults it showed are. -/
def endBlind (d : Nat) (s : State) : State :=
  let r := s.driver d
  match r.blind with
  | some (measured, shown) =>
    if !r.test.isEmpty then s
    else
      let s := updDriver d (fun r => { r with blind := none }) s
      if measured then s else shown.foldl (fun s (x : Nat × Nat) => lineFault x.1 x.2 s) s
  | none => s

/-- What READ_DIAG shows of line `x` in the ordinary case: a fault kind is a line fault (R144, R157), and voids whose pulses
were measured are a fire-feedback fault (R417). -/
def diagLine (d x kind : Nat) (asked advanced : Bool) (s : State) : State :=
  let s := if kind ≠ 0 then lineFault x kind s else s
  if asked && kind == 0 && advanced then fbFault d s else s

/-- What it shows of a driver that gave no FB stamp in its test pass (R417): pulses measured are a fire-feedback fault, and a
line fault waits for the decision. -/
def diagBlind (d x kind : Nat) (advanced : Bool) (b : Bool × List (Nat × Nat)) (s : State) : State :=
  let s := updDriver d (fun r => { r with
    blind := some (b.1 || advanced, if kind ≠ 0 then b.2 ++ [(x, kind)] else b.2) }) s
  if advanced && !b.1 then fbFault d s else s

/-- The answer to READ_DIAG (R144, R156, R157, R417); a line under test is judged. -/
def diagAnswer (d n data : Nat) (s : State) : State :=
  let x := lineAt d n
  let kind := bits data 18 2
  let pulses := bits data 0 18
  let r := s.driver d
  let advanced := decide (pulses ≠ Tab.get zeros r.pulses n)
  let s := updDriver d (fun r => { r with pulses := Tab.put zeros r.pulses n pulses, fbAsk := false }) s
  let s := match r.blind with
    | some b => diagBlind d x kind advanced b s
    | none => diagLine d x kind r.fbAsk advanced s
  endBlind d (if r.test.any (fun t => t.1 = x) then judgeLine d x s else s)

/-- A valid answer of the exchange `e` (R144, R146). -/
def answered (e : Exchange) (flt : Bool) (data : Nat) (s : State) : State :=
  let s := updDriver e.drv (fun r => { r with
    fails := 0, linkOk := true, answered := true, queue := if e.queued then r.queue.tail else r.queue }) s
  let s := repair 0x0303 e.drv 0 s
  match e.cmd.op with
  | 4 => diagAnswer e.drv (e.cmd.arg % 64) data s
  | 6 => updDriver e.drv (fun r => { r with id := data }) s
  | 7 => updDriver e.drv (fun r => { r with temp := data % 65536 }) s
  | op => driverState e.drv (op == 0) flt data s

/-- STATUS_WORD (R142, R146): a word whose start mark lies out of range is not accepted; one whose CRC or echoes are
wrong fails the exchange. -/
def statusWord (inTime : Bool) (w : BitVec 40) (s : State) : State :=
  match s.em.exch with
  | none => s
  | some e =>
    let x := w.toNat
    if !inTime then s
    else if crc8 32 (x / 256) ≠ x % 256 then exchangeFails true s
    else if bits x 37 3 = e.drv ∧ bits x 32 4 = e.cmd.op ∧ bits x 28 4 = e.seq then
      answered e (x.testBit 36) (bits x 8 20) { s with em := { s.em with exch := none } }
    else exchangeFails false s

/-- STATUS_WORD. -/
def execStatusWord (inTime : Bool) (w : BitVec 40) (s : State) : Host.Outcome State Fault Refusal :=
  act true (statusWord inTime w) s

/-! ## Budget, diagnostics and test passes -/

/-- EYE_BUDGET_INTERVAL (R152). -/
def eyeBudgetInterval (s : State) : State :=
  let clear (_ : Nat) (l : Line) : Line := { l with energy := 0, eyeRaised := false }
  { s with em := { s.em with lines := Tab.remap freshLine clear s.em.lines } }

/-- EYE_BUDGET_INTERVAL. -/
def execEyeBudgetInterval (s : State) : Host.Outcome State Fault Refusal := act true eyeBudgetInterval s

/-- DIAG_DUE (R154): a line in use has had no qualifying pulse for 256,000,000 ns. A line whose WIDTH is 4 ns or more
receives no diagnostic pulses. -/
def diagDue (x : Nat) (s : State) : State :=
  if (s.logical x).isSome && (s.driver (driverOf x)).width < 4 && (s.line x).state != 3 && (s.line x).lastQual + 256000000 ≤ s.uptime then
    updLine x (fun l => { l with diagDue := true }) s
  else s

/-- DIAG_DUE. -/
def execDiagDue (pline : Nat) (s : State) : Host.Outcome State Fault Refusal := act (pline < 272) (diagDue pline) s

/-- The words of the drivers are taken at the start of SURVEY: presence, full scale, width and budget (R135). -/
def latchDrivers (s : State) : State :=
  (List.range 8).foldl (fun s d =>
    let a := pread s (0x01000400 + 8 * d)
    updDriver d (fun r => { r with
      present := fld a 0 4 != 0, fs := fld a 16 16, width := fld a 0 4
      eyeLim := (pread s (0x01000404 + 8 * d)).toNat }) s) (checkReads ((List.range 16).map (fun k => 0x01000400 + 4 * k)) s)

/-- The units of SURVEY start (R387 step 3): the drivers' words are read, and the calibration fill begins (R91). -/
def surveyStart (s : State) : State := startFill none (latchDrivers s)

/-- The commands of the start of SURVEY after reset (R145). -/
def startDrivers (s : State) : State :=
  s.present.foldl (fun s d =>
    queueCmd d 3 0 (queueCmd d 2 0x9FFFF (queueCmd d 2 0x1FFFF (queueCmd d 1 (s.driver d).fs (queueCmd d 6 0 s))))) s

/-- What the FIRE pair sends for DLINE `n` of driver `d` in a pass that begins at `t`: a SELECT word with DIAG and AMP 30
and, 200 ns later, a strobe (R157). -/
def testWords (d n : Nat) (t : Coarse) (s : State) : List FireOut :=
  let t := t + BitVec.ofNat 54 (1024 * n)
  [.select t (selectWord n 30 (s.driver d).width true false), .strobe (t + 200)]

/-- The tests of one driver in a pass: a line per link cycle (R157). -/
def testDriver (d : Nat) (s : State) : State :=
  let w := max (s.driver d).width 4
  let t0 := s.tb.coarse
  let outs := (List.range 34).flatMap (fun n => testWords d n t0 s)
  let s := (List.range 34).foldl (fun s n => charge (lineAt d n) 30 w s) s
  let s := updDriver d (fun r => { r with
    test := (List.range 34).map (fun n => (lineAt d n, t0 + BitVec.ofNat 54 (1024 * n + 200))), testFb := []
    spent := [], blind := none }) s
  outs.foldl (fun s o => driveFire d o s) s

/-- The emitter tests of SURVEY run (R387): in SURVEY, until a change away from it begins; in a change to it, once the dwells of
the schedule are completed. -/
def State.testsRun (s : State) : Bool :=
  match s.th.pend with
  | some t => t == .survey && s.sh.dwells.isEmpty
  | none => s.th.mode == .survey

/-- TEST_PASS (R157): while the tests run and firing is not disabled; in start-up once each present driver has answered (R394
step 7). -/
def testPass (s : State) : State :=
  if s.testsRun && s.fl.tested && !s.em.dis &&
      (!s.th.startup || s.present.all (fun d => (s.driver d).answered)) then
    s.present.foldl (fun s d => testDriver d s) { s with em := { s.em with testRun := true } }
  else s

/-- TEST_PASS. -/
def execTestPass (s : State) : Host.Outcome State Fault Refusal := act true testPass s

/-- TEST_PASS_REPORT (R157, R417): READ_DIAG for each line of a driver whose FLT is set; a driver none of whose strobes
found an FB stamp is asked for one line's pulses; every other driver's lines are judged at once. -/
def testPassReport (d : Nat) (s : State) : State :=
  let r := s.driver d
  if r.test.isEmpty then s else
  let none := r.testFb.isEmpty
  let s := if none then updDriver d (fun r => { r with blind := some (false, []) }) s else s
  if r.flt then (List.range 34).foldl (fun s n => queueCmd d 4 n s) s
  else
    let s := r.test.foldl (fun s t => judgeLine d t.1 s) s
    if none then readDiag (lineAt d 33) s else s

/-- TEST_PASS_REPORT. -/
def execTestPassReport (drv : Nat) (s : State) : Host.Outcome State Fault Refusal := act (drv < 8) (testPassReport drv) s

/-- A pass ends with SURVEY: what it has not judged keeps its state. A test word or strobe that has not begun is not sent, and
the strobes that were are kept, so that their FB stamps do not count (R157). -/
def endTests (s : State) : State :=
  let c := s.tb.coarse
  let stays (o : FireOut) : Bool := decide (0 ≤ o.age c) || (match o with
    | .select _ w => bit w 10
    | .strobe _ => false)
  let past (r : Driver) : List Coarse := (r.test.map Prod.snd).filter (fun t => decide (0 ≤ (c - t).toInt))
  let stop (r : Driver) : Driver := { r with
    spent := if r.test.isEmpty then r.spent else past r, test := [], testFb := [], blind := none }
  (List.range 8).foldl (fun s d => updDriver d stop s) { s with em := { s.em with
    testRun := false, fire := if s.em.testRun then Tab.remap noFire (fun _ l => l.filter stays) s.em.fire else s.em.fire } }

/-! ## EMIT_LIMIT and LINE_MAP -/

/-- DIS goes from 0 to 1 (R151, R300); while it is 1 nothing more happens. -/
def emitDisable (s : State) : State :=
  if s.em.dis then s else raise 38 (broadcast 1 (selectOff { s with em := { s.em with dis := true } }))

/-- EMIT_LIMIT with DIS = 0 (R151): firing, if it was disabled, resumes with the first dwell whose T0 lies at least 1 µs
ahead, and DISABLE with ARG[0] = 0 is broadcast. -/
def emitEnable (s : State) : State :=
  let late (d : Dwell) : Dwell := { d with
    barred := d.barred || (s.em.dis && decide (stampDiff (stampOf d.t0) (stampOf (s.tb.coarse + 1000)) < 0)) }
  broadcast 0 { s with em := { s.em with dis := false }, sh := { s.sh with dwells := s.sh.dwells.map late } }

/-- EMIT_LIMIT (R151, R336). -/
def emitLimitOwn (_ : Ticket) (p : List Byte) (s : State) : Reply :=
  let plim := pByte p 0 % 64
  if 36 < plim then reply s (.badarg 0)
  else
    let s := { s with em := { s.em with plim := plim } }
    reply (if (pByte p 1).testBit 0 then emitDisable s else emitEnable s) (.plain .ok)

/-- EMIT_LIMIT. -/
def execEmitLimit (m : Nat) (s : State) : Host.Outcome State Fault Refusal :=
  act (m < 32) (lodge m 0x0504 anyRow (fun p => p.length == 4) anyMode emitLimitOwn) s

/-- The physical lines that a LINE_MAP names. -/
def mapEntries (p : List Byte) : List Nat := (List.range (pByte p 2)).map (fun j => pNat p (4 + 2 * j) 2)

/-- The first entry of a LINE_MAP that names a line it may not: above 271, failed, or of an absent driver (R160). -/
def badMapEntry (s : State) (xs : List Nat) : Option Nat :=
  xs.findIdx? (fun x => 271 < x || (s.line x).state == 3 || !(s.driver (driverOf x)).present)

/-- The first entry that completes a clash of two logical lines on one physical line (R160, R455). -/
def mapClash : List Nat → List Nat → Nat → Option Nat
  | [], _, _ => none
  | x :: xs, seen, j => if seen.contains x then some j else mapClash xs (x :: seen) (j + 1)

/-- A fault 0x0301 whose line no longer maps a logical line, or is no longer failed, stops being outstanding. -/
def settleLines (s : State) : State :=
  (s.av.outst.filter (fun i => i.code = 0x0301 ∧ ((s.logical i.unit).isNone ∨ (s.line i.unit).state ≠ 3))).foldl
    (fun s i => repair i.code i.unit 5 s) s

/-- LINE_MAP MAP (R160, R337); a worn word leaves the map as it was (R456). -/
def lineMapOwn (_ : Ticket) (p : List Byte) (s : State) : Reply :=
  let l := pByte p 1
  let n := pByte p 2
  let xs := mapEntries p
  if pByte p 0 ≠ 0 then reply s (.badarg 0)
  else if n = 0 ∨ 32 < n ∨ 256 < l + n then reply s (.badarg 2)
  else match badMapEntry s xs with
  | some j => reply s (.badarg (4 + 2 * j))
  | none =>
    let others := ((List.range 256).filter (fun k => k < l || l + n ≤ k)).map s.pline
    match mapClash xs others 0 with
    | some j => reply s (.badarg (4 + 2 * j))
    | none =>
      let addr (j : Nat) : Nat := 0x01000800 + 4 * (l + j)
      let old := (List.range n).map (fun j => (addr j, pread s (addr j)))
      let (k, ok, s') := commits ((List.range n).map (fun j => (addr j, w32 (xs.getD j 0)))) s
      if ok then reply (settleLines s') (.plain .ok)
      else
        let (_, _, s') := commits (old.take k) s'
        reply s' { status := .worn, arg := 0, data := [0, 0, 0, 0] }

/-- LINE_MAP. -/
def execLineMap (m : Nat) (s : State) : Host.Outcome State Fault Refusal :=
  act (m < 32) (lodge m 0x0505 (fun p => pByte p 0 != 1 || p.isEmpty)
    (fun p => p != [] && (pByte p 0 != 0 || (4 ≤ p.length && p.length == 4 + 2 * pByte p 2))) (fun s _ => restMode s) lineMapOwn) s

/-- LINE_MAP CLEARFAIL (R160, R337). -/
def clearfailOwn (_ : Ticket) (p : List Byte) (s : State) : Reply :=
  let x := pNat p 2 2
  if 271 < x ∨ (s.line x).state ≠ 3 then reply s (.badarg 2)
  else
    let (ok, s') := commitChanged (failAddr x) (· &&& ~~~(failBit x)) s
    if ok then
      let s' := updLine x (fun l => { l with state := 0, fkind := 0, voidRun := 0 }) s'
      reply (settleLines (queueCmd (driverOf x) 5 (dlineOf x) s')) (.plain .ok)
    else reply s' { status := .worn, arg := 0, data := [0, 0, 0, 0] }

/-- CLEARFAIL. -/
def execClearfail (m : Nat) (s : State) : Host.Outcome State Fault Refusal :=
  act (m < 32) (lodge m 0x0505 (fun p => pByte p 0 == 1 && !p.isEmpty) (fun p => p.length == 4) (fun s _ => deepMode s)
    clearfailOwn) s

end Sys2Proof.Machine
end

