-- ==== Sys2Proof/Machine/Shots.lean ====
section
/-!
DEFINITION. Shots.lean: the schedule, its start and stop, shot positions, the ledger, fire stamps and close words
(chapter 4).
-/
namespace Sys2Proof.Machine

/-- The next dither code (R104). -/
def ditherNext (q : Nat) : Nat :=
  let b := (b2n (q.testBit 7) + b2n (q.testBit 5) + b2n (q.testBit 4) + b2n (q.testBit 3)) % 2
  2 * q % 256 + b

/-- The dither offset of a position in 2^-4 ns (R104). -/
def ditherOffset (q dscale : Nat) : Int := if dscale = 0 then 0 else (Int.ofNat q - 128) * Int.ofNat (16 * 2 ^ (dscale - 1))

/-- T_plan = floor(t + δ) (R105). -/
def planInstant (t : Nominal) (q dscale : Nat) : Coarse := ((t + BitVec.ofInt 58 (ditherOffset q dscale)) >>> 4).truncate 54

/-- A shot ID: the number modulo 2^21 (R117). -/
def shotId (n : Nat) : Nat := n % 2 ^ 21

/-- Shot ID `a` is later than `b` (R118). -/
def idLater (a b : Nat) : Bool := let d := (a + 2 ^ 21 - b) % 2 ^ 21; 1 ≤ d && d < 2 ^ 20

/-- `a` lies before `b`, both coarse counts within half a wrap. -/
def before (a b : Coarse) : Bool := (a - b).msb

/-! ## Banks and frames -/

/-- The standby bank becomes active; the bank that was active, where one was, is standby in the loading state (R109). -/
def switchBank (s : State) : State :=
  { s with sh := { s.sh with
    active := 1 - s.sh.active, valid := true, stby := if s.sh.valid then .loading else .empty, swPend := false } }

/-- The length of a frame of bank `b` in 2^-4 ns (R103). -/
def State.frameLength (s : State) (b : Nat) : Nat :=
  ((List.range (s.lenOf b)).map (fun n => let w := s.stepAt b n; (w.nshot + 1) * w.period + 4096 * w.pre)).sum

/-- The nominal instant of frame `n` is known: the FRAME outputs of R223 and the loops of R224 take it. -/
def announceFrame (n bank : Nat) (t : Nominal) (s : State) : State :=
  let f := s.frameLength bank
  let tell (_ : Nat) (y : Sync) : Sync :=
    if fld y.cfg 30 2 = 2 then
      { y with pulses := y.pulses ++ [(n, t)], frames := if bit y.cfg 29 then y.frames ++ [(n, t, f)] else y.frames }
    else y
  { s with ms := { s.ms with syncs := s.ms.syncs.map (fun ky => (ky.1, tell ky.1 ky.2)) } }

/-- A schedule starts at step 0 with the first nominal instant `t` (R103, R104, R111). With APPLY = 2 this is at the trigger,
and q takes DSEED as it stands then (DESIGN CHOICE, log 91). -/
def startSchedule (t : Coarse) (s : State) : State :=
  let n := s.sh.frameNow + 1
  let nom : Nominal := BitVec.ofNat 58 (t.toNat * 16)
  announceFrame n s.sh.active nom { s with sh := { s.sh with
    q := fld s.sh.cfg 24 8, frameNow := n, stepNow := 0
    run := some { bank := s.sh.active, frame := n, step := 0, sidx := 0, t := nom, did := none, endStop := false
                  known := [(n, s.sh.active, nom)] } } }

/-- A change to DORMANT, SURVEY or TALLY is pending: the scheduler has stopped for it (R387 step 2). -/
def State.leaving (s : State) : Bool :=
  match s.th.pend with
  | some t => t != .sweep && t != .watch
  | none => false

/-- A schedule runs, or a SCHED_START waits for its trigger (R334). -/
def State.schedBusy (s : State) : Bool := s.sh.run.isSome || s.sh.trigStart.isSome

/-- Frames that have not begun leave the FRAME outputs when the schedule stops. -/
def dropFrames (s : State) : State :=
  { s with ms := { s.ms with syncs := s.ms.syncs.map (fun (ky : Nat × Sync) => (ky.1, { ky.2 with
      pulses := [], frames := ky.2.frames.filter (fun f => f.1 ≤ s.sh.frameNow) })) } }

/-- The schedule stops at once (R113): positions not reached are not fired, dwells none of whose positions was reached
are released without trace, and a bank that waits becomes active with event 24 (R109). -/
def stopSchedule (s : State) : State :=
  if s.sh.run.isNone then s else
  let keep := (s.sh.dwells.filter (fun d => d.reached ≠ 0)).map (fun (d : Dwell) => { d with firing := false })
  let pend := s.sh.swPend
  let s := dropFrames (selectOff { s with sh := { s.sh with run := none, armed := [], dwells := keep } })
  if pend then raise 24 (switchBank s) else s

/-- A schedule starts at `t`; one asked for while a change is pending in which the scheduler has stopped is stopped as by that
change, with event 28 (R113, R387). -/
def beginSchedule (t : Coarse) (s : State) : State :=
  let s' := startSchedule t s
  if s.leaving then raise 28 (stopSchedule s') else s'

/-- A waiting SCHED_START completes without starting (R334). -/
def dropTrigStart (st : Status) (s : State) : State :=
  match s.sh.trigStart with
  | some (_, tk) => complete tk (.plain st) { s with sh := { s.sh with trigStart := none } }
  | none => s

/-- The schedule is to stop at the end of the current frame (R113, END = 1). -/
def stopAtFrameEnd (s : State) : State :=
  match s.sh.run with
  | none => s
  | some r =>
    let n := s.sh.frameNow
    let armed := s.sh.armed.filter (fun p => p.frame = n)
    if r.frame ≠ n ∧ armed.isEmpty = true then stopSchedule s
    else
      let dids := armed.map Position.did ++ (if r.frame = n then r.did.toList else [])
      { s with sh := { s.sh with
        run := some { r with endStop := true, did := if r.frame = n then r.did else none }
        armed := armed
        dwells := s.sh.dwells.filter (fun d => d.reached ≠ 0 || dids.contains d.did) } }

/-! ## SCHED_LOAD and admission -/

/-- The standby bank's steps replaced. -/
def setStandby (f : Tab W64 → Tab W64) (s : State) : State :=
  if s.sh.active = 0 then { s with sh := { s.sh with bankB := f s.sh.bankB } }
  else { s with sh := { s.sh with bankA := f s.sh.bankA } }

/-- A bank that has been fixed for the coming frames but has not become active is withdrawn (R107): the positions of these
frames allocated already return, and the first of them starts anew from the active bank. -/
def withdrawNext (s : State) : State :=
  match s.sh.run with
  | none => s
  | some r =>
    if r.bank = s.sh.active then s else
    match (r.known.filter (fun f => f.2.1 ≠ s.sh.active)).getLast? with
    | some (n, _, t) =>
      let first (b : Nat) : BitVec 58 := let w := s.stepAt b 0; BitVec.ofNat 58 (w.period + 4096 * w.pre)
      let t := t - first r.bank + first s.sh.active
      let gone := s.sh.armed.filter (fun p => n ≤ p.frame)
      let dids := gone.map Position.did ++ r.did.toList
      let f := s.frameLength s.sh.active
      let tell (y : Sync) : Sync := { y with
        pulses := (y.pulses.filter (fun p => p.1 ≤ n)).map (fun p => if p.1 = n then (n, t) else p)
        frames := (y.frames.filter (fun p => p.1 ≤ n)).map (fun p => if p.1 = n then (n, t, f) else p) }
      { s with
        sh := { s.sh with
          q := (gone.head?.map Position.q).getD s.sh.q
          armed := s.sh.armed.filter (fun p => p.frame < n)
          dwells := s.sh.dwells.filter (fun d => !dids.contains d.did)
          run := some { r with
            bank := s.sh.active, frame := n, step := 0, sidx := 0, t := t, did := none
            known := (n, s.sh.active, t) :: r.known.filter (fun f => f.1 < n) } }
        ms := { s.ms with syncs := s.ms.syncs.map (fun ky => (ky.1, tell ky.2)) } }
    | none => s

/-- SCHED_LOAD (R107, R333): a piece, and with COMMIT the start of admission. -/
def schedLoadOwn (tk : Ticket) (p : List Byte) (s : State) : Reply :=
  let first := pNat p 0 2
  let n := pNat p 2 2
  let commit := (pByte p 4).testBit 0
  if (n = 0 ∧ commit = false) ∨ 4096 < first + n then reply s (.badarg 2)
  else if s.sh.admission.isSome then reply s (.plain .busy)
  else
    let s := setStandby (fun t => (List.range n).foldl (fun t j =>
      Tab.put noStep t (first + j) (BitVec.ofNat 64 (pNat p (8 + 8 * j) 8))) t) (withdrawNext s)
    let s := { s with sh := { s.sh with
      stby := if commit then .admission else .loading, swPend := false
      admission := if commit then some (pNat p 6 2, tk) else none } }
    reply s (.plain .ok)

/-- Length and modes of SCHED_LOAD. -/
def schedLoadLen (p : List Byte) : Bool := 8 ≤ p.length && p.length == 8 + 8 * pNat p 2 2
def schedLoadMode (s : State) (_ : List Byte) : Bool := s.th.mode != .dormant

/-- SCHED_LOAD without COMMIT. -/
def execSchedLoad (m : Nat) (s : State) : Host.Outcome State Fault Refusal :=
  act (m < 32) (lodge m 0x0501 (fun p => !(pByte p 4).testBit 0) schedLoadLen schedLoadMode schedLoadOwn) s

/-- SCHED_LOAD with COMMIT. -/
def execSchedLoadCommit (m : Nat) (s : State) : Host.Outcome State Fault Refusal :=
  act (m < 32) (lodge m 0x0501 (fun p => (pByte p 4).testBit 0) schedLoadLen schedLoadMode schedLoadOwn) s

/-- The verdict on the standby bank: R108, and R263 while a partition is being written (R265). -/
def State.verdict (s : State) (len : Nat) : Option (Nat × Nat) :=
  let b := 1 - s.sh.active
  match judge s s.adm b len with
  | some f => some f
  | none => if s.gl.writing then (galleryFail s s.adm b len).map (fun n => (n, 7)) else none

/-- ADMISSION_COMPLETE (R108, R109, R333). -/
def admissionComplete (s : State) : State :=
  match s.sh.admission with
  | none => s
  | some (len, tk) =>
    let s := { s with sh := { s.sh with admission := none } }
    match s.verdict len with
    | some (step, rule) =>
      complete tk { status := .notAdmitted, arg := rule, data := beBytes 2 step ++ [0, 0] } { s with sh := { s.sh with stby := .loading } }
    | none =>
      let s := { s with sh := { s.sh with
        stby := .committed, lenA := if s.sh.active = 0 then s.sh.lenA else len
        lenB := if s.sh.active = 0 then len else s.sh.lenB } }
      let s := if s.sh.run.isSome then { s with sh := { s.sh with swPend := true } } else switchBank s
      complete tk (.okWith [0xFF, 0xFF, 0, 0]) s

/-- ADMISSION_COMPLETE. -/
def execAdmissionComplete (s : State) : Host.Outcome State Fault Refusal := act true admissionComplete s

/-! ## SCHED_START and SCHED_STOP -/

/-- The instant K of an APPLY = 1 is refused (R111, R342): above 2^54 - 1, or ahead by less than `lead` or by more than
2^53 ns. -/
def badInstant (k lead : Nat) (now : Coarse) : Bool :=
  let a := ahead (BitVec.ofNat 54 k) now
  2 ^ 54 ≤ k || a < lead || 2 ^ 53 < a

/-- SCHED_START (R111, R334). -/
def schedStartOwn (tk : Ticket) (p : List Byte) (s : State) : Reply :=
  let apply := pByte p 0
  let k := pNat p 4 8
  if 2 < apply then reply s (.badarg 0)
  else if apply = 1 ∧ badInstant k 50000 s.tb.coarse = true then reply s (.badarg 4)
  else if apply = 2 ∧ (k < 2000 ∨ 1000000000 < k) then reply s (.badarg 4)
  else if s.schedBusy then reply s (.plain .busy)
  else if !s.sh.valid then reply s (.plain .stale)
  else if apply = 2 then reply { s with sh := { s.sh with trigStart := some (k, tk) } } (.plain .ok)
  else
    let t := if apply = 0 then wholeMicro s.tb.coarse 20000 else BitVec.ofNat 54 k
    reply (beginSchedule t s) (.okWith (beBytes 8 t.toNat))

/-- SCHED_START. -/
def execSchedStart (m : Nat) (s : State) : Host.Outcome State Fault Refusal :=
  act (m < 32) (lodge m 0x0502 anyRow (fun p => p.length == 12) (fun s _ => s.ranges) schedStartOwn) s

/-- SCHED_STOP (R113, R334, R335). -/
def schedStopOwn (_ : Ticket) (p : List Byte) (s : State) : Reply :=
  let s := dropTrigStart .stale s
  reply (if (pByte p 0).testBit 0 then stopAtFrameEnd s else stopSchedule s) (.plain .ok)

/-- SCHED_STOP. -/
def execSchedStop (m : Nat) (s : State) : Host.Outcome State Fault Refusal :=
  act (m < 32) (lodge m 0x0503 anyRow (fun p => p.length == 4) anyMode schedStopOwn) s

/-- A mode change into SWEEP or WATCH with AUTOSTART starts the schedule (R112). -/
def autostart (s : State) : State :=
  if bit s.sh.cfg 1 && s.sh.valid && !s.schedBusy then startSchedule (wholeMicro s.tb.coarse 20000) s else s

/-! ## Dwells and positions -/

/-- The power step that the throttle asks for (R150). -/
def thrPower (step : Nat) : Nat := [0, 3, 5, 8, 12, 15, 20, 27].getD step 0

/-- The thinning ratio m of a power step (R148). -/
def thinning (p : Nat) : Nat := if p ≤ 30 then 1 else 2 ^ (p - 30)

/-- Dwell `did`. -/
def State.dwell (s : State) (did : Nat) : Option Dwell := s.sh.dwells.find? (fun d => d.did = did)

/-- Dwell `did` changed. -/
def updDwell (did : Nat) (f : Dwell → Dwell) (s : State) : State :=
  { s with sh := { s.sh with dwells := s.sh.dwells.map (fun d => if d.did = did then f d else d) } }

/-- The dwell of the scheduler's next step is formed (R131, R149). -/
def formDwell (s : State) : State :=
  match s.sh.run with
  | none => s
  | some r =>
    if r.did.isSome ∨ (r.endStop = true ∧ r.frame ≠ s.sh.frameNow) then s else
    let b := s.stepAt r.bank r.step
    let p := max b.pwr (max s.em.plim (thrPower s.th.step))
    let m := thinning p
    let x := s.pline b.line
    let d : Dwell := {
      did := s.sh.nextDid, step := r.step, line := b.line, pline := x, drv := driverOf x, serve := s.serve b.serve
      pEff := p, m := m, t0 := planInstant r.t s.sh.q b.dscale, selected := false, diag := false, nplan := b.nshot / m + 1
      reached := 0, firing := true, barred := false, nfired := 0, nvoid := 0, inc := false, amb := false, short := false
      group := none, epoch := s.tb.epoch, tEnd := none, joined := false, tokens := [], swapped := [], extracted := [], satSeen := false, dead := [], late := []
      records := [], placed := false, byMap := [] }
    { s with sh := { s.sh with
      dwells := s.sh.dwells ++ [d], nextDid := s.sh.nextDid + 1, run := some { r with did := some d.did } } }

/-- EFFECTIVE_POWER_STEP (R149). -/
def execEffectivePowerStep (s : State) : Host.Outcome State Fault Refusal := act true formDwell s

/-- The positions of a dwell are withheld: firing is disabled (R151), or the line of its logical line is failed without a
spare (R159). A dwell in progress whose line a spare has replaced goes on firing: its shots are void (R158). -/
def State.blocked (s : State) (d : Dwell) : Bool :=
  let x := s.pline d.line
  s.em.dis || d.barred || ((s.line x).state == 3 && (!d.selected || x == d.pline))

/-- A position holds a ledger entry (R120). -/
def State.holds (s : State) (p : Position) : Bool :=
  !p.thin && !p.full && !(match s.dwell p.did with
    | some d => s.blocked d
    | none => false)

/-- Ledger entries held: ARMED ones of the positions ahead, and those of fired shots. -/
def State.occupancy (s : State) : Nat := s.sh.ledger.length + (s.sh.armed.filter s.holds).length

/-- SH.OCC.PEAK follows the occupancy. -/
def notePeak (s : State) : State := { s with sh := { s.sh with peak := max s.sh.peak s.occupancy } }

/-- The entry in ledger slot `tag`. -/
def State.entry (s : State) (tag : Nat) : Option Entry := (s.sh.ledger.find? (fun e => e.1 = tag)).map (fun (e : Nat × Entry) => e.2)

/-- The entry in ledger slot `tag` changed. -/
def updEntry (tag : Nat) (f : Entry → Entry) (s : State) : State :=
  { s with sh := { s.sh with ledger := s.sh.ledger.map (fun (e : Nat × Entry) => if e.1 = tag then (e.1, f e.2) else e) } }

/-- The scheduler moves on to the next position (R103, R104, R109). -/
def advance (last frameLast : Bool) (b : StepWord) (r : Sched) (s : State) : State :=
  let q := ditherNext s.sh.q
  if !last then
    { s with sh := { s.sh with q := q, run := some { r with sidx := r.sidx + 1, t := r.t + BitVec.ofNat 58 b.period } } }
  else
    let bank := if frameLast ∧ r.bank = s.sh.active ∧ s.sh.stby = .committed then 1 - r.bank else r.bank
    let step := if frameLast then 0 else r.step + 1
    let nb := s.stepAt bank step
    let t := r.t + BitVec.ofNat 58 (nb.period + 4096 * nb.pre)
    let n := if frameLast then r.frame + 1 else r.frame
    let s := { s with sh := { s.sh with
      q := q, run := some { r with
        bank := bank, frame := n, step := step, sidx := 0, t := t, did := none
        known := if frameLast then (n, bank, t) :: r.known.filter (fun f => s.sh.frameNow ≤ f.1) else r.known } } }
    if frameLast && !r.endStop then announceFrame n bank t s else s

/-- Flights whose channels have not popped the closing word of an entry (SH.LENT7.OPEN). -/
def Entry.openFlights (e : Entry) : List Nat := (e.opens.map chanFlight).eraseDups

/-- ENTRY_ALLOCATE (R106, R109, R120): the next position of the schedule is allocated. -/
def entryAllocate (s : State) : State :=
  let s := formDwell s
  match s.sh.run with
  | none => s
  | some r =>
    match r.did.bind s.dwell with
    | none => s
    | some d =>
      let b := s.stepAt r.bank r.step
      let thin := decide (r.sidx % d.m ≠ 0)
      let held := (s.sh.armed.filter s.holds).length
      let slot := (s.sh.shotNum.toNat + held) % 8192
      let busy := if thin || s.blocked d then none else s.entry slot
      let last := decide (r.sidx = b.nshot)
      let frameLast := last && decide (r.step + 1 = s.lenOf r.bank)
      let p : Position := {
        did := d.did, bank := r.bank, frame := r.frame, step := r.step, sidx := r.sidx
        tplan := planInstant r.t s.sh.q b.dscale, q := s.sh.q, thin := thin, full := busy.isSome, last := last
        frameLast := frameLast }
      let s := notePeak { s with sh := { s.sh with armed := s.sh.armed ++ [p] } }
      let s := match busy with
        | some e => detects (e.openFlights.map (fun f => ⟨0x0204, f, 4, true, 0⟩))
            (raise 27 { s with sh := { s.sh with lfullCnt := s.sh.lfullCnt + 1 } })
        | none => s
      advance last frameLast b r s

/-- ENTRY_ALLOCATE. -/
def execEntryAllocate (s : State) : Host.Outcome State Fault Refusal := act true entryAllocate s

/-- SELECT_WORD (R139): the word of the first dwell that has none yet; its line is that of the map now (R158), and DIAG is
set where the line is due (R154). -/
def selectNext (s : State) : State :=
  match s.sh.dwells.find? (fun d => !d.selected) with
  | none => s
  | some d =>
    let x := s.pline d.line
    let w := (s.driver (driverOf x)).width
    let diag := (s.line x).diagDue && w < 4
    let s := updDwell d.did (fun d => { d with selected := true, pline := x, drv := driverOf x, diag := diag }) s
    let s := updLine x (fun l => { l with diagDue := false }) s
    driveFire (driverOf x) (.select (d.t0 - 200) (selectWord (dlineOf x) (min d.pEff 30) w diag false)) s

/-- SELECT_WORD. -/
def execSelectWord (s : State) : Host.Outcome State Fault Refusal := act true selectNext s

/-- W and G in ns. -/
def State.window (s : State) : Nat := windowOf s.ar.cfg
def State.guardNs (s : State) : Nat := guardOf s.sh.cfg

/-- The latest window close of a dwell moves on (R171). -/
def Dwell.closes (t : Stamp) (d : Dwell) : Dwell :=
  { d with tEnd := match d.tEnd with
      | none => some t
      | some u => some (if 0 ≤ stampDiff t u then t else u) }

/-- T_close of a shot without fire stamp (R115). -/
def State.voidClose (s : State) (t : Coarse) : Stamp :=
  stampOf (t + BitVec.ofNat 54 (fbMax s.sh.fbwin + s.window + s.guardNs))

/-- The enabled channels that a dwell serves (R121). -/
def State.served (s : State) (d : Dwell) : List Nat :=
  (List.range 32).flatMap (fun f => if bit d.serve f then (flightChans f).filter (fun i => (s.chan i).en) else [])

/-- The epoch of an instant near the present (R28). -/
def State.epochOf (s : State) (c : Coarse) : W16 :=
  if s.tb.coarse.toNat + 2 ^ 53 < c.toNat then s.tb.epoch - 1
  else if c.toNat + 2 ^ 53 < s.tb.coarse.toNat then s.tb.epoch + 1
  else s.tb.epoch

/-- The era of an instant near the present (R28, R29). -/
def State.eraOf (s : State) (c : Coarse) : Nat :=
  if s.tb.coarse.toNat + 2 ^ 53 < c.toNat then s.tb.era - 1
  else if c.toNat + 2 ^ 53 < s.tb.coarse.toNat then s.tb.era + 1
  else s.tb.era

/-- The SHOT record of the trace (R425), of the epoch of its fire stamp, or without one of T_plan (R29). -/
def traceShot (e : Entry) (s : State) : State :=
  if bit s.av.trcfg 5 then
    let body := beBytes 3 (shotId e.num) ++ beBytes 8 e.fire.toNat ++
      beBytes 2 (put (b2n e.void) 15 1 + put (b2n e.syn) 14 1 + put e.pline 0 9) ++ [BitVec.ofNat 8 e.pwr]
    s.pushStamped (s.eraOf (if e.void then e.tplan else Stamp.coarse e.fire)) ⟨2, body⟩
  else s

/-- A shot whose served channels have all closed it is CLOSED (R121 step 5). -/
def Entry.settle (e : Entry) : Entry := if e.state = 2 ∧ e.opens.isEmpty = true then { e with state := 3 } else e

/-- A shot has its fire stamp, real or synthetic (R114, R418): it is not void, so the void runs of its line and driver end
(R156, R417). -/
def shotFired (tag : Nat) (st : Stamp) (s : State) : State :=
  match s.entry tag with
  | none => s
  | some e =>
    let s := updEntry tag (fun e => Entry.settle { e with state := 2, fire := st }) s
    let first := !s.sh.ledger.any (fun (x : Nat × Entry) =>
      x.2.did = e.did && x.1 ≠ tag && 2 ≤ x.2.state && !x.2.void)
    let ep := s.epochOf (Stamp.coarse st)
    let s := updDriver e.drv (fun r => { r with voids := 0 }) (updLine e.pline (fun l => { l with voidRun := 0 }) s)
    let s := updDwell e.did (fun d => { Dwell.closes (st + stampOf (BitVec.ofNat 54 (s.window + s.guardNs))) d with
      epoch := if first then ep else d.epoch }) s
    traceShot { e with fire := st } s

/-- A shot position fires (R105, R117, R121): `w` is the width of its light pulse. -/
def fireShot (p : Position) (d : Dwell) (w : Nat) (s : State) : State :=
  let n := s.sh.shotNum.toNat
  let tag := n % 8192
  let group := d.group.getD (shotId n)
  let opens := (s.served d).filter (fun i => !s.fl.flrst.contains (chanFlight i))
  let e : Entry := {
    num := n, did := d.did, step := p.step, sidx := p.sidx, line := d.line, pline := d.pline, drv := d.drv,
    pwr := d.pEff, q := p.q, tplan := p.tplan, fire := Config.noFireStamp n, state := 1, void := false,
    syn := s.synthetic d.drv, inc := false, amb := false, group := group, fb := none, shown := false, opens := opens }
  let s := { s with
    sh := { s.sh with shotNum := s.sh.shotNum + 1, ledger := Tab.insert s.sh.ledger tag e }
    em := { s.em with diagCnt := if d.diag then s.em.diagCnt + 1 else s.em.diagCnt } }
  let s := updDwell d.did (fun d => { d with nfired := d.nfired + 1, group := some group, diag := false }) s
  let s := count (140 + d.drv) 1 (charge d.pline (min d.pEff 30) w (driveFire d.drv (.strobe p.tplan) s))
  if e.syn then shotFired tag (stampOf p.tplan + (s.fbDelay d.drv).signExtend 64) s else s

/-- A position that is withheld ends its window as a void shot would (R171). -/
def withhold (p : Position) (s : State) : State := updDwell p.did (Dwell.closes (s.voidClose p.tplan)) s

/-- What becomes of a position at its T_plan. -/
def judgePosition (p : Position) (d : Dwell) (s : State) : State :=
  if p.thin then withhold p { s with sh := { s.sh with skipCnt := s.sh.skipCnt + 1 } }
  else if p.full then withhold p s
  else if s.blocked d then withhold p { s with em := { s.em with disCnt := s.em.disCnt + 1 } }
  else
    let r := s.driver d.drv
    let w := if d.diag then max r.width 4 else r.width
    let l := s.line d.pline
    if r.eyeLim ≠ 0xFFFFFFFF ∧ r.eyeLim < l.energy + pulseEnergy (min d.pEff 30) w then
      raiseIf (!l.eyeRaised) 37 (updLine d.pline (fun l => { l with eyeRaised := true })
        (withhold p { s with em := { s.em with eyeCnt := s.em.eyeCnt + 1 } }))
    else fireShot p d w s

/-- A frame begins at its first position (R109). -/
def beginFrame (p : Position) (s : State) : State :=
  if p.step = 0 ∧ p.sidx = 0 then
    let s := { s with sh := { s.sh with frameCnt := s.sh.frameCnt + 1 } }
    if p.bank ≠ s.sh.active then raise 24 (switchBank s) else s
  else s

/-- SHOT_POSITION (R105, R106, R113, R151, R152, R159): the next allocated position reaches its T_plan. -/
def shotPosition (s : State) : State :=
  match s.sh.armed with
  | [] => s
  | p :: ps =>
    let s := beginFrame p { s with sh := { s.sh with armed := ps, frameNow := p.frame, stepNow := p.step } }
    let s := updDwell p.did (fun d => { d with reached := d.reached + 1, firing := !p.last }) s
    let s := match s.dwell p.did with
      | some d => notePeak (judgePosition p d s)
      | none => s
    match s.sh.run with
    | some r => if p.frameLast && r.endStop then stopSchedule s else s
    | none => s

/-- SHOT_POSITION. -/
def execShotPosition (s : State) : Host.Outcome State Fault Refusal := act true shotPosition s

/-! ## Void shots and FB stamps -/

/-- A shot is void (R115, R156, R417). -/
def shotVoid (tag : Nat) (e : Entry) (s : State) : State :=
  let s := updEntry tag (fun e => Entry.settle { e with state := 2, void := true }) s
  let s := updDwell e.did (fun d => { Dwell.closes (s.voidClose e.tplan) d with nvoid := d.nvoid + 1 }) s
  let s := updLine e.pline (fun l => if l.state = 3 then l else { l with voidRun := min 255 (l.voidRun + 1) }) s
  let s := updDriver e.drv (fun r => { r with voids := r.voids + 1, lastVoid := e.pline }) s
  traceShot { e with void := true } (count (148 + e.drv) 1 (raise 25 { s with sh := { s.sh with voidCnt := s.sh.voidCnt + 1 } }))

/-- VOID_DECISION (R115): a shot without fire stamp is void. A shot of a synthetic driver is not, but ends the run of
found stamps (R418). -/
def voidDecision (tag : Nat) (s : State) : State :=
  match s.entry tag with
  | none => s
  | some e =>
    if e.syn then (if e.fb.isSome then s else updDriver e.drv (fun r => { r with fbMatch := 0 }) s)
    else if e.state = 1 then shotVoid tag e s else s

/-- VOID_DECISION. -/
def execVoidDecision (tag : Nat) (s : State) : Host.Outcome State Fault Refusal := act (tag < 8192) (voidDecision tag) s

/-- A stamp's coarse part lies in the FB range of a strobe at `t` (R114). -/
def State.inFbRange (s : State) (t : Coarse) (st : Stamp) : Bool :=
  let d := ((Stamp.coarse st) - t).toNat
  fbMin s.sh.fbwin ≤ d && d ≤ fbMax s.sh.fbwin

/-- A real fire stamp enters the mean of R418. -/
def noteFire (e : Entry) (st : Stamp) (s : State) : State :=
  updDriver e.drv (fun r => { r with fbSamples := (stampDiff st (stampOf e.tplan) :: r.fbSamples).take 256 }) s

/-- The shots of driver `d` that the ledger holds and that found a stamp take it in place of the synthetic one (R418). -/
def useReal (d : Nat) (s : State) : State :=
  (s.sh.ledger.filter (fun (x : Nat × Entry) => x.2.drv = d && x.2.syn && x.2.fb.isSome)).foldl (fun s x =>
    let st := x.2.fb.getD x.2.fire
    updDwell x.2.did (Dwell.closes (st + stampOf (BitVec.ofNat 54 (s.window + s.guardNs))))
      (updEntry x.1 (fun e => { e with fire := st, syn := false }) s)) s

/-- The bit of driver `d` in AV.FBSYN clears, those of the 256 shots that are still held use their real stamps, and fault
0x0302 ends (R418). -/
def clearSynthetic (d : Nat) (s : State) : State :=
  let s := useReal d s
  repair 0x0302 d 6 (updDriver d (fun r => { r with fbStep := 0, fbMatch := 0, voids := 0 })
    { s with av := { s.av with fbSyn := s.av.fbSyn &&& (255 - 2 ^ d), fbDly := Tab.erase s.av.fbDly d } })

/-- A stray or further FB stamp (R114, R116). -/
def strayFb (lone : Bool) (s : State) : State :=
  raiseIf lone 26 { s with sh := { s.sh with strayCnt := s.sh.strayCnt + 1 } }

/-- An FB stamp of driver `d` is popped while the schedule's modes run (R114, R116, R418). -/
def fbStamp (d : Nat) (st : Stamp) (s : State) : State :=
  match s.sh.ledger.find? (fun (e : Nat × Entry) => e.2.drv = d && s.inFbRange e.2.tplan st) with
  | none => if (s.driver d).spent.any (fun t => s.inFbRange t st) then s else strayFb true s
  | some (tag, e) =>
    if e.fb.isSome then strayFb false s
    else if e.syn then
      let s := updEntry tag (fun e => { e with fb := some st }) s
      if 255 ≤ (s.driver d).fbMatch then clearSynthetic d s
      else updDriver d (fun r => { r with fbMatch := r.fbMatch + 1 }) s
    else if e.state = 1 then
      noteFire e st (shotFired tag st (updEntry tag (fun e => { e with fb := some st }) s))
    else strayFb false s

/-- An FB stamp of driver `d` is popped in SURVEY: a line under test passes (R157). -/
def fbTest (d : Nat) (st : Stamp) (s : State) : State :=
  match (s.driver d).test.find? (fun t => s.inFbRange t.2 st) with
  | some t => updDriver d (fun r => { r with testFb := t.1 :: r.testFb }) s
  | none => s

/-! ## Close words -/

/-- CLOSE_WORD_PRESENT (R61, R62, R115): the close words of a fired shot are presented to its served channels. -/
def closeWordPresent (tag : Nat) (s : State) : State :=
  match s.entry tag with
  | none => s
  | some e =>
    if e.state = 1 ∨ e.shown = true then s else
    let s := updEntry tag (fun e => { e with shown := true }) s
    match s.dwell e.did with
    | none => s
    | some d =>
      let chans := s.served d
      let merged := chans.any (fun i => (s.chan i).mergesClose s.cycle)
      raiseIf merged 18 (chans.foldl (fun s i => presentClose (e.num / 8192 % 256) tag i s) s)

/-- CLOSE_WORD_PRESENT. -/
def execCloseWordPresent (tag : Nat) (s : State) : Host.Outcome State Fault Refusal :=
  act (tag < 8192) (closeWordPresent tag) s

/-- A close word closes every open shot of its channel that is not later (R63): DROP marks them INC (R130). -/
def closeShots (i gen tag : Nat) (drop : Bool) (s : State) : State :=
  let id := gen * 8192 + tag
  let hit (e : Entry) : Bool := e.opens.contains i && !idLater (shotId e.num) id
  let dids := (s.sh.ledger.filter (fun (e : Nat × Entry) => hit e.2)).map (fun (e : Nat × Entry) => e.2.did)
  let close (e : Entry) : Entry :=
    if hit e then Entry.settle { e with opens := e.opens.filter (fun c => c ≠ i), inc := e.inc || drop } else e
  { s with sh := { s.sh with
    ledger := s.sh.ledger.map (fun (e : Nat × Entry) => (e.1, close e.2))
    dwells := s.sh.dwells.map (fun d => if dids.contains d.did then { d with inc := d.inc || drop } else d) } }

/-- Every fired shot of a dwell is CLOSED (R123). -/
def State.allClosed (s : State) (did : Nat) : Bool :=
  (s.sh.ledger.filter (fun (e : Nat × Entry) => e.2.did = did)).all (fun (e : Nat × Entry) => e.2.state = 3)

/-! ## Registers with side effects -/

/-- SH_SHOTNUM_LO_READ (R134). -/
def latchShotnum (s : State) : State := { s with sh := { s.sh with shotHi := (s.sh.shotNum >>> 32).truncate 32 } }

/-- SH_SHOTNUM_LO_READ. -/
def execShShotnumLoRead (s : State) : Host.Outcome State Fault Refusal := act true latchShotnum s

/-- The ARMED entry that an allocated position holds in slot `tag`, if it does. While its dwell has fired no shot it shows as
group ID the shot ID that it would itself get (DESIGN CHOICE, log 91). -/
def State.armedEntry (s : State) (tag : Nat) : Option Entry :=
  let held := s.sh.armed.filter s.holds
  let j := (tag + 8192 - s.sh.shotNum.toNat % 8192) % 8192
  match held[j]? with
  | none => none
  | some p =>
    match s.dwell p.did with
    | none => none
    | some d =>
      let n := s.sh.shotNum.toNat + j
      some { num := n, did := d.did, step := p.step, sidx := p.sidx, line := d.line, pline := d.pline, drv := d.drv,
               pwr := d.pEff, q := p.q, tplan := p.tplan, fire := Config.noFireStamp n, state := 1, void := false,
               syn := false, inc := false, amb := false,
               group := d.group.getD (shotId n), fb := none, shown := false, opens := s.served d }

/-- The eight words SH.LENT0 to SH.LENT7 of an entry (R134). -/
def Entry.words (e : Entry) : List Nat :=
  [put e.state 29 3 + put (b2n e.void) 28 1 + put (b2n e.inc) 27 1 + put (b2n e.amb) 26 1 +
     put (e.num / 8192) 13 8 + e.num % 8192,
   e.fire.toNat % 2 ^ 32, e.fire.toNat / 2 ^ 32, e.tplan.toNat % 2 ^ 32,
   put e.pline 23 9 + put e.line 15 8 + put e.pwr 9 6 + put e.drv 6 3,
   put e.q 24 8 + put e.step 12 12 + put e.sidx 0 12, e.group,
   e.openFlights.foldl (fun a f => a + 2 ^ f) 0]

/-- A write to SH.LSEL copies the selected entry; a FREE slot copies as zeros (R134). -/
def lselWrite (v : W32) (s : State) : State :=
  let tag := fld v 0 13
  let ws := match (match s.entry tag with | some e => some e | none => s.armedEntry tag) with
    | some e => e.words
    | none => []
  { s with sh := { s.sh with lsel := tag, lent := (List.range ws.length).zip (ws.map w32) } }

/-- SH_LSEL_WRITE. -/
def execShLselWrite (v : W32) (s : State) : Host.Outcome State Fault Refusal := act true (lselWrite v) s

end Sys2Proof.Machine
end

