-- ==== Sys2Proof/Machine/Measure.lean ====
section
/-!
DEFINITION. Measure.lean: measurement slots, their gates, anchors, results and statistics, SYNC outputs and camera
loops (chapter 8), and MEAS_CFG and MEAS_READ (R341 to R343).
-/
namespace Sys2Proof.Machine

/-! ## The tap (R208) -/

/-- The boundary whose interval holds the stamp `a` (less board skew): none before T_start (R210). -/
def MSlot.boundaryOf (x : MSlot) (a : Stamp) : Option Nat :=
  let d := stampDiff a (stampOf x.g) / Int.ofNat (fld x.gate 0 30 * 1000 * 1024)
  let k := Int.ofNat (x.k - 1) + d
  if k < 0 then none else some k.toNat

/-- An anchor: the first one of its boundary stays (R210). -/
def addAnchor (t : Tab Anchor) (k : Nat) (a : Anchor) : Tab Anchor :=
  if t.any (fun kv => kv.1 = k) then t else Tab.insert t k a

/-- A counted edge of input A gives an anchor (R210). -/
def anchorA (a : Anchor) (x : MSlot) : MSlot :=
  match x.boundaryOf a.a with
  | some k => { x with ancA := addAnchor x.ancA k a }
  | none => x

/-- A counted edge of input B gives an anchor. -/
def anchorB (a : Anchor) (x : MSlot) : MSlot :=
  match x.boundaryOf a.a with
  | some k => { x with ancB := addAnchor x.ancB k a }
  | none => x

/-- A stamp has the polarity that ESELA or ESELB asks for; a reserved code asks for none (R214). -/
def esel (code : Nat) (rising : Bool) : Bool := if code = 0 then rising else code == 1 && !rising

/-- What a slot takes of a stamp `e` of channel `i` (R208, R210, R214, R216): `a` is the stamp less board skew. -/
def MSlot.take (i : Nat) (a : Stamp) (e : Tapped) (rising counted : Bool) (n : BitVec 48) (x : MSlot) : MSlot :=
  if x.state ≠ 2 then x else
  let onA := x.inA = i
  let onB := twoInputs x.type = true ∧ x.inB = i
  let from0 := (x.boundaryOf a).isSome
  if x.type = 3 then
    let x := if onA ∧ from0 = true ∧ esel x.eselA rising = true then { x with starts := x.starts ++ [e] } else x
    if onB ∧ esel x.eselB rising = true then { x with stops := x.stops ++ [e] } else x
  else
    let x := if onA ∧ counted = true then anchorA ⟨a, n, e.raw, e.skews⟩ x else x
    let x := if onB ∧ counted = true then anchorB ⟨a, n, e.raw, e.skews⟩ x else x
    if x.type = 5 ∧ onA ∧ from0 = true then
      if rising then { x with rises := x.rises ++ [e] } else { x with falls := x.falls ++ [e] }
    else x

/-- What a camera loop takes of a stamp of channel `i` (R224). -/
def Sync.take (i : Nat) (a : Stamp) (rising : Bool) (y : Sync) : Sync :=
  if y.mode = 2 ∧ y.loop = true ∧ y.lin = i ∧ esel y.edge rising = true then { y with edges := y.edges ++ [a] } else y

/-- A stamp popped from channel `i` reaches every slot and loop that selects the channel (R208). While a Colonnade receiver
feeds channel 522 or 523, both the slots and the Colonnade get its stamps (R43; DESIGN CHOICE, log 80). -/
def tapMeas (i : Nat) (st : Stamp) (rising : Bool) (e : QEntry) (s : State) : State :=
  let a := st - BitVec.ofInt 64 (s.boardSkewAt e.skews i)
  let counted := (s.chan i).counts rising
  { s with ms := {
      slots := Tab.remap freshSlot (fun _ x => x.take i a ⟨st, e.skews, e.gap⟩ rising counted e.ecnt) s.ms.slots
      syncs := Tab.remap freshSync (fun _ y => y.take i a rising) s.ms.syncs } }

/-! ## Gates -/

/-- SLOT_RUN_START (R219): T_start of a waiting slot arrives in a mode in which slots run. -/
def slotRunStart (k : Nat) (s : State) : State :=
  updSlot k (fun x => if x.state = 1 ∧ x.tStart.isSome = true ∧ s.slotsRun = true then { x with state := 2 } else x) s

/-- SLOT_RUN_START. -/
def execSlotRunStart (slot : Nat) (s : State) : Host.Outcome State Fault Refusal := act (slot < 32) (slotRunStart slot) s

/-- GATE_BOUNDARY (R210): boundary k passes. Boundary 0 is T_start itself. -/
def gateBoundary (k : Nat) (s : State) : State :=
  updSlot k (fun x =>
    if x.state ≠ 2 then x else
    { x with
      refs := Tab.insert x.refs x.k s.tb.state.code
      g := if x.k = 0 then x.g else x.g + BitVec.ofNat 54 (fld x.gate 0 30 * 1000)
      k := x.k + 1 }) s

/-- GATE_BOUNDARY. -/
def execGateBoundary (slot : Nat) (s : State) : Host.Outcome State Fault Refusal := act (slot < 32) (gateBoundary slot) s

/-- `a / b` rounded to the nearest integer, halves towards +∞ (R212); by zero the spec states no result. -/
def divHalfUp (a b : Int) : Int := if b = 0 then Config.divByZero a else (2 * a + b) / (2 * b)

/-- The limit of R212. -/
def xLimit : Int := 2 ^ 47 - 1

/-- A value limited to ±(2^47 - 1), and whether it was limited (R212). -/
def limited (x : Int) : Int × Bool :=
  if xLimit < x then (xLimit, true) else if x < -xLimit then (-xLimit, true) else (x, false)

/-- ΔN and Δa of the gate between two anchors (R210). -/
def deltaN (p q : Anchor) : Nat := (q.n - p.n).toNat
def deltaA (p q : Anchor) : Nat := (q.raw - p.raw).toNat

/-- The stamp of an anchor. -/
def Anchor.stamp (a : Anchor) : Tapped := ⟨a.raw, a.skews, false⟩

/-- The interval from stamp `a` of channel `i` to stamp `b` of channel `j` (R96): the board skews are those in use when the
later of the two was pushed (R97). -/
def State.elapsed (s : State) (i : Nat) (a : Tapped) (j : Nat) (b : Tapped) : Int :=
  let v := max a.skews b.skews
  (b.raw - a.raw - BitVec.ofInt 64 (s.boardSkewAt v j - s.boardSkewAt v i)).toInt

/-- FREQ in 2^-16 Hz (R212). -/
def freqOf (p q : Anchor) : Int := divHalfUp (Int.ofNat (2 ^ 16 * deltaN p q * 1024000000000)) (Int.ofNat (deltaA p q))

/-- PERIOD in 2^-16 ns (R212). -/
def periodOf (p q : Anchor) : Int := divHalfUp (Int.ofNat (64 * deltaA p q)) (Int.ofNat (deltaN p q))

/-- PHASE in 2^-32 cycle (R215): `d` is b_k - a_k, `p` and `q` bound the preceding gate of A. -/
def phaseOf (d : Int) (p q : Anchor) : Int :=
  let num := d * Int.ofNat (deltaN p q)
  let den := Int.ofNat (deltaA p q)
  if den = 0 then Config.divByZero num
  else divHalfUp ((num - den * ((2 * num + den) / (2 * den))) * 2 ^ 32) den

/-- The stamps of a list that lie in [lo, hi). -/
def inSpan (lo hi : Stamp) (l : List Tapped) : List Tapped :=
  l.filter (fun r => 0 ≤ stampDiff r.raw lo && stampDiff r.raw hi < 0)

/-- The first falling stamp after `r` (R216). -/
def firstFall (falls : List Tapped) (r : Stamp) : Option Stamp :=
  (falls.find? (fun f => 0 < stampDiff f.raw r)).map Tapped.raw

/-- H of R216; where a rising stamp has no falling stamp after it yet the spec states no length. -/
def highTime (x : MSlot) (rs : List Tapped) : Int :=
  rs.foldl (fun (h : Int) r => h + match firstFall x.falls r.raw with
    | some f => stampDiff f r.raw
    | none => Config.openHigh x.judged) 0

/-- What a gate yields: its result, if one is formed, and the flags (R213). -/
structure GateOut where
  x : Option Int
  nosig : Bool
  inc : Bool
  mismatch : Bool
  deriving DecidableEq, Repr

/-- A gate without a result of its own: NOSIG, or none. -/
def GateOut.nothing (nosig : Bool) : GateOut := { x := none, nosig := nosig, inc := false, mismatch := false }

/-- Anchor `k` of a table. -/
def anchorAt (t : Tab Anchor) (k : Nat) : Option Anchor := (t.find? (fun kv => kv.1 = k)).map Prod.snd

/-- DUTY over a gate (R216). -/
def dutyOf (x : MSlot) (p q : Anchor) : GateOut :=
  let rs := inSpan p.raw q.raw x.rises
  let all := rs ++ inSpan p.raw q.raw x.falls
  { x := some (divHalfUp (highTime x rs * 2 ^ 32) (Int.ofNat (deltaA p q))), nosig := false
    inc := decide (rs.length ≠ deltaN p q) || all.any Tapped.gap, mismatch := false }

/-- PHASE over gate r ≥ 1 (R215). -/
def phaseGate (s : State) (x : MSlot) (r : Nat) (p : Anchor) : GateOut :=
  let d (b : Anchor) : Int := s.elapsed x.inA p.stamp x.inB b.stamp
  match anchorAt x.ancA (r - 1), anchorAt x.ancB (r - 1), anchorAt x.ancB r, anchorAt x.ancB (r + 1) with
  | some a0, some b0, some b1, some _ =>
    { x := some (phaseOf (d b1) a0 p), nosig := false, inc := false
      mismatch := decide (deltaN a0 p ≠ deltaN b0 b1) }
  | some a0, none, some b1, some _ =>
    { x := some (phaseOf (d b1) a0 p), nosig := false, inc := false, mismatch := true }
  | _, _, _, _ => .nothing true

/-- The result of gate r of a slot (R212, R215, R216). -/
def gateOut (s : State) (x : MSlot) (r : Nat) : GateOut :=
  match anchorAt x.ancA r, anchorAt x.ancA (r + 1) with
  | some p, some q =>
    if x.type = 1 then { GateOut.nothing false with x := some (freqOf p q) }
    else if x.type = 2 then { GateOut.nothing false with x := some (periodOf p q) }
    else if x.type = 5 then dutyOf x p q
    else if r = 0 then .nothing ((anchorAt x.ancB 0).isNone || (anchorAt x.ancB 1).isNone)
    else phaseGate s x r p
  | _, _ => .nothing true

/-- Gate r can have its result: its closing anchor is in, with which an earlier one still missing can come no more, or the
time for it has passed (R221). -/
def MSlot.ripe (x : MSlot) (r : Nat) : Bool :=
  if x.type = 3 then r + 2 ≤ x.k
  else if x.k < r + 2 then false
  else r + 3 ≤ x.k || ((anchorAt x.ancA (r + 1)).isSome && (x.type ≠ 4 || (anchorAt x.ancB (r + 1)).isSome))

/-- The edge `o` over the rate of R48 lies in gate r: between the gate's anchors, which the edge counts tell, or between its
boundaries where an anchor is missing or INTERVAL takes none (R213). -/
def MSlot.inGate (x : MSlot) (r : Nat) (o : OverRate) : Bool :=
  let t := if o.onB then x.ancB else x.ancA
  match anchorAt t r, anchorAt t (r + 1) with
  | some p, some q => (o.n - p.n).toNat < (q.n - p.n).toNat
  | _, _ => x.boundaryOf o.t == some r

/-- SAT of gate r (R213). -/
def MSlot.satIn (x : MSlot) (r : Nat) : Bool := x.sats.any (x.inGate r)

/-- An edge over the rate lies past gate r. -/
def MSlot.pastGate (x : MSlot) (r : Nat) (o : OverRate) : Bool :=
  match anchorAt (if o.onB then x.ancB else x.ancA) (r + 1) with
  | some q => (o.n - q.n).toNat < 2 ^ 47
  | none => match x.boundaryOf o.t with
    | some g => r < g
    | none => false

/-- A result enters the statistics (R217). -/
def MSlot.stat (v : Int) (x : MSlot) : MSlot :=
  if x.sfull then x else
  { x with n := x.n + 1, s1 := x.s1 + v, s2 := x.s2 + v.natAbs * v.natAbs
           mn := if x.n = 0 then v else min x.mn v, mx := if x.n = 0 then v else max x.mx v
           sfull := decide (x.n + 1 = 2 ^ 32 - 1) }

/-- d of R218 from three anchors of a level's grid. -/
def allanTerm (pnom : W64) (a0 a1 a2 : Anchor) : Int :=
  let da := Int.ofNat (deltaA a1 a2) - Int.ofNat (deltaA a0 a1)
  let dn := Int.ofNat (deltaN a1 a2) - Int.ofNat (deltaN a0 a1)
  divHalfUp (da * 64 * 65536 - dn * Int.ofNat pnom.toNat) 65536

/-- A level takes the anchor that ends an unflagged gate r (R218). -/
def Allan.take (pnom : W64) (j r : Nat) (p q : Anchor) (l : Allan) : Allan :=
  let m := 2 ^ j
  let l := if l.grid.isEmpty && r % m == 0 then { l with grid := [p] } else l
  if (r + 1) % m = 0 then
    match l.grid with
    | [] => l
    | [a0, a1] =>
      let d := (allanTerm pnom a0 a1 q).natAbs
      { avs := l.avs + BitVec.ofNat 128 (d * d), avn := if l.avn = 0xFFFFFFFF then l.avn else l.avn + 1, grid := [a1, q] }
    | g => { l with grid := g ++ [q] }
  else l

/-- An Allan level before its first term. -/
def freshAllan (_ : Nat) : Allan := { avs := 0, avn := 0, grid := [] }

/-- The Allan accumulators after gate r: a flagged gate restarts every grid (R218). -/
def MSlot.allanStep (ok : Bool) (r : Nat) (x : MSlot) : MSlot :=
  if !(x.type = 1 || x.type = 2) || x.pnom = 0 then x
  else if !ok then { x with allan := Tab.remap freshAllan (fun _ l => { l with grid := [] }) x.allan }
  else match anchorAt x.ancA r, anchorAt x.ancA (r + 1) with
    | some p, some q =>
      { x with allan := (List.range 16).foldl (fun (t : Tab Allan) j => Tab.upd freshAllan t j (Allan.take x.pnom j r p q)) x.allan }
    | _, _ => x

/-- MS.SSTAT flags of a gate (R213). -/
def gateFlags (sfull range sat nosig inc mismatch : Bool) (ref : Nat) : W32 :=
  w32 (put (b2n sfull) 8 1 + put (b2n range) 7 1 + put (b2n sat) 6 1 + put (b2n nosig) 5 1 + put (b2n inc) 4 1 +
    put (b2n mismatch) 3 1 + put ref 0 2)

/-- What a slot no longer needs once gate r is judged. -/
def MSlot.prune (r : Nat) (x : MSlot) : MSlot :=
  let from_ (l : List Tapped) : List Tapped :=
    match anchorAt x.ancA (r + 1) with
    | some q => l.filter (fun e => 0 ≤ stampDiff e.raw q.raw)
    | none => l
  { x with
    ancA := x.ancA.filter (fun (e : Nat × Anchor) => r ≤ e.1), ancB := x.ancB.filter (fun (e : Nat × Anchor) => r ≤ e.1)
    refs := x.refs.filter (fun (e : Nat × Nat) => r < e.1), sats := if x.type = 3 then x.sats else x.sats.filter (x.pastGate r)
    rises := from_ x.rises, falls := from_ x.falls }

/-- The latest anchor of an input as gate r ends: that of its closing boundary, or an earlier one (R222). -/
def latestAnchor (t : Tab Anchor) (r : Nat) (old : Anchor) : Anchor :=
  ((anchorAt t (r + 1)).orElse (fun _ => anchorAt t r)).getD old

/-- The values that MEAS_READ and MS.SGATECNT give until the next gate end (R222). -/
def MSlot.close (r : Nat) (x : MSlot) : MSlot :=
  { x with
    lastA := latestAnchor x.ancA r x.lastA, lastB := latestAnchor x.ancB r x.lastB
    ended := ⟨x.n, x.s1, x.s2, x.mn, x.mx, x.unpair, x.gapCnt⟩ }

/-- The pairs of INTERVAL whose starts lie in gate r enter the statistics as it ends, unless it carries SAT (R213, R217). -/
def MSlot.closePairs (r : Nat) (sat : Bool) (x : MSlot) : MSlot :=
  let mine := x.open_.filter (fun p => p.1 ≤ r)
  let x := { x with open_ := x.open_.filter (fun p => r < p.1) }
  if sat then x else mine.foldl (fun x p => MSlot.stat p.2 x) x

/-- The slot after the result of its gate r (R213, R217, R218, R220). -/
def MSlot.judge (s : State) (x : MSlot) : MSlot :=
  let r := x.judged
  let sat := x.satIn r
  let ref := Tab.get zeros x.refs (r + 1)
  let x :=
    if x.type = 3 then
      let x := x.closePairs r sat
      { x with ev69 := x.ev69 || x.sfull, gateCnt := w32 x.pairs, res := if x.pairs = 0 then x.res else x.pairRes
               flags := gateFlags x.sfull false sat false false false ref, ev66 := x.ev66 || sat }
    else
      let o := gateOut s x r
      let v := (o.x.map limited).getD (x.res, false)
      let range := o.x.isSome && v.2
      let ok := !(o.nosig || sat || o.inc || o.mismatch || range)
      let x := { x with res := v.1, gateCnt := x.gateCnt + 1, ev65 := x.ev65 || o.nosig, ev66 := x.ev66 || sat }
      let x := if ok && o.x.isSome then x.stat v.1 else x
      let x := x.allanStep ok r
      { x with flags := gateFlags x.sfull range sat o.nosig o.inc o.mismatch ref, ev69 := x.ev69 || x.sfull }
  let x : MSlot := { (x.close r).prune r with judged := r + 1 }
  if x.ngates ≠ 0 ∧ x.ngates.toNat ≤ r + 1 then { x with state := 3 } else x

/-- Events of a slot's step (R226): 64, and 65, 66, 69 once per run. -/
def slotEvents (old new : MSlot) : List Nat :=
  (if new.state = 3 ∧ old.state ≠ 3 then [64] else []) ++ (if new.ev65 && !old.ev65 then [65] else []) ++
    (if new.ev66 && !old.ev66 then [66] else []) ++ (if new.ev69 && !old.ev69 then [69] else [])

/-- GATE_RESULT (R221). -/
def gateResult (k : Nat) (s : State) : State :=
  let x := s.slot k
  if x.state = 2 ∧ x.ripe x.judged = true then raises (slotEvents x (x.judge s)) (updSlot k (fun _ => x.judge s) s) else s

/-- GATE_RESULT. -/
def execGateResult (slot : Nat) (s : State) : Host.Outcome State Fault Refusal := act (slot < 32) (gateResult slot) s

/-- The stop of a start: the first in order of value with b - a ≥ HMIN (R214). -/
def stopOf (s : State) (x : MSlot) (a : Tapped) : Option Tapped :=
  x.stops.foldl (fun (best : Option Tapped) (b : Tapped) =>
    if s.elapsed x.inA a x.inB b < x.hmin.toInt then best else
    match best with
    | none => some b
    | some c => if s.elapsed x.inB c x.inB b < 0 then some b else best) none

/-- A pair of a start in gate `g` is accepted with result `d`: it enters the statistics with its gate, at once where that has
ended (R213, R217). -/
def MSlot.acceptPair (g : Option Nat) (d : Int) (x : MSlot) : MSlot :=
  let x := { x with pairs := x.pairs + 1, pairRes := d }
  match g.filter (fun r => x.judged ≤ r) with
  | some r => { x with open_ := x.open_ ++ [(r, d)] }
  | none =>
    let x := if g.any x.satIn then x else MSlot.stat d x
    { x with ev69 := x.ev69 || x.sfull }

/-- A start is judged (R214); the gate it lies in gives its SAT (R213). Stops that can serve no later start are dropped: those
below HMIN by more than the 128 ns by which a SKEW_SET can move the interval of two channels (R97). -/
def MSlot.pair (s : State) (a : Tapped) (x : MSlot) : MSlot :=
  let g := x.boundaryOf (a.raw - BitVec.ofInt 64 (s.boardSkewAt a.skews x.inA))
  let x := { x with starts := x.starts.tail }
  let y := match stopOf s x a with
    | none => { x with unpair := x.unpair + 1 }
    | some b =>
      let d := s.elapsed x.inA a x.inB b
      if x.hmax.toInt < d then { x with unpair := x.unpair + 1 }
      else if b.gap ∧ x.inA = x.inB then { x with gapCnt := x.gapCnt + 1 }
      else x.acceptPair g d
  { y with stops := y.stops.filter (fun b => y.hmin.toInt - 131072 ≤ s.elapsed y.inA a y.inB b) }

/-- INTERVAL_JUDGE (R214): the earliest start not judged yet. -/
def intervalJudge (k : Nat) (s : State) : State :=
  let x := s.slot k
  match x.starts with
  | a :: _ => if x.state = 2 then raises (slotEvents x (x.pair s a)) (updSlot k (fun _ => x.pair s a) s) else s
  | [] => s

/-- INTERVAL_JUDGE. -/
def execIntervalJudge (slot : Nat) (s : State) : Host.Outcome State Fault Refusal := act (slot < 32) (intervalJudge slot) s

/-- MS_SGATECNT_READ: the result registers take the values of the last gate end (R222). -/
def latchSlot (k : Nat) (s : State) : State :=
  let now (x : MSlot) : SlotLatch := ⟨x.res, x.ended.n, x.ended.mn, x.ended.mx, x.ended.unpair, x.ended.gapCnt⟩
  updSlot k (fun x => { x with latched := some (now x) }) s

/-- MS_SGATECNT_READ. -/
def execMsSgatecntRead (slot : Nat) (s : State) : Host.Outcome State Fault Refusal := act (slot < 32) (latchSlot slot) s

/-! ## Modes -/

/-- Entry to DORMANT or SURVEY stops the slots that wait or run (R220). -/
def slotsStop (s : State) : State :=
  let stop (_ : Nat) (x : MSlot) : MSlot := if x.state = 1 ∨ x.state = 2 then { x with state := 4 } else x
  { s with ms := { s.ms with slots := Tab.remap freshSlot stop s.ms.slots } }

/-- Entry to a mode in which slots run, from SURVEY or DORMANT: slots and outputs accepted in SURVEY take T_start now
(R219). -/
def slotsEnter (s : State) : State := startWaiters 0 (wholeMicro s.tb.coarse 10000) s

/-! ## SYNC outputs (R223, R224) -/

/-- A 2^-4 ns instant as a stamp. -/
def nominalStamp (t : Nominal) : Stamp := (t.zeroExtend 64) <<< 6

/-- A FRAME pulse's instant with offset `ofs` (R223). -/
def frameInstant (t : Nominal) (ofs : W32) : Coarse := ((t + ofs.zeroExtend 58) >>> 4).truncate 54

/-- The instant of a frame's pulse, newest OFS first: each holds from the first pulse at or after its limit (R224). -/
def pulseInstant (t : Nominal) (ofs : W32) : List (W32 × Coarse) → Coarse
  | [] => frameInstant t ofs
  | (old, lim) :: rest =>
    if before (frameInstant t ofs) lim then pulseInstant t old rest else frameInstant t ofs

/-- The instant of the pulse of a frame (R224). -/
def Sync.pulseAt (y : Sync) (t : Nominal) : Coarse := pulseInstant t y.ofs y.prevOfs

/-- The output goes high for WIDTH ns, but stays low in DORMANT and SURVEY (R223). -/
def Sync.fire (run : Bool) (up : Nat) (at_ : Coarse) (y : Sync) : Sync :=
  { y with high := if run then some (up + y.width) else y.high, last := some at_
           prevOfs := y.prevOfs.filter (fun (o : W32 × Coarse) => before at_ o.2) }

/-- SYNC_PULSE (R223). -/
def syncPulse (n : Nat) (s : State) : State :=
  updSync n (fun y =>
    match y.mode with
    | 1 =>
      match y.tStart with
      | some t => { y.fire s.slotsRun s.uptime (t + BitVec.ofNat 54 (y.j * y.per.toNat / 65536)) with j := y.j + 1 }
      | none => y
    | 2 =>
      match y.pulses with
      | f :: fs => { y.fire s.slotsRun s.uptime (y.pulseAt f.2) with pulses := fs }
      | [] => y
    | _ => y) s

/-- SYNC_PULSE. -/
def execSyncPulse (n : Nat) (s : State) : Host.Outcome State Fault Refusal := act (n < 4) (syncPulse n) s

/-- The level of a SYNC output (R223). -/
def State.syncLevel (s : State) (n : Nat) : Bool :=
  let y := s.sync n
  s.live && s.slotsRun && y.mode ≠ 0 && (match y.high with
    | some u => decide (s.uptime < u)
    | none => false)

/-- err >> LG, arithmetic (R224). -/
def shiftErr (err : Int) (lg : Nat) : Int := err / 2 ^ lg

/-- A loop's window closes with its first edge `e`, if it held one (R224). The new OFS is for pulses at whole nanoseconds no less
than 10 µs after the close. -/
def Sync.update (t : Nominal) (f : Nat) (y : Sync) : Sync × List Nat :=
  let tgt := nominalStamp (t + BitVec.ofInt 58 y.tgt.toInt)
  let half := Int.ofNat (32 * f)
  let inWin := y.edges.filter (fun e => -half ≤ stampDiff e tgt && stampDiff e tgt < half)
  let y := { y with edges := y.edges.filter (fun e => -half ≤ stampDiff e tgt) }
  match inWin with
  | [] => ({ y with good := 0, locked := false }, if y.locked then [68] else [])
  | e :: _ =>
    let err := divHalfUp (stampDiff e tgt) 64
    let tol := Int.ofNat (16 * fld y.tol 0 16)
    let close := Stamp.coarse (tgt + BitVec.ofInt 64 (half + 1023))
    let good := if err.natAbs ≤ tol.natAbs then min 8 (y.good + 1) else 0
    let lost := decide (4 * tol < Int.ofNat err.natAbs)
    let lock := decide (good = 8) && !y.locked
    ({ y with
        prevOfs := (y.ofs, close + 10000) :: y.prevOfs, ofs := y.ofs - BitVec.ofInt 32 (shiftErr err y.gain)
        err := BitVec.ofInt 32 err, good := good, locked := (y.locked || lock) && !lost },
      (if lock then [67] else []) ++ (if y.locked && lost then [68] else []))

/-- CAMERA_LOOP_UPDATE (R224): the window of the earliest frame not judged closes. -/
def cameraLoopUpdate (n : Nat) (s : State) : State :=
  let y := s.sync n
  match y.frames with
  | (_, t, f) :: fs =>
    let r := Sync.update t f { y with frames := fs }
    raises r.2 (updSync n (fun _ => r.1) s)
  | [] => s

/-- CAMERA_LOOP_UPDATE. -/
def execCameraLoopUpdate (n : Nat) (s : State) : Host.Outcome State Fault Refusal := act (n < 4) (cameraLoopUpdate n) s

/-! ## MEAS_CFG and MEAS_READ -/

/-- Anchor units that a slot uses on channel `i` (R209). -/
def MSlot.units (x : MSlot) (i : Nat) : Nat :=
  if x.type = 1 ∨ x.type = 2 ∨ x.type = 5 then b2n (x.inA == i)
  else if x.type = 4 then b2n (x.inA == i) + b2n (x.inB == i)
  else 0

/-- Anchor units in use on channel `i` when slot `k` is `x` (R209). -/
def State.unitsOn (s : State) (k : Nat) (x : MSlot) (i : Nat) : Nat :=
  ((List.range 32).map (fun j => if j = k then x.units i else (s.slot j).units i)).sum

/-- A slot as MEAS_CFG configures it (R341): its own fields from the payload. -/
def slotFrom (p : List Byte) : MSlot :=
  { freshSlot 0 with
    cfg := pWord p 4 &&& 0xEFFFFFF0, gate := pWord p 8 &&& 0x3FFFFFFF, ngates := pWord p 12, hmin := pWord p 16
    hmax := pWord p 20, pnom := BitVec.ofNat 64 (pNat p 24 8), apply := pByte p 2 }

/-- The first BADARG check of a slot that fails, in the order of R219 (R341, R455). -/
def slotBad (s : State) (p : List Byte) (x : MSlot) : Option Nat :=
  let off (i : Nat) : Bool := 523 < i || !(s.chan i).en
  if 31 < pByte p 1 then some 1
  else if 3 < pByte p 2 then some 2
  else if 5 < x.type then some 4
  else if off x.inA then some 5
  else if twoInputs x.type && off x.inB then some 6
  else if x.gate = 0 then some 8
  else if x.hmax.toInt < x.hmin.toInt then some 20
  else if x.type = 3 ∧ x.inA = x.inB ∧ x.hmin.toInt < 1 then some 16
  else if x.type = 5 ∧ (s.chan x.inA).edge ≠ 2 then some 4
  else if x.apply = 1 ∧ badInstant (pNat p 32 8) 10000 s.tb.coarse = true then some 32
  else none

/-- T_start as far as it is known when the command executes (R219, R342). -/
def startInstant (apply : Nat) (p : List Byte) (s : State) : Option Coarse :=
  match apply with
  | 0 => if s.slotsRun then some (wholeMicro s.tb.coarse 10000) else none
  | 1 => some (BitVec.ofNat 54 (pNat p 32 8))
  | _ => none

/-- MEAS_CFG for a slot (R219); TYPE 0b000 leaves it OFF with its last results. -/
def measCfgSlot (p : List Byte) (s : State) : Reply :=
  let x := slotFrom p
  let k := pByte p 1
  match slotBad s p x with
  | some off => reply s (.badarg off)
  | none =>
    if (List.range 524).any (fun i => x.units i ≠ 0 && 4 < s.unitsOn k x i) then reply s (.notAdmitted 0)
    else
      let t := startInstant x.apply p s
      let y := if x.type = 0 then
          { s.slot k with cfg := x.cfg, gate := x.gate, ngates := x.ngates, hmin := x.hmin, hmax := x.hmax, pnom := x.pnom
                          apply := x.apply, state := 0 }
        else { x with state := 1, tStart := t, g := t.getD 0 }
      reply (updSlot k (fun _ => y) s) (.plain .ok)

/-- A SYNC output as MEAS_CFG configures it (R341). -/
def syncFrom (p : List Byte) : Sync :=
  { freshSync 0 with
    cfg := pWord p 4 &&& 0xFFFFC0FF, tol := pWord p 12 &&& 0xFFFF, ofs := pWord p 16, tgt := pWord p 20
    per := BitVec.ofNat 48 (pNat p 24 8), apply := pByte p 2 }

/-- The first check of R342 that fails. APPLY is ignored in FRAME mode. -/
def syncBad (s : State) (p : List Byte) (y : Sync) : Option Nat :=
  if 3 < pByte p 1 then some 1
  else if y.mode ≠ 2 ∧ 3 < pByte p 2 then some 2
  else if y.mode ≠ 2 ∧ y.apply = 1 ∧ badInstant (pNat p 32 8) 10000 s.tb.coarse = true then some 32
  else if y.mode = 3 then some 4
  else if y.width = 0 then some 7
  else if y.mode = 1 ∧ (y.per.toNat < 100 * 65536 ∨ y.per.toNat < 2 * y.width * 65536) then some 24
  else if 523 < y.lin then some 5
  else none

/-- Frames in progress whose FRAME pulse, or loop window, is still to come when an output is configured. -/
def syncFrames (y : Sync) (s : State) : List (Nat × Nominal) × List (Nat × Nominal × Nat) :=
  match s.sh.run with
  | none => ([], [])
  | some r =>
    let known := (r.known.reverse.filter (fun (f : Nat × Nat × Nominal) => s.sh.frameNow ≤ f.1))
    ((known.filter (fun (f : Nat × Nat × Nominal) => before s.tb.coarse (frameInstant f.2.2 y.ofs))).map
        (fun (f : Nat × Nat × Nominal) => (f.1, f.2.2)),
      if y.loop then known.map (fun (f : Nat × Nat × Nominal) => (f.1, f.2.2, s.frameLength f.2.1)) else [])

/-- MEAS_CFG for a SYNC output (R223, R342). -/
def measCfgSyncOut (p : List Byte) (s : State) : Reply :=
  let y := syncFrom p
  match syncBad s p y with
  | some off => reply s (.badarg off)
  | none =>
    let t := if y.mode = 1 then startInstant y.apply p s else none
    let fs := if y.mode = 2 then syncFrames y s else ([], [])
    let y := { y with tStart := t, waiting := decide (y.mode = 1) && t.isNone, pulses := fs.1, frames := fs.2 }
    reply (updSync (pByte p 1) (fun _ => y) s) (.plain .ok)

/-- MEAS_CFG (R341). -/
def measCfgOwn (_ : Ticket) (p : List Byte) (s : State) : Reply :=
  match pByte p 0 with
  | 0 => measCfgSlot p s
  | 1 => measCfgSyncOut p s
  | _ => reply s (.badarg 0)

/-- Every mode but DORMANT. -/
def notDormant (s : State) (_ : List Byte) : Bool := s.th.mode != .dormant

/-- MEAS_CFG of a slot. -/
def execMeasCfg (m : Nat) (s : State) : Host.Outcome State Fault Refusal :=
  act (m < 32) (lodge m 0x0701 (fun p => pByte p 0 != 1) (subLen 2 40) notDormant measCfgOwn) s

/-- MEAS_CFG of a SYNC output. -/
def execMeasCfgSync (m : Nat) (s : State) : Host.Outcome State Fault Refusal :=
  act (m < 32) (lodge m 0x0701 (fun p => pByte p 0 == 1) (subLen 2 40) notDormant measCfgOwn) s

/-- MS.SSTAT image. -/
def MSlot.sstat (x : MSlot) : W32 := x.flags ||| w32 (put x.state 29 3)

/-- An integer in `n` bytes, two's complement. -/
def intBytes (n : Nat) (v : Int) : List Byte := beBytes n (unsigned (8 * n) v)

/-- An anchor in the answer of MEAS_READ. -/
def Anchor.bytes (a : Anchor) : List Byte := beBytes 8 a.a.toNat ++ beBytes 8 a.n.toNat

/-- The answer of MEAS_READ from byte 4 on (R343): the state of the slot now, and what the last gate end left (R222). -/
def MSlot.answer (x : MSlot) : List Byte :=
  let av := decide (x.type = 1 ∨ x.type = 2)
  let level (j : Nat) : List Byte :=
    let l := if av then Tab.get freshAllan x.allan j else freshAllan j
    wBytes l.avn ++ beBytes 16 l.avs.toNat
  wBytes x.sstat ++ wBytes x.gateCnt ++ intBytes 8 x.res ++ x.lastA.bytes ++
    (if twoInputs x.type then x.lastB else ⟨0, 0, 0, 0⟩).bytes ++ beBytes 4 x.ended.n ++ intBytes 12 x.ended.s1 ++ beBytes 16 x.ended.s2 ++
    intBytes 8 x.ended.mn ++ intBytes 8 x.ended.mx ++ (List.range 16).flatMap level

/-- MEAS_READ (R222, R343). -/
def measReadOwn (_ : Ticket) (p : List Byte) (s : State) : Reply :=
  if 31 < pByte p 0 then reply s (.badarg 0) else reply s (.okWith (s.slot (pByte p 0)).answer)

/-- MEAS_READ. -/
def execMeasRead (m : Nat) (s : State) : Host.Outcome State Fault Refusal :=
  act (m < 32) (lodge m 0x0702 anyRow (fun p => p.length == 4) anyMode measReadOwn) s

end Sys2Proof.Machine
end

