-- ==== Sys2Proof/Machine/Trigger.lean ====
section
/-!
DEFINITION. Trigger.lean: how local triggers form (R238, R239) and TRIG_CFG (R242, R345). Their delivery is in
Colonnade.lean.
-/
namespace Sys2Proof.Machine

/-- CL.TRGCFG as it stood for a trigger of up-time `t`: a write applies to triggers whose TIME lies after it (R242). -/
def cfgSince (now : W32) (t : Int) : List (Nat × W32) → W32
  | [] => now
  | (at_, old) :: h => if Int.ofNat at_ < t then now else cfgSince old t h

/-- The up-time at which coarse count `t` lies, by the present count. -/
def State.upOf (s : State) (t : Coarse) : Int := Int.ofNat s.uptime + s.aheadBy t

/-- CL.TRGCFG for a trigger whose TIME lies at up-time `u`. -/
def State.trgCfgAt (s : State) (u : Int) : W32 := cfgSince s.cl.trgcfg u s.cl.trgHist

/-- CL.TRGCFG for a trigger of time `t`, by the present count. -/
def State.trgCfg (s : State) (t : Coarse) : W32 := s.trgCfgAt (s.upOf t)

/-- The unit's own number. -/
def State.unit (s : State) : Nat := fld s.cl.cfg 0 3

/-- A source of local triggers is enabled (R238): SRCIN, SRCHOST, SRCVIOL. -/
def sourceOn (cfg : W32) (cause : Nat) : Bool := cause < 3 && bit cfg cause

/-- Local triggers of one TBCLK cycle are one, with the lowest CAUSE (R238). -/
def mergeCause (t : Coarse) (cause : Nat) (x : Trigger) : Trigger :=
  if x.isLocal ∧ x.time = t then { x with cause := min x.cause cause } else x

/-- A local trigger arises under the CL.TRGCFG that applies to it (R238, R240, R246). -/
def formTrigger (cfg : W32) (cause : Nat) (t : Coarse) (s : State) : State :=
  if !sourceOn cfg cause then s
  else if s.cl.triggers.any (fun x => x.isLocal && x.time == t) then
    let word (w : Coarse × Nat × Nat × Nat) : Coarse × Nat × Nat × Nat :=
      if w.1 = t then (w.1, min w.2.1 cause, w.2.2.1, w.2.2.2) else w
    { s with cl := { s.cl with triggers := s.cl.triggers.map (mergeCause t cause), send := s.cl.send.map word } }
  else
    let x : Trigger := { time := t, src := s.unit, cause := cause, bus := false, isLocal := true, upAt := s.upOf t }
    let cl := { s.cl with triggers := s.cl.triggers ++ [x] }
    if bit cfg 5 then
      { s with cl := { cl with send := cl.send ++ [(t, cause, cl.tseq, 2)], tseq := (cl.tseq + 1) % 16 } }
    else { s with cl := cl }

/-- The edge at which TRGIN took the level `high` that it has now: `t`, or that of the run already reported (R239). -/
def State.trgEdge (s : State) (high : Bool) (t : Coarse) : Coarse :=
  match s.cl.trgRun with
  | some (l, c) => if l = high then c else t
  | none => t

/-- INFLT of CL.TRGCFG, in ns (R239). -/
def inflt (cfg : W32) : Nat := 1000 * fld cfg 8 8

/-- TRGIN has the active level (R239). -/
def activeIn (cfg : W32) (high : Bool) : Bool := high != bit cfg 7

/-- With its edge at `e` to the level `high`, TRGIN has been inactive since its last trigger for the INFLT µs, or 100 ns, that a
further one needs (R239). -/
def State.trgRested (s : State) (cfg : W32) (high : Bool) (e : Coarse) : Bool :=
  s.cl.trgReady || activeIn cfg high && (match s.cl.trgRun with
    | some (l, c) => l != high && max 100 (inflt cfg) ≤ ahead e c
    | none => true)

/-- The level run of TRGIN that began at `e` counts as a trigger (R239). -/
def State.trgCounts (s : State) (cfg : W32) (high : Bool) (e : Coarse) : Bool :=
  activeIn cfg high && s.trgRested cfg high e && sourceOn cfg 0 && decide (s.aheadBy e + Int.ofNat (inflt cfg) ≤ 0)

/-- TRGIN_TRIGGER (R239): TRGIN took the level `high` at `t` and has it still. A run of the active level that has lasted INFLT µs
forms a trigger once, whose TIME is that of its edge; runs of the other level give the inactivity that the next one needs. -/
def trginTrigger (high : Bool) (t : Coarse) (s : State) : State :=
  let e := s.trgEdge high t
  let cfg := s.trgCfg e
  let s' := { s with
    pins := { s.pins with trgin := high }
    cl := { s.cl with trgRun := some (high, e), trgReady := s.trgRested cfg high e && !s.trgCounts cfg high e } }
  if s.trgCounts cfg high e then formTrigger cfg 0 e s' else s'

/-- TRGIN_TRIGGER. -/
def execTrginTrigger (high : Bool) (time : Coarse) (s : State) : Host.Outcome State Fault Refusal :=
  act true (trginTrigger high time) s

/-- TRIG_CFG WRITE: CL.TRGCFG takes the image, for triggers to come (R242). No TIME, whose low 34 bits a bus word carries, lies
further back than what is kept of earlier writes. -/
def setTrgCfg (v : W32) (s : State) : State :=
  { s with cl := { s.cl with
    trgcfg := v &&& 0xFFFFFFEF
    trgHist := (s.uptime, s.cl.trgcfg) :: s.cl.trgHist.filter (fun h => s.uptime < h.1 + 2 ^ 35) } }

/-- TRIG_CFG (R242, R345): FIRE tests CL.TRGCFG as it stands, and its trigger is formed under it. -/
def trigCfgOwn (_ : Ticket) (p : List Byte) (s : State) : Reply :=
  match pByte p 0 with
  | 0 => if pByte p 4 = 0 then reply s (.badarg 4) else reply (setTrgCfg (pWord p 4) s) (.plain .ok)
  | 1 =>
    if bit s.cl.trgcfg 1 then reply (formTrigger s.cl.trgcfg 1 s.tb.coarse s) (.okWith (beBytes 8 s.tb.coarse.toNat))
    else reply s (.badarg 0)
  | _ => reply s (.badarg 0)

/-- TRIG_CFG WRITE. -/
def execTrigCfg (m : Nat) (s : State) : Host.Outcome State Fault Refusal :=
  act (m < 32) (lodge m 0x0802 (fun p => pByte p 0 != 1) (subLen 2 8) anyMode trigCfgOwn) s

/-- TRIG_CFG FIRE. -/
def execTrigCfgFire (m : Nat) (s : State) : Host.Outcome State Fault Refusal :=
  act (m < 32) (lodge m 0x0802 (fun p => pByte p 0 == 1) (subLen 2 8) anyMode trigCfgOwn) s

end Sys2Proof.Machine
end

