-- ==== Sys2Proof/Machine/Balustrade.lean ====
section
/-!
DEFINITION. Balustrade.lean: the envelope, the mask test by records and by the persistence map, violation frames and
ENV_LOAD (R227 to R237).
-/
namespace Sys2Proof.Machine

/-! ## The envelope -/

/-- The persistent word that holds E[x][c] (R228). -/
def envAddr (x c : Nat) : Nat := 0x01040000 + 4 * (256 * x + c / 2)

/-- E[x][c] in 2^-4 ns (R227). -/
def State.env (s : State) (x c : Nat) : Nat := fld (pread s (envAddr x c)) (16 * (c % 2)) 16

/-- CRC-32 over `n` entries from entry `i` on, two bytes each (R230). -/
def envCrc (s : State) : Nat → Nat → W32 → W32
  | 0, _, c => c
  | n + 1, i, c =>
    let e := s.env (i / 512) (i % 512)
    envCrc s n (i + 1) (crc32Byte (crc32Byte c (BitVec.ofNat 8 (e / 256))) (BitVec.ofNat 8 e))

/-- The CRC-32 of the whole envelope (R230). -/
def State.envSum (s : State) : W32 := ~~~(envCrc s 139264 0 0xFFFFFFFF)

/-- ENVSUM_DONE (R230). -/
def envsumDone (s : State) : State :=
  if s.bl.sumBusy then
    let s := checkReads ((s.ps.upset.map Prod.fst).filter (fun a => 0x01040000 ≤ a && a < 0x01084000)) s
    { s with bl := { s.bl with sumBusy := false, envSum := s.envSum } } else s

/-- ENVSUM_DONE. -/
def execEnvsumDone (s : State) : Host.Outcome State Fault Refusal := act true envsumDone s

/-- The words of an ENV_LOAD, in ascending address order (R229). -/
def EnvLoad.words (e : EnvLoad) : List (Nat × W32) :=
  (List.range (e.entries.length / 2)).map (fun j =>
    (envAddr e.line (e.c0 + 2 * j), w32 ((e.entries.getD (2 * j + 1) 0).toNat * 65536 + (e.entries.getD (2 * j) 0).toNat)))

/-- ENV_LOAD (R229, R344). -/
def envLoadOwn (tk : Ticket) (p : List Byte) (s : State) : Reply :=
  let x := pNat p 0 2
  let c0 := pNat p 2 2
  let n := pNat p 4 2
  if 271 < x then reply s (.badarg 0)
  else if c0 % 2 = 1 then reply s (.badarg 2)
  else if n % 2 = 1 ∨ n = 0 ∨ 512 < n ∨ 512 < c0 + n then reply s (.badarg 4)
  else if s.bl.envLoad.isSome then reply s (.plain .busy)
  else
    let es := (List.range n).map (fun j => BitVec.ofNat 16 (pNat p (8 + 2 * j) 2))
    reply { s with bl := { s.bl with envLoad := some { line := x, c0 := c0, entries := es, tk := tk } } } (.plain .ok)

/-- ENV_LOAD. -/
def execEnvLoad (m : Nat) (s : State) : Host.Outcome State Fault Refusal :=
  act (m < 32) (lodge m 0x0801 anyRow (fun p => 8 ≤ p.length && p.length == 8 + 2 * pNat p 4 2) anyMode envLoadOwn) s

/-- ENV_LOAD_COMPLETE (R229, R456): the words commit in order, up to a worn one. -/
def envLoadComplete (s : State) : State :=
  match s.bl.envLoad with
  | none => s
  | some e =>
    let r := commits e.words s
    let s := { r.2.2 with bl := { r.2.2.bl with envLoad := none, sumBusy := true } }
    complete e.tk (if r.2.1 then .plain .ok else { status := .worn, arg := 0, data := beBytes 2 r.1 ++ [0, 0] }) s

/-- ENV_LOAD_COMPLETE. -/
def execEnvLoadComplete (s : State) : Host.Outcome State Fault Refusal := act true envLoadComplete s

/-! ## The persistence map -/

/-- NOK of a dwell (R184). -/
def Dwell.nok (d : Dwell) : Nat := d.nfired - d.nvoid

/-- The rounded quotient of naturals, halves up; by zero the spec states no result. -/
def halfUp (a b : Nat) : Nat := if b = 0 then (Config.divByZero a).toNat else (2 * a + b) / (2 * b)

/-- BW of AR.CFG, and B, the bins in use (R163). -/
def State.bw (s : State) : Nat := fld s.ar.cfg 16 2
def State.bins (s : State) : Nat := 1024 * fld s.ar.cfg 0 4

/-- A_out in 2^-4 counts per bin, when it is valid (R186): `span` is T_sw - T_sw_prev, `nout` the OUTSIDE marks. -/
def State.aOut (s : State) (span : Option Nat) (nout nok : Nat) : Option Nat :=
  match span with
  | none => none
  | some t =>
    let out := t - nok * (s.window + s.guardNs)
    if 1000 ≤ out then some (halfUp (2 * 2 ^ s.bw * nout * nok) out) else none

/-- The first `nb` bins together (R233). -/
def lowBins (bins : Tab Nat) (nb : Nat) : Nat := Tab.sum (bins.filter (fun (kv : Nat × Nat) => kv.1 < nb))

/-- The channel is hot (R233). -/
def State.hotMap (s : State) (e : Nat) (bins : Tab Nat) (ap : Nat) : Bool :=
  let nb := min s.bins (e / 2 ^ (s.bw + 1))
  16 * fld s.bl.pcfg 0 16 + nb * ap ≤ 16 * lowBins bins nb

/-- BL.STATUS.ACTIVE (R231). -/
def State.supervises (s : State) : Bool := s.watching

/-- The map takes the frozen histogram of channel `c` of a dwell at the end of its pass (R233). -/
def mapUpdate (d : Dwell) (c : Nat) (bins : Tab Nat) (span : Option Nat) (nout : Nat) (s : State) : State :=
  let e := s.env d.pline c
  if !s.supervises || e = 0 then s else
  let key := 512 * d.pline + c
  let p := Tab.get zeros s.bl.persist key
  let p := if d.nok = 0 then p
    else if s.hotMap e bins ((s.aOut span nout d.nok).getD 0) then min 15 (p + 1) else 0
  updDwell d.did (fun d => { d with byMap := d.byMap ++ [(c, p)] })
    { s with bl := { s.bl with persist := Tab.put zeros s.bl.persist key p } }

/-- The map is cleared on each entry to WATCH (R231). -/
def clearMap (s : State) : State := { s with bl := { s.bl with persist := [] } }

/-! ## The decision -/

/-- Fields of a return record (R199). -/
def recTof (r : BitVec 128) : Nat := bits r.toNat 104 24
def recConf (r : BitVec 128) : Nat := bits r.toNat 72 8
def recChan (r : BitVec 128) : Nat := bits r.toNat 46 10

/-- A record violates (R232). -/
def State.recViolates (s : State) (x : Nat) (r : BitVec 128) : Bool :=
  let e := s.env x (recChan r)
  e ≠ 0 && recTof r < 16 * e && fld s.bl.cfg 24 8 ≤ recConf r

/-- A channel violates by map (R233). -/
def State.mapViolates (s : State) (x : Nat) (cp : Nat × Nat) : Bool := s.env x cp.1 ≠ 0 && fld s.bl.pcfg 24 4 ≤ cp.2

/-- Flight `f` is judged by the map (R234, R235). -/
def State.mapped (s : State) (c : Nat) : Bool := bit s.bl.pmflt (chanFlight c)

/-- The violating records of the channels in V by record, and the channels in V by map (R234). -/
def State.violations (s : State) (d : Dwell) : List (BitVec 128) × List Nat :=
  let recs := (d.records.flatMap Prod.snd).filter (s.recViolates d.pline)
  let maps := (d.byMap.filter (s.mapViolates d.pline)).map Prod.fst
  match fld s.bl.cfg 0 2 with
  | 0 => (recs.filter (fun r => !s.mapped (recChan r)), maps.filter s.mapped)
  | 1 => ([], maps)
  | 2 => (recs, maps)
  | _ => ([], [])

/-- The record with the smallest TOF, the first in stream order among equal ones. -/
def nearest : List (BitVec 128) → Option (BitVec 128)
  | [] => none
  | r :: rs => some (rs.foldl (fun (b : BitVec 128) (r : BitVec 128) => if recTof r < recTof b then r else b) r)

/-- Byte `b` of CHMASK (R236). -/
def maskByte (v : List Nat) (b : Nat) : Byte := BitVec.ofNat 8 ((List.range 8).map (fun j => if v.contains (8 * b + j) then 2 ^ (7 - j) else 0)).sum

/-- The group ID of a dwell. -/
def Dwell.groupId (d : Dwell) : Nat := d.group.getD (Config.noGroup d.did).toNat

/-- T_end of a dwell, in whole nanoseconds, rounded up (R171). -/
def Dwell.endStamp (d : Dwell) : Stamp := (((d.tEnd.getD 0) + 1023) >>> 10) <<< 10

/-- The payload of a violation frame (R236). -/
def violationBytes (s : State) (d : Dwell) (recs : List (BitVec 128)) (maps v : List Nat) (trig : Bool) : List Byte :=
  let near := nearest recs
  let flags := b2n (!recs.isEmpty) + 2 * b2n (!maps.isEmpty) + 4 * b2n s.deg + 8 * b2n d.short + 16 * b2n trig
  wBytes s.bl.violCnt ++ beBytes 2 d.epoch.toNat ++ [0, 0] ++ beBytes 8 d.endStamp.toNat ++ beBytes 3 d.groupId ++
    [BitVec.ofNat 8 flags] ++ beBytes 2 d.pline ++ beBytes 2 d.line ++ beBytes 2 v.length ++
    (match near with
      | some r => beBytes 2 (recChan r) ++ beBytes 4 (recTof r) ++ beBytes 2 (s.env d.pline (recChan r))
      | none => [0xFF, 0xFF, 0x00, 0xFF, 0xFF, 0xFF, 0, 0]) ++ [0, 0] ++ (List.range 64).map (maskByte v)

/-- What a violating dwell brings about (R236). -/
def violation (d : Dwell) (recs : List (BitVec 128)) (maps v : List Nat) (s : State) : State :=
  let cfg := s.trgCfg s.tb.coarse
  let trig := sourceOn cfg 2
  let s := raise 80 { s with bl := { s.bl with violCnt := s.bl.violCnt + 1, viol := true, violAt := some s.uptime } }
  let s := formTrigger cfg 2 s.tb.coarse s
  sendEvent 1 (eventFrame 0x0880 s.deg (violationBytes s d recs maps v trig)) s

/-- The decision on a dwell (R234), in WATCH. -/
def judgeDwell (d : Dwell) (s : State) : State :=
  if !s.supervises then s else
  let s := { s with bl := { s.bl with dwellCnt := s.bl.dwellCnt + 1 } }
  let (recs, maps) := s.violations d
  let v := (recs.map recChan ++ maps).eraseDups
  if fld s.bl.cfg 16 5 ≤ v.length then violation d recs maps v s else s

/-- The last dwell of a schedule that a change to SURVEY stopped is gone: SURVEY starts (R387 step 3). -/
def surveyNext (s : State) : State := if s.th.pend = some .survey ∧ s.sh.dwells.isEmpty = true then surveyStart s else s

/-- DWELL_DECISION (R234): the first dwell whose item has entered the stream is decided, and gone. -/
def dwellDecision (s : State) : State :=
  match s.sh.dwells.find? (fun d => d.placed) with
  | some d => surveyNext (judgeDwell d { s with sh := { s.sh with dwells := s.sh.dwells.filter (fun x => x.did ≠ d.did) } })
  | none => s

/-- DWELL_DECISION. -/
def execDwellDecision (s : State) : Host.Outcome State Fault Refusal := act true dwellDecision s

end Sys2Proof.Machine
end

