-- ==== Sys2Proof/Machine/Gallery.lean ====
section
/-!
DEFINITION. Gallery.lean: the capture recorder: memory, records, arming, triggers, marks, readout and retirement
(chapter 10).
-/
namespace Sys2Proof.Machine

/-! ## Memory and partitions -/

/-- Memory channels in service, ascending (R254, R278). -/
def State.memChans (s : State) : List Nat := (List.range 8).filter (fun c => s.gl.retired ≠ some c)

/-- Capacity C in records (R254). -/
def State.capacity (s : State) : Nat := s.memChans.length * s.gl.density * 2 ^ 27

/-- NPART (R255). -/
def State.nPart (s : State) : Nat := 2 ^ fld s.gl.cfg 16 3

/-- PSIZE in records (R255). -/
def State.pSize (s : State) : Nat := s.capacity / (512 * s.nPart) * 512

/-- A partition that nothing has been written to. -/
def freshPart (_ : Nat) : Part :=
  { state := 0, trig := false, short := false, wc := 0, t := none, time := 0, pre := 0, post := 0 }

/-- Partition `p`. -/
def State.partn (s : State) (p : Nat) : Part := Tab.get freshPart s.gl.parts p

/-- Partition `p` changed. -/
def updPart (p : Nat) (f : Part → Part) (s : State) : State :=
  { s with gl := { s.gl with parts := Tab.upd freshPart s.gl.parts p f } }

/-- The oldest retained position of a partition (R268). -/
def oldest (psize wc : Nat) : Nat := wc / 512 * 512 + 512 - psize

/-- The memory channel of block `n` (R254). -/
def State.blockChan (s : State) (n : Nat) : Nat :=
  let cs := s.memChans
  cs.getD (n % cs.length) 0

/-- The byte address of position `k` of partition `p`: 2^34 bytes are set aside for each memory channel (R254, R268). -/
def State.recAddr (s : State) (p k : Nat) : Nat :=
  let slot := p * s.pSize + k % s.pSize
  let n := slot / 32
  2 ^ 34 * s.blockChan n + 256 * (n / s.memChans.length) + 8 * (slot % 32)

/-- Address `a` lies in the segment of 512 slots that begins at position `k` of partition `p` (R254, R268). -/
def State.inSegment (s : State) (p k a : Nat) : Bool :=
  (List.range 16).any (fun j => decide (s.recAddr p (k + 32 * j) ≤ a ∧ a < s.recAddr p (k + 32 * j) + 256))

/-- The bytes of a record in memory, least significant first (R256). -/
def recBytes (w : W64) : List Byte := (List.range 8).map (fun j => BitVec.ofNat 8 (w.toNat / 2 ^ (8 * j)))

/-- The record at position `k` of partition `p`. -/
def State.recAt (s : State) (p k : Nat) : W64 :=
  BitVec.ofNat 64 (beNat (Memory.readAll 8 s.gl.mem (s.recAddr p k)).reverse)

/-! ## Records (R256) -/

/-- TAG of an instant, at its place. -/
def tagOf (c : Coarse) : Nat := put c.toNat 10 39

def edgeRec (i : Nat) (rising : Bool) (st : Stamp) : W64 :=
  BitVec.ofNat 64 (put 2 60 4 + put i 50 10 + put (if rising then 0 else 1) 49 1 + put st.toNat 0 49)
def retRec (ch ridx tof peak conf : Nat) : W64 :=
  BitVec.ofNat 64 (put 3 60 4 + put ch 50 10 + put ridx 48 2 + put tof 24 24 + put peak 8 16 + put conf 0 8)
def evtRec (n occ : Nat) (c : Coarse) : W64 := BitVec.ofNat 64 (put 5 60 4 + put n 51 9 + tagOf c + put occ 0 10)
def trigRec (cause src kind : Nat) (c : Coarse) : W64 :=
  BitVec.ofNat 64 (put 6 60 4 + put cause 57 3 + put src 54 3 + put kind 52 2 + tagOf c)
def markRec (m : Nat) (c : Coarse) : W64 := BitVec.ofNat 64 (put 7 60 4 + put m 56 4 + tagOf c)
def baseRec (e : W16) (ref : Nat) : W64 := BitVec.ofNat 64 (put 1 60 4 + put e.toNat 40 16 + put ref 2 38)
def padRec : W64 := BitVec.ofNat 64 (put 15 60 4)

/-! ## Marks -/

/-- Marks of partition `p` that `lost` names become invalid (R275). -/
def dropMarks (lost : Nat × Nat → Bool) (s : State) : State :=
  { s with gl := { s.gl with marks := s.gl.marks.filter (fun (m : Nat × (Nat × Nat)) => !lost m.2) } }

/-- A mark that `lost` names is valid. -/
def State.anyMark (s : State) (lost : Nat × Nat → Bool) : Bool := s.gl.marks.any (fun (m : Nat × (Nat × Nat)) => lost m.2)

/-- Mark `m`: partition and position. -/
def State.mark (s : State) (m : Nat) : Option (Nat × Nat) :=
  (s.gl.marks.find? (fun (x : Nat × (Nat × Nat)) => x.1 = m)).map Prod.snd

/-! ## The writer -/

/-- The segment that begins at position `k` of partition `p` takes the place of one that the stream has not sent yet (R277). -/
def Stream.loses (psize p k : Nat) (x : Stream) : Bool :=
  x.part == p && x.left ≠ 0 &&
    decide ((Int.ofNat (k / 512) - Int.ofNat (x.pos / 512)) % Int.ofNat (psize / 512) ≤
      Int.ofNat ((x.pos + x.left - 1) / 512 - x.pos / 512))

/-- A running STREAM as the segment at position `k` of partition `p` begins. -/
def streamAt (p k : Nat) (s : State) : State :=
  { s with gl := { s.gl with stream := s.gl.stream.map (fun x => { x with lost := x.lost || x.loses s.pSize p k }) } }

/-- A record goes to the next position of the partition being written; where a segment begins there, its old contents
are erased, and marks and a STREAM that need them lose them (R268, R275, R277). -/
def putRecord (w : W64) (s : State) : State :=
  let p := s.gl.part
  let k := (s.partn p).wc
  let lost (m : Nat × Nat) : Bool := m.1 == p && decide (m.2 < oldest s.pSize k)
  let s := if k % 512 = 0 ∧ s.anyMark lost = true then raise 100 (dropMarks lost s) else s
  let s := if k % 512 = 0 then streamAt p k s else s
  let mem := if k % 512 = 0 then Memory.wipe s.gl.mem (s.inSegment p k) else s.gl.mem
  let mem := Memory.writeAll (recBytes w) mem (s.recAddr p k)
  count 172 1 (updPart p (fun x => { x with wc := k + 1 }) { s with gl := { s.gl with mem := mem, wcount := s.gl.wcount + 1 } })

/-- Position T + POST of the capture has been written (R271). -/
def State.captured (s : State) : Bool :=
  s.gl.writing && s.gl.state == .post && (match (s.partn s.gl.part).t with
    | some t => decide (t + (s.partn s.gl.part).post < (s.partn s.gl.part).wc)
    | none => false)

/-- A timed record lies 2^37 ns or more from t0 of the current BASE (R258). -/
def farFrom (t0 : Nat) (c : Coarse) : Bool := 2 ^ 37 ≤ (BitVec.ofNat 54 t0 - c).toInt.natAbs

/-- The record needs another BASE than the current one (R258). -/
def needsBase (base : Option (W16 × Nat)) (r : GRec) : Bool :=
  match base with
  | none => true
  | some (e, t0) => e != r.epoch || (match r.time with
    | some c => farFrom t0 c
    | none => false)

/-- The BASE of a segment that opens for record `r`: REF is that of the present count, or where the record still belongs to the
epoch before, of the record's own instant; for a RET, which has none, of the last count of that epoch (R256, R257, R259). -/
def State.baseFor (s : State) (r : GRec) : W16 × Nat :=
  let c := if r.epoch = s.tb.epoch then s.tb.coarse else r.time.getD (BitVec.allOnes 54)
  (r.epoch, c.toNat / 2 ^ 16 * 2 ^ 16)

/-- What the record that has just been written at position `k` leaves behind: T, or a mark. -/
def noteWritten (r : GRec) (k : Nat) (s : State) : State :=
  let s := if r.trig then updPart s.gl.part (fun x => { x with t := some k }) s else s
  match r.mark with
  | some m => { s with gl := { s.gl with marks := Tab.insert s.gl.marks m (s.gl.part, k) } }
  | none => s

/-- The writer fills one position for the first record handed (R258): a BASE at a segment start, PAD where another BASE
is needed, else the record itself. The epoch opener (word 0) only asks for its BASE. -/
def writeOne (s : State) : State :=
  match s.gl.buf with
  | [] => s
  | r :: rs =>
    if !s.gl.writing || s.captured then s else
    let k := (s.partn s.gl.part).wc
    if k % 512 = 0 ∧ (s.gl.base.isNone = true ∨ needsBase s.gl.base r = true ∨ r.word ≠ 0) then
      let b := s.baseFor r
      let s := putRecord (baseRec b.1 (b.2 / 2 ^ 16)) s
      { s with gl := { s.gl with base := some b, buf := if r.word = 0 then rs else r :: rs } }
    else if needsBase s.gl.base r then putRecord padRec s
    else if r.word = 0 then { s with gl := { s.gl with buf := rs } }
    else noteWritten r k (putRecord r.word { s with gl := { s.gl with buf := rs } })

/-- GALLERY_RECORD_WRITE (R258, R264). -/
def execGalleryRecordWrite (s : State) : Host.Outcome State Fault Refusal := act true writeOne s

/-- PAD fills the rest of the current block (R271, R272). -/
def padBlock : Nat → State → State
  | 0, s => s
  | n + 1, s => if (s.partn s.gl.part).wc % 32 = 0 then s else padBlock n (putRecord padRec s)

/-- The first FREE partition in cyclic order after the one last used (R266). -/
def State.freePart (s : State) : Option Nat :=
  let n := s.nPart
  ((List.range n).map (fun j => if s.gl.used then (s.gl.part + 1 + j) % n else j)).find? (fun p => (s.partn p).state = 0)

/-- A partition is taken and writing starts at its position 0, with the reference table cleared (R266, R271). -/
def takePart (p : Nat) (st : GlState) (s : State) : State :=
  updPart p (fun _ => { freshPart p with state := 1, pre := s.gl.pre, post := s.gl.post })
    { s with gl := { s.gl with part := p, used := true, writing := true, state := st, base := none, refs := [] } }

/-- The Gallery arms into partition `p` (R266): dwells are counted from here (R261), and events 98 and 99 may come (R270). -/
def armPart (p : Nat) (s : State) : State :=
  takePart p .fill { s with gl := { s.gl with
    buf := [], hold := [], holding := false, visits := [], evts := [], ev98 := false, ev99 := false } }

/-- A re-armed Gallery goes on in a free partition, or waits for one (R271). -/
def rearm (s : State) : State :=
  match s.freePart with
  | some p => takePart p .rearm s
  | none => { s with gl := { s.gl with state := .rearm, writing := false, buf := [], hold := [], holding := false } }

/-- Writing stops: what was handed and not written is gone. -/
def stopWriting (st : GlState) (s : State) : State :=
  { s with gl := { s.gl with state := st, writing := false, buf := [], hold := [], holding := false, evts := [] } }

/-- CAPTURE_DONE (R271). With REARM = 1 a new arm begins (R270), and what is pending or waits to be written, the record of event
97 among it, goes to the next partition. -/
def captureDone (s : State) : State :=
  if !s.captured then s else
  let s := padBlock 32 s
  let s := updPart s.gl.part (fun x => { x with state := 2 }) s
  if bit s.gl.cfg 9 then rearm (raise 97 { s with gl := { s.gl with state := .rearm, ev98 := false, ev99 := false } })
  else raise 97 (stopWriting .done s)

/-- CAPTURE_DONE. -/
def execCaptureDone (s : State) : Host.Outcome State Fault Refusal := act true captureDone s

/-- CAPTURE_READY (R268). -/
def captureReady (s : State) : State :=
  if s.gl.writing ∧ (s.gl.state = .fill ∨ s.gl.state = .rearm) ∧ (s.partn s.gl.part).pre ≤ (s.partn s.gl.part).wc then
    { s with gl := { s.gl with state := .ready } }
  else s

/-- CAPTURE_READY. -/
def execCaptureReady (s : State) : Host.Outcome State Fault Refusal := act true captureReady s

/-- Every record handed so far is written, a capture that completes on the way being closed. -/
def drain : Nat → State → State
  | 0, s => s
  | n + 1, s =>
    if !s.gl.writing || s.gl.buf.isEmpty then s
    else drain n (if s.captured then captureDone s else writeOne s)

/-- Positions that the records handed can take at most. -/
def State.drainBound (s : State) : Nat := 1100 * (s.gl.buf.length + 1)

/-- Writing ends (R272): the partition being written becomes HELD, SHORT where it was left in POST with position T + POST not
yet written; a capture that had reached it is closed first (R271). -/
def endWriting (s : State) : State :=
  if s.gl.state = .out then s
  else if !s.gl.writing then stopWriting .idle s
  else
    let s := captureDone (drain s.drainBound s)
    if !s.gl.writing then stopWriting .idle s
    else
      let post := s.gl.state == .post
      let s := padBlock 32 s
      stopWriting .idle (updPart s.gl.part (fun x => { x with state := 2, short := post }) s)

/-! ## Faults of memory channels (R278, R408) -/

/-- A running STREAM completes. -/
def endStream (st : Status) (s : State) : State :=
  match s.gl.stream with
  | some x => complete x.tk { status := st, arg := 0, data := beBytes 8 x.sent } { s with gl := { s.gl with stream := none } }
  | none => s

/-- Writing ends, every partition is FREE, every mark is invalid and any STREAM completes with FAULT (R278). -/
def clearPartitions (s : State) : State :=
  let lost := !s.gl.marks.isEmpty
  let free (_ : Nat) (x : Part) : Part := { x with state := 0 }
  let s := stopWriting .idle { s with gl := { s.gl with marks := [], parts := Tab.remap freshPart free s.gl.parts } }
  endStream .fault (raiseIf lost 100 s)

/-- What an ARM with PRE and POST answers, but for OK (R266). -/
def State.armFails (s : State) (pre post : Nat) : Option Answer :=
  if s.gl.state = .out then some (.plain .fault)
  else if s.gl.writing ∨ s.freePart.isNone = true then some (.plain .busy)
  else if s.pSize < post ∨ s.pSize < pre + post then some (.plain .badlen)
  else if !galleryAdmits s s.adm then some (.notAdmitted 7)
  else none

/-- The Gallery arms by itself with GL.PRE and GL.POST; a failure raises event 102 (R267, R278). -/
def selfArm (s : State) : State :=
  match s.armFails s.gl.pre s.gl.post, s.freePart with
  | none, some p => armPart p s
  | _, _ => raise 102 s

/-- AUTOARM at an entry to WATCH (R267). -/
def autoArm (s : State) : State := if bit s.gl.cfg 8 then selfArm s else s

/-- P.GL_RETIRE. -/
def retireAddr : Nat := 0x01000260

/-- Channel `c` leaves the rotation (R278), P.GL_RETIRE being written; the Gallery arms again where it was writing. -/
def leaveRotation (c : Nat) (s : State) : State :=
  let was := s.gl.writing
  let out := s.gl.state == .out
  let s := clearPartitions s
  let s := raise 101 { s with gl := { s.gl with retired := some c, state := if out then .out else s.gl.state } }
  if was then selfArm s else s

/-- P.GL_RETIRE with channel `c` retired; OUT stays as it is (R278). -/
def retireWord (c : Nat) (s : State) : W32 := (pread s retireAddr &&& 0x10) ||| w32 (8 + c)

/-- Channel `c` is retired (R278). -/
def retireChan (c : Nat) (s : State) : State := leaveRotation c (commitOwn retireAddr (retireWord c s) s)

/-- The Gallery goes out of service (R252, R278). -/
def outOfService (s : State) : State :=
  let s := clearPartitions s
  raise 103 { s with gl := { s.gl with state := .out } }

/-- Memory channel `c` is declared faulty (R278, R408): the first one is retired, a second puts the Gallery OUT. -/
def memFault (c : Nat) (s : State) : State :=
  match s.gl.retired with
  | none => retireChan c (detect 0x0601 c 10 false s)
  | some r =>
    if r = c ∨ s.gl.state = .out then s
    else outOfService (commitOwn retireAddr (pread s retireAddr ||| 0x10) (detect 0x0602 c 0 true s))

/-- MEMORY_CHECK (R408): two failed read DQ calibration checks in a row. -/
def memoryCheck (c : Nat) (ok : Bool) (s : State) : State :=
  if !s.gl.trained || s.gl.selfRefresh || s.gl.state == .out || s.gl.retired == some c then s else
  let n := if ok then 0 else Tab.get zeros s.gl.checks c + 1
  let s := { s with gl := { s.gl with checks := Tab.put zeros s.gl.checks c (if 2 ≤ n then 0 else n) } }
  if 2 ≤ n then memFault c s else s

/-- MEMORY_CHECK. -/
def execMemoryCheck (c : Nat) (ok : Bool) (s : State) : Host.Outcome State Fault Refusal := act (c < 8) (memoryCheck c ok) s

/-- MR4_READ (R253). -/
def mr4Read (hot : Bool) (s : State) : State :=
  raiseIf (hot && s.gl.trained && !s.gl.selfRefresh) 104 s

/-- MR4_READ. -/
def execMr4Read (hot : Bool) (s : State) : Host.Outcome State Fault Refusal := act true (mr4Read hot) s

/-- REFRESH (R253): memory contents are kept; nothing that State holds changes. -/
def execRefresh (s : State) : Host.Outcome State Fault Refusal := act true (fun s => s) s

/-- ZQ_CALIBRATION (R253): nothing that State holds changes. -/
def execZqCalibration (s : State) : Host.Outcome State Fault Refusal := act true (fun s => s) s

/-- MEMORY_TRAINING_END (R252, R278): channels that fail training are faulty; no memory, or densities that differ, put
the Gallery out of service. -/
def memoryTrainingEnd (r : Training) (s : State) : State :=
  if !s.th.startup || s.gl.trained || s.gl.state == .out then s else
  let s := { s with gl := { s.gl with trained := true } }
  if !r.same || !([2, 4, 8, 16].contains r.density) then outOfService s
  else (r.failed.eraseDups.filter (fun c => c < 8 && s.gl.retired ≠ some c)).foldl (fun s c => memFault c s)
    { s with gl := { s.gl with density := r.density } }

/-- MEMORY_TRAINING_END. -/
def execMemoryTrainingEnd (r : Training) (s : State) : Host.Outcome State Fault Refusal := act true (memoryTrainingEnd r) s

/-! ## Sources of records (R259 to R262) -/

/-- The rest of the current block counts as PAD. No byte is stored: the channel that holds the buffer back takes no write, and
its fault frees the partition at once (R264, R278). -/
def padCount (s : State) : State :=
  let n := (32 - (s.partn s.gl.part).wc % 32) % 32
  count 172 n (updPart s.gl.part (fun x => { x with wc := x.wc + n }) { s with gl := { s.gl with wcount := s.gl.wcount + BitVec.ofNat 64 n } })

/-- The write buffer is full (R264): the capture ends as under R272 but SHORT, and the channel that holds the oldest unwritten
block is faulty. -/
def bufferFull (s : State) : State :=
  let p := s.gl.part
  let c := s.blockChan ((p * s.pSize + (s.partn p).wc % s.pSize) / 32)
  let s := stopWriting .idle (updPart p (fun x => { x with state := 2, short := true }) (padCount s))
  memFault c (raise 102 s)

/-- A record is handed to the write path while a partition is written; one of the new epoch waits in the hold store
(R259). -/
def hand (r : GRec) (s : State) : State :=
  if !s.gl.writing then s
  else if s.gl.holding ∧ r.epoch = s.tb.epoch then { s with gl := { s.gl with hold := s.gl.hold ++ [r] } }
  else if 65535 ≤ s.gl.buf.length then bufferFull s
  else { s with gl := { s.gl with buf := s.gl.buf ++ [r] } }

/-- A timed record of an instant near the present. -/
def timed (s : State) (w : W64) (c : Coarse) : GRec :=
  { word := w, time := some c, epoch := s.epochOf c, mark := none, trig := false }

/-- A stamp popped on channel `i` reaches the Gallery (R260). -/
def galleryEdge (i : Nat) (st : Stamp) (rising : Bool) (s : State) : State :=
  if s.gl.writing && bit s.gl.cfg 0 && bit (Tab.get zeroW s.gl.esel (i / 32)) (i % 32) then
    hand (timed s (edgeRec i rising st) (Stamp.coarse st)) s
  else s

/-- The reference entry of a return: TOF + 1, zero for none (R261). -/
def refKey (x ch ridx : Nat) : Nat := (512 * x + ch) * 4 + ridx

/-- Fields PEAK and RIDX of a return record (R199). -/
def recPeak (r : BitVec 128) : Nat := bits r.toNat 88 16
def recRidx (r : BitVec 128) : Nat := bits r.toNat 35 2

/-- What a return of a channel becomes: its new table entry and its RET record, when it counts as changed (R261). -/
def changedReturn (dtof : Nat) (key : Bool) (old : Nat) (ch ridx : Nat) (r : Option (BitVec 128)) : Option (Nat × W64) :=
  match r with
  | some x =>
    let tof := recTof x
    let moved := old = 0 ∨ dtof ≤ (Int.ofNat tof - Int.ofNat (old - 1)).natAbs
    if key ∨ moved then some (tof + 1, retRec ch ridx tof (recPeak x) (recConf x)) else none
  | none => if old = 0 then none else some (0, retRec ch ridx 0xFFFFFF 0 0)

/-- The changed returns of one channel of a dwell, and the reference table after it. -/
def changedOf (dtof : Nat) (key : Bool) (x : Nat) (acc : Tab Nat × List W64) (c : Nat × List (BitVec 128)) : Tab Nat × List W64 :=
  (List.range 4).foldl (fun (a : Tab Nat × List W64) ridx =>
    let k := refKey x c.1 ridx
    match changedReturn dtof key (Tab.get zeros a.1 k) c.1 ridx (c.2.find? (fun r => recRidx r = ridx)) with
    | some (v, w) => (Tab.put zeros a.1 k v, a.2 ++ [w])
    | none => a) acc

/-- DWELL record (R256). -/
def dwellRec (s : State) (d : Dwell) (key : Bool) : W64 :=
  BitVec.ofNat 64 (put 4 60 4 + put d.pline 51 9 + put (b2n key) 50 1 + tagOf (Stamp.coarse d.endStamp) +
    put (b2n s.deg) 9 1 + put (b2n d.short) 8 1 + put (b2n d.inc) 7 1 + put (b2n d.amb) 6 1 + put (b2n (d.nvoid ≠ 0)) 5 1)

/-- A dwell enters the return stream: its changed returns and its DWELL record (R261). `recs` lists every served channel
with its records, by channel. A dwell that passes while the re-armed Gallery waits for a partition is only counted. -/
def galleryDwell (d : Dwell) (recs : List (Nat × List (BitVec 128))) (s : State) : State :=
  if !((s.gl.writing || s.gl.state == .rearm) && bit s.gl.cfg 1) then s else
  let v := Tab.get zeros s.gl.visits d.pline
  if !s.gl.writing then { s with gl := { s.gl with visits := Tab.put zeros s.gl.visits d.pline (v + 1) } } else
  let keyn := fld s.gl.rcfg 24 8
  let key := decide (v = 0 ∨ (keyn ≠ 0 ∧ v % keyn = 0))
  let r := recs.foldl (changedOf (fld s.gl.rcfg 0 16) key d.pline) (s.gl.refs, [])
  let s := { s with gl := { s.gl with refs := r.1, visits := Tab.put zeros s.gl.visits d.pline (v + 1) } }
  if r.2.isEmpty then s else
  let c := Stamp.coarse d.endStamp
  let e := s.epochOf c
  let s := r.2.foldl (fun s w => hand { word := w, time := none, epoch := e, mark := none, trig := false } s) s
  hand (timed s (dwellRec s d key) c) s

/-- The pending EVT record that the slot takes: in cyclic order of source number (R262). -/
def State.nextEvt (s : State) : Option (Nat × (Nat × Coarse)) :=
  match s.gl.evts.find? (fun (e : Nat × (Nat × Coarse)) => s.gl.evtNext ≤ e.1) with
  | some e => some e
  | none => s.gl.evts.head?

/-- EVT_RECORD_SLOT (R262). -/
def evtRecordSlot (s : State) : State :=
  if !s.gl.writing then s else
  match s.nextEvt with
  | some (n, (occ, c)) =>
    hand (timed s (evtRec n occ c) c) { s with gl := { s.gl with evts := Tab.erase s.gl.evts n, evtNext := (n + 1) % 512 } }
  | none => s

/-- EVT_RECORD_SLOT. -/
def execEvtRecordSlot (s : State) : Host.Outcome State Fault Refusal := act true evtRecordSlot s

/-- An epoch advance while a partition is written: records of the new epoch are held (R259). -/
def galleryWrap (s : State) : State := if s.gl.writing then { s with gl := { s.gl with holding := true } } else s

/-- EPOCH_HOLD_RELEASE (R259): the BASE that opens the new epoch, and after it the held records; more than the write buffer takes is
its fault (R264). -/
def epochHoldRelease (s : State) : State :=
  if s.gl.holding then
    let opener : GRec := { word := 0, time := none, epoch := s.tb.epoch, mark := none, trig := false }
    let s' := { s with gl := { s.gl with holding := false, buf := s.gl.buf ++ opener :: s.gl.hold, hold := [] } }
    if 65536 < s'.gl.buf.length then bufferFull s' else s'
  else s

/-- EPOCH_HOLD_RELEASE. -/
def execEpochHoldRelease (s : State) : Host.Outcome State Fault Refusal := act true epochHoldRelease s

/-! ## Triggers (R269, R270) -/

/-- A TRIG record at its action instant. -/
def trigHand (x : Trigger) (kind : Nat) (honoured : Bool) (s : State) : State :=
  let c := x.time + 16384
  hand { timed s (trigRec x.cause x.src kind c) c with trig := honoured } s

/-- A delivered trigger reaches the Gallery. -/
def galleryTrigger (x : Trigger) (s : State) : State :=
  match s.gl.state with
  | .ready =>
    let s := raise 96 (updPart s.gl.part (fun p => { p with trig := true, time := x.time })
      { s with gl := { s.gl with state := .post, ev98 := false, ev99 := false } })
    let s := trigHand x 0 true s
    drain s.drainBound s
  | .fill =>
    let s := raiseIf (!s.gl.ev98) 98 { s with gl := { s.gl with earlyTrg := s.gl.earlyTrg + 1, ev98 := true } }
    trigHand x 1 false s
  | .rearm =>
    let s := raiseIf (!s.gl.ev99) 99 { s with gl := { s.gl with rearmTrg := s.gl.rearmTrg + 1, ev99 := true } }
    trigHand x 2 false s
  | .post => trigHand x 3 false { s with gl := { s.gl with postTrg := s.gl.postTrg + 1 } }
  | _ => s

/-! ## ARM, DISARM and MARK_SET -/

/-- WATCH, or LIMP entered from WATCH. -/
def watchMode (s : State) (_ : List Byte) : Bool := s.watching

/-- ARM (R266, R346). -/
def armOwn (_ : Ticket) (p : List Byte) (s : State) : Reply :=
  let pre := pNat p 0 8
  let post := pNat p 8 8
  match s.armFails pre post with
  | some a => reply s a
  | none =>
    let s := { s with gl := { s.gl with pre := pre, post := post } }
    match s.freePart with
    | some q => reply (armPart q s) (.okWith ([BitVec.ofNat 8 q, 0, 0, 0] ++ beBytes 8 s.pSize))
    | none => reply s (.plain .busy)

/-- ARM. -/
def execArm (m : Nat) (s : State) : Host.Outcome State Fault Refusal :=
  act (m < 32) (lodge m 0x0803 anyRow (fun p => p.length == 16) watchMode armOwn) s

/-- DISARM (R272, R347). -/
def disarmOwn (_ : Ticket) (_ : List Byte) (s : State) : Reply :=
  let t := endWriting s
  reply t (.okWith [if s.gl.writing then BitVec.ofNat 8 t.gl.part else 0xFF, 0, 0, 0])

/-- DISARM. -/
def execDisarm (m : Nat) (s : State) : Host.Outcome State Fault Refusal :=
  act (m < 32) (lodge m 0x0804 anyRow (fun p => p.isEmpty) anyMode disarmOwn) s

/-- MARK_SET (R274, R348): the MARK record takes the next position, after every record handed before it. Refused, it changes
nothing (R315). -/
def markSetOwn (_ : Ticket) (p : List Byte) (s : State) : Reply :=
  let m := pByte p 0
  if 15 < m then reply s (.badarg 0)
  else if !s.gl.writing then reply s (.plain .stale)
  else
    let t := hand { timed s (markRec m s.tb.coarse) s.tb.coarse with mark := some m }
      { s with gl := { s.gl with marks := s.gl.marks.filter (fun (x : Nat × (Nat × Nat)) => x.1 ≠ m) } }
    let t := drain t.drainBound t
    match t.mark m with
    | some (q, k) => reply t (.okWith ([BitVec.ofNat 8 q, 0, 0, 0] ++ beBytes 8 k))
    | none => reply s (.plain .stale)

/-- MARK_SET: during the hold of R259 the Lodge executes it once the held records are released, since its position is not
known before. -/
def execMarkSet (m : Nat) (s : State) : Host.Outcome State Fault Refusal :=
  act (m < 32) (fun s => if s.gl.holding then s else
    lodge m 0x0805 anyRow (fun p => p.length == 4) anyMode markSetOwn s) s

/-! ## CAP_READ (R276, R277, R349) -/

/-- Where a READ or STREAM starts: partition and position, or the answer that refuses it, in the order of R276. -/
def capStart (s : State) (p : List Byte) (limit : Nat) : Except Answer (Nat × Nat) :=
  let base := pByte p 1
  let q := pByte p 2
  let off := signed 32 (pNat p 4 4)
  let n := pNat p 8 4
  if 2 < base then .error (.badarg 1)
  else if (base = 2 ∧ 15 < q) ∨ (base ≠ 2 ∧ s.nPart ≤ q) then .error (.badarg 2)
  else if n = 0 ∨ limit < n then .error (.badarg 8)
  else
    let place : Option (Nat × Nat) :=
      if base = 2 then s.mark q
      else if base = 1 then (s.partn q).t.map (fun t => (q, t))
      else some (q, oldest s.pSize (s.partn q).wc)
    match place with
    | none => .error (if base = 2 then .plain .stale else if (s.partn q).state = 0 then .badarg 2 else .badarg 1)
    | some (r, b) =>
      let start := Int.ofNat b + off
      let wc := (s.partn r).wc
      if start < Int.ofNat (oldest s.pSize wc) then .error (.plain .stale)
      else if Int.ofNat wc < start + Int.ofNat n then .error (.badarg 8)
      else if (s.partn r).state = 0 then .error (.badarg 2)
      else .ok (r, start.toNat)

/-- A record in a payload, most significant byte first (R314). -/
def State.recOut (s : State) (p k : Nat) : List Byte := beBytes 8 (s.recAt p k).toNat

/-- Position, segment BASE and `n` records from position `k` (R276, R277). -/
def State.recordsOut (s : State) (p k n : Nat) : List Byte :=
  beBytes 8 k ++ s.recOut p (k / 512 * 512) ++ (List.range n).flatMap (fun j => s.recOut p (k + j))

/-- CAP_READ READ. -/
def capReadRead (p : List Byte) (s : State) : Reply :=
  match capStart s p 168 with
  | .error a => reply s a
  | .ok (q, k) => reply (count 173 (pNat p 8 4) s) (.okWith (s.recordsOut q k (pNat p 8 4)))

/-- CAP_READ STREAM (R277). -/
def capReadStream (tk : Ticket) (p : List Byte) (s : State) : Reply :=
  if tk.src.path = spiPath then reply s (.badarg 0)
  else if s.gl.stream.isSome then reply s (.plain .busy) else
  match capStart s p (2 ^ 32 - 1) with
  | .error a => reply s a
  | .ok (q, k) =>
    let x : Stream := { part := q, pos := k, left := pNat p 8 4, sent := 0, tk := tk, lost := false }
    reply { s with gl := { s.gl with stream := some x } } (.plain .ok)

/-- GL.PARTSTAT image. -/
def Part.image (x : Part) : W32 := w32 (put x.state 30 2 + put (b2n x.trig) 29 1 + put (b2n x.short) 28 1)

/-- CAP_READ INFO (R349). -/
def capReadInfo (p : List Byte) (s : State) : Reply :=
  let q := pByte p 2
  if s.nPart ≤ q then reply s (.badarg 2) else
  let x := s.partn q
  let here (m : Nat) : Option Nat := match s.mark m with
    | some (r, k) => if r = q then some k else none
    | none => none
  let ones := List.replicate 8 (0xFF : Byte)
  let posn (o : Option Nat) : List Byte := match o with
    | some k => beBytes 8 k
    | none => ones
  let valid := ((List.range 16).map (fun m => if (here m).isSome then 2 ^ m else 0)).sum
  reply s (.okWith (wBytes x.image ++ beBytes 8 x.wc ++ beBytes 8 (oldest s.pSize x.wc) ++ posn (if x.trig then x.t else none) ++
    (if x.trig then beBytes 8 x.time.toNat else ones) ++ beBytes 8 x.pre ++ beBytes 8 x.post ++ beBytes 2 valid ++ [0, 0] ++
    (List.range 16).flatMap (fun m => posn (here m))))

/-- CAP_READ RELEASE (R275, R276): a re-arm that waits takes the partition. -/
def capRelease (p : List Byte) (s : State) : Reply :=
  let q := pByte p 2
  if s.nPart ≤ q ∨ (s.partn q).state ≠ 2 then reply s (.badarg 2) else
  let s := dropMarks (fun m => m.1 == q) (updPart q (fun x => { x with state := 0 }) s)
  reply (if s.gl.state = .rearm ∧ s.gl.writing = false then rearm s else s) (.plain .ok)

/-- CAP_READ (R276, R349, R395). -/
def capReadOwn (tk : Ticket) (p : List Byte) (s : State) : Reply :=
  if s.th.startup then reply s (.plain .busy) else
  match pByte p 0 with
  | 0 => capReadInfo p s
  | 1 => capReadRead p s
  | 2 => capReadStream tk p s
  | 3 => capRelease p s
  | _ => reply s (.badarg 0)

/-- A CAP_READ row. -/
def capRow (m : Nat) (row : List Byte → Bool) (s : State) : State :=
  lodge m 0x0806 row (subLen 4 12) notDormant capReadOwn s

/-- CAP_READ INFO, and any undefined subcommand. -/
def execCapReadInfo (m : Nat) (s : State) : Host.Outcome State Fault Refusal :=
  act (m < 32) (capRow m (fun p => !([1, 2, 3].contains (pByte p 0)))) s

/-- CAP_READ READ. -/
def execCapReadRead (m : Nat) (s : State) : Host.Outcome State Fault Refusal := act (m < 32) (capRow m (fun p => pByte p 0 == 1)) s

/-- CAP_READ STREAM. -/
def execCapReadStream (m : Nat) (s : State) : Host.Outcome State Fault Refusal := act (m < 32) (capRow m (fun p => pByte p 0 == 2)) s

/-- CAP_READ RELEASE. -/
def execCapReadRelease (m : Nat) (s : State) : Host.Outcome State Fault Refusal := act (m < 32) (capRow m (fun p => pByte p 0 == 3)) s

/-- CAP_READ_STREAM_END (R277): the last record has been sent, or the writer has begun a segment not yet sent. -/
def streamEnd (s : State) : State :=
  match s.gl.stream with
  | some x =>
    if x.left = 0 then endStream .ok s
    else if x.lost then endStream .stale s
    else s
  | none => s

/-- CAP_READ_STREAM_END. -/
def execCapReadStreamEnd (s : State) : Host.Outcome State Fault Refusal := act true streamEnd s

/-- GL_WCOUNT_LO_READ (R280). -/
def latchWcount (s : State) : State := { s with gl := { s.gl with wcountHi := (s.gl.wcount >>> 32).truncate 32 } }

/-- GL_WCOUNT_LO_READ. -/
def execGlWcountLoRead (s : State) : Host.Outcome State Fault Refusal := act true latchWcount s

end Sys2Proof.Machine
end

