-- ==== Sys2Proof/Machine/Colonnade.lean ====
section
/-!
DEFINITION. Colonnade.lean: delivery of triggers (R240, R241), the bus between units, measurement rounds and time markers
(R243 to R249), and CLN_CFG (R350). The commands that receive a word stand at the receipt of its start mark.
-/
namespace Sys2Proof.Machine

/-! ## Delivery -/

/-- Trigger `a` comes before `b` in the order of R240. -/
def trigBefore (a b : Trigger) : Bool :=
  before a.time b.time || (a.time == b.time && (a.src < b.src || (a.src == b.src && a.cause < b.cause)))

/-- The first of the triggers that wait, in the order of R240. -/
def firstTrigger : List Trigger → Option Trigger
  | [] => none
  | x :: xs => some (xs.foldl (fun (a : Trigger) b => if trigBefore b a then b else a) x)

/-- An earlier trigger was delivered with a TIME no more than HOLD ms before (R240). With HOLD = 0 none is held off, not even
the second of two with one TIME (R273). -/
def State.suppressed (s : State) (x : Trigger) : Bool :=
  let hold := fld (s.trgCfgAt x.upAt) 16 8
  hold ≠ 0 && s.cl.delivered.any (fun y => trigBefore y x && ahead x.time y.time ≤ hold * 1000000)

/-- A SCHED_START with APPLY = 2 takes its instant from a trigger carried by a word on the bus (R241, R334). -/
def trigSchedule (t : Coarse) (s : State) : State :=
  match s.sh.trigStart with
  | some (off, tk) =>
    let k := t + BitVec.ofNat 54 off
    complete tk (.okWith (beBytes 8 k.toNat)) (beginSchedule k { s with sh := { s.sh with trigStart := none } })
  | none => s

/-- A trigger is delivered at its action instant (R241). -/
def deliver (x : Trigger) (s : State) : State :=
  let cfg := s.trgCfgAt x.upAt
  let t := x.time + 16384
  let cl := s.cl
  let keep := cl.delivered.filter (fun y => ahead x.time y.time ≤ 512000000 || before x.time y.time)
  let s := { s with cl := { cl with
    delivered := x :: keep, last := x, trgOut := cl.trgOut || bit cfg 6
    trgCnt := if x.isLocal then cl.trgCnt + 1 else cl.trgCnt, trgRx := if x.isLocal then cl.trgRx else cl.trgRx + 1 } }
  let s := count 174 1 (galleryTrigger x s)
  if x.bus then startWaiters 3 t (trigSchedule t s) else s

/-- TRIGGER_DELIVERY (R240, R241). -/
def triggerDelivery (s : State) : State :=
  match firstTrigger s.cl.triggers with
  | none => s
  | some x =>
    let s := { s with cl := { s.cl with triggers := s.cl.triggers.erase x } }
    if s.suppressed x then { s with cl := { s.cl with trgSup := s.cl.trgSup + 1 } } else deliver x s

/-- TRIGGER_DELIVERY. -/
def execTriggerDelivery (s : State) : Host.Outcome State Fault Refusal := act true triggerDelivery s

/-- TRGOUT_END (R241). -/
def trgoutEnd (s : State) : State := { s with cl := { s.cl with trgOut := false } }

/-- TRGOUT_END. -/
def execTrgoutEnd (s : State) : Host.Outcome State Fault Refusal := act true trgoutEnd s

/-! ## Words (R245) -/

/-- A word with its CRC-16. -/
def busWord (kind src body : Nat) : W64 :=
  let hi := put kind 60 4 + put src 57 3 + body
  BitVec.ofNat 64 (hi + (crc16 (beBytes 6 (hi / 2 ^ 16))).toNat)

/-- Fields of a word. -/
def wKind (w : W64) : Nat := bits w.toNat 60 4
def wSrc (w : W64) : Nat := bits w.toNat 57 3
def wRound (w : W64) : Nat := bits w.toNat 50 4
def wCause (w : W64) : Nat := bits w.toNat 54 3

/-- The CRC of a word is right. -/
def wordCrc (w : W64) : Bool := bits w.toNat 0 16 = (crc16 (beBytes 6 (w.toNat / 2 ^ 16))).toNat

/-- A valid word of a kind. -/
def isWord (kind : Nat) (w : W64) : Bool := wordCrc w && wKind w == kind

/-- EN, MASTER and beaconing: CL.STATUS.ROLE (R244). -/
def State.clEn (s : State) : Bool := bit s.cl.cfg 4
def State.beacons (s : State) : Bool := bit s.cl.cfg 4 && bit s.cl.cfg 3

/-- The level to which the part drives CLN_TRG (R245): none but while it sends a word. -/
def State.clnTrgLevel (s : State) : Option Bool := if s.clEn then s.cl.line.bind (fun x => x.level s.uptime) else none

/-- The level to which the part drives CLN_TIME: high for the 20 ns of a pulse (R247, R249), else none. -/
def State.clnTimeLevel (s : State) : Option Bool :=
  match s.cl.pulseFrom with
  | some u => if s.clEn && u ≤ s.uptime && s.uptime < u + 20 then some true else none
  | none => none

/-- A valid word from unit `u` has been heard. -/
def heardWord (u : Nat) (s : State) : State := { s with cl := { s.cl with heard := s.cl.heard ||| 2 ^ u } }

/-- HEARD_EXPIRY. -/
def heardExpiry (u : Nat) (s : State) : State := { s with cl := { s.cl with heard := s.cl.heard &&& (255 - 2 ^ u) } }

/-- HEARD_EXPIRY (R244). -/
def execHeardExpiry (u : Nat) (s : State) : Host.Outcome State Fault Refusal := act (u < 8) (heardExpiry u) s

/-- CLN_WORD_DISCARD (R245): a failed CRC is counted. -/
def clnWordDiscard (w : W64) (_ : Bool) (s : State) : State :=
  if wordCrc w then s else { s with cl := { s.cl with crcErr := s.cl.crcErr + 1 } }

/-- CLN_WORD_DISCARD. -/
def execClnWordDiscard (w : W64) (inSlot : Bool) (s : State) : Host.Outcome State Fault Refusal :=
  act true (clnWordDiscard w inSlot) s

/-! ## Cycles (R244) -/

/-- CL.CFG takes effect; a unit that becomes master counts its cycles from zero. -/
def setClnCfg (v : W32) (s : State) : State :=
  let v := v &&& 0xFFFFFF1F
  let fresh := bit v 4 && bit v 3 && !s.beacons
  { s with cl := { s.cl with cfg := v, next := none, cycle := if fresh then 0 else s.cl.cycle } }

/-- A bus cycle begins: a written CL.CFG takes effect, the running round moves on, and the pulse of the unit's own round
cycle is due 2,000 ns later (R247, R350). -/
def beginCycle (s : State) : State :=
  let s := match s.cl.next with
    | some v => setClnCfg v s
    | none => s
  let lost := s.cl.lost
  let rnd := s.cl.rnd.map (fun (r : Round) => { r with cycle := r.cycle + 1 })
  let own := match rnd with
    | some r => s.clEn && r.takes && r.cycle == s.unit + 1
    | none => false
  raiseIf lost 89 { s with cl := { s.cl with
    busOk := true, lost := false, receipt := some s.tb.coarse, rnd := rnd
    pulseFrom := if own then some (s.uptime + 2000) else s.cl.pulseFrom } }

/-- BEACON (R244). -/
def beacon (s : State) : State :=
  if !s.beacons then s else
  let s := heardWord s.unit (beginCycle s)
  if !s.beacons then s else
  { s with cl := { s.cl with line := some ⟨s.uptime, busWord 1 s.unit (put s.cl.cycle.toNat 41 16)⟩, cycle := s.cl.cycle + 1 } }

/-- BEACON. -/
def execBeacon (s : State) : Host.Outcome State Fault Refusal := act true beacon s

/-- A master gives way (R244): a MARK not yet sent is refused as on a follower. -/
def yieldMaster (s : State) : State :=
  let m := s.cl.markAsk
  let s := raise 90 { s with cl := { s.cl with cfg := setBit s.cl.cfg 3 false, markAsk := none, askRound := false } }
  match m with
  | some (m, st) => answerBadop 32 (answer m (.badarg 0) st s)
  | none => s

/-- BEACON_RECEIVE (R244): a beaconing unit gives way to a lower number, and does not follow a higher one. -/
def beaconReceive (w : W64) (s : State) : State :=
  if !isWord 1 w then s else
  let s := heardWord (wSrc w) s
  if !s.beacons then beginCycle s
  else if wSrc w < s.unit then beginCycle (yieldMaster s)
  else s

/-- BEACON_RECEIVE. -/
def execBeaconReceive (w : W64) (s : State) : Host.Outcome State Fault Refusal := act true (beaconReceive w) s

/-- BEACON_LOSS (R244): a written CL.CFG waits for no cycle any more. -/
def beaconLoss (s : State) : State :=
  if s.beacons || s.cl.lost then s else
  let s := raise 88 { s with cl := { s.cl with busOk := false, lost := true } }
  match s.cl.next with
  | some v => setClnCfg v s
  | none => s

/-- BEACON_LOSS. -/
def execBeaconLoss (s : State) : Host.Outcome State Fault Refusal := act true beaconLoss s

/-! ## Rounds (R247, R248) -/

/-- The unit takes part in rounds that begin now. -/
def State.takesPart (s : State) : Bool := s.fl.clnLoop && s.flightsRun

/-- A round begins. -/
def newRound (r : Nat) (takes : Bool) : Round :=
  { r := r, cycle := 0, takes := takes, rs := [], qs := [], selfs := [], reports := [], got := [], asked := false }

/-- A stamp of a table, if it is there. -/
def stampOfUnit (t : Tab Stamp) (u : Nat) : Option Stamp := (t.find? (fun (e : Nat × Stamp) => e.1 = u)).map Prod.snd

/-- D_X(Y) in 2^-10 ns (R247): 0x8000_0000 where a stamp is missing. -/
def Round.d (r : Round) (x y : Nat) : W32 :=
  match stampOfUnit r.rs y, stampOfUnit r.rs x with
  | some a, some b => (a - b).truncate 32
  | _, _ => 0x80000000

/-- The round word that unit `x` owes in this cycle (R247). -/
def Round.word (r : Round) (x : Nat) : Option W64 :=
  if !r.takes then none
  else if r.cycle = x + 1 then some (busWord 4 x (put r.r 50 4))
  else if r.cycle = 9 then
    some (busWord 6 x (put r.r 50 4 + put ((stampOfUnit r.rs x).getD 0).toNat 16 32))
  else if 10 ≤ r.cycle ∧ r.cycle ≤ 16 then
    let y := (x + (r.cycle - 9)) % 8
    some (busWord 5 x (put y 54 3 + put r.r 50 4 + put (r.d x y).toNat 16 32))
  else none

/-- A word leaves in the unit's slot. -/
def driveWord (w : W64) (s : State) : State := heardWord s.unit { s with cl := { s.cl with line := some ⟨s.uptime, w⟩ } }

/-- A TRIG word leaves (R246); its trigger has then been carried by a word on the bus. -/
def sendTrig (t : Coarse) (cause tseq copies : Nat) (rest : List (Coarse × Nat × Nat × Nat)) (s : State) : State :=
  let onBus (x : Trigger) : Trigger := if x.isLocal ∧ x.time = t then { x with bus := true } else x
  driveWord (busWord 2 s.unit (put cause 54 3 + put tseq 50 4 + put t.toNat 16 34))
    { s with cl := { s.cl with
      triggers := s.cl.triggers.map onBus, send := if copies ≤ 1 then rest else (t, cause, tseq, copies - 1) :: rest } }

/-- The MARK word leaves (R249), its pulse follows 3,000 ns after the start mark, and CLN_CFG MARK is answered. -/
def sendMark (m : Nat) (start : Start) (s : State) : State :=
  let s := driveWord (busWord 7 s.unit 0) { s with cl := { s.cl with
    markAsk := none, markSent := some s.tb.coarse, pulseFrom := some (s.uptime + 3000) } }
  answerBadop 32 (answer m (.plain .ok) start s)

/-- A MARK is in progress: its pulse has not left yet. -/
def State.marking (s : State) : Bool :=
  s.cl.markAsk.isSome || (match s.cl.markSent with
    | some c => decide (ahead s.tb.coarse c ≤ 3000)
    | none => false)

/-- UNIT_SLOT (R244, R246, R247, R249): one word, a TRIG before a round word, a MARK, or the start of a round. -/
def unitSlot (s : State) : State :=
  if !s.clEn || s.cl.receipt.isNone then s else
  match s.cl.send with
  | (t, cause, tseq, copies) :: rest => sendTrig t cause tseq copies rest s
  | [] =>
    match s.cl.rnd.bind (fun r => r.word s.unit) with
    | some w =>
      let got (r : Round) : Round := if wKind w = 4 then { r with got := s.unit :: r.got } else r
      driveWord w { s with cl := { s.cl with rnd := s.cl.rnd.map got } }
    | none =>
      match s.cl.markAsk with
      | some (m, start) => sendMark m start s
      | none =>
        if s.cl.askRound ∧ s.beacons = true ∧ s.cl.rnd.isNone = true ∧ s.marking = false ∧ s.takesPart = true then
          let r := (s.cl.round + 1) % 16
          driveWord (busWord 3 s.unit (put r 50 4))
            { s with cl := { s.cl with askRound := false, rnd := some { newRound r true with asked := s.cl.measTk.isSome } } }
        else s

/-- UNIT_SLOT. -/
def execUnitSlot (s : State) : Host.Outcome State Fault Refusal := act true unitSlot s

/-- ROUND_START (R247): the round period of the master expires. -/
def roundStart (s : State) : State :=
  if s.beacons ∧ fld s.cl.cfg 16 8 ≠ 0 ∧ s.takesPart = true then { s with cl := { s.cl with askRound := true } } else s

/-- ROUND_START. -/
def execRoundStart (s : State) : Host.Outcome State Fault Refusal := act true roundStart s

/-- A round word of another unit (R247). -/
def Round.hear (w : W64) (own : Nat) (r : Round) : Round :=
  if wRound w ≠ r.r then r
  else if wKind w = 4 then { r with got := wSrc w :: r.got }
  else if wKind w = 5 ∧ bits w.toNat 54 3 = own then { r with reports := Tab.insert r.reports (wSrc w) (w32 (bits w.toNat 16 32)) }
  else if wKind w = 6 then { r with selfs := Tab.insert r.selfs (wSrc w) (w32 (bits w.toNat 16 32)) }
  else r

/-- ROUND_WORD_RECEIVE (R247). -/
def roundWordReceive (w : W64) (s : State) : State :=
  if !wordCrc w || wKind w < 3 || 6 < wKind w || wSrc w == s.unit then s else
  let s := heardWord (wSrc w) s
  if wKind w = 3 then { s with cl := { s.cl with rnd := some (newRound (wRound w) s.takesPart) } }
  else { s with cl := { s.cl with rnd := s.cl.rnd.map (Round.hear w s.unit) } }

/-- ROUND_WORD_RECEIVE. -/
def execRoundWordReceive (w : W64) (s : State) : Host.Outcome State Fault Refusal := act true (roundWordReceive w) s

/-- A rising edge on the Colonnade channels during a round (R247): the pulse of unit u on channel 523 and the start mark of
its word on channel 522, in cycle c + 1 + u; the first one counts. -/
def Round.stamp (i : Nat) (st : Stamp) (receipt : Coarse) (r : Round) : Round :=
  if !r.takes || r.cycle = 0 || 8 < r.cycle then r else
  let u := r.cycle - 1
  let d := stampDiff st (stampOf receipt)
  let first (t : Tab Stamp) : Tab Stamp := if (stampOfUnit t u).isSome then t else Tab.insert t u st
  if i = 523 ∧ 1800 * 1024 ≤ d ∧ d ≤ 2200 * 1024 then { r with rs := first r.rs }
  else if i = 522 ∧ (Int.ofNat (640 * (u + 1)) - 1) * 1024 ≤ d ∧ d < Int.ofNat (640 * (u + 2) * 1024) then { r with qs := first r.qs }
  else r

/-- A stamp popped from channel 522 or 523 while it is on the Colonnade reaches the running round. -/
def clnStamp (i : Nat) (st : Stamp) (rising : Bool) (s : State) : State :=
  match s.cl.receipt with
  | some c =>
    if 522 ≤ i ∧ s.fl.clnLoop = true ∧ rising = true then
      { s with cl := { s.cl with rnd := s.cl.rnd.map (Round.stamp i st c) } }
    else s
  | none => s

/-- A quotient of R248, whose rounding the spec leaves open. -/
def openDiv (k : Nat) (a b : Int) : Int := a / b + (if a % b ≠ 0 ∧ Config.delayRound k a then 1 else 0)

/-- A complete pair of reports with unit Y (R248): both D values. -/
def Round.pair (r : Round) (x y : Nat) : Option (W32 × W32) :=
  let a := r.d x y
  match r.reports.find? (fun (e : Nat × W32) => e.1 = y) with
  | some b => if a = 0x80000000 ∨ b.2 = 0x80000000 then none else some (a, b.2)
  | none => none

/-- OFS[Y] where Y's SELF word was heard (R248): rY(Y) - (rX(Y) - d). -/
def Round.ofs (r : Round) (y : Nat) (d : Int) : Option W32 :=
  match r.selfs.find? (fun (e : Nat × W32) => e.1 = y), stampOfUnit r.rs y with
  | some v, some ry => some (v.2 - (ry.truncate 32 - BitVec.ofInt 32 d))
  | _, _ => none

/-- SKEWTT[Y] in 2^-10 ns, where every stamp is there (R248). -/
def Round.skewTt (r : Round) (x y : Nat) : Option Int :=
  match stampOfUnit r.qs y, stampOfUnit r.rs y, stampOfUnit r.qs x, stampOfUnit r.rs x with
  | some qy, some ry, some qx, some rx =>
    if r.got.contains y ∧ r.got.contains x = true then
      some (stampDiff qy ry - stampDiff qx rx + 640 * 1024 * (Int.ofNat x - Int.ofNat y))
    else none
  | _, _, _, _ => none

/-- CL.DLY, CL.OFS and CL.SKEWTT of unit Y after a round (R248): a value whose words or stamps are missing stays. -/
def unitUpdate (r : Round) (x : Nat) (cl : Colonnade) (y : Nat) : Colonnade :=
  match r.pair x y with
  | some (a, b) =>
    let d := openDiv 0 (a.toInt + b.toInt) 2
    let old := (Tab.get (fun _ => (0 : BitVec 24)) cl.dly y).toNat
    let dly := if cl.valid.testBit y then Int.ofNat old + openDiv 1 (d - Int.ofNat old) 8 else d
    let cl := { cl with
      dly := Tab.put (fun _ => (0 : BitVec 24)) cl.dly y (BitVec.ofInt 24 dly)
      ofs := Tab.put zeroW cl.ofs y ((r.ofs y d).getD (Tab.get zeroW cl.ofs y)), valid := cl.valid ||| 2 ^ y }
    match r.skewTt x y with
    | some k => { cl with skew := Tab.put (fun _ => (0 : W16)) cl.skew y (BitVec.ofInt 16 k) }
    | none => cl
  | none => cl

/-- Units other than `x`. -/
def otherUnits (x : Nat) : List Nat := (List.range 8).filter (fun y => y ≠ x)

/-- ROUND_UPDATE (R247 step 5, R248, R350). A CLN_CFG MEASURE asked for during the round waits for its own. -/
def roundUpdate (s : State) : State :=
  match s.cl.rnd with
  | none => s
  | some r =>
    if r.cycle < 16 then s else
    let x := s.unit
    let ys := (otherUnits x).filter (fun y => (r.pair x y).isSome)
    let tol := Int.ofNat (64 * fld s.cl.cfg 24 8)
    let bad := ys.any (fun y => match r.skewTt x y with
      | some k => decide (tol < Int.ofNat k.natAbs)
      | none => false)
    let cl := ys.foldl (unitUpdate r x) s.cl
    let tk := if r.asked then cl.measTk else none
    let s := raises ([91] ++ if bad then [92] else []) { s with cl := { cl with round := r.r, rnd := none, measTk := if r.asked then none else cl.measTk } }
    match tk with
    | some tk => complete tk (.okWith [BitVec.ofNat 8 r.r, BitVec.ofNat 8 (ys.foldl (fun m y => m + 2 ^ y) 0), 0, 0]) s
    | none => s

/-- ROUND_UPDATE. -/
def execRoundUpdate (s : State) : Host.Outcome State Fault Refusal := act true roundUpdate s

/-! ## TRIG and MARK words received -/

/-- The TIME among those congruent to the bits received modulo 2^34 that lies nearest the present count (R246). -/
def restoreTime (now : Coarse) (t : Nat) : Coarse :=
  now + BitVec.ofInt 54 (BitVec.ofInt 34 (Int.ofNat t - Int.ofNat now.toNat)).toInt

/-- TRIG_WORD_RECEIVE (R240, R246). -/
def trigWordReceive (w : W64) (s : State) : State :=
  if !isWord 2 w || wSrc w == s.unit then s else
  let s := heardWord (wSrc w) s
  let seen := s.cl.seen.filter (fun (x : Nat × Nat × Nat) => s.uptime ≤ x.2.2 + 16384)
  if seen.any (fun (x : Nat × Nat × Nat) => x.1 = wSrc w && x.2.1 = wRound w) then s
  else
    let t := restoreTime s.tb.coarse (bits w.toNat 16 34)
    let x : Trigger := { time := t, src := wSrc w, cause := wCause w, bus := true, isLocal := false, upAt := s.upOf t }
    { s with cl := { s.cl with
      seen := (wSrc w, wRound w, s.uptime) :: seen
      triggers := if bit (s.trgCfg t) 3 then s.cl.triggers ++ [x] else s.cl.triggers } }

/-- TRIG_WORD_RECEIVE. -/
def execTrigWordReceive (w : W64) (s : State) : Host.Outcome State Fault Refusal := act true (trigWordReceive w) s

/-- MARK_WORD_RECEIVE (R249): the window of the marker opens 2,900 ns after the receipt. -/
def markWordReceive (w : W64) (s : State) : State :=
  if !isWord 7 w || wSrc w == s.unit then s else
  let s := heardWord (wSrc w) s
  { s with cl := { s.cl with markWin := some (s.tb.coarse, wSrc w) } }

/-- MARK_WORD_RECEIVE. -/
def execMarkWordReceive (w : W64) (s : State) : Host.Outcome State Fault Refusal := act true (markWordReceive w) s

/-! ## CLN_CFG (R350) -/

/-- CL.CFG is written: in force at the next bus cycle, or at once where no cycles run (R350). -/
def writeClnCfg (v : W32) (s : State) : State :=
  if s.beacons || s.cl.busOk then { s with cl := { s.cl with next := some (v &&& 0xFFFFFF1F) } } else setClnCfg v s

/-- CLN_CFG WRITE. -/
def clnWrite (p : List Byte) (s : State) : Reply :=
  let v := pWord p 4 &&& 0xFFFFFF1F
  let boot := (pByte p 1).testBit 0
  let (ok, s) := if boot then commit 0x01000240 v s else (true, s)
  if !ok then reply s (.plain .worn)
  else reply (writeClnCfg v s) (.plain .ok)

/-- CLN_CFG (R249, R350). -/
def clnCfgOwn (m : Nat) (tk : Ticket) (p : List Byte) (s : State) : Reply :=
  match pByte p 0 with
  | 0 => clnWrite p s
  | 1 =>
    if !s.beacons then reply s (.badarg 0)
    else if s.cl.measTk.isSome then reply s (.plain .busy)
    else reply { s with cl := { s.cl with askRound := true, measTk := some tk } } (.plain .ok)
  | 2 =>
    if !s.beacons then reply s (.badarg 0)
    else { s := { s with cl := { s.cl with markAsk := some (m, s.start) } }, ans := none, done := none }
  | _ => reply s (.badarg 0)

/-- A CLN_CFG row. -/
def clnRow (m : Nat) (row : List Byte → Bool) (mode : State → List Byte → Bool) (s : State) : State :=
  lodge m 0x0807 row (subLen 3 8) mode (clnCfgOwn m) s

/-- CLN_CFG WRITE. -/
def execClnCfg (m : Nat) (s : State) : Host.Outcome State Fault Refusal :=
  act (m < 32) (clnRow m (fun p => !([1, 2].contains (pByte p 0))) anyMode) s

/-- CLN_CFG MEASURE. -/
def execClnCfgMeasure (m : Nat) (s : State) : Host.Outcome State Fault Refusal :=
  act (m < 32) (clnRow m (fun p => pByte p 0 == 1) notDormant) s

/-- CLN_CFG MARK. -/
def execClnCfgMark (m : Nat) (s : State) : Host.Outcome State Fault Refusal :=
  act (m < 32) (clnRow m (fun p => pByte p 0 == 2) anyMode) s

/-- CLN_MEASURE_TIMEOUT (R350): a round that has not begun is not asked for any more, and one that runs completes no command. -/
def clnMeasureTimeout (s : State) : State :=
  match s.cl.measTk with
  | some tk => complete tk (.plain .fault) { s with cl := { s.cl with
      measTk := none, askRound := false, rnd := s.cl.rnd.map (fun (r : Round) => { r with asked := false }) } }
  | none => s

/-- CLN_MEASURE_TIMEOUT. -/
def execClnMeasureTimeout (s : State) : Host.Outcome State Fault Refusal := act true clnMeasureTimeout s

end Sys2Proof.Machine
end

