-- ==== Sys2Proof/Machine/Arcade.lean ====
section
/-!
DEFINITION. Arcade.lean: assignment of stamps to shots (R125 to R129), increments, buffer swaps and readout passes
(chapter 6), restarts of a flight's consumer path (R414), HIST_CFG, REJECT_CFG and HIST_SNAP.
-/
namespace Sys2Proof.Machine

/-- Dwell counters at zero (R175). -/
def noCounts : DwellCnt := { ninc := 0, namb := 0, nearly := 0, nout := 0, sat := false }

/-- An Arcade channel after reset (R163, R181). -/
def freshAChan (_ : Nat) : AChan :=
  { early := 0, out := 0, dwells := 0, vetoCnt := 0, late := false, sat := false, lateAt := none,
    satAt := none, accY := false, pass := false,
    waitPass := false, binsX := [], binsY := [], pipe := [], incs := [], waits := [], cnt := noCounts, veto := false,
    opened := none, lanes := [] }

/-- Arcade channel `i`. -/
def State.achan (s : State) (i : Nat) : AChan := Tab.get freshAChan s.ar.chans i

/-- What a read of AR.CHFLAG in flight cycle `n` leaves: the flags that were set in that cycle (R181). -/
def AChan.readFlags (n : Nat) (a : AChan) : AChan :=
  { a with late := a.late && a.lateAt == some n, sat := a.sat && a.satAt == some n }

/-- Arcade channel `i` changed. -/
def updAChan (i : Nat) (f : AChan → AChan) (s : State) : State :=
  { s with ar := { s.ar with chans := Tab.upd freshAChan s.ar.chans i f } }

/-- A locker with nothing in it. -/
def freshLocker (_ : Nat) : Locker := { pool := [], outPool := [], votes := [], last := [], idle := false }

/-- Locker of flight `f`. -/
def State.locker (s : State) (f : Nat) : Locker := Tab.get freshLocker s.ar.lockers f

/-- Locker of flight `f` changed. -/
def updLocker (f : Nat) (g : Locker → Locker) (s : State) : State :=
  { s with ar := { s.ar with lockers := Tab.upd freshLocker s.ar.lockers f g } }

/-- AR.FTCFG.FTEN. -/
def State.ftOn (s : State) : Bool := bit s.ar.ftcfg 31

/-! ## Assignment (R125 to R129) -/

/-- I_k(s) of a stamp of channel `i` (R125). -/
def State.shotInterval (s : State) (i : Nat) (st : Stamp) (e : Entry) : Int := s.interval (512 + e.drv) e.fire i st

/-- A stamp is a candidate return of a shot (R125). -/
def State.candidate (s : State) (i : Nat) (st : Stamp) (e : Entry) : Bool :=
  let x := s.shotInterval i st e
  e.state == 2 && !e.void && e.opens.contains i && 0 ≤ x && x < Int.ofNat (s.window * 1024)

/-- Every shot with T_plan not after the stamp has reached FIRED (R127). -/
def State.judgeable (s : State) (st : Stamp) : Bool :=
  let c := Stamp.coarse st
  !s.sh.ledger.any (fun (e : Nat × Entry) => e.2.state == 1 && !before c e.2.tplan) &&
    !s.sh.armed.any (fun p => s.holds p && !before c p.tplan)

/-- The latest fired, non-void shot open on a channel (R128). -/
def State.latestOpen (s : State) (i : Nat) : Option Entry :=
  (s.sh.ledger.filter (fun (e : Nat × Entry) => e.2.state == 2 && !e.2.void && e.2.opens.contains i)).foldl
    (fun (b : Option Entry) (e : Nat × Entry) => match b with
      | none => some e.2
      | some x => if x.num < e.2.num then some e.2 else b) none

/-- The queue of 32 entries is full: the entry is lost, a fault of the flight (R166, R174). -/
def loseInc (i : Nat) (s : State) : State :=
  if s.outstanding 0x0202 (chanFlight i) then s else detect 0x0202 (chanFlight i) 4 true s

/-- An entry joins a channel's increment queue (R166). -/
def pushInc (i : Nat) (x : Inc) (s : State) : State :=
  if 32 ≤ (s.achan i).incs.length then loseInc i s else updAChan i (fun a => { a with incs := a.incs ++ [x] }) s

/-- Close words at the head of the assignment buffer pass to the Arcade (R129). -/
def passCloses (i : Nat) : Nat → State → State
  | 0, s => s
  | n + 1, s =>
    match (s.achan i).waits with
    | .close gen tag drop :: _ =>
      passCloses i n (closeShots i gen tag drop (updAChan i (fun a => { a with waits := a.waits.tail }) s))
    | _ => s

/-- The shots of `tags` and their dwells carry AMB (R130). -/
def markAmb (es : List (Nat × Entry)) (s : State) : State :=
  es.foldl (fun s (e : Nat × Entry) => updDwell e.2.did (fun d => { d with amb := true })
    (updEntry e.1 (fun x => { x with amb := true }) s)) s

/-- A stamp of channel `i` is judged (R125, R126, R128). -/
def judgeStamp (i : Nat) (st : Stamp) (s : State) : State :=
  match s.sh.ledger.filter (fun (e : Nat × Entry) => s.candidate i st e.2) with
  | [] =>
    match s.latestOpen i with
    | some e =>
      if s.shotInterval i st e < 0 then pushInc i .early s else pushInc i .outside (outside s)
    | none => pushInc i .outside (outside s)
  | es =>
    let amb := decide (2 ≤ es.length)
    let s' := if amb then markAmb es s else s
    es.foldl (fun t (e : Nat × Entry) => pushInc i (.inc (s.shotInterval i st e.2).toNat e.2.did e.1 amb) t) s'
where
  /-- an OUTSIDE stamp takes part in the period search (R195) -/
  outside (s : State) : State :=
    if s.ftOn then
      updLocker (chanFlight i) (fun l => { l with outPool := l.outPool ++ [(st - BitVec.ofInt 64 (s.boardSkew i), i)] }) s
    else s

/-- The Arcade is not stopped: in every mode but DORMANT (R385). -/
def State.arcadeRuns (s : State) : Bool := s.th.mode != .dormant

/-- STAMP_ASSIGNMENT (R127): the first stamp that waits on channel `i` is judged once it can be. -/
def stampAssignment (i : Nat) (s : State) : State :=
  if !s.arcadeRuns then s else
  match (s.achan i).waits with
  | .stamp st :: _ =>
    if s.judgeable st then
      let s := judgeStamp i st (updAChan i (fun a => { a with waits := a.waits.tail }) s)
      passCloses i (s.achan i).waits.length s
    else s
  | _ => s

/-- STAMP_ASSIGNMENT. -/
def execStampAssignment (ch : Nat) (s : State) : Host.Outcome State Fault Refusal := act (ch < 512) (stampAssignment ch) s

/-! ## The increment pipeline (R165 to R170) -/

/-- The accumulating and the frozen buffer. -/
def AChan.acc (a : AChan) : Tab Nat := if a.accY then a.binsY else a.binsX
def AChan.setAcc (t : Tab Nat) (a : AChan) : AChan := if a.accY then { a with binsY := t } else { a with binsX := t }
def AChan.setFrozen (t : Tab Nat) (a : AChan) : AChan := if a.accY then { a with binsX := t } else { a with binsY := t }

/-- The count that an increment of a bin finds: forwarded from the newest of the three before it that addressed the bin,
else read from the bank (R167). -/
def AChan.current (a : AChan) (b : Nat) : Nat :=
  match a.pipe.find? (fun (p : Nat × Nat) => p.1 = b) with
  | some p => p.2
  | none => Tab.get zeros a.acc b

/-- A result enters the pipeline, newest first; the fourth newest is written to the bank (R167). -/
def AChan.issue (b v : Nat) (a : AChan) : AChan :=
  let p := (b, v) :: a.pipe
  match p[3]? with
  | some (b', v') => { a.setAcc (Tab.put zeros a.acc b' v') with pipe := p.take 3 }
  | none => { a with pipe := p }

/-- Every result in the pipeline is written, the oldest first. -/
def AChan.flush (a : AChan) : AChan :=
  { a.setAcc (a.pipe.reverse.foldl (fun (t : Tab Nat) (p : Nat × Nat) => Tab.put zeros t p.1 p.2) a.acc) with pipe := [] }

/-- A 24-bit saturating counter advances (R175). -/
def sat24 (n : Nat) : Nat := min (n + 1) (2 ^ 24 - 1)

/-- The bin of an interval (R165). -/
def binOf (bw x : Nat) : Nat := x / 2 ^ (7 + bw)

/-- An increment is applied to bin `b` in flight cycle `n` (R168, R169, R175). -/
def AChan.bump (n b : Nat) (amb : Bool) (a : AChan) : AChan :=
  let v := a.current b
  let cnt := { a.cnt with ninc := sat24 a.cnt.ninc, namb := if amb then sat24 a.cnt.namb else a.cnt.namb }
  if v < 65535 then { a.issue b (v + 1) with cnt := cnt }
  else { a.issue b v with cnt := { cnt with sat := true }, sat := true, satAt := some n }

/-- A token stands at the head while the channel's pass runs (R174). -/
def tokenLate (i : Nat) (s : State) : State :=
  if (s.achan i).waitPass then s
  else loseInc i (raise 49 (updAChan i (fun a => { a with late := true, lateAt := some s.cycle, waitPass := true }) s))

/-- A bin of dwell `did` has saturated: AR.SATCNT and event 48, once for the dwell (R169). -/
def dwellSat (did : Nat) (s : State) : State :=
  if ((s.dwell did).map Dwell.satSeen).getD false then s else
  raise 48 (updDwell did (fun d => { d with satSeen := true }) { s with ar := { s.ar with satCnt := s.ar.satCnt + 1 } })

/-- INCREMENT_ISSUE (R167, R169, R170). -/
def incrementIssue (i : Nat) (s : State) : State :=
  if !s.arcadeRuns then s else
  let a := s.achan i
  match a.incs with
  | [] => s
  | .token _ :: _ => if a.pass then tokenLate i s else s
  | .early :: r =>
    updAChan i (fun a => { a with incs := r, early := a.early + 1, cnt := { a.cnt with nearly := sat24 a.cnt.nearly } }) s
  | .outside :: r =>
    updAChan i (fun a => { a with incs := r, out := a.out + 1, cnt := { a.cnt with nout := sat24 a.cnt.nout } }) s
  | .inc x did _ amb :: r =>
    let b := binOf s.bw x
    let s := count (64 + chanFlight i) 1 (updAChan i (fun a => { a.bump s.cycle b amb with incs := r }) s)
    if (s.achan i).cnt.sat && !a.cnt.sat then dwellSat did s else s

/-- INCREMENT_ISSUE. -/
def execIncrementIssue (ch : Nat) (s : State) : Host.Outcome State Fault Refusal := act (ch < 512) (incrementIssue ch) s

/-! ## Dwell end, swap and pass (R171 to R176) -/

/-- The coarse count is at least T_end + 80 ns (R171), T_end being known: no shot of the dwell waits for its fire stamp. -/
def State.endPassed (s : State) (d : Dwell) : Bool :=
  match d.tEnd with
  | some t => decide (81920 ≤ stampDiff (stampOf s.tb.coarse) t) &&
      !s.sh.ledger.any (fun (e : Nat × Entry) => e.2.did == d.did && e.2.state == 1)
  | none => false

/-- Dwell `d` has ended on channel `i` (R171): every position is reached or the schedule has stopped, every close word of
its shots on the channel has passed, and the count is at least T_end + 80 ns. -/
def State.endsOn (s : State) (i : Nat) (d : Dwell) : Bool :=
  !d.firing && d.reached ≠ 0 && (s.served d).contains i && !d.tokens.contains i && s.endPassed d &&
    !s.sh.ledger.any (fun (e : Nat × Entry) => e.2.did == d.did && e.2.opens.contains i)

/-- DWELL_END_TOKEN (R171). -/
def dwellEndToken (i : Nat) (s : State) : State :=
  match s.sh.dwells.find? (fun d => (s.served d).contains i && d.reached ≠ 0 && !d.tokens.contains i) with
  | some d =>
    if s.endsOn i d then
      pushInc i (.token d.did) (updDwell d.did (fun d => { d with tokens := i :: d.tokens }) s)
    else s
  | none => s

/-- DWELL_END_TOKEN. -/
def execDwellEndToken (ch : Nat) (s : State) : Host.Outcome State Fault Refusal := act (ch < 512) (dwellEndToken ch) s

/-- An armed snapshot selects a dwell at its first swap, in a TBCLK cycle after that of the ARM (R178). -/
def selectSnap (d : Dwell) (s : State) : State :=
  match s.ar.snapArm with
  | some a =>
    if a.did = none ∧ a.line = d.line ∧ d.swapped.isEmpty = true ∧ a.armedAt < s.uptime then
      { s with ar := { s.ar with snapArm := some { a with did := some d.did } } }
    else s
  | none => s

/-- The lane job that a swap freezes (R183, R184, R186). -/
def laneOf (did : Nat) (a : AChan) (s : State) : Lane :=
  { did := did, bins := a.acc, cnt := a.cnt, span := a.opened.map (fun u => s.uptime - u), veto := a.veto, xcfg := s.ar.xcfg
    xsun := s.ar.xsun, xrain := s.ar.xrain, passEnd := false, phase1 := false, aHist := 0, peaks := [], overFlag := false }

/-- The buffers of channel `i` swap (R172). -/
def swap (i did : Nat) (s : State) : State :=
  let s := match s.dwell did with
    | some d => selectSnap d s
    | none => s
  let up := s.uptime
  let s := updAChan i (fun a =>
    let a := a.flush
    { a with
      incs := a.incs.tail, accY := !a.accY, dwells := a.dwells + 1, pass := true, cnt := noCounts, veto := false
      opened := some up, lanes := a.lanes ++ [laneOf did a s] }) s
  updDwell did (fun d => { d with swapped := i :: d.swapped }) s

/-- BUFFER_SWAP (R172, R174). -/
def bufferSwap (i : Nat) (s : State) : State :=
  if !s.arcadeRuns then s else
  let a := s.achan i
  match a.incs with
  | .token did :: _ => if a.pass then tokenLate i s else swap i did s
  | _ => s

/-- BUFFER_SWAP. -/
def execBufferSwap (ch : Nat) (s : State) : Host.Outcome State Fault Refusal := act (ch < 512) (bufferSwap ch) s

/-- A snapshot slot with nothing in it, for a dwell. -/
def emptySlot (ch : Nat) (did : Option Nat) : Slot :=
  { chan := ch, present := false, bins := [], cnt := noCounts, did := did, step := 0, line := 0, pline := 0, nplan := 0,
    nfired := 0, nvoid := 0, inc := false, amb := false, void := false, short := false, group := 0 }

/-- What a slot tells of its dwell (R179). -/
def Slot.about (d : Dwell) (x : Slot) : Slot :=
  if x.did ≠ some d.did then x else
  { x with
    step := d.step, line := d.line, pline := d.pline, nplan := d.nplan, nfired := d.nfired, nvoid := d.nvoid, inc := d.inc
    amb := d.amb, void := d.nvoid ≠ 0, short := decide (d.nfired < d.nplan), group := d.groupId }

/-- An armed snapshot completes once every listed channel that its dwell serves has passed (R178). -/
def snapCheck (s : State) : State :=
  match s.ar.snapArm with
  | some a =>
    match a.did.bind s.dwell with
    | some d =>
      let due := a.chans.filter (fun c => (s.served d).contains c)
      let got (c : Nat) : Bool := s.ar.slots.any (fun x => x.chan == c && x.present)
      if due.all got then
        let n := (s.ar.slots.filter (fun x => x.present)).length
        complete a.tk (.okWith [BitVec.ofNat 8 n])
          { s with ar := { s.ar with snapArm := none, snapOk := true, snapN := n, slots := s.ar.slots.map (Slot.about d) } }
      else s
    | none => s
  | none => s

/-- The frozen rows of a pass go into the snapshot slots armed for the channel (R172, R178). -/
def snapFill (i : Nat) (l : Lane) (s : State) : State :=
  match s.ar.snapArm with
  | some a =>
    if a.did = some l.did then
      snapCheck { s with ar := { s.ar with slots := s.ar.slots.map (fun x =>
        if x.chan = i then { x with present := true, bins := l.bins, cnt := l.cnt, did := some l.did }
        else { x with did := some l.did }) } }
    else s
  | none => s

/-- READOUT_PASS_END (R172, R233): the frozen buffer is empty. -/
def readoutPassEnd (i : Nat) (s : State) : State :=
  let a := s.achan i
  if !a.pass then s else
  match a.lanes.find? (fun l => !l.passEnd) with
  | none => updAChan i (fun a => { a.setFrozen [] with pass := false, waitPass := false }) s
  | some l =>
    let done (x : Lane) : Lane := if x.did = l.did then { x with passEnd := true } else x
    let s := updAChan i (fun a => { a.setFrozen [] with pass := false, waitPass := false, lanes := a.lanes.map done }) s
    let s := if l.cnt.sat then detect 0x0205 i 0 false s else s
    let s := snapFill i l s
    match s.dwell l.did with
    | some d => mapUpdate d i l.bins l.span l.cnt.nout s
    | none => s

/-- READOUT_PASS_END. -/
def execReadoutPassEnd (ch : Nat) (s : State) : Host.Outcome State Fault Refusal := act (ch < 512) (readoutPassEnd ch) s

/-- The DWELL record of the trace (R425). -/
def traceDwell (d : Dwell) (s : State) : State :=
  if bit s.av.trcfg 4 then
    let flags := 8 * b2n d.short + 4 * b2n (d.nvoid ≠ 0) + 2 * b2n d.amb + b2n d.inc
    let body := beBytes 3 d.groupId ++ beBytes 2 d.pline ++ [BitVec.ofNat 8 d.line] ++ beBytes 2 d.nplan ++
      beBytes 2 d.nfired ++ beBytes 2 d.nvoid ++ [BitVec.ofNat 8 flags, 0]
    { s with av := s.av.push false ⟨3, body⟩ }
  else s

/-! ## Restart of a flight's consumer path (R414) -/

/-- A fault of flight `f` asks for FLRST (R408). -/
def State.restartDue (s : State) (f : Nat) : Bool :=
  s.outstanding 0x0201 f || s.outstanding 0x0202 f || Tab.get zeros s.ar.laneBad f == 1 || s.outstanding 0x0204 f

/-- A readout pass runs on flight `f`. -/
def State.passing (s : State) (f : Nat) : Bool := f < 32 && (flightChans f).any (fun i => (s.achan i).pass)

/-- The consumer path of a channel is cleared. -/
def AChan.clear (a : AChan) : AChan :=
  { a.setAcc [] with pipe := [], incs := [], waits := [], cnt := noCounts, veto := false, opened := none, waitPass := false }

/-- FLRST (R414): the queues and accumulating buffers of the flight are cleared, its close words count as popped, and the
dwell being accumulated yields no records on it. -/
def flrst (f : Nat) (s : State) : State :=
  if !s.restartDue f || s.fl.flrst.contains f || s.passing f then s else
  let here (i : Nat) : Bool := chanFlight i == f
  let free (e : Entry) : Entry := Entry.settle { e with opens := e.opens.filter (fun i => !here i) }
  let dead (d : Dwell) : Dwell :=
    if d.reached ≠ 0 ∧ f < 32 ∧ bit d.serve f = true ∧ (s.served d).any (fun i => here i && !d.swapped.contains i) = true then
      { d with dead := f :: d.dead, tokens := d.tokens.filter (fun i => !here i || d.swapped.contains i) }
    else d
  let s := { s with
    fl := { s.fl with flrst := f :: s.fl.flrst }
    ar := { s.ar with laneBad := if Tab.get zeros s.ar.laneBad f = 1 then Tab.insert s.ar.laneBad f 2 else s.ar.laneBad }
    sh := { s.sh with
      ledger := s.sh.ledger.map (fun (e : Nat × Entry) => (e.1, free e.2)), dwells := s.sh.dwells.map dead } }
  if f < 32 then (flightChans f).foldl (fun s i => updAChan i AChan.clear s) s else s

/-- FLRST. -/
def execFlrst (flight : Nat) (s : State) : Host.Outcome State Fault Refusal := act (flight < 33) (flrst flight) s

/-- FLRST_END (R408, R414). -/
def flrstEnd (f : Nat) (s : State) : State :=
  if !s.fl.flrst.contains f then s else
  let s := { s with fl := { s.fl with flrst := s.fl.flrst.filter (fun g => g ≠ f) } }
  let s := if f < 32 then (flightChans f).foldl (fun s i => updAChan i (fun a => { a with opened := none }) s) s else s
  repair 0x0204 f 4 (repair 0x0202 f 4 (repair 0x0201 f 4 s))

/-- FLRST_END. -/
def execFlrstEnd (flight : Nat) (s : State) : Host.Outcome State Fault Refusal := act (flight < 33) (flrstEnd flight) s

/-! ## Modes -/

/-- The buffers' A_out is not valid across an entry to SWEEP or WATCH from DORMANT, SURVEY or TALLY (R186). -/
def dropOpened (s : State) : State :=
  let none_ (_ : Nat) (a : AChan) : AChan := { a with opened := none }
  { s with ar := { s.ar with chans := Tab.remap freshAChan none_ s.ar.chans } }

/-- A pending ARM ends without a snapshot; the store stays empty (R178, R179). -/
def snapDrop (st : Status) (s : State) : State :=
  match s.ar.snapArm with
  | some a => complete a.tk (.plain st) { s with ar := { s.ar with snapArm := none, slots := [], snapOk := false, snapN := 0 } }
  | none => s

/-- Trackers become FREE and the vote tables clear, without event (R198). -/
def lockersOff (s : State) : State := { s with ar := { s.ar with trackers := [], lockers := [] } }

/-! ## HIST_CFG (R164, R338) -/

/-- Passes of a stopped schedule's dwells are still to come, or run. -/
def State.passesLeft (s : State) : Bool :=
  s.sh.dwells.any (fun d => d.nfired ≠ 0 && (s.served d).any (fun i => !d.swapped.contains i)) ||
    s.ar.chans.any (fun (a : Nat × AChan) => a.2.pass)

/-- Every buffer is empty and X accumulates (R164). -/
def clearBuffers (s : State) : State :=
  let clear (_ : Nat) (a : AChan) : AChan :=
    { a with binsX := [], binsY := [], accY := false, pipe := [], cnt := noCounts, veto := false, opened := none }
  { s with ar := { s.ar with chans := Tab.remap freshAChan clear s.ar.chans, slots := [], snapOk := false, snapN := 0 } }

/-- HIST_CFG. -/
def histCfgOwn (_ : Ticket) (p : List Byte) (s : State) : Reply :=
  let nb := pByte p 1 % 16
  let cfg := w32 (put (pByte p 0) 16 2 + nb)
  if nb < 2 ∨ 8 < nb then reply s (.badarg 1)
  else if s.ar.snapArm.isSome || s.passesLeft then reply s (.plain .busy)
  else match rejudge s { s.adm with w := windowOf cfg } false with
    | some r => reply s (.notAdmitted r)
    | none => reply (clearBuffers { s with ar := { s.ar with cfg := cfg } }) (.plain .ok)

/-- HIST_CFG. -/
def execHistCfg (m : Nat) (s : State) : Host.Outcome State Fault Refusal :=
  act (m < 32) (lodge m 0x0601 anyRow (fun p => p.length == 4) (fun s _ => restMode s) histCfgOwn) s

/-! ## REJECT_CFG (R198, R204, R339) -/

/-- The first check of R204 that fails. -/
def rejectBad (x f : W32) : Option Nat :=
  if fld x 8 2 = 3 then some 2
  else if fld x 16 8 = 0 then some 1
  else if fld f 24 4 = 0 then some 12
  else if fld f 0 8 = 0 then some 15
  else if fld f 10 14 < 100 ∨ 16000 < fld f 10 14 then some 13
  else none

/-- The locker takes AR.FTCFG (R198). -/
def setFtcfg (f : W32) (s : State) : State :=
  let old := s.ar.ftcfg
  let s := { s with ar := { s.ar with ftcfg := f } }
  if !bit f 31 then lockersOff s
  else if (old ^^^ f) &&& 0x0FFFFCFF = 0 then s
  else (List.range 32).foldl (fun s k => updLocker k (fun l => { l with votes := [], idle := true }) s) s

/-- REJECT_CFG. -/
def rejectCfgOwn (_ : Ticket) (p : List Byte) (s : State) : Reply :=
  let x := pWord p 0 &&& 0xFFFF0333
  let f := pWord p 12 &&& 0x8FFFFCFF
  match rejectBad x f with
  | some off => reply s (.badarg off)
  | none =>
    let c := { s.adm with nret := fld x 4 2 + 1 }
    let raises := decide (s.adm.nret < c.nret)
    if raises && (rejudge s c true).isSome then reply s (.notAdmitted 6)
    else if raises && s.gl.writing && !galleryAdmits s c then reply s (.notAdmitted 7)
    else
      let s := { s with ar := { s.ar with xcfg := x, xsun := pWord p 4 &&& 0xFFFF, xrain := pWord p 8 &&& 0xFFFF } }
      reply (setFtcfg f s) (.plain .ok)

/-- REJECT_CFG. -/
def execRejectCfg (m : Nat) (s : State) : Host.Outcome State Fault Refusal :=
  act (m < 32) (lodge m 0x0602 anyRow (fun p => p.length == 16) anyMode rejectCfgOwn) s

/-! ## HIST_SNAP (R178, R179, R340) -/

/-- The listed channels of an ARM. -/
def armChans (p : List Byte) : List Nat := (List.range (pByte p 2)).map (fun j => pNat p (4 + 2 * j) 2)

/-- HIST_SNAP ARM: the channel indices are judged first, then n (R178). -/
def snapArm (tk : Ticket) (p : List Byte) (s : State) : Reply :=
  let n := pByte p 2
  let cs := armChans p
  match (List.range n).find? (fun j => 511 < cs.getD j 0) with
  | some j => reply s (.badarg (4 + 2 * j))
  | none =>
      if n = 0 ∨ 16 < n then reply s (.badarg 2)
      else if s.ar.snapArm.isSome then reply s (.plain .busy)
      else reply { s with ar := { s.ar with
        snapArm := some { line := pByte p 1, chans := cs, tk := tk, armedAt := s.uptime, did := none }
        slots := cs.map (fun c => emptySlot c none), snapOk := false, snapN := 0 } } (.plain .ok)

/-- Slot `p[1]`, or what refuses READ and INFO (R179): BUSY, then STALE, then BADARG. -/
def snapSlot (p : List Byte) (s : State) : Except Answer Slot :=
  if s.ar.snapArm.isSome then .error (.plain .busy)
  else if !s.ar.snapOk then .error (.plain .stale)
  else match s.ar.slots[pByte p 1]? with
    | some x => .ok x
    | none => .error (.badarg 1)

/-- HIST_SNAP READ: a slot that is not PRESENT answers bins of zero. -/
def snapRead (p : List Byte) (s : State) : Reply :=
  match snapSlot p s with
  | .error a => reply s a
  | .ok x =>
    let b0 := pNat p 2 2
    let c := pNat p 4 2
    if c = 0 ∨ 512 < c ∨ s.bins < b0 + c then reply s (.badarg 4)
    else reply s (.okWith ((List.range c).flatMap (fun j => beBytes 2 (Tab.get zeros x.bins (b0 + j)))))

/-- HIST_SNAP INFO (R340). -/
def snapInfo (p : List Byte) (s : State) : Reply :=
  match snapSlot p s with
  | .error a => reply s a
  | .ok x =>
    let flags := b2n x.present + 2 * b2n x.cnt.sat + 4 * b2n x.inc + 8 * b2n x.amb + 16 * b2n x.void + 32 * b2n x.short
    reply s (.okWith (beBytes 2 x.chan ++ [BitVec.ofNat 8 flags, BitVec.ofNat 8 x.line] ++ beBytes 4 x.group ++
      beBytes 2 x.pline ++ beBytes 2 x.step ++ beBytes 2 x.nplan ++ beBytes 2 x.nfired ++ beBytes 2 x.nvoid ++ [0, 0] ++
      beBytes 4 x.cnt.ninc ++ beBytes 4 x.cnt.namb ++ beBytes 4 x.cnt.nearly ++ beBytes 4 x.cnt.nout))

/-- HIST_SNAP (R340). -/
def histSnapOwn (tk : Ticket) (p : List Byte) (s : State) : Reply :=
  match pByte p 0 with
  | 0 => snapArm tk p s
  | 1 => snapRead p s
  | 2 => snapInfo p s
  | _ => reply s (.badarg 0)

/-- Length of a HIST_SNAP payload by its subcommand (R315, R319). -/
def histSnapLen (p : List Byte) : Bool :=
  match p with
  | [] => false
  | b :: _ =>
    if b = 0 then 4 ≤ p.length && p.length == 4 + 2 * pByte p 2
    else if b = 1 then p.length == 8
    else if b = 2 then p.length == 4
    else true

/-- Modes of HIST_SNAP. -/
def histSnapMode (s : State) (p : List Byte) : Bool := pByte p 0 ≠ 0 || s.ranges

/-- A HIST_SNAP row. -/
def snapRow (m : Nat) (row : List Byte → Bool) (s : State) : State := lodge m 0x0603 row histSnapLen histSnapMode histSnapOwn s

/-- HIST_SNAP ARM, and any undefined subcommand. -/
def execHistSnapArm (m : Nat) (s : State) : Host.Outcome State Fault Refusal :=
  act (m < 32) (snapRow m (fun p => !([1, 2].contains (pByte p 0)))) s

/-- HIST_SNAP READ. -/
def execHistSnapRead (m : Nat) (s : State) : Host.Outcome State Fault Refusal := act (m < 32) (snapRow m (fun p => pByte p 0 == 1)) s

/-- HIST_SNAP INFO. -/
def execHistSnapInfo (m : Nat) (s : State) : Host.Outcome State Fault Refusal := act (m < 32) (snapRow m (fun p => pByte p 0 == 2)) s

/-- HIST_SNAP_ARM_TIMEOUT (R178): no dwell of the line has swapped. -/
def snapTimeout (s : State) : State :=
  match s.ar.snapArm with
  | some a => if a.did.isNone then snapDrop .stale s else s
  | none => s

/-- HIST_SNAP_ARM_TIMEOUT. -/
def execHistSnapArmTimeout (s : State) : Host.Outcome State Fault Refusal := act true snapTimeout s

end Sys2Proof.Machine
end

