-- ==== Sys2Proof/Machine/Extraction.lean ====
section
/-!
DEFINITION. Extraction.lean: return extraction (R183 to R193), return records, service items and the return stream
(R199 to R203), the join of a dwell's summary (R176), and rejection of other scanners' trains (R194 to R198).
-/
namespace Sys2Proof.Machine

/-! ## Phase 1 (R185, R187, R190) -/

/-- The parameters of AR.XCFG and AR.XRAIN (R187, R188, R189, R191). -/
def lenF (x : W32) : Nat := 2 ^ fld x 0 2
def nretOf (x : W32) : Nat := fld x 4 2 + 1

/-- h[b] + ... + h[b + n - 1]. -/
def boxSum (h : Tab Nat) (b : Nat) : Nat → Nat
  | 0 => 0
  | n + 1 => Tab.get zeros h b + boxSum h (b + 1) n

/-- `v` put in its place in a list ordered by `le`, before the first element that `le` does not put before it. -/
def placeBy {α : Type} (le : α → α → Bool) (v : α) : List α → List α
  | [] => [v]
  | x :: xs => if le v x then v :: x :: xs else x :: placeBy le v xs

/-- A list ordered by `le`. -/
def orderBy {α : Type} (le : α → α → Bool) : List α → List α
  | [] => []
  | x :: xs => placeBy le x (orderBy le xs)

/-- A_hist of a histogram of `nb` bins, in 2^-4 counts per bin (R185). -/
def histAmbient (h : Tab Nat) (nb : Nat) : Nat :=
  let seg (j : Nat) : Nat := Tab.sum (h.filter (fun (kv : Nat × Nat) => kv.1 < nb && kv.1 / (nb / 16) == j))
  let sums := orderBy (fun a b => decide (a ≤ b)) ((List.range 16).map seg)
  halfUp (128 * (sums.getD 6 0 + sums.getD 7 0)) nb

/-- The positions up to `top` at which a filter of length `l` sees a listed bin, and position 0. -/
def seen (l top : Nat) (t : Tab Nat) : List Nat :=
  (0 :: (t.flatMap (fun kv => (List.range l).map (fun j => kv.1 - j))).filter (fun b => decide (b ≤ top))).eraseDups

/-- How many of the next `n` positions from `b` on, upwards, hold at least half of `s0`, without a break. -/
def runUp (f : Nat → Nat) (top s0 : Nat) : Nat → Nat → Nat
  | 0, _ => 0
  | n + 1, b => if b ≤ top ∧ s0 ≤ 2 * f b then 1 + runUp f top s0 n (b + 1) else 0

/-- The same below position `b`. -/
def runDown (f : Nat → Nat) (s0 : Nat) : Nat → Nat → Nat
  | 0, _ => 0
  | _ + 1, 0 => 0
  | n + 1, b + 1 => if s0 ≤ 2 * f b then 1 + runDown f s0 n b else 0

/-- Position `b` is a candidate (R190); a neighbour outside 0 to `top` counts as lower than any sum. -/
def isPeak (f : Nat → Nat) (top m b : Nat) : Bool :=
  m ≤ f b && (b == 0 || f (b - 1) < f b) && (b == top || f (b + 1) ≤ f b)

/-- What phase 1 keeps of a candidate (R183, R193). -/
def peakAt (f : Nat → Nat) (top b : Nat) : Peak :=
  { b := b, sPrev := if b = 0 then 0 else f (b - 1), s := f b, sNext := if b = top then 0 else f (b + 1)
    width := min 255 (runUp f top (f b) 255 b + runDown f (f b) 255 b), edge := b = 0 || b = top }

/-- Higher s first, the lower position first between equal sums (R190). -/
def peakBefore (x y : Peak) : Bool := y.s < x.s || (x.s == y.s && x.b ≤ y.b)

/-- Lower position first. -/
def peakNearer (x y : Peak) : Bool := decide (x.b ≤ y.b)

/-- Phase 1 of a lane job over `nb` bins. -/
def Lane.phase1Of (nb : Nat) (l : Lane) : Lane :=
  let n := lenF l.xcfg
  let top := nb - n
  let f (b : Nat) : Nat := boxSum l.bins b n
  let cs := (seen n top l.bins).filter (isPeak f top (fld l.xcfg 16 8))
  let ps := orderBy peakBefore (cs.map (peakAt f top))
  { l with phase1 := true, aHist := histAmbient l.bins nb, peaks := ps.take 32, overFlag := decide (32 < ps.length) }

/-- The first lane job that `p` admits is changed by `g`. -/
def updFirst (p : Lane → Bool) (g : Lane → Lane) : List Lane → List Lane
  | [] => []
  | l :: ls => if p l then g l :: ls else l :: updFirst p g ls

/-- EXTRACTION_PHASE1 (R183): the oldest frozen histogram whose pass has ended. -/
def extractionPhase1 (i : Nat) (s : State) : State :=
  let nb := s.bins
  updAChan i (fun a => { a with lanes := updFirst (fun l => l.passEnd && !l.phase1) (Lane.phase1Of nb) a.lanes }) s

/-- EXTRACTION_PHASE1. -/
def execExtractionPhase1 (ch : Nat) (s : State) : Host.Outcome State Fault Refusal := act (ch < 512) (extractionPhase1 ch) s

/-! ## Phase 2 (R184, R186, R188 to R193) -/

/-- BG in 2^-4 counts (R188). -/
def Lane.bg (l : Lane) (a : Nat) : Nat := lenF l.xcfg * a

/-- A square root of `x` (2^-4) formed to 2^-4, rounded down (R188, R193). -/
def sqrt16 (x : Nat) : Nat := isqrt 20 0 (16 * x)

/-- The detection threshold (R188). -/
def Lane.thr (l : Lane) (a : Nat) : Nat :=
  fld l.xcfg 16 8 + ceilDiv (4 * l.bg a + fld l.xcfg 24 8 * sqrt16 (l.bg a)) 64

/-- A position lies in the rain zone (R189). -/
def Lane.inRain (l : Lane) (bw : Nat) (p : Peak) : Bool :=
  decide ((2 * p.b + lenF l.xcfg) * 2 ^ bw < 128 * fld l.xrain 8 8)

/-- A peak of the rain zone repeats often enough (R189). -/
def Lane.dry (l : Lane) (a nok : Nat) (p : Peak) : Bool :=
  decide (16 * ceilDiv (fld l.xrain 0 8 * nok) 256 + l.bg a ≤ 16 * p.s)

/-- Separation (R190): a candidate fewer than L positions from a kept one is discarded. -/
def separate (n : Nat) (kept : List Peak) : List Peak → List Peak
  | [] => kept
  | p :: ps =>
    if kept.any (fun q => decide ((Int.ofNat p.b - Int.ofNat q.b).natAbs < n)) then separate n kept ps
    else separate n (kept ++ [p]) ps

/-- The order in which candidates, given by falling s, are chosen (R191). -/
def chooseOrder (sel : Nat) (ps : List Peak) : List Peak :=
  let near := orderBy peakNearer ps
  match sel with
  | 1 => near
  | 2 =>
    match near.head?, near.getLast? with
    | some x, some y =>
      let ends := if x.b = y.b then [x] else [x, y]
      ends ++ ps.filter (fun p => p.b ≠ x.b && p.b ≠ y.b)
    | _, _ => []
  | _ => ps

/-- D of a peak, in 2^-8 bin (R192). -/
def Peak.offset (p : Peak) : Int :=
  if p.edge then 0
  else
    let num := Int.ofNat p.sPrev - Int.ofNat p.sNext
    let den := 2 * Int.ofNat p.s - Int.ofNat p.sPrev - Int.ofNat p.sNext
    (2 * (-128 * num) + den) / (2 * den)

/-- TOF of a peak, in 2^-8 ns (R192). -/
def Peak.tof (n bw : Nat) (p : Peak) : Nat :=
  (((Int.ofNat (256 * p.b + 128 * n) + p.offset) * Int.ofNat (2 ^ bw) + 4) / 8).toNat

/-- CONF of a peak (R193). -/
def Lane.conf (l : Lane) (a nok nplan : Nat) (p : Peak) : Nat :=
  min 255 (16 * (16 * p.s - l.bg a) * nok / (sqrt16 (l.bg a + 16) * nplan))

/-- FLAGS of a record (R200), but for MORE, EDGE and RAIN. -/
def dwellFlags (s : State) (d : Dwell) : Nat :=
  put (b2n s.deg) 10 1 + put (b2n d.short) 9 1 + put (b2n d.inc) 8 1 + put (b2n d.amb) 7 1 + put (b2n (d.nvoid ≠ 0)) 6 1

/-- A return record (R199). -/
def recordOf (s : State) (d : Dwell) (i a : Nat) (l : Lane) (more : Bool) (ridx : Nat) (p : Peak) : BitVec 128 :=
  let flags := dwellFlags s d + put (b2n l.cnt.sat) 5 1 + put (b2n l.veto) 4 1 + put (b2n (l.inRain s.bw p)) 3 1 +
    put (b2n (decide (fld l.xsun 0 16 ≤ a))) 2 1 + put (b2n p.edge) 1 1 + put (b2n more) 0 1
  BitVec.ofNat 128 (put (p.tof (lenF l.xcfg) s.bw) 104 24 + put (min 65535 ((16 * p.s - l.bg a) / 16)) 88 16 +
    put p.width 80 8 + put (l.conf a d.nok d.nplan p) 72 8 + put (min 65535 a) 56 16 + put i 46 10 + put d.pline 37 9 +
    put ridx 35 2 + put flags 24 11 + put (d.groupId / 8192) 16 8)

/-- The ambient of a lane job (R186). -/
def ambient (s : State) (d : Dwell) (l : Lane) : Nat :=
  match s.aOut l.span l.cnt.nout d.nok with
  | some x => min l.aHist x
  | none => l.aHist

/-- Phase 2: the records of channel `i`, and how many peaks the rain test discarded. -/
def phase2Of (s : State) (d : Dwell) (i : Nat) (l : Lane) : List (BitVec 128) × Nat :=
  if d.nplan = 0 ∨ d.nok = 0 ∨ d.dead.contains (chanFlight i) = true then ([], 0) else
  let a := ambient s d l
  let n := lenF l.xcfg
  let loud := l.peaks.filter (fun p => decide (l.thr a ≤ p.s))
  let wet := loud.filter (fun p => l.inRain s.bw p && !l.dry a d.nok p)
  let pass := loud.filter (fun p => !(l.inRain s.bw p && !l.dry a d.nok p))
  let kept := separate n [] pass
  let sel := orderBy peakNearer ((chooseOrder (fld l.xcfg 8 2) kept).take (nretOf l.xcfg))
  let more := l.overFlag || decide (sel.length < kept.length)
  (((List.range sel.length).zip sel).map (fun (jp : Nat × Peak) => recordOf s d i a l more jp.1 jp.2), wet.length)

/-! ## The return stream (R201 to R203) -/

/-- A dwell item (R201). -/
def dwellItem (s : State) (d : Dwell) (nrec : Nat) : BitVec 128 :=
  BitVec.ofNat 128 (put d.groupId 107 21 + put d.pline 98 9 + put d.line 90 8 + put d.nplan 77 13 + put d.nfired 64 13 +
    put 0x3FE 46 10 + put (dwellFlags s d) 24 11 + put nrec 12 12)

/-- An EPOCH marker enters the return stream (R202). -/
def markStream (e : W16) (s : State) : State :=
  placeItem (epochItem e) true { s with ar := { s.ar with streamOn := true, streamEpoch := e } }

/-- The return stream starts (R29, R202). -/
def streamStart (s : State) : State := markStream s.tb.epoch s

/-- The return stream stops. -/
def streamStop (s : State) : State := { s with ar := { s.ar with streamOn := false } }

/-- The epoch has advanced and no dwell of the old one is left to come: the marker of the new one follows (R29, R202). -/
def settleEpoch (s : State) : State :=
  if s.ar.streamOn && s.ar.streamEpoch != s.tb.epoch &&
      s.sh.dwells.all (fun d => d.placed || d.epoch != s.ar.streamEpoch) then markStream s.tb.epoch s
  else s

/-- Flight `f` was faulted by a lane; a dwell of it has been placed (R415). -/
def laneGood (d : Dwell) (f : Nat) (s : State) : State :=
  let v := Tab.get zeros s.ar.laneBad f
  if v < 2 || !bit d.serve f || d.late.contains f || d.dead.contains f then s
  else if v < 17 then { s with ar := { s.ar with laneBad := Tab.insert s.ar.laneBad f (v + 1) } }
  else repair 0x0203 f 11 { s with
    ar := { s.ar with laneBad := Tab.erase s.ar.laneBad f }, bl := { s.bl with pmflt := setBit s.bl.pmflt f false } }

/-- A dwell enters the stream: its records by channel and RIDX, and its dwell item (R202). -/
def placeDwell (d : Dwell) (s : State) : State :=
  let s := if s.ar.streamEpoch = d.epoch then s else markStream d.epoch s
  let recs := d.records.flatMap Prod.snd
  let s := recs.foldl (fun s r => placeItem r false s) s
  let s := galleryDwell d d.records { s with ar := { s.ar with recCnt := s.ar.recCnt + w32 recs.length } }
  let s := placeItem (dwellItem s d recs.length) true s
  let s := updDwell d.did (fun d => { d with placed := true }) s
  (s.ar.laneBad.map Prod.fst).foldl (fun s f => laneGood d f s) s

/-- A dwell can enter the stream: it is joined, and every served channel has been extracted. -/
def State.placeable (s : State) (d : Dwell) : Bool := d.joined && (s.served d).all (fun i => d.extracted.contains i)

/-- Dwells that can enter the stream do so, in the order of their T_end (R202). -/
def placeDwells : Nat → State → State
  | 0, s => settleEpoch s
  | n + 1, s =>
    match s.sh.dwells.find? (fun d => !d.placed) with
    | some d => if s.placeable d then placeDwells n (placeDwell d s) else settleEpoch s
    | none => settleEpoch s

/-- EXTRACTION_PHASE2 (R183): phase 2 of the oldest job of channel `i` that is ready for it. -/
def extractionPhase2 (i : Nat) (s : State) : State :=
  match (s.achan i).lanes.head? with
  | none => s
  | some l =>
    match s.dwell l.did with
    | none => updAChan i (fun a => { a with lanes := a.lanes.tail }) s
    | some d =>
      if !l.phase1 || !d.joined then s else
      let r := phase2Of s d i l
      let s := updAChan i (fun a => { a with lanes := a.lanes.tail })
        { s with ar := { s.ar with rainCnt := s.ar.rainCnt + w32 r.2 } }
      let s := if r.1.isEmpty then s else count (96 + chanFlight i) r.1.length s
      let s := updDwell d.did (fun d => { d with
        extracted := i :: d.extracted, records := Tab.insert d.records i r.1 }) s
      placeDwells s.sh.dwells.length s

/-- EXTRACTION_PHASE2. -/
def execExtractionPhase2 (ch : Nat) (s : State) : Host.Outcome State Fault Refusal := act (ch < 512) (extractionPhase2 ch) s

/-! ## The join (R176) -/

/-- A dwell can be joined: every served channel has swapped and every shot is CLOSED (R176). -/
def State.joinable (s : State) (d : Dwell) : Bool :=
  !d.joined && !d.firing && d.reached ≠ 0 && (s.served d).all (fun i => d.swapped.contains i) && s.allClosed d.did

/-- DWELL_JOIN (R131, R176): the summary is joined, and the dwell's ledger entries are FREE. -/
def dwellJoin (s : State) : State :=
  match s.sh.dwells.find? s.joinable with
  | none => s
  | some d =>
    let d := { d with joined := true, short := decide (d.nfired < d.nplan) }
    let s := { s with sh := { s.sh with ledger := s.sh.ledger.filter (fun (e : Nat × Entry) => e.2.did ≠ d.did) } }
    let s := updDwell d.did (fun _ => d) s
    let s := traceDwell d { s with ar := { s.ar with slots := s.ar.slots.map (Slot.about d) } }
    placeDwells s.sh.dwells.length s

/-- DWELL_JOIN. -/
def execDwellJoin (s : State) : Host.Outcome State Fault Refusal := act true dwellJoin s

/-! ## Late lanes (R183, R206, R235, R415) -/

/-- LANE_LATE: flight `f` is judged by the map from its next decision on. -/
def laneLate (f : Nat) (s : State) : State :=
  let dids := (flightChans f).filterMap (fun i => (s.achan i).lanes.head?.map Lane.did)
  if dids.isEmpty then s else
  let newly := !bit s.bl.pmflt f
  let late (d : Dwell) : Dwell := if dids.contains d.did then { d with late := f :: d.late } else d
  let s := { s with
    bl := { s.bl with pmflt := setBit s.bl.pmflt f true }
    ar := { s.ar with laneBad := Tab.insert s.ar.laneBad f 1 }
    sh := { s.sh with dwells := s.sh.dwells.map late } }
  detect 0x0203 f 11 true (raises (if newly then [52, 81, 199] else [52, 199]) s)

/-- LANE_LATE. -/
def execLaneLate (flight : Nat) (s : State) : Host.Outcome State Fault Refusal := act (flight < 32) (laneLate flight) s

/-! ## Foreign trains (R194 to R198) -/

/-- A FREE tracker. -/
def freshTracker (_ : Nat) : Tracker := { state := 0, period := 0, tPred := 0, hist := [] }

/-- Tracker `t` of flight `f`. -/
def State.tracker (s : State) (f t : Nat) : Tracker := Tab.get freshTracker s.ar.trackers (2 * f + t)

/-- Hits among the last 16 predictions (R197). -/
def Tracker.hits (x : Tracker) : Nat := (x.hist.filter (fun h => h)).length

/-- A prediction was a hit or a miss: the next state, and the event of the change (R197). -/
def Tracker.note (hit : Bool) (x : Tracker) : Tracker × List Nat :=
  let x := { x with hist := (hit :: x.hist).take 16 }
  let full := x.hist.length == 16
  if x.state = 1 ∧ full = true ∧ 12 ≤ x.hits then ({ x with state := 2 }, [50])
  else if x.state = 2 ∧ x.hits < 8 then ({ x with state := 1 }, [51])
  else if x.state = 1 ∧ full = true ∧ x.hits < 4 then (freshTracker 0, [])
  else (x, [])

/-- Tracker `t` of flight `f` after a prediction. -/
def setTracker (f t : Nat) (r : Tracker × List Nat) (s : State) : State :=
  raises r.2 { s with ar := { s.ar with trackers := Tab.put freshTracker s.ar.trackers (2 * f + t) r.1 } }

/-- An instant lies within 3 ns of a prediction (R194, R197). -/
def Tracker.near (t : Stamp) (x : Tracker) : Bool := decide ((stampDiff t x.tPred).natAbs ≤ 3072)

/-- P in stamp units. -/
def periodStamp (p : Nat) : Stamp := BitVec.ofNat 64 (64 * p)

/-- A cluster of the gate at `t` is judged by tracker `k` (R197). -/
def trackHit (f : Nat) (t : Stamp) (k : Nat) (s : State) : State :=
  let x := s.tracker f k
  if x.state = 0 ∨ x.near t = false then s else
  let p := (Int.ofNat x.period + (stampDiff t x.tPred + 512) / 1024).toNat
  setTracker f k (Tracker.note true { x with period := p, tPred := t + periodStamp p }) s

/-- A LOCKED tracker of flight `f` vetoes an instant (R194). -/
def State.vetoes (s : State) (f : Nat) (t : Stamp) : Bool :=
  [0, 1].any (fun k => (s.tracker f k).state == 2 && (s.tracker f k).near t)

/-- The earliest stamp of a pool. -/
def earliest : List (Stamp × Nat) → Option Stamp
  | [] => none
  | p :: ps => some (ps.foldl (fun (b : Stamp) (q : Stamp × Nat) => if stampDiff q.1 b < 0 then q.1 else b) p.1)

/-- A stamp belongs to the cluster that opens at `t` (R195). -/
def inCluster (t : Stamp) (q : Stamp × Nat) : Bool := decide (stampDiff q.1 t ≤ 2048)

/-- The cluster counts (R195). -/
def State.counts (s : State) (pool : List (Stamp × Nat)) (t : Stamp) : Bool :=
  decide (fld s.ar.ftcfg 24 4 ≤ ((pool.filter (inCluster t)).map Prod.snd).eraseDups.length)

/-- An OUTSIDE cluster votes for its distances to the eight before it (R196). -/
def castVotes (pmin : Nat) (t : Stamp) (l : Locker) : Locker :=
  if l.idle then l else
  let vote (v : Tab Nat) (u : Stamp) : Tab Nat :=
    let d := stampDiff t u
    if Int.ofNat (1024 * pmin) ≤ d ∧ d ≤ 16383 * 1024 then Tab.upd zeros v (d.toNat / 4096) (· + 1) else v
  { l with votes := l.last.foldl vote l.votes, last := (t :: l.last).take 8 }

/-- CLUSTER_CLOSE (R195). -/
def clusterClose (f : Nat) (outside : Bool) (s : State) : State :=
  let l := s.locker f
  let pool := if outside then l.outPool else l.pool
  match earliest pool with
  | none => s
  | some t =>
    let rest := pool.filter (fun q => !inCluster t q)
    let ok := s.counts pool t
    if outside then
      let pmin := fld s.ar.ftcfg 10 14
      updLocker f (fun l => let l := { l with outPool := rest }; if ok then castVotes pmin t l else l) s
    else
      let s := updLocker f (fun l => { l with pool := rest }) s
      if ok then trackHit f t 1 (trackHit f t 0 s) else s

/-- CLUSTER_CLOSE. -/
def execClusterClose (flight : Nat) (outside : Bool) (s : State) : Host.Outcome State Fault Refusal :=
  act (flight < 32) (clusterClose flight outside) s

/-- The bin with the most votes, the lower one between equal counts: bin and votes (R196). -/
def bestBin (v : Tab Nat) : Nat × Nat :=
  v.foldl (fun (b : Nat × Nat) (kv : Nat × Nat) => if b.2 < kv.2 then kv else b) (0, 0)

/-- The larger neighbour of bin `b`. -/
def bestNext (v : Tab Nat) (b : Nat) : Nat × Nat :=
  let lo := if b = 0 then 0 else Tab.get zeros v (b - 1)
  let hi := if b = 4095 then 0 else Tab.get zeros v (b + 1)
  if lo < hi ∨ b = 0 then (b + 1, hi) else (b - 1, lo)

/-- The period of a candidate in 2^-4 ns, to the nearest, halves up (R196). -/
def votedPeriod (x y : Nat × Nat) : Nat := halfUp (64 * (x.1 * x.2 + y.1 * y.2)) (x.2 + y.2) + 32

/-- Two periods lie within 8 ns of each other. -/
def within8 (a b : Nat) : Bool := decide ((Int.ofNat a - Int.ofNat b).natAbs ≤ 128)

/-- The candidate lies on a multiple of the spacing of the step in progress (R196). -/
def State.onSpacing (s : State) (p : Nat) : Bool :=
  s.sh.run.isSome &&
    (let b := s.stepAt s.sh.active s.sh.stepNow
     b.dscale == 0 && [1, 2, 3, 4].any (fun k => within8 p (k * b.period)))

/-- A FREE tracker starts on a candidate (R196). -/
def startTracker (f p : Nat) (t : Stamp) (s : State) : State :=
  match [0, 1].find? (fun k => (s.tracker f k).state = 0) with
  | some k => setTracker f k ({ state := 1, period := p, tPred := t + periodStamp p, hist := [] }, []) s
  | none => s

/-- ACQUISITION_INTERVAL_END (R196, R198). -/
def acquisitionEnd (f : Nat) (s : State) : State :=
  let l := s.locker f
  let s := updLocker f (fun l => { l with votes := [], idle := false, last := if l.idle then [] else l.last }) s
  if !s.ftOn || l.idle then s else
  let x := bestBin l.votes
  let y := bestNext l.votes x.1
  let p := votedPeriod x y
  let held := [0, 1].any (fun k => (s.tracker f k).state ≠ 0 && within8 p (s.tracker f k).period)
  if x.2 + y.2 < fld s.ar.ftcfg 0 8 ∨ held = true ∨ s.onSpacing p = true then s
  else match l.last.head? with
    | some t => startTracker f p t s
    | none => s

/-- ACQUISITION_INTERVAL_END. -/
def execAcquisitionIntervalEnd (flight : Nat) (s : State) : Host.Outcome State Fault Refusal :=
  act (flight < 32) (acquisitionEnd flight) s

/-- TRACKER_MISS (R197). -/
def trackerMiss (f k : Nat) (s : State) : State :=
  let x := s.tracker f k
  if x.state = 0 then s
  else setTracker f k (Tracker.note false { x with tPred := x.tPred + periodStamp x.period }) s

/-- TRACKER_MISS. -/
def execTrackerMiss (flight tracker : Nat) (s : State) : Host.Outcome State Fault Refusal :=
  act (flight < 32 && tracker < 2) (trackerMiss flight tracker) s

end Sys2Proof.Machine
end

