-- ==== Sys2Proof/Machine/Queue.lean ====
section
/-!
DEFINITION. Queue.lean: the consumers of the stamp queues (R43, R64, R69, R127, R129, R194, R208).
-/
namespace Sys2Proof.Machine

/-- The tap of R208 carries the words of channel `i`: in TALLY and the ranging modes, and always those of CT0 to CT3. -/
def State.tapped (s : State) (i : Nat) : Bool := s.th.mode == .tally || s.ranges || 520 ≤ i

/-- A STAMP record (R425): the word of channel `i` in stage `stage`, dumped or popped. -/
def stampRec (dump : Bool) (stage i : Nat) (w : QWord) : TraceRec :=
  ⟨1, beBytes 2 (put (b2n dump) 15 1 + put stage 10 5 + put i 0 10) ++ w.bytes ++ [0, 0]⟩

/-- The trace copies a word from the tap (R426). -/
def traceStamp (i era : Nat) (w : QWord) (s : State) : State :=
  if bit s.av.trcfg 6 && bit (Tab.get zeroW s.av.trch (i / 32)) (i % 32) then
    s.pushStamped era (stampRec false 15 i w)
  else s

/-- What the tap does with a popped word: trace, measurements, Gallery and Colonnade (R208, R247, R260, R426). -/
def tapWord (i : Nat) (e : QEntry) (s : State) : State :=
  let s := if s.tapped i then traceStamp i e.era e.word s else s
  match e.word with
  | .stamp st _ rising _ _ => clnStamp i st rising (galleryEdge i st rising (tapMeas i st rising e s))
  | .close .. => s

/-- A stamp of a vetoed instant is removed and counted (R194). -/
def vetoed (i : Nat) (s : State) : State :=
  updAChan i (fun a => { a with vetoCnt := a.vetoCnt + 1, veto := true }) s

/-- A stamp passes the veto gate of its flight into the assignment buffer, and enters the gate's clusters (R194, R195). -/
def gateStamp (i : Nat) (st : Stamp) (s : State) : State :=
  let a := st - BitVec.ofInt 64 (s.boardSkew i)
  let f := chanFlight i
  let s := if s.ftOn then updLocker f (fun l => { l with pool := l.pool ++ [(a, i)] }) s else s
  if s.vetoes f a then vetoed i s else updAChan i (fun x => { x with waits := x.waits ++ [.stamp st] }) s

/-- A word reaches the assignment logic (R127, R129). -/
def toLedger (i : Nat) (w : QWord) (s : State) : State :=
  match w with
  | .stamp st _ _ _ _ => gateStamp i st s
  | .close _ _ drop gen tag _ =>
    let s := updAChan i (fun x => { x with waits := x.waits ++ [.close gen tag drop] }) s
    passCloses i (s.achan i).waits.length s

/-- An FB word: fire stamps while the schedule's modes run, test pulses in SURVEY and in the pass of an entry to it (R114,
R157). -/
def toFire (i : Nat) (w : QWord) (s : State) : State :=
  match w with
  | .stamp st _ _ _ _ =>
    if s.th.mode == .survey || s.em.testRun then fbTest (i - 512) st s
    else if s.ranges then fbStamp (i - 512) st s
    else s
  | .close .. => s

/-- The consumer of channel `i` takes a word (R43). -/
def consume (i : Nat) (w : QWord) (s : State) : State :=
  if i < 512 then (if s.ranges then toLedger i w s else s)
  else if i < 520 then toFire i w s
  else s

/-- QUEUE_POP (R64): while the flight's consumer path restarts, the sink drains the queue (R414). -/
def queuePop (i : Nat) (s : State) : State :=
  match (s.chan i).queue with
  | [] => s
  | e :: _ =>
    if !s.valid i || (s.chan i).hold || !s.flightsRun then s
    else
      let s := popHead i s
      if s.fl.flrst.contains (chanFlight i) then s else consume i e.word (tapWord i e s)

/-- QUEUE_POP. -/
def execQueuePop (ch : Nat) (s : State) : Host.Outcome State Fault Refusal := act (ch < 524) (queuePop ch) s

end Sys2Proof.Machine
end

