-- ==== Sys2Proof/Machine/Epoch.lean ====
section
/-!
DEFINITION. Epoch.lean: the wrap of the coarse count (R28 to R30), EPOCH_SET and time markers (R32 to R34, R249), and the
TBCLK cycle.
-/
namespace Sys2Proof.Machine

/-- The EPOCH record of epoch `e` (R425). -/
def epochRec (e : W16) : TraceRec := ⟨9, beBytes 2 e.toNat ++ List.replicate 12 0⟩

/-- The EPOCH record of the trace (R29): it waits for the items of the old epoch, and later records wait behind it. A trace
that does not run takes it when it starts again. -/
def traceMark (e : W16) (s : State) : State :=
  if bit s.av.trcfg 31 then
    { s with av := Avail.push true (epochRec e) { s.av with held := some (s.av.held.getD []) } }
  else { s with av := { s.av with traceEpoch := true } }

/-- The epoch advances (R28 to R30): markers enter every stream that runs, and events 13 and 14 are raised. -/
def epochAdvance (s : State) : State :=
  let old := s.tb.epoch
  let s := { s with tb := { s.tb with epoch := old + 1, era := s.tb.era + 1 } }
  let s := settleEpoch (galleryWrap (traceMark s.tb.epoch s))
  raises (if old = 0xFFFF then [13, 14] else [13]) s

/-- One TBCLK cycle passes. At the wrap the epoch advances, unless an EPOCH_SET takes effect in this cycle (R28, R34). Where a
flight cycle ends with it, the queues are judged (R68). -/
def tbCycle (s : State) : State :=
  let wrap := decide (s.tb.coarse.toNat = 2 ^ 54 - 1) && s.tb.due.isNone
  let n := s.cycle
  let s := { s with uptime := s.uptime + 1, tb := { s.tb with coarse := s.tb.coarse + 1 } }
  let s := if wrap then epochAdvance s else s
  if s.cycle = n then s else checkFull n s

/-- COARSE_WRAP (R28, R34). -/
def coarseWrap (s : State) : State := if s.tb.coarse.toNat = 2 ^ 54 - 1 then tbCycle s else s

/-- COARSE_WRAP. -/
def execCoarseWrap (s : State) : Host.Outcome State Fault Refusal := act true coarseWrap s

/-- What a FIRE pair sends, with its instant moved by `d`. -/
def FireOut.move (d : Coarse) : FireOut → FireOut
  | .strobe t => .strobe (t + d)
  | .select t w => .select (t + d) w

/-- Planned substitutions, moved by `d`. -/
def moveSubst (d : Coarse) (t : Tab Chan) : Tab Chan :=
  Tab.remap freshChan (fun _ c => { c with subst := c.subst.map (fun b => { b with tsw := b.tsw + d }) }) t

/-- What the FIRE pairs send, what the lines under test expect and the strobes of ended passes, moved by `d`. -/
def moveFire (d : Coarse) (e : Emitter) : Emitter :=
  { e with
    fire := Tab.remap (fun _ => []) (fun _ l => l.map (FireOut.move d)) e.fire
    drivers := Tab.remap freshDriver (fun _ r => { r with
      test := r.test.map (fun t => (t.1, t.2 + d)), spent := r.spent.map (· + d) }) e.drivers }

/-- The flight cycles begin at even counts of the count `k` too (R55): where `k` is of the other parity, they move by one
TBCLK cycle (DESIGN CHOICE for the cycle of the load, log 89). -/
def State.alignTo (s : State) (k : Coarse) : Nat :=
  s.tb.align + (if (s.uptime + s.tb.align) % 2 = k.toNat % 2 then 0 else 1)

/-- The count and the epoch are loaded (R33). The instants that the part still keeps of its bus, of PPS_IN, of TRGIN, of planned
substitutions and of the FIRE pairs stay where they lie in real time (log 54). -/
def loadTime (k : Coarse) (e : W16) (s : State) : State :=
  let d := k - s.tb.coarse
  let s := { s with
    tb := { s.tb with
      coarse := k, epoch := e, era := s.tb.era + 1, align := s.alignTo k, pend := none, due := none, replicaOff := []
      ppsPrev := s.tb.ppsPrev.map (· + d) }
    cl := { s.cl with
      receipt := s.cl.receipt.map (· + d), markSent := s.cl.markSent.map (· + d)
      trgRun := s.cl.trgRun.map (fun (r : Bool × Coarse) => (r.1, r.2 + d))
      markWin := s.cl.markWin.map (fun (m : Coarse × Nat) => (m.1 + d, m.2)) }
    fl := { s.fl with chans := moveSubst d s.fl.chans }, em := moveFire d s.em }
  settleEpoch (galleryWrap (traceMark e s))

/-- EPOCH_SET (R32, R330). -/
def epochSetOwn (tk : Ticket) (p : List Byte) (s : State) : Reply :=
  let apply := pByte p 0
  let e := BitVec.ofNat 16 (pNat p 2 2)
  let k := pNat p 4 8
  if 2 < apply then reply s (.badarg 0)
  else if 2 ^ 54 ≤ k then reply s (.badarg 4)
  else if s.tb.pend.isSome then reply s (.plain .busy)
  else if apply = 0 then reply (loadTime (BitVec.ofNat 54 k) e s) (.plain .ok)
  else
    let pend : EpochPend := { apply := apply, e := e, k := BitVec.ofNat 54 k, tk := tk }
    reply { s with tb := { s.tb with pend := some pend, due := none } } (.plain .ok)

/-- EPOCH_SET. -/
def execEpochSet (m : Nat) (s : State) : Host.Outcome State Fault Refusal :=
  act (m < 32) (lodge m 0x0302 anyRow (fun p => p.length == 12) (fun s _ => deepMode s) epochSetOwn) s

/-- EPOCH_SET_APPLY (R33, R249): the count takes K, corrected by the cable delay, at the edge or marker; cycles that have
passed since are counted on, and the epoch advances if they carry the count past its end (R28). K and the delay are added
modulo 2^54, with the epoch left at E (DESIGN CHOICE, log 79). -/
def epochSetApply (s : State) : State :=
  match s.tb.pend, s.tb.due with
  | some p, some (u, dly) =>
    let k := p.k + BitVec.ofInt 54 dly
    let n := s.uptime - u
    let s := loadTime (k + BitVec.ofNat 54 n) p.e s
    let s := if 2 ^ 54 ≤ k.toNat + n then epochAdvance s else s
    let s := if p.apply = 2 then { s with cl := { s.cl with tset := true } } else s
    complete p.tk (.okWith (beBytes 8 k.toNat ++ beBytes 2 p.e.toNat)) s
  | _, _ => s

/-- EPOCH_SET_APPLY. -/
def execEpochSetApply (s : State) : Host.Outcome State Fault Refusal := act true epochSetApply s

/-- A waiting EPOCH_SET completes without effect (R32). -/
def dropEpoch (st : Status) (s : State) : State :=
  match s.tb.pend with
  | some p => complete p.tk (.plain st) { s with tb := { s.tb with pend := none, due := none } }
  | none => s

/-- EPOCH_SET_TIMEOUT (R32). -/
def epochSetTimeout (s : State) : State := if s.tb.due.isNone then dropEpoch .fault s else s

/-- EPOCH_SET_TIMEOUT. -/
def execEpochSetTimeout (s : State) : Host.Outcome State Fault Refusal := act true epochSetTimeout s

/-- round(CL.DLY) of a unit, in ns, halves up (R249). -/
def State.dlyNs (s : State) (u : Nat) : Int := ((Tab.get (fun _ => (0 : BitVec 24)) s.cl.dly u).toInt + 512) / 1024

/-- The marker is latched: a waiting EPOCH_SET with APPLY = 2 becomes due (R33, R249). -/
def latchMarker (dly : Int) (s : State) : State :=
  let s := { s with cl := { s.cl with markSent := none, markWin := none } }
  match s.tb.pend with
  | some p => if p.apply = 2 then { s with tb := { s.tb with due := some (s.uptime, dly) } } else s
  | none => s

/-- TIME_MARKER (R249): the marker leaves the master 3,000 ns after its MARK word, or arrives at a follower in its window
after the receipt of one. -/
def timeMarker (s : State) : State :=
  match s.cl.markSent, s.cl.markWin with
  | some c, _ => if ahead s.tb.coarse c = 3000 then latchMarker 0 s else s
  | none, some (c, u) =>
    let d := ahead s.tb.coarse c
    if 2900 ≤ d ∧ d ≤ 3100 then latchMarker (s.dlyNs u) s else s
  | none, none => s

/-- TIME_MARKER. -/
def execTimeMarker (s : State) : Host.Outcome State Fault Refusal := act true timeMarker s

end Sys2Proof.Machine
end

