-- ==== Sys2Proof/Machine/Link.lean ====
section
/-!
DEFINITION. Link.lean: what the link hardware does: filtering and checking received frames (R286 to R295, R300), ARP and
ICMP (R285, R288), sending by class (R302), notifications (R298), ports and failover (R305, R306), and LINK_CFG (R310).
-/
namespace Sys2Proof.Machine

/-! ## Hosts -/

/-- LK.HOST[h]. -/
def LinkRegs.host (r : LinkRegs) (h : Nat) : W32 := Tab.get zeroW r.hosts h

/-- An address of port `p`'s subnet. -/
def PortRegs.local (r : PortRegs) (a : W32) : Bool := (a &&& r.mask) == (r.ip &&& r.mask)

/-- A source that R287 accepts on port `p`. -/
def LinkRegs.accepts (r : LinkRegs) (p : Nat) (a : W32) : Bool :=
  let hs := (List.range 4).map r.host
  if hs.all (fun h => h == 0) then (r.port p).local a else hs.any (fun h => h ≠ 0 && h == a)

/-- A refused frame (R286, R287): event 132 for the first in each second. -/
def refuseHost (s : State) : State :=
  let first := match s.lk.rejMs with
    | some u => u + 1000000000 ≤ s.uptime
    | none => true
  raiseIf first 132 { s with lk := { s.lk with
    rejHost := s.lk.rejHost + 1, rejMs := if first then some s.uptime else s.lk.rejMs } }

/-- A frame is discarded into LK.BADFRAME. -/
def badFrame (s : State) : State := { s with lk := { s.lk with badFrame := s.lk.badFrame + 1 } }

/-! ## Polcor frames received (R293 to R295) -/

/-- Fields of a received Polcor frame. -/
def fKind (b : List Byte) : Nat := pNat b 3 1
def fSeq (b : List Byte) : W16 := BitVec.ofNat 16 (pNat b 4 2)
def fBox (b : List Byte) : Nat := pNat b 6 1
def fOp (b : List Byte) : Nat := pNat b 8 2
def fLen (b : List Byte) : Nat := pNat b 10 2
def fBody (b : List Byte) : List Byte := (b.drop 12).take (fLen b)

/-- Step 1 of R293. -/
def frameShape (path : Nat) (b : List Byte) : Bool :=
  16 ≤ b.length && b.length == 16 + fLen b && decide (fLen b ≤ pathLimit path) && pNat b 0 2 == 0xC5A1 && pNat b 2 1 == 1

/-- Step 2 of R293. -/
def frameCrc (b : List Byte) : Bool := pNat b (b.length - 4) 4 == (crc32 (b.take (b.length - 4))).toNat

/-- Step 3 of R293. -/
def frameCommand (b : List Byte) : Bool := fKind b == 1 && fBox b ≤ 31

/-- What a command frame meets in its mailbox (R294, R295). -/
inductive Verdict where
  | accepted | busy | stale | repeated
  deriving DecidableEq, Repr

/-- The table of R294. -/
def Mailbox.verdict (b : Mailbox) (seq : W16) : Verdict :=
  let d := (seq - b.l).toNat
  if b.state = .unsync then .accepted
  else if d = 0 then .repeated
  else if 32768 ≤ d then .stale
  else if b.state = .executing then .busy
  else .accepted

/-- An EMIT_LIMIT with DIS = 1 (R300, R336). -/
def isDisable (b : List Byte) : Bool :=
  fOp b == 0x0504 && fLen b == 4 && (pNat b 13 1).testBit 0 && decide (pNat b 12 1 % 64 ≤ 36)

/-- A mailbox accepts a command (R294); a halted Lodge's commands are answered FAULT at once (R421). -/
def acceptCommand (m : Nat) (b : List Byte) (src : Peer) (s : State) : State :=
  let box : Mailbox := {
    state := .executing, l := fSeq b, op := fOp b, payload := fBody b, src := src, order := s.lk.accepted + 1, answer := none
    compl := none }
  let s := updBox m (fun _ => box) { s with lk := { s.lk with accepted := s.lk.accepted + 1 } }
  let s := count (192 + m) 1 (count (if src.path = spiPath then 169 else 166 + src.path) 1 s)
  if s.av.halt then respond m { status := .fault, arg := 0xFFFF, data := [] } s else answerBadop 32 s

/-- A repeat of an answered command is answered again, and its completion sent again (R295). -/
def repeatAnswer (m : Nat) (src : Peer) (s : State) : State :=
  let b := s.box m
  match b.state, b.answer with
  | .idle, some a =>
    let s := sendResponse (responseFrame s m b.l b.op src true a) src s
    match b.compl with
    | some c =>
      let f := completionFrame s (s.ticket m) true c
      if b.src.path = spiPath then enqueue spiPath 2 (.polcor f) s else sendHost 2 f s
    | none => s
  | _, _ => s

/-- Step 4 of R293, with the fast path of R300. -/
def judgeCommand (b : List Byte) (src : Peer) (s : State) : State :=
  let m := fBox b
  let v := (s.box m).verdict (fSeq b)
  let s := if isDisable b && v ≠ .stale then emitDisable s else s
  match v with
  | .accepted => acceptCommand m b src s
  | .repeated => repeatAnswer m src s
  | .busy => sendResponse (responseFrame s m (fSeq b) (fOp b) src false (.plain .busy)) src
      { s with lk := { s.lk with busyCnt := s.lk.busyCnt + 1 } }
  | .stale =>
    let a : Answer := { status := .seq, arg := (s.box m).l.toNat, data := [] }
    sendResponse (responseFrame s m (fSeq b) (fOp b) src false a) src { s with lk := { s.lk with seqErr := s.lk.seqErr + 1 } }

/-- A Polcor frame has been received on a path (R293). -/
def polcorFrame (b : List Byte) (src : Peer) (s : State) : State :=
  if !frameShape src.path b then badFrame s
  else if !frameCrc b then { s with lk := { s.lk with crcErr := s.lk.crcErr + 1 } }
  else if !frameCommand b then badFrame s
  else judgeCommand b src s

/-! ## Frames received on a host port (R286) -/

/-- A frame wakes a port that idles (R385). -/
def wakePort (p : Nat) (s : State) : State := updPort p (fun x => { x with lpi := false }) s

/-- An IPv4 packet for port `p`; ICMP other than an echo request (ICMP_ECHO) is no frame the Colale takes (R283, R286). -/
def ipFrame (p : Nat) (f : RxFrame) (ip : RxIp) (s : State) : State :=
  if !(ip.hdrOk && ip.ihl == 5 && !ip.fragmented && ip.dst == (s.lk.regs.port p).ip && ip.proto ≠ .other) then badFrame s
  else if ip.proto = .icmp then s
  else if !ip.udpSumOk || ip.dstPort ≠ s.lk.regs.udpBase then badFrame s
  else if !s.lk.regs.accepts p ip.src then refuseHost s
  else polcorFrame f.payload { path := p, ip := ip.src, mac := f.srcMac, port := ip.srcPort } s

/-- A tag that the port does not take (R286). -/
def PortRegs.badTag (r : PortRegs) (vid : Option Nat) : Bool :=
  match vid with
  | some v => fld r.pcfg 16 12 = 0 || v ≠ fld r.pcfg 16 12
  | none => false

/-- FRAME_RECEIVE (R286, R293): ARP messages and ICMP echo requests have commands of their own. -/
def frameReceive (p : Nat) (f : RxFrame) (s : State) : State :=
  if !(s.port p).up then s else
  let s := wakePort p s
  if !f.fcsOk then badFrame s
  else if f.dstMac ≠ Config.mac p && f.dstMac ≠ 0xFFFFFFFFFFFF then s
  else if (s.lk.regs.port p).badTag f.vid then badFrame s
  else match f.type with
    | .ipv4 ip => ipFrame p f ip s
    | .arp => s
    | .other => s

/-- FRAME_RECEIVE. -/
def execFrameReceive (port : Nat) (f : RxFrame) (s : State) : Host.Outcome State Fault Refusal :=
  act (port < 2) (frameReceive port f) s

/-! ## ARP and ICMP (R285, R288) -/

/-- An ARP message of port `p`: a reply to `mac`, or a request. -/
def arpOut (p : Nat) (mac : Option (BitVec 48)) (target : W32) (s : State) : State :=
  enqueue p 2 (.arp { request := mac.isNone, senderIp := (s.lk.regs.port p).ip, senderMac := Config.mac p, targetIp := target
                      targetMac := mac.getD 0 }) s

/-- ARP_RECEIVE. -/
def arpReceive (p : Nat) (a : ArpMsg) (s : State) : State :=
  if !(s.port p).up then s else
  let s := wakePort p s
  let r := s.lk.regs.port p
  if a.request then (if a.targetIp = r.ip then arpOut p (some a.senderMac) a.senderIp s else s)
  else if r.resolves ∧ a.senderIp = r.dest then updPort p (fun x => { x with arp := some a.senderMac, unres := false }) s
  else s

/-- ARP_RECEIVE. -/
def execArpReceive (port : Nat) (a : ArpMsg) (s : State) : Host.Outcome State Fault Refusal :=
  act (port < 2) (arpReceive port a) s

/-- ICMP_ECHO (R287, R288). -/
def icmpEcho (p : Nat) (e : EchoMsg) (s : State) : State :=
  if !(s.port p).up then s else
  let s := wakePort p s
  let due := match (s.port p).icmpMs with
    | some u => u + 1000000 ≤ s.uptime
    | none => true
  if !s.lk.regs.accepts p e.src then refuseHost s
  else if 1472 < e.data.length || !due then s
  else enqueue p 2 (.echo e) (updPort p (fun x => { x with icmpMs := some s.uptime }) s)

/-- ICMP_ECHO. -/
def execIcmpEcho (port : Nat) (e : EchoMsg) (s : State) : Host.Outcome State Fault Refusal :=
  act (port < 2) (icmpEcho port e) s

/-- A port asks for its destination (R285). -/
def askArp (p : Nat) (s : State) : State :=
  if (s.port p).up && (s.lk.regs.port p).resolves then
    arpOut p none (s.lk.regs.port p).dest (updPort p (fun x => { x with unres := x.arp.isNone }) s)
  else s

/-- ARP_TIMER. -/
def execArpTimer (port : Nat) (s : State) : Host.Outcome State Fault Refusal := act (port < 2) (askArp port) s

/-- ARP_UNRESOLVED (R285, R313). -/
def arpUnresolved (p : Nat) (s : State) : State :=
  raiseIf ((s.port p).up && (s.port p).unres && (s.port p).arp.isNone) 133 s

/-- ARP_UNRESOLVED. -/
def execArpUnresolved (port : Nat) (s : State) : Host.Outcome State Fault Refusal := act (port < 2) (arpUnresolved port) s

/-! ## LINK_CFG takes effect (R310) -/

/-- The active port is the new primary where PRIMARY changed and that port is up (R306). -/
def State.primaryMove (s : State) (new : LinkRegs) : Option Nat :=
  let p := b2n (bit new.cfg 0)
  if bit new.cfg 0 ≠ bit s.lk.regs.cfg 0 ∧ (s.port p).up = true ∧ s.lk.active ≠ some p then some p else none

/-- A gratuitous ARP (R306). -/
def announce (p : Nat) (s : State) : State := arpOut p none (s.lk.regs.port p).ip s

/-- A frame that goes to LK.DEST, not to the source of a command or request (R289). -/
def Out.movable : Out → Bool
  | .polcor f => f.kind ≠ 2
  | _ => false

/-- Port `q` becomes active: it takes over the queued frames of the port that was, and every violation frame of `again`
goes out anew, ahead of the queued ones (R306). -/
def becomeActive (q : Nat) (again : List Frame) (s : State) : State :=
  let old : PathQ := match s.lk.active with
    | some p => s.path p
    | none => freshPath 0
  let s := match s.lk.active with
    | some p => updPath p (fun x => { x with c1 := [], c2 := x.c2.filter (fun o => !o.movable), c3 := [] }) s
    | none => s
  let waiting := s.lk.waiting.map Out.polcor
  let s := updPath q (fun x => { x with
    c1 := x.c1 ++ again.map Out.polcor ++ waiting ++ old.c1, c2 := x.c2 ++ old.c2.filter Out.movable, c3 := x.c3 ++ old.c3 })
    { s with lk := { s.lk with active := some q, waiting := [] } }
  announce q s

/-- Writable bits of LK.CFG, LK.QOS, LK.EVCFG and LK.PCFG. -/
def lkCfgMask : W32 := 0xFFFFFFF9
def lkQosMask : W32 := 0x3F3F0707
def lkEvMask : W32 := 0xFF07
def lkPcfgMask : W32 := 0x0FFF000F

/-- The port settings of a payload, from byte `o`. -/
def portImage (b : List Byte) (o : Nat) : PortRegs :=
  { pcfg := pWord b o &&& lkPcfgMask, ip := pWord b (o + 4), mask := pWord b (o + 8), dest := pWord b (o + 12)
    dmacLo := pWord b (o + 16), dmacHi := pWord b (o + 20) &&& 0xFFFF }

/-- The settings that LINK_CFG asks for. -/
def linkImage (b : List Byte) (r : LinkRegs) : LinkRegs :=
  let sel := pByte b 1
  { cfg := if sel.testBit 0 then pWord b 4 &&& lkCfgMask else r.cfg
    qos := if sel.testBit 1 then pWord b 8 &&& lkQosMask else r.qos
    evcfg := if sel.testBit 2 then pWord b 12 &&& lkEvMask else r.evcfg
    hosts := if sel.testBit 3 then (List.range 4).foldl (fun t h => Tab.put zeroW t h (pWord b (16 + 4 * h))) r.hosts else r.hosts
    ports := [0, 1].foldl (fun t p =>
      if sel.testBit (4 + p) then Tab.put freshPortRegs t p (portImage b (32 + 24 * p)) else t) r.ports }

/-- The settings written by LINK_CFG take effect; a changed destination is resolved anew (R285, R310). -/
def applyLinkCfg (new : LinkRegs) (s : State) : State :=
  let move := s.primaryMove new
  let old := s.lk.regs
  let fresh (p : Nat) (s : State) : State :=
    if (new.port p).dest ≠ (old.port p).dest then updPort p (fun x => { x with arp := none }) s else s
  let s := fresh 1 (fresh 0 { s with lk := { s.lk with regs := new } })
  match move with
  | some p => becomeActive p [] s
  | none => s

/-- The answer to a LINK_CFG has left, or was discarded: what it wrote takes effect (R310). -/
def linkCfgGone (m : Nat) (seq : W16) (s : State) : State :=
  match s.lk.change.find? (fun x => x.1 == m && x.2.1 == seq) with
  | some x => applyLinkCfg (linkImage x.2.2 s.lk.regs) { s with lk := { s.lk with change := s.lk.change.erase x } }
  | none => s

/-- The response of mailbox `m` has left, or was discarded: the mailbox is idle, and its LINK_CFG takes effect (R294,
R310). -/
def responseGone (m : Nat) (s : State) : State :=
  let s := updBox m (fun b => { b with state := .idle }) s
  linkCfgGone m (s.box m).l s

/-- A frame is the answer of a mailbox that still executes its command. -/
def State.answers (s : State) (f : Frame) : Bool :=
  f.own && (s.box f.mb).l == f.seq && (s.box f.mb).state == .executing && (s.box f.mb).answer.isSome

/-- A Polcor frame has left a path. -/
def frameGone (f : Frame) (s : State) : State := if s.answers f then responseGone f.mb s else s

/-! ## Sending (R302) -/

/-- The rate of a path in Mb/s, which is also the class 2 token rate in the unit of `PathQ.tokens` per ns. -/
def State.pathRate (s : State) (p : Nat) : Nat :=
  if p = spiPath then s.lk.regs.spir
  else match fld (s.lk.regs.port p).pcfg 1 2 with
    | 0 => 10000 | 1 => 5000 | _ => 2500

/-- The class 2 tokens of a path now (R302). -/
def State.tokens (s : State) (p : Nat) : Nat :=
  let q := s.path p
  min fullTokens (q.tokens + (s.uptime - q.since) * s.pathRate p)

/-- A frame that leaves on a path is given its event count, where it has none yet (R290). -/
def stampEvent (p : Nat) (f : Frame) (s : State) : Frame × State :=
  if f.counted then (f, s)
  else if p = spiPath then
    ({ f with counted := true, seq := s.lk.evSeqSpi }, { s with lk := { s.lk with evSeqSpi := s.lk.evSeqSpi + 1 } })
  else ({ f with counted := true, seq := s.lk.evSeq }, { s with lk := { s.lk with evSeq := s.lk.evSeq + 1 } })

/-- Loggia counters of a frame sent (R428). -/
def countFrame (p : Nat) (o : Out) (s : State) : State :=
  let s := count (if p = spiPath then 168 else 164 + p) 1 s
  match o with
  | .polcor f => if f.kind = 3 ∧ f.op = 0x0880 then count 170 1 s else if f.kind = 3 ∧ f.op = 0x0990 then count 171 1 s else s
  | _ => s

/-- A violation frame is kept for 200 µs after it is sent (R306). -/
def keepFrame (f : Frame) (s : State) : State :=
  if f.kind = 3 ∧ f.op = 0x0880 then
    { s with lk := { s.lk with kept := s.lk.kept.filter (fun k => decide (s.uptime ≤ k.1 + 200000)) ++ [(s.uptime, f)] } }
  else if f.kind = 3 ∧ f.op = 0x0990 then { s with lk := { s.lk with lastNotify := some s.uptime } }
  else s

/-- Something leaves host port `p`. -/
def leave (p : Nat) (o : Out) (s : State) : State :=
  match o with
  | .polcor f =>
    let r := stampEvent p f s
    let o := Out.polcor r.1
    let w := s.wireOf p o
    frameGone r.1 (keepFrame r.1 (countFrame p o (updPort p (fun x => { x with lpi := false, wire := some w }) r.2)))
  | _ =>
    let w := s.wireOf p o
    countFrame p o (updPort p (fun x => { x with lpi := false, wire := some w }) s)

/-- The next frame of the capture stream, formed as it is sent (R277). -/
def captureFrame (x : Stream) (s : State) : Frame × State :=
  let n := min 174 x.left
  (streamFrame 0x0890 s.lk.capSeq s.deg 2 (s.recordsOut x.part x.pos n),
    count 173 n { s with
      lk := { s.lk with capSeq := s.lk.capSeq + 1 }
      gl := { s.gl with stream := some { x with pos := x.pos + n, left := x.left - n, sent := x.sent + n } } })

/-- Class 4: the capture stream leaves the active port while the records it names are still there. -/
def sendCapture (p : Nat) (s : State) : State :=
  match s.gl.stream with
  | some x =>
    if s.lk.active = some p ∧ x.left ≠ 0 ∧ x.lost = false then
      let r := captureFrame x s
      leave p (.polcor r.1) r.2
    else s
  | none => s

/-- Class 3 of path `p`, and class 4 behind it. -/
def sendLow (p : Nat) (s : State) : State :=
  match (s.path p).c3 with
  | o :: r => leave p o (updPath p (fun q => { q with c3 := r }) s)
  | [] => sendCapture p s

/-- FRAME_TRANSMIT on a host port (R302). -/
def transmit (p : Nat) (s : State) : State :=
  let t := s.tokens p
  let s := updPath p (fun q => { q with tokens := t, since := s.uptime }) s
  let q := s.path p
  match q.c1, q.c2 with
  | o :: r, _ => leave p o (updPath p (fun q => { q with c1 := r }) s)
  | [], o :: r =>
    let cost := o.size p * 80000
    if cost ≤ t then leave p o (updPath p (fun q => { q with c2 := r, tokens := t - cost }) s) else sendLow p s
  | [], [] => sendLow p s

/-- FRAME_TRANSMIT: frames of the SPI queue leave by READ transfers (R307), and a port that is not up sends nothing
(R289). -/
def frameTransmit (p : Nat) (s : State) : State := if p < 2 ∧ (s.port p).up = true then transmit p s else s

/-- FRAME_TRANSMIT. -/
def execFrameTransmit (path : Nat) (s : State) : Host.Outcome State Fault Refusal := act (path < 3) (frameTransmit path) s

/-! ## Notifications (R298) -/

/-- LATCH[g]: the latched sources of group `g` that are not masked. -/
def State.latchWord (s : State) (g : Nat) : Nat :=
  ((List.range 32).map (fun n => if (s.ev.get (32 * g + n)).latched && !s.ev.masked (32 * g + n) then 2 ^ n else 0)).sum

/-- LK.EVCFG.HOLDOFF has passed since the last notification frame. -/
def State.notifyDue (s : State) : Bool :=
  match s.lk.lastNotify with
  | some u => u + fld s.lk.regs.evcfg 8 8 * 100000 ≤ s.uptime
  | none => true

/-- NOTIFICATION_FRAME (R298). -/
def notification (s : State) : State :=
  if !s.lk.notify || !s.notifyDue then s else
  let body := s.nowBytes ++ beBytes 2 s.tb.epoch.toNat ++ [0, 0] ++ (List.range 16).flatMap (fun g => beBytes 4 (s.latchWord g))
  sendEvent 2 (eventFrame 0x0990 s.deg body) { s with lk := { s.lk with notify := false, lastNotify := some s.uptime } }

/-- NOTIFICATION_FRAME. -/
def execNotificationFrame (s : State) : Host.Outcome State Fault Refusal := act true notification s

/-! ## Ports (R305, R306) -/

/-- PHY_LINK_UP, on an enabled port. -/
def phyUp (p : Nat) (s : State) : State := if bit (s.lk.regs.port p).pcfg 0 then updPort p (fun x => { x with phy := true }) s else s

/-- PHY_LINK_UP. -/
def execPhyLinkUp (port : Nat) (s : State) : Host.Outcome State Fault Refusal := act (port < 2) (phyUp port) s

/-- PHY_LINK_DOWN. -/
def execPhyLinkDown (port : Nat) (s : State) : Host.Outcome State Fault Refusal :=
  act (port < 2) (updPort port (fun x => { x with phy := false })) s

/-- PORT_UP (R305, R306): event 129; a port that comes up while none is active becomes active. -/
def portUp (p : Nat) (s : State) : State :=
  if !(s.port p).phy || (s.port p).up then s else
  let s := raise 129 (updPort p (fun x => { x with up := true, lpi := false }) s)
  let s := repair 0x0502 0xFFFF 0 (repair 0x0501 p 9 s)
  askArp p (if s.lk.active.isNone then becomeActive p [] s else s)

/-- PORT_UP. -/
def execPortUp (port : Nat) (s : State) : Host.Outcome State Fault Refusal := act (port < 2) (portUp port) s

/-- The frames of a port that went down and that no other port can send: responses, ARP and ICMP (R289). -/
def dropOwn (p : Nat) (s : State) : State :=
  let gone := (s.path p).c2.filter (fun o => !o.movable)
  let s := updPath p (fun q => { q with c2 := q.c2.filter Out.movable }) s
  gone.foldl (fun s o => match o with
    | .polcor f => frameGone f s
    | _ => s) s

/-- The violation frames sent in the last 200 µs, oldest first (R306). -/
def State.resend (s : State) : List Frame := (s.lk.kept.filter (fun k => decide (s.uptime ≤ k.1 + 200000))).map Prod.snd

/-- The Polcor frames among queued things. -/
def polcors (os : List Out) : List Frame := os.filterMap (fun o => match o with
  | .polcor f => some f
  | _ => none)

/-- No port is up: violation frames wait, class 2 and return frames are discarded (R302, R306). -/
def noPort (p : Nat) (s : State) : State :=
  let q := s.path p
  let w := s.lk.waiting ++ s.resend ++ polcors q.c1
  let s := updPath p (fun q => { q with c1 := [], c2 := [], c3 := [] })
    { s with lk := { s.lk with active := none, kept := [], waiting := w.drop (w.length - 16) } }
  detect 0x0502 0xFFFF 0 true (raise 131 (dropOut (q.c2.length + q.c3.length) s))

/-- Port `p` goes down (R305, R306): the other port, where it is up, takes over. -/
def goDown (p : Nat) (s : State) : State :=
  let s := raise 128 (updPort p (fun x => { x with up := false }) s)
  let s := detect 0x0501 p 9 true (dropOwn p s)
  if s.lk.active ≠ some p then s
  else if (s.port (1 - p)).up then
    raise 130 (becomeActive (1 - p) s.resend { s with lk := { s.lk with failCnt := s.lk.failCnt + 1 } })
  else noPort p s

/-- PORT_DOWN. -/
def portDown (p : Nat) (s : State) : State := if (s.port p).up && !(s.port p).phy then goDown p s else s

/-- PORT_DOWN. -/
def execPortDown (port : Nat) (s : State) : Host.Outcome State Fault Refusal := act (port < 2) (portDown port) s

/-- KEEPALIVE_EXPIRY (R305). -/
def keepaliveExpiry (p : Nat) (s : State) : State := if (s.port p).up && s.lk.regs.kal ≠ 0 then goDown p s else s

/-- KEEPALIVE_EXPIRY. -/
def execKeepaliveExpiry (port : Nat) (s : State) : Host.Outcome State Fault Refusal := act (port < 2) (keepaliveExpiry port) s

/-! ## LINK_CFG (R310, R322) -/

/-- A change of RATE, ROLE or EN of a port, or of UDPBASE. -/
def LinkRegs.deepChange (r n : LinkRegs) : Bool :=
  r.udpBase ≠ n.udpBase || [0, 1].any (fun p => ((r.port p).pcfg ^^^ (n.port p).pcfg) &&& 0xF ≠ 0)

/-- The value checks of R310, in its order, over what the command selects. -/
def linkBad (b : List Byte) (n : LinkRegs) : Option Nat :=
  let sel := pByte b 1
  let ports := [0, 1].filter (fun p => sel.testBit (4 + p))
  if sel % 64 = 0 then some 1
  else if !bit (n.port 0).pcfg 0 && !bit (n.port 1).pcfg 0 then some (32 + 24 * (ports.getLastD 0) + 3)
  else match ports.find? (fun p => !(n.port p).local (n.port p).dest) with
    | some p => some (32 + 24 * p + 12)
    | none =>
      if sel.testBit 2 ∧ fld n.evcfg 8 8 = 0 then some 14
      else if sel.testBit 0 ∧ (n.spir = 0 ∨ 50 < n.spir) then some 6
      else if sel.testBit 0 ∧ n.route = 3 then some 7
      else (ports.find? (fun p => fld (n.port p).pcfg 1 2 = 3)).map (fun p => 32 + 24 * p + 3)

/-- A change of ROUTE, RATE, EN or SPIR is judged by admission. -/
def LinkRegs.rejudged (r n : LinkRegs) : Bool :=
  r.route ≠ n.route || r.spir ≠ n.spir || [0, 1].any (fun p => ((r.port p).pcfg ^^^ (n.port p).pcfg) &&& 0x7 ≠ 0)

/-- The persistent words of the selected groups (R322). -/
def linkWords (b : List Byte) (n : LinkRegs) : List (Nat × W32) :=
  let sel := pByte b 1
  let port (p : Nat) : List (Nat × W32) :=
    let r := n.port p
    let o := 0x01000320 + 0x20 * p
    [(o, r.pcfg), (o + 4, r.ip), (o + 8, r.mask), (o + 12, r.dest), (o + 16, r.dmacLo), (o + 20, r.dmacHi)]
  (if sel.testBit 0 then [(0x01000300, n.cfg)] else []) ++
  (if sel.testBit 3 then (List.range 4).map (fun h => (0x01000310 + 4 * h, n.host h)) else []) ++
  (if sel.testBit 4 then port 0 else []) ++ (if sel.testBit 5 then port 1 else [])

/-- The settings that LINK_CFG commands still waiting for their answers to leave will have made. -/
def State.linkAhead (s : State) : LinkRegs := s.lk.change.foldl (fun r x => linkImage x.2.2 r) s.lk.regs

/-- LINK_CFG, judged on the settings that those before it leave. -/
def linkCfgOwn (tk : Ticket) (b : List Byte) (s : State) : Reply :=
  let r := s.linkAhead
  let n := linkImage b r
  if r.deepChange n && !restMode s then reply s (.plain .mode)
  else match linkBad b n with
    | some o => reply s (.badarg o)
    | none =>
      if r.rejudged n && (rejudge s { s.adm with regs := n } true).isSome then reply s (.notAdmitted 6)
      else
        let w := commits (if (pByte b 0).testBit 0 then linkWords b n else []) s
        if !w.2.1 then reply w.2.2 { status := .worn, arg := 0, data := beBytes 2 w.1 ++ [0, 0] }
        else reply { w.2.2 with lk := { w.2.2.lk with change := w.2.2.lk.change ++ [(tk.mb, tk.seq, b)] } } (.plain .ok)

/-- LINK_CFG: a response that leaves at once lets it take effect at once (R310). -/
def linkCfg (m : Nat) (s : State) : State :=
  let s := lodge m 0x0003 anyRow (fun p => p.length == 84) anyMode linkCfgOwn s
  if (s.box m).state = .idle ∧ (s.box m).src.path ≠ spiPath then linkCfgGone m (s.box m).l s else s

/-- LINK_CFG. -/
def execLinkCfg (m : Nat) (s : State) : Host.Outcome State Fault Refusal := act (m < 32) (linkCfg m) s

end Sys2Proof.Machine
end

