-- ==== Sys2Proof/Machine/Spi.lean ====
section
/-!
DEFINITION. Spi.lean: ALERT_N (R309), and transfers on the SPI management port (R307, R308).
-/
namespace Sys2Proof.Machine

/-- An unmasked event source is latched (R309). -/
def State.evtPending (s : State) : Bool := s.ev.src.any (fun (e : Nat × Source) => e.2.latched && !s.ev.masked e.1)

/-- A frame waits in the SPI queue: LK.STATUS.SPIPEND. -/
def State.spiPend (s : State) : Bool := s.spiBytes ≠ 0

/-- ALERT_N is driven low (R309): never before start-up has ended. -/
def State.alert (s : State) : Bool :=
  !s.th.startup && ((bit s.lk.regs.evcfg 0 && s.evtPending) || (bit s.lk.regs.evcfg 1 && s.spiPend) ||
    (bit s.lk.regs.evcfg 2 && !s.anyUp))

/-- The status byte of a transfer (R307). -/
def State.spiByte (s : State) : Byte := BitVec.ofNat 8 (b2n s.spiPend + 2 * b2n s.alert + 4 * b2n s.lk.spiBad)

/-- Queue of class `c` of a path. -/
def PathQ.cls (q : PathQ) : Nat → List Out
  | 1 => q.c1
  | 2 => q.c2
  | _ => q.c3

/-- The queue of class `c` without its head. -/
def PathQ.pop (c : Nat) (q : PathQ) : PathQ :=
  match c with
  | 1 => { q with c1 := q.c1.tail }
  | 2 => { q with c2 := q.c2.tail }
  | _ => { q with c3 := q.c3.tail }

/-- The class whose head is the head of the SPI queue: that of a frame read in part; else class 1, class 2 within its
tokens, class 3, and class 2 where nothing else waits (R302, R307, R308). -/
def State.spiClass (s : State) : Option Nat :=
  let q := s.path spiPath
  let within : Bool := match q.c2 with
    | o :: _ => decide (o.size spiPath * 80000 ≤ s.tokens spiPath)
    | [] => false
  let next : Option Nat :=
    if !q.c1.isEmpty then some 1 else if within then some 2 else if !q.c3.isEmpty then some 3
    else if !q.c2.isEmpty then some 2 else none
  match s.lk.spiPart with
  | some c => if (q.cls c).isEmpty then next else some c
  | none => next

/-- The head frame of the SPI queue, with its class, and the state once it has left. -/
def State.spiHead (s : State) : Option (Nat × Frame × State) :=
  match s.spiClass with
  | some c =>
    match ((s.path spiPath).cls c).head? with
    | some (.polcor f) => let r := stampEvent spiPath f s; some (c, r.1, r.2)
    | _ => none
  | none => none

/-- Bytes of the head frame. -/
def State.headBytes (s : State) : List Byte :=
  match s.spiHead with
  | some (_, f, _) => f.bytes spiPath
  | none => []

/-- SPI_MISO sent `bs` after the status byte. -/
def misoOut (st : Byte) (bs : List Byte) (s : State) : State := { s with lk := { s.lk with spiOut := st :: bs } }

/-- SPI_WRITE (R307): checked under R293 when SPI_CS_N rises; no host filter applies. -/
def spiWrite (b : List Byte) (s : State) : State :=
  let ok := frameShape spiPath b && frameCrc b && frameCommand b
  let s := misoOut s.spiByte (List.replicate b.length 0) s
  polcorFrame b { noPeer with path := spiPath } { s with lk := { s.lk with spiBad := !ok } }

/-- SPI_WRITE. -/
def execSpiWrite (bytes : List Byte) (s : State) : Host.Outcome State Fault Refusal := act true (spiWrite bytes) s

/-- A LINK_CFG whose answer a READ has removed takes effect (R310). -/
def spiGone (f : Frame) (s : State) : State := if f.own then linkCfgGone f.mb f.seq s else s

/-- The head frame of class `c` has been read whole. -/
def spiRemove (c : Nat) (f : Frame) (s : State) : State :=
  let t := s.tokens spiPath
  let cost := if c = 2 then f.bytes spiPath |>.length else 0
  let s := updPath spiPath (fun q => { q.pop c with tokens := t - cost * 80000, since := s.uptime })
    { s with lk := { s.lk with spiPart := none } }
  spiGone f (countFrame spiPath (.polcor f) s)

/-- SPI_READ with `clocked` bytes after the instruction (R307): a turnaround byte, two of length, the head frame, then zeros.
The head frame is removed when all its bytes were clocked, and else stays at the head. -/
def spiRead (clocked : Nat) (s : State) : State :=
  let bs := s.headBytes
  let out := (padTo clocked ((0 : Byte) :: beBytes 2 bs.length ++ bs)).take clocked
  match s.spiHead with
  | some (c, f, t) =>
    if bs.length + 3 ≤ clocked then spiRemove c f (misoOut s.spiByte out t)
    else misoOut s.spiByte out { s with lk := { s.lk with spiPart := if clocked ≤ 3 then s.lk.spiPart else some c } }
  | none => misoOut s.spiByte out s

/-- SPI_READ. -/
def execSpiRead (clocked : Nat) (s : State) : Host.Outcome State Fault Refusal := act true (spiRead clocked) s

/-- Frames waiting in the SPI queue. -/
def State.spiFrames (s : State) : Nat :=
  let q := s.path spiPath
  q.c1.length + q.c2.length + q.c3.length

/-- SPI_STATUS (R307). -/
def spiStatus (s : State) : State :=
  misoOut s.spiByte (beBytes 2 (min 0xFFFF s.spiFrames) ++ beBytes 2 s.headBytes.length) s

/-- SPI_STATUS. -/
def execSpiStatus (s : State) : Host.Outcome State Fault Refusal := act true spiStatus s

/-- SPI_OTHER with `clocked` bytes after the instruction (R307): ignored; zeros follow the status byte. -/
def spiOther (instr : Byte) (clocked : Nat) (s : State) : State :=
  if instr = 2 ∨ instr = 3 ∨ instr = 5 then s else misoOut s.spiByte (List.replicate clocked 0) s

/-- SPI_OTHER. -/
def execSpiOther (instr : Byte) (clocked : Nat) (s : State) : Host.Outcome State Fault Refusal :=
  act true (spiOther instr clocked) s

end Sys2Proof.Machine
end

