-- ==== Sys2Proof/WellFormed.lean ====
section
/-!
DEFINITION. WellFormed.lean: which commands name only units that the part has: 524 channels, 512 of them receivers, 592
cores of eight converters, 33 flights, 272 lines, 8 drivers, 32 mailboxes, 32 measurement slots, 8,192 ledger slots, two
host ports (chapters 1 to 11). Every meaning refuses any other with the fault `noSuchUnit`.
-/
namespace Sys2Proof

/-- The operands of a self-test name cores, and flights or 0xFFFF (R423). -/
def SelfTest.wellFormed (t : SelfTest) : Bool :=
  t.badCores.all (fun x => x < 592) && t.badUnits.all (fun u => u < 33 || u == 0xFFFF)

/-- The command names units that the part has. -/
def Instr.wellFormed : Instr → Bool
  | .powerUp _ test _ | .modeSetComplete test => test.wellFormed
  | .pwrgoodFall _ | .rstNAssert _ | .memoryTrainingEnd _ | .startUpEnd | .refinAbsence | .frequencyGate _ _ _
  | .phaseLoss | .qualificationEnd | .acquireComplete | .spanStart | .xtalUpdate | .holdLimit | .learnUpdate
  | .coarseWrap | .ppsEdge _ | .ppsMissing | .timeMarker | .epochSetApply | .epochSetTimeout
  | .entryAllocate | .effectivePowerStep | .selectWord | .shotPosition | .dwellJoin
  | .dwellDecision | .linkCycle | .statusWord _ _ | .statusWordDeadline | .eyeBudgetInterval | .testPass
  | .trginTrigger _ _ | .triggerDelivery | .trgoutEnd | .beacon | .unitSlot | .beaconReceive _ | .trigWordReceive _
  | .roundWordReceive _ | .markWordReceive _ | .beaconLoss | .roundStart | .roundUpdate | .envsumDone
  | .galleryRecordWrite | .evtRecordSlot | .epochHoldRelease | .captureReady | .captureDone | .mr4Read _ | .refresh
  | .capReadStreamEnd | .notificationFrame | .spiWrite _ | .spiRead _ | .spiStatus | .spiOther _ _ | .lodgeRestartEnd
  | .scrubRead _ | .correctionRewrite | .limpEntry | .limpReturn | .limpPendClear | .throttleEvaluation
  | .faultLogEntry | .traceRecordSend | .traceTimeRecord | .traceCounterBurst | .jtagIdcode _ | .jtagSample _ _
  | .jtagBypass _ _ | .admissionComplete | .histSnapArmTimeout | .envLoadComplete | .clnMeasureTimeout | .tbNowLoRead
  | .shShotnumLoRead | .glWcountLoRead | .avLcntRead | .rcRead _ | .caSelWrite _ | .shLselWrite _ | .evTest _
  | .avTrdump _ | .clnWordDiscard _ _ | .zqCalibration => true
  | .replicaCompare upsets => upsets.all (fun u => u.1 < 33)
  | .edgeArrival n _ _ _ code => n < 526 && code < 168
  | .calibrationPeriodEnd trims => trims.all (fun t => t.1 < 4736)
  | .conversionDone core conv => core < 592 && conv < 8
  | .armedHandover core => core < 592
  | .calibrationEdge core code => core < 592 && code < 168
  | .stampPush ch | .closeWordRetry ch | .queuePop ch | .coreSwitch ch | .flEcntLoRead ch => ch < 524
  | .closeWordPresent tag | .voidDecision tag => tag < 8192
  | .tableSwitch flight | .flrst flight | .flrstEnd flight => flight < 33
  | .calFillEnd r => r.skews.all (fun k => k.1 < 592)
  | .stampAssignment ch | .dwellEndToken ch | .incrementIssue ch | .bufferSwap ch | .readoutPassEnd ch
  | .extractionPhase1 ch | .extractionPhase2 ch => ch < 512
  | .laneLate flight | .clusterClose flight _ | .acquisitionIntervalEnd flight => flight < 32
  | .trackerMiss flight tracker => flight < 32 && tracker < 2
  | .gateBoundary slot | .gateResult slot | .intervalJudge slot | .slotRunStart slot | .msSgatecntRead slot => slot < 32
  | .syncPulse n | .cameraLoopUpdate n => n < 4
  | .diagDue pline | .voidRun pline => pline < 272
  | .fbPathCheck drv | .testPassReport drv => drv < 8
  | .memoryCheck c _ => c < 8
  | .frameReceive port _ | .arpReceive port _ | .icmpEcho port _ | .arpTimer port | .arpUnresolved port
  | .phyLinkUp port | .portUp port | .phyLinkDown port | .portDown port | .keepaliveExpiry port => port < 2
  | .frameTransmit path => path < 3
  | .lockstepMismatch cut _ _ => cut.all (fun m => m < 32)
  | .sensorConversion k _ => k < 16
  | .ident m | .ping m | .linkCfg m | .modeSet m | .regRd m _ | .regWr m | .pregWr m | .pregWear m | .tbCfg m
  | .epochSet m | .calRun m | .skewSet m | .schedLoad m | .schedLoadCommit m | .schedStart m | .schedStop m
  | .emitLimit m | .lineMap m | .clearfail m | .histCfg m | .rejectCfg m | .histSnapArm m | .histSnapRead m
  | .histSnapInfo m | .measCfg m | .measCfgSync m | .measRead m | .envLoad m | .trigCfg m | .trigCfgFire m | .arm m
  | .disarm m | .markSet m | .capReadInfo m | .capReadRead m | .capReadStream m | .capReadRelease m | .clnCfg m
  | .clnCfgMeasure m | .clnCfgMark m | .evtMask m | .evtRead m | .evtClear m | .thermCfgLimits m
  | .thermCfgSensor m | .spareMapSwap m | .spareMapHome m | .spareMapRetire m | .memret m | .memclr m | .faultLog m _ => m < 32
  | .heardExpiry u => u < 8

end Sys2Proof
end

