-- ==== Sys2Proof/Machine/Modes.lean ====
section
/-!
DEFINITION. Modes.lean: MODE_SET and the change of modes (R323, R324, R385 to R387), LIMP (R388 to R393), the end of
start-up and self-tests (R394, R396), temperature sensors and the throttle (R398 to R402).
-/
namespace Sys2Proof.Machine

/-! ## Self-tests -/

/-- What a self-test found (R396, R408): event 4, faults 0x0102 and 0x0901; a unit that passes is repaired. Cores that fail
together take their spares in ascending core order (R413). -/
def selfTest (t : SelfTest) (s : State) : State :=
  let s := raiseIf (!(t.badCores.isEmpty && t.badUnits.isEmpty)) 4 s
  let good := (s.av.outst.filter (fun f => f.code = 0x0901 && !t.badUnits.contains f.unit)).map FaultId.unit
  let s := good.foldl (fun s u => repair 0x0901 u 0 s) s
  let s := t.badUnits.foldl (fun s u => detect 0x0901 u 0 true s) s
  ((List.range 592).filter t.badCores.contains).foldl (fun s x => coreFault 0x0102 x s) s

/-! ## Commanded changes -/

/-- The transitions of R386; entry to LIMP is never commanded. -/
def allowed (a t : Mode) : Bool :=
  match a with
  | .dormant => t == .dormant || t == .survey
  | _ => t != .limp

/-- SWEEP or WATCH. -/
def Mode.rangingTarget (t : Mode) : Bool := t == .sweep || t == .watch

/-- Completion data of MODE_SET (R324). -/
def modeData (m : Mode) : List Byte := [BitVec.ofNat 8 m.code, 0, 0, 0]

/-- HOLD and FREEZE clear on every mode change (R69, R94). -/
def clearHolds (s : State) : State :=
  let drop (_ : Nat) (c : Chan) : Chan := if c.hold then c.setCfg s.cycle (setBit c.cfg 7 false) else c
  { s with
    fl := { s.fl with chans := Tab.remap freshChan drop s.fl.chans }
    ca := { s.ca with freeze := false } }

/-- The ranging units stop (R113, R178, R198, R334). -/
def stopRanging (s : State) : State :=
  let s := raiseIf s.sh.run.isSome 28 (stopSchedule s)
  lockersOff (snapDrop .mode (dropTrigStart .mode s))

/-- The units that do not run in the target `t` stop (R387 step 2). -/
def stopUnits (t : Mode) (s : State) : State :=
  let s := if s.ranges && !t.rangingTarget then stopRanging s else s
  let s := if s.watching && t != .watch then endWriting s else s
  let s := if t == .dormant || t == .survey then slotsStop s else s
  let s := if s.th.mode == .survey then endTests (cancelFill s) else s
  dropEpoch .mode (clearHolds s)

/-- Steps 1 and 2 of R387, and step 3 where the units of SURVEY start and no dwell is left to complete. -/
def beginChange (tk : Ticket) (t : Mode) (s : State) : State :=
  let s := stopUnits t s
  let s := { s with th := { s.th with pend := some t, pendTk := some tk } }
  if t == .survey && s.sh.dwells.isEmpty then surveyStart s else s

/-- The source of F32 channels 10 and 11 in mode `m` (R44). -/
def cnlSource (sel : Nat) (m : Mode) : Bool := sel == 1 || (sel == 2 && m == .survey)

/-- A mode change brings a written FL.F32SEL.CLNLOOP into effect (R44). -/
def takeSource (m : Mode) (s : State) : State := { s with fl := { s.fl with clnLoop := cnlSource s.fl.f32sel m } }

/-- The part leaves LIMP into `m` (R390, R391): events 3 and 1. -/
def leaveLimp (m : Mode) (s : State) : State :=
  takeSource m (raises [3, 1] { s with th := { s.th with mode := m, origin := none, limpDue := false } })

/-- A MODE_SET in LIMP that names a ranging mode (R391, R392). -/
def limpMove (t : Mode) (s : State) : State :=
  let o := s.th.origin
  let s := if o = some .watch ∧ t = .sweep then endWriting s else s
  let stay := s.limpCond || s.quiet < 1000
  let s := { s with th := { s.th with origin := some t } }
  let s := if o = some t then s else if t = .watch then autoArm (clearMap s) else s
  let s := if stay then s else leaveLimp t s
  if o = some t then s else autostart s

/-- MODE_SET (R323, R386, R391, R395). -/
def modeSetOwn (tk : Ticket) (p : List Byte) (s : State) : Reply :=
  if s.th.startup then reply s (.plain .busy) else
  match Mode.ofCode (pByte p 0) with
  | none => reply s (.badarg 0)
  | some t =>
    if t = .limp then reply s (.badarg 0)
    else if !allowed s.th.mode t then reply s (.plain .mode)
    else if s.th.pend.isSome then reply s (.plain .busy)
    else if t = s.th.mode then { s := s, ans := some (.plain .ok), done := some (.okWith (modeData t)) }
    else if s.th.mode = .limp ∧ t.rangingTarget = true then
      let s := limpMove t s
      { s := s, ans := some (.plain .ok), done := some (.okWith (modeData s.th.mode)) }
    else reply (beginChange tk t s) (.plain .ok)

/-- MODE_SET. -/
def execModeSet (m : Nat) (s : State) : Host.Outcome State Fault Refusal :=
  act (m < 32) (lodge m 0x0101 anyRow (fun p => p.length == 4) anyMode modeSetOwn) s

/-- The shots already fired are completed, and a fill that the target waits for has ended (R387). -/
def State.drained (s : State) (t : Mode) : Bool :=
  if t.rangingTarget then true
  else s.sh.dwells.isEmpty && !s.passesLeft && s.sh.run.isNone && !(t == .survey && s.ca.fill)

/-- SYNC outputs driven low with their pulses to come dropped (R385). -/
def syncsLow (s : State) : State :=
  { s with ms := { s.ms with syncs := Tab.remap freshSync (fun _ y => { y with high := none }) s.ms.syncs } }

/-- What stops or starts with the entry to a mode of rest (R385, R387); a calibration period that DORMANT cuts short is not judged
(R79). -/
def enterRest (old t : Mode) (s : State) : State :=
  let s := streamStop s
  let s := if old == .sweep || old == .watch || old == .limp then lockersOff s else s
  match t with
  | .dormant =>
    let lpi (_ : Nat) (p : Port) : Port := { p with lpi := p.up }
    let s := syncsLow { s with
      gl := { s.gl with selfRefresh := true }
      em := { s.em with fire := [] }
      ca := { s.ca with whole := false }
      cl := { s.cl with rnd := none } }
    { s with lk := { s.lk with ports := Tab.rebuild freshPort 2 lpi s.lk.ports } }
  | .survey => syncsLow s
  | _ => { s with em := { s.em with fire := [] } }

/-- What starts with the entry to a ranging mode (R186, R231, R267). -/
def enterRanging (old t : Mode) (s : State) : State :=
  let s := if old == .sweep || old == .watch then s else streamStart (dropOpened s)
  if t == .watch && old != .watch then autoArm (clearMap s) else s

/-- The low-power states of DORMANT end. -/
def wake (s : State) : State :=
  let up (_ : Nat) (p : Port) : Port := { p with lpi := false }
  { s with
    gl := { s.gl with selfRefresh := false }
    lk := { s.lk with ports := Tab.rebuild freshPort 2 up s.lk.ports } }

/-- The mode registers on arrival at the target `t` of a MODE_SET (R324, R389, R391, R393), and the events of it. -/
def arrive (t : Mode) (s : State) : State :=
  let old := s.th.mode
  let held := s.limpCond || s.th.limpDue
  let limp := t.rangingTarget && (held || s.th.limpPend)
  let quietLeft := old == .limp && decide (s.quiet < 1000)
  let s := { s with th := { s.th with
    mode := if limp then .limp else t, origin := if limp then some t else none, pend := none, pendTk := none
    limpPend := !t.rangingTarget && (s.th.limpPend || held || quietLeft), limpDue := false } }
  raises ([1] ++ (if limp then [2] else []) ++ (if old == .limp then [3] else [])) s

/-- The end of step 3 and step 4 of R387. What a command has started in the mode being left since step 2 stops as well; the
self-test of an entry to SURVEY comes before the arrival. -/
def finishChange (tk : Ticket) (t : Mode) (test : SelfTest) (s : State) : State :=
  let old := s.th.mode
  let s := stopUnits t s
  let s := arrive t (if t == .survey then selfTest test s else s)
  let s := if old == .dormant then wake s else s
  let s := takeSource s.th.mode s
  let s := if (old == .dormant || old == .survey) && t != .dormant && t != .survey then slotsEnter s else s
  let s := if t.rangingTarget then enterRanging old t s else enterRest old t s
  let s := complete tk (.okWith (modeData s.th.mode)) s
  if t.rangingTarget then autostart s else s

/-- MODE_SET_COMPLETE (R387). -/
def modeSetComplete (test : SelfTest) (s : State) : State :=
  match s.th.pend, s.th.pendTk with
  | some t, some tk => if s.drained t then finishChange tk t test s else s
  | _, _ => s

/-- MODE_SET_COMPLETE. -/
def execModeSetComplete (test : SelfTest) (s : State) : Host.Outcome State Fault Refusal :=
  act test.wellFormed (modeSetComplete test) s

/-! ## LIMP -/

/-- A mode change of the part's own waits while the Lodge is executing a command (R316). -/
def ownChange (f : State → State) (s : State) : State :=
  if s.midCommand then { s with th := { s.th with limpLater := true } } else f s

/-- LIMP entry (R389): in SWEEP or WATCH the part enters LIMP; in DORMANT, SURVEY or TALLY TH.LIMP.PEND sets while a condition
holds. A pending MODE_SET decides instead, and one into DORMANT, SURVEY or TALLY sets PEND as it completes (R393). -/
def enterLimp (s : State) : State :=
  match s.th.mode with
  | .sweep | .watch =>
    if s.th.limpDue ∧ s.th.pend.isNone = true then
      takeSource .limp (raises [2, 1] { s with th := { s.th with mode := .limp, origin := some s.th.mode, limpDue := false } })
    else s
  | .limp => s
  | _ =>
    if s.limpCond && s.th.pend.all Mode.rangingTarget then { s with th := { s.th with limpPend := true } } else s

/-- LIMP_ENTRY (R316, R389). -/
def limpEntry (s : State) : State := ownChange enterLimp s

/-- LIMP_ENTRY. -/
def execLimpEntry (s : State) : Host.Outcome State Fault Refusal := act true limpEntry s

/-- LIMP return (R390, R393). -/
def backFromLimp (s : State) : State :=
  match s.th.mode, s.th.origin with
  | .limp, some o => if s.quiet = 1000 ∧ s.th.pend.isNone = true then leaveLimp o s else s
  | _, _ => s

/-- LIMP_RETURN (R316, R390). -/
def limpReturn (s : State) : State := ownChange backFromLimp s

/-- A change that has waited for a command takes effect once it has ended (R316). -/
def lateChange (s : State) : State :=
  if s.th.limpLater && !s.midCommand then
    backFromLimp (enterLimp { s with th := { s.th with limpLater := false } })
  else s

/-- LIMP_RETURN. -/
def execLimpReturn (s : State) : Host.Outcome State Fault Refusal := act true limpReturn s

/-- LIMP_PEND_CLEAR (R389). -/
def limpPendClear (s : State) : State :=
  if s.th.mode ≠ .limp ∧ s.th.limpPend = true ∧ s.quiet = 1000 then { s with th := { s.th with limpPend := false } } else s

/-- LIMP_PEND_CLEAR. -/
def execLimpPendClear (s : State) : Host.Outcome State Fault Refusal := act true limpPendClear s

/-! ## Temperature sensors -/

/-- An ordered list with `x` in its place. -/
def insertInt (x : Int) : List Int → List Int
  | [] => [x]
  | y :: ys => if x ≤ y then x :: y :: ys else y :: insertInt x ys

/-- The median, of an even number the mean of the middle two rounded down (R399). -/
def median (l : List Int) : Option Int :=
  let l := l.foldr insertInt []
  let n := l.length
  if n = 0 then none
  else if n % 2 = 1 then some (l.getD (n / 2) 0)
  else some ((l.getD (n / 2 - 1) 0 + l.getD (n / 2) 0) / 2)

/-- The median of the readings of the other on-die sensors that are not judged failed (R399). -/
def State.othersMedian (s : State) (k : Nat) : Option Int :=
  median (((List.range 8).filter (fun j => j ≠ k && !(s.sens j).fail && !(s.sens j).last.isEmpty)).map (fun j => (s.sens j).reading))

/-- A conversion of sensor `k` that is valid (R399), in 0.125 °C. -/
def State.validConv (s : State) (k : Nat) : Conversion → Option Int
  | .none => none
  | .value t =>
    if t < -480 ∨ 1440 < t then none
    else if k < 8 then
      match s.othersMedian k with
      | some m => if 200 < (t - m).natAbs then none else some t
      | none => some t
    else some t

/-- P.TH_SENS[s].OFFSET as loaded. -/
def Sensor.offset (x : Sensor) : Int := signed 8 (fld x.boot 8 8)

/-- A reading: the mean of the last valid conversions, plus OFFSET (R398). -/
def meanReading (l : List Int) (offset : Int) : Int :=
  let sum := l.sum
  let n := l.length
  (if n = 0 then 0 else sum / Int.ofNat n + (if sum % Int.ofNat n ≠ 0 ∧ Config.meanUp sum n then 1 else 0)) + offset

/-- A step change of the throttle (R400, R401): events, counters, and the instant of the change. -/
def setStep (n : Nat) (s : State) : State :=
  let o := s.th.step
  if n = o then s else
  let up := o < n
  let s := { s with th := { s.th with
    step := n, stepAt := some s.uptime, up := if up then s.th.up + 1 else s.th.up
    down := if up then s.th.down else s.th.down + 1 } }
  settle (raises ([if up then 160 else 161] ++ (if n = 7 then [164] else [])) s)

/-- Sensor `k` has failed (R20, R399): what the failure of the sensor that CSENS names brings is done by the next evaluation
(R401). -/
def sensorFails (k : Nat) (s : State) : State :=
  let lead := s.th.csens = k
  let s := updSens k (fun x => { x with fail := true, good := 0 }) s
  let s := if lead then { s with th := { s.th with leads := s.th.leads ++ [k] } } else raise 162 s
  let s := if s.tb.xsens = k then raise 15 { s with tb := { s.tb with xsensOk := false } } else s
  detect 0x0801 k (if lead then 12 else 0) true s

/-- The bias that the failure of sensor `k` set ends (R401). -/
def unbias (k : Nat) (s : State) : State := { s with th := { s.th with bias := s.th.bias.filter (fun j => j ≠ k) } }

/-- Sensor `k` recovers (R20, R399, R401). -/
def sensorRecovers (k : Nat) (s : State) : State :=
  let act := if s.th.bias.contains k then 12 else 0
  let s := raise 163 (unbias k (updSens k (fun x => { x with fail := false, bad := 0 }) s))
  let s := if s.tb.xsens = k then { s with tb := { s.tb with xsensOk := true } } else s
  repair 0x0801 k act s

/-- A valid conversion (R398, R399). -/
def goodConversion (k : Nat) (t : Int) (s : State) : State :=
  let x := s.sens k
  let last := (t :: x.last).take 10
  let r := meanReading last x.offset
  let hot := decide (1000 < r)
  let hotNow := if hot then true else if r < 968 then false else x.overFlag
  let s := updSens k (fun x => { x with
    last := last, reading := r, bad := 0, good := if x.fail then x.good + 1 else 0, overFlag := hotNow }) s
  let s := raiseIf (hot && !x.overFlag) 165 (count (224 + k) 1 s)
  if x.fail ∧ x.good + 1 = 1000 then sensorRecovers k s else s

/-- An invalid conversion (R399). -/
def badConversion (k : Nat) (s : State) : State :=
  let x := s.sens k
  if x.fail then updSens k (fun x => { x with good := 0 }) s
  else
    let s := updSens k (fun x => { x with bad := x.bad + 1 }) s
    if x.bad + 1 = 10 then sensorFails k s else s

/-- SENSOR_CONVERSION (R398, R399). -/
def sensorConversion (k : Nat) (c : Conversion) (s : State) : State :=
  if !s.fitted k then s else
  match s.validConv k c with
  | some t => goodConversion k t s
  | none => badConversion k s

/-- SENSOR_CONVERSION. -/
def execSensorConversion (k : Nat) (c : Conversion) (s : State) : Host.Outcome State Fault Refusal :=
  act (k < 16) (sensorConversion k c) s

/-! ## The throttle -/

/-- TH.LIM after reset (R402). -/
def freshLim (k : Nat) : W16 := (limReset k).truncate 16

/-- TH_k, in 0.125 °C. -/
def State.limOf (s : State) (k : Nat) : Int := (Tab.get freshLim s.th.lim k).toInt

/-- Sensor `k` is a member of the control set (R400). -/
def State.controls (s : State) (k : Nat) : Bool :=
  s.fitted k && bit (s.sens k).boot 30 && !(s.sens k).fail && !(s.sens k).excl

/-- The control set. -/
def State.controlSet (s : State) : List Nat := (List.range 16).filter s.controls

/-- The sensor of the greatest reading, the lowest-numbered of equals. -/
def State.hottest (s : State) : List Nat → Option Nat
  | [] => none
  | k :: ks =>
    match s.hottest ks with
    | none => some k
    | some j => if (s.sens j).reading ≤ (s.sens k).reading then some k else some j

/-- The greatest step whose limit θc has reached, or 0 (R400). -/
def State.reached (s : State) (theta : Int) : Nat :=
  (List.range 7).foldl (fun r j => if s.limOf (j + 1) ≤ theta then j + 1 else r) 0

/-- 250 ms have passed since the last step change (R400). -/
def State.stepFree (s : State) : Bool :=
  match s.th.stepAt with
  | none => true
  | some u => decide (u + 250000000 ≤ s.uptime)

/-- The new step of an evaluation (R400). -/
def State.newStep (s : State) (empty : Bool) (theta : Int) : Nat :=
  let n := s.th.step
  if !s.th.evaluated then if empty then 7 else s.reached theta
  else if !s.stepFree then n
  else if n < 7 ∧ (empty = true ∨ s.limOf (n + 1) ≤ theta) then n + 1
  else if 0 < n ∧ empty = false ∧ theta < s.limOf n - 32 then n - 1
  else n

/-- The evaluation judges the sensor `k` failed that CSENS named (R401): event 162, BIAS unless it has been excluded since, and
the one step up that 250 ms do not delay. -/
def judgeLead (k : Nat) (s : State) : State :=
  let s := raise 162 s
  if (s.sens k).excl then s else
  let s := { s with th := { s.th with bias := k :: s.th.bias.filter (fun j => j ≠ k) } }
  if s.th.step ≠ 0 then setStep (min 7 (s.th.step + 1)) s else s

/-- The failures of leading sensors since the last evaluation are judged. -/
def judgeLeads (s : State) : State :=
  s.th.leads.foldl (fun s k => judgeLead k s) { s with th := { s.th with leads := [] } }

/-- A set of sensors, a bit each. -/
def sensorBits (l : List Nat) : Nat := l.foldl (fun m k => m ||| 2 ^ k) 0

/-- The control temperature is formed and the step moves (R400). -/
def evaluate (s : State) : State :=
  let h := s.hottest s.controlSet
  let theta : Int := match h with
    | some k => (s.sens k).reading + (if s.th.bias.isEmpty then 0 else 40)
    | none => Config.noTheta s.uptime
  let csens : Nat := match h with
    | some k => k
    | none => (Config.noCsens s.uptime).toNat
  let n := s.newStep h.isNone theta
  setStep n { s with th := { s.th with thetaC := theta, csens := csens, noctrl := h.isNone, evaluated := true, ctl := sensorBits s.controlSet } }

/-- THROTTLE_EVALUATION (R400, R401). -/
def throttleEvaluation (s : State) : State := evaluate (judgeLeads s)

/-- THROTTLE_EVALUATION. -/
def execThrottleEvaluation (s : State) : Host.Outcome State Fault Refusal := act true throttleEvaluation s

/-! ## THERM_CFG (R354, R402) -/

/-- The limit of step `k` in a LIMITS payload. -/
def limIn (p : List Byte) (k : Nat) : Int := signed 16 (pNat p (4 + 2 * (k - 1)) 2)

/-- The first limit that R354 refuses. -/
def badLimit (p : List Byte) : Option Nat :=
  let out := (List.range 7).find? (fun j => limIn p (j + 1) < -320 || 1200 < limIn p (j + 1))
  let near := (List.range 7).find? (fun j => 0 < j && limIn p (j + 1) < limIn p j + 32)
  match out with
  | some j => some (4 + 2 * j)
  | none => near.map (fun j => 4 + 2 * j)

/-- THERM_CFG LIMITS. -/
def thermLimits (p : List Byte) (s : State) : Reply :=
  match badLimit p with
  | some o => reply s (.badarg o)
  | none => reply { s with th := { s.th with
      lim := (List.range 7).foldl (fun (t : Tab W16) j => Tab.put freshLim t (j + 1) (BitVec.ofNat 16 (pNat p (4 + 2 * j) 2))) s.th.lim } }
      (.plain .ok)

/-- THERM_CFG SENSOR: return or exclusion (R402). -/
def thermSensor (p : List Byte) (s : State) : Reply :=
  let k := pByte p 1
  let ex := pByte p 2
  if 15 < k ∨ s.fitted k = false then reply s (.badarg 1)
  else if 1 < ex then reply s (.badarg 2)
  else if ex = 1 ∧ (s.controlSet.filter (fun j => j ≠ k)).isEmpty = true then reply s (.badarg 1)
  else if b2n (s.sens k).excl = ex then reply s (.plain .ok)
  else if ex = 1 then
    let s := raise 162 (updSens k (fun x => { x with excl := true }) s)
    let act := if s.th.bias.contains k then 12 else 0
    reply (repair 0x0801 k act (unbias k s)) (.plain .ok)
  else reply (raise 163 (updSens k (fun x => { x with excl := false }) s)) (.plain .ok)

/-- THERM_CFG. -/
def thermOwn (_ : Ticket) (p : List Byte) (s : State) : Reply :=
  match pByte p 0 with
  | 0 => thermLimits p s
  | 1 => thermSensor p s
  | _ => reply s (.badarg 0)

/-- LENGTH of a THERM_CFG (R319). -/
def thermLen (p : List Byte) : Bool :=
  match p with
  | [] => false
  | b :: _ => if b = 0 then p.length == 20 else if b = 1 then p.length == 4 else true

/-- A THERM_CFG of one row; undefined subcommands and short payloads belong to LIMITS. -/
def thermRow (m : Nat) (row : List Byte → Bool) (s : State) : State := lodge m 0x0A01 row thermLen anyMode thermOwn s

/-- THERM_CFG_LIMITS. -/
def execThermCfgLimits (m : Nat) (s : State) : Host.Outcome State Fault Refusal :=
  act (m < 32) (thermRow m (fun p => p.isEmpty || pByte p 0 ≠ 1)) s

/-- THERM_CFG_SENSOR. -/
def execThermCfgSensor (m : Nat) (s : State) : Host.Outcome State Fault Refusal :=
  act (m < 32) (thermRow m (fun p => !p.isEmpty && pByte p 0 == 1)) s

end Sys2Proof.Machine
end

