-- ==== Sys2Proof/Machine/Avail.lean ====
section
/-!
DEFINITION. Avail.lean: the fault log (R422, R423), the Loggia trace and its counters (R424 to R428), and the scrub of
the persistent store (R372, R373).
-/
namespace Sys2Proof.Machine

/-! ## Fault log -/

/-- Bytes of a fault-log entry (R360). -/
def LogEntry.bytes (e : LogEntry) : List Byte :=
  beBytes 8 e.stamp.toNat ++ beBytes 2 e.epoch.toNat ++ beBytes 2 e.id.code ++ beBytes 2 e.id.unit ++
    [BitVec.ofNat 8 e.action, BitVec.ofNat 8 e.result]

/-- Address of the first word of entry `i` (R422). -/
def logAddr (i : Nat) : Nat := 0x01084000 + 16 * (i % 2048)

/-- P.AV_LOGNEXT. -/
def logNextAddr : Nat := 0x01000700

/-- The token bucket: one token per second, 64 at most (R422). -/
def fillTokens (s : State) : State :=
  let k := (s.uptime - s.av.tokenAt) / 1000000000
  let n := s.av.tokens + k
  { s with av := { s.av with
    tokens := min 64 n, tokenAt := if 64 ≤ n then s.uptime else s.av.tokenAt + k * 1000000000 } }

/-- An entry is written, and P.AV_LOGNEXT after it. -/
def writeLog (e : LogEntry) (s : State) : State :=
  let i := s.av.logNext.toNat
  let s := (List.range 4).foldl (fun s j => commitOwn (logAddr i + 4 * j) (pWord e.bytes (4 * j)) s) s
  let s := { s with av := { s.av with logNext := s.av.logNext + 1, tokens := s.av.tokens - 1 } }
  commitOwn logNextAddr s.av.logNext s

/-- FAULT_LOG_ENTRY (R422). -/
def faultLogEntry (s : State) : State :=
  match s.av.log with
  | [] => s
  | e :: es =>
    let s := fillTokens { s with av := { s.av with log := es } }
    if s.av.tokens = 0 then { s with av := { s.av with logLost := s.av.logLost + 1 } } else writeLog e s

/-- FAULT_LOG_ENTRY. -/
def execFaultLogEntry (s : State) : Host.Outcome State Fault Refusal := act true faultLogEntry s

/-! ## Loggia -/

/-- A record on the lanes (R424, R425): TYPE, SEQ, body. -/
def sendRec (r : TraceRec) (s : State) : State :=
  { s with av := { s.av.onLanes (s.uptime / 4) ([BitVec.ofNat 8 r.type, s.av.trSeq] ++ r.body) with trSeq := s.av.trSeq + 1 } }

/-- STAMP records of channel `i` may come to the trace: from the tap (R426), or as a dump of a held queue (R427). -/
def State.traces (s : State) (i : Nat) : Bool :=
  (bit s.av.trcfg 6 && bit (Tab.get zeroW s.av.trch (i / 32)) (i % 32)) || (s.chan i).hold

/-- A stamp of channel `c` or a queued word of it is of an epoch before era `e`. -/
def Chan.before (e : Nat) (c : Chan) : Bool := c.results.any (fun r => r.era != e) || c.queue.any (fun x => x.era != e)

/-- No item of an earlier epoch is still to come to the trace (R29): no stamp of a traced channel, no shot planned in it
that waits for its fire stamp, and no command begun in it whose LODGE record follows. -/
def State.traceSettled (s : State) : Bool :=
  s.fl.chans.all (fun c => !s.traces c.1 || !c.2.before s.tb.era) &&
  s.sh.ledger.all (fun e => e.2.state ≠ 1 || s.eraOf e.2.tplan == s.tb.era) &&
  (s.lk.clearing.map Clearing.start).all (fun x => x.era == s.tb.era) &&
  s.cl.markAsk.all (fun x => x.2.era == s.tb.era)

/-- A waiting EPOCH record and what is behind it join the FIFO once the old epoch has no more items (R29). -/
def releaseTrace (s : State) : State :=
  match s.av.held with
  | some l => if s.traceSettled then { s with av := { s.av with fifo := s.av.fifo ++ l, held := none } } else s
  | none => s

/-- The next record leaves (R424, R426): the first record sent after a drop is a LOST record. -/
def sendNext (s : State) : State :=
  if !bit s.av.trcfg 31 then s
  else if s.av.dropped ≠ 0 then
    sendRec ⟨10, beBytes 4 s.av.dropped ++ s.nowBytes ++ [0, 0]⟩ { s with av := { s.av with dropped := 0 } }
  else
    match s.av.fifo with
    | r :: rs => sendRec r { s with av := { s.av with fifo := rs } }
    | [] => s

/-- TRACE_RECORD_SEND. -/
def traceSend (s : State) : State := sendNext (releaseTrace s)

/-- TRACE_RECORD_SEND. -/
def execTraceRecordSend (s : State) : Host.Outcome State Fault Refusal := act true traceSend s

/-- TRACE_TIME_RECORD (R425): the latest multiple of 2^20 ns. -/
def traceTime (s : State) : State :=
  let c := s.tb.coarse.toNat / 2 ^ 20 * 2 ^ 20
  { s with av := s.av.push true ⟨8, beBytes 2 s.tb.epoch.toNat ++ beBytes 8 (stampOf (BitVec.ofNat 54 c)).toNat ++ [0, 0, 0, 0]⟩ }

/-- TRACE_TIME_RECORD. -/
def execTraceTimeRecord (s : State) : Host.Outcome State Fault Refusal := act true traceTime s

/-- The COUNTER record of counter `n` (R425). -/
def counterRec (lcnt : Tab W32) (now : List Byte) (n : Nat) : TraceRec :=
  ⟨7, [BitVec.ofNat 8 n, 0] ++ wBytes (Tab.get zeroW lcnt n) ++ now⟩

/-- TRACE_COUNTER_BURST (R428): all counters as latched in one cycle. -/
def traceBurst (s : State) : State :=
  if fld s.av.trcfg 16 4 = 0 then s else
  let l := s.av.lcnt
  { s with av := (List.range 256).foldl (fun a n => a.push false (counterRec l s.nowBytes n)) s.av }

/-- TRACE_COUNTER_BURST. -/
def execTraceCounterBurst (s : State) : Host.Outcome State Fault Refusal := act true traceBurst s

/-- AV_LCNT_READ (R428): all counters are latched. -/
def latchCounters (s : State) : State := { s with av := { s.av with lcntL := some s.av.lcnt } }

/-- AV_LCNT_READ. -/
def execAvLcntRead (s : State) : Host.Outcome State Fault Refusal := act true latchCounters s

/-- The words of a queue with the stages they stand in during flight cycle `n` (R65): a word falls one stage per cycle, and no
further than behind the word ahead, which leaves stages up to `top` free. One pushed in this cycle is shown in S0. -/
def stages (n : Nat) : Nat → List QEntry → List (Nat × QEntry)
  | _, [] => []
  | top, e :: es => let k := min top (15 - (e.ready - n)); (k, e) :: stages n (k - 1) es

/-- AV.TRDUMP (R427): while HOLD is set, a STAMP record for each word of the channel's queue, from S15 on, each among the
items of its epoch (R29). -/
def dumpQueue (v : W32) (s : State) : State :=
  let i := fld v 0 10
  let c := s.chan i
  if i < 524 ∧ c.hold = true then
    (stages s.cycle 15 c.queue).foldl (fun s (ke : Nat × QEntry) => s.pushStamped ke.2.era (stampRec true ke.1 i ke.2.word)) s
  else s

/-- AV_TRDUMP. -/
def execAvTrdump (v : W32) (s : State) : Host.Outcome State Fault Refusal := act true (dumpQueue v) s

/-! ## Scrubbing -/

/-- The persistent word that the cell at `a` holds: its own, in the spare pool the one it replaces, or none where the cell
is free or another one holds the word (R369). -/
def State.wordAt (s : State) (a : Nat) : Option Nat :=
  if 0x010FC000 ≤ a then
    let k := (a - 0x010FC000) / 4
    match s.ps.spares.find? (fun (e : Nat × Spare) => e.1 = k) with
    | some (_, sp) =>
      match holder s.ps.spares sp.tag with
      | some (j, _) => if j = k then some sp.tag else none
      | none => none
    | none => none
  else
    match holder s.ps.spares a with
    | some _ => none
    | none => some a

/-- SCRUB_READ (R372, R373): the next word is read. -/
def scrubRead (r : ReadResult) (s : State) : State :=
  let a := s.ps.scrubAddr
  let last := a = 0x010FFFFC
  let s := match s.wordAt a with
    | some w => checkRead w (strike [(w, r)] s)
    | none => s
  { s with ps := { s.ps with
    scrubAddr := if last then 0x01000000 else a + 4, scrubs := if last then s.ps.scrubs + 1 else s.ps.scrubs } }

/-- SCRUB_READ. -/
def execScrubRead (r : ReadResult) (s : State) : Host.Outcome State Fault Refusal := act true (scrubRead r) s

/-- CORRECTION_REWRITE (R372). -/
def correctionRewrite (s : State) : State :=
  match s.ps.rewrite with
  | [] => s
  | a :: as =>
    let s := { s with ps := { s.ps with rewrite := as } }
    let c := s.ps.cell a
    if c.unreadable then s else
    let s := raise 118 { s with ps := { s.ps with corr := s.ps.corr + 1, last := w32 a, lastKind := 3 } }
    (writeWord a c.data s).2

/-- CORRECTION_REWRITE. -/
def execCorrectionRewrite (s : State) : Host.Outcome State Fault Refusal := act true correctionRewrite s

end Sys2Proof.Machine
end

