-- ==== Sys2Proof/Machine/Jtag.lean ====
section
/-!
DEFINITION. Jtag.lean: the test access port (R429): the TAP controller of IEEE 1149.1, its instruction register, and the data
registers IDCODE, SAMPLE and BYPASS.
-/
namespace Sys2Proof.Machine

/-- IDCODE (R429). -/
def idcode : W32 := w32 (Config.revMajor.toNat % 16 * 2 ^ 28 + 0x00C51A3F)

/-- The 24 cells of SAMPLE (R429), cell 0 as bit 0. -/
def State.cells (s : State) : Nat :=
  b2n s.pins.pwrgood + put (b2n s.pins.rstN) 1 1 + put (b2n s.pins.trgin) 2 1 + put (b2n s.cl.trgOut) 3 1 +
    (List.range 4).foldl (fun a n => a + put (b2n (s.syncLevel n)) (4 + n) 1) 0 + put (b2n (!s.alert)) 8 1 +
    put s.pins.ct 9 4 + put s.pins.spiPins 13 4 + put (b2n s.pins.ppsIn) 17 1

/-- The state that follows at a rising edge of TCK with TMS at `tms`. -/
def TapState.next (t : TapState) (tms : Bool) : TapState :=
  match t with
  | .testLogicReset => if tms then .testLogicReset else .runTestIdle
  | .runTestIdle | .updateDr | .updateIr => if tms then .selectDr else .runTestIdle
  | .selectDr => if tms then .selectIr else .captureDr
  | .captureDr | .shiftDr => if tms then .exit1Dr else .shiftDr
  | .exit1Dr => if tms then .updateDr else .pauseDr
  | .pauseDr => if tms then .exit2Dr else .pauseDr
  | .exit2Dr => if tms then .updateDr else .shiftDr
  | .selectIr => if tms then .testLogicReset else .captureIr
  | .captureIr | .shiftIr => if tms then .exit1Ir else .shiftIr
  | .exit1Ir => if tms then .updateIr else .pauseIr
  | .pauseIr => if tms then .exit2Ir else .pauseIr
  | .exit2Ir => if tms then .updateIr else .shiftIr

/-- The low `n` bits of a number, bit 0 first. -/
def bitList (n x : Nat) : List Bool := (List.range n).map (fun i => x.testBit i)

/-- What the selected data register captures. -/
def State.capture (s : State) : List Bool :=
  if s.pins.ir = 1 then bitList 32 idcode.toNat else if s.pins.ir = 2 then bitList 24 s.cells else [false]

/-- The number that bits spell, the first the least significant. -/
def bitNat : List Bool → Nat
  | [] => 0
  | b :: bs => b2n b + 2 * bitNat bs

/-- One cycle of TCK: what TDO gives before the rising edge, the capture or shift at it, and what the next state does to the
instruction. -/
def tapClock (s : State) (c : Tck) : State :=
  let p := s.pins
  let out : Option Bool := match p.tap with
    | .shiftDr => p.dr.head?
    | .shiftIr => p.irShift.head?
    | _ => none
  let dr := match p.tap with
    | .captureDr => s.capture
    | .shiftDr => p.dr.tail ++ [c.tdi]
    | _ => p.dr
  let sh := match p.tap with
    | .captureIr => bitList 4 1
    | .shiftIr => p.irShift.tail ++ [c.tdi]
    | _ => p.irShift
  let tap := p.tap.next c.tms
  let ir := match tap with
    | .testLogicReset => 1
    | .updateIr => BitVec.ofNat 4 (bitNat sh)
    | _ => p.ir
  { s with pins := { p with tap := tap, ir := ir, irShift := sh, dr := dr, tdo := p.tdo ++ [out] } }

/-- Cycles of TCK that leave the instruction `code` selected; a sequence that leaves another one is a command of that one's
row. -/
def jtagRun (code : BitVec 4) (clocks : List Tck) (s : State) : State :=
  let t := clocks.foldl tapClock { s with pins := { s.pins with tdo := [] } }
  if t.pins.ir = code then t else s

/-- JTAG_IDCODE. -/
def execJtagIdcode (clocks : List Tck) (s : State) : Host.Outcome State Fault Refusal := actAlways true (jtagRun 1 clocks) s

/-- SAMPLE takes the levels of the pins: inputs as they are outside, outputs as the part drives them. -/
def jtagSample (p : BitVec 24) (clocks : List Tck) (s : State) : State :=
  let n := p.toNat
  jtagRun 2 clocks { s with pins := { s.pins with
    trgin := p.getLsbD 2, ct := bits n 9 4, spiPins := bits n 13 4, ppsIn := p.getLsbD 17 } }

/-- JTAG_SAMPLE. -/
def execJtagSample (p : BitVec 24) (clocks : List Tck) (s : State) : Host.Outcome State Fault Refusal :=
  actAlways true (jtagSample p clocks) s

/-- JTAG_BYPASS. -/
def execJtagBypass (code : BitVec 4) (clocks : List Tck) (s : State) : Host.Outcome State Fault Refusal :=
  actAlways true (jtagRun code clocks) s

end Sys2Proof.Machine
end

