-- ==== Sys2Proof/Machine/Registers.lean ====
section
/-!
DEFINITION. Registers.lean: the register map (R361): what a read of each address gives, what it latches or clears (R362,
R364), and REG_RD (R325).
-/
namespace Sys2Proof.Machine

/-! ## Blocks -/

/-- The blocks of R361. -/
def inMap (a : Nat) : Bool := a ≤ 0x13FFFF || (0x1000000 ≤ a && a ≤ 0x10FFFFF)

/-- Word `i` of an array of `n` words at `base`. -/
def wordOf (base n a : Nat) : Option Nat :=
  if base ≤ a ∧ a < base + 4 * n ∧ (a - base) % 4 = 0 then some ((a - base) / 4) else none

/-- A 48-bit and a 64-bit value, low and high word. -/
def lo32 (x : Nat) : W32 := w32 (x % 2 ^ 32)
def hi32 (x : Nat) : W32 := w32 (x / 2 ^ 32)

/-! ## Values by block -/

/-- ID (table after R364). -/
def idReg (s : State) : Nat → W32
  | 0x00 => 0x0C512A3E
  | 0x04 => w32 (put Config.revMajor.toNat 24 8 + put Config.revMinor.toNat 16 8 + Config.revBuild.toNat)
  | 0x08 => lo32 Config.serial.toNat
  | 0x0C => hi32 Config.serial.toNat
  | 0x10 => if s.id.powerUp then 0 else 1
  | 0x14 => w32 (s.uptime / 1000000)
  | 0x18 => w32 (b2n s.id.factOk)
  | 0x1C => s.id.factSum
  | _ => 0

/-- TB.STATUS. -/
def State.tbStatus (s : State) : W32 :=
  w32 (put (b2n s.tb.xsensOk) 11 1 + put (b2n s.tb.ppsOk) 10 1 + put (b2n s.tb.ppsPres) 9 1 +
    put (b2n s.tb.pend.isSome) 8 1 + put (b2n s.tb.limpRef) 4 1 + put (b2n s.tb.refFok) 3 1 +
    put (b2n s.tb.refPres) 2 1 + s.tb.state.code)

/-- The low part of a coarse count, in [31:10]. -/
def coarseLo (c : Coarse) : W32 := w32 (put c.toNat 10 22)

/-- TB. -/
def tbReg (s : State) : Nat → W32
  | 0x00 => s.tb.cfg
  | 0x04 => s.tb.hold
  | 0x08 => s.tbStatus
  | 0x0C => s.tb.refofs
  | 0x10 => w32 s.holdTime
  | 0x14 => w32 (sat32 (s.tb.terr / 200))
  | 0x18 => coarseLo s.tb.coarse
  | 0x1C => s.tb.nowHi
  | 0x20 => s.tb.epochL.zeroExtend 32
  | 0x24 => coarseLo s.tb.pps
  | 0x28 => w32 (s.tb.pps.toNat / 2 ^ 22)
  | 0x2C => s.tb.ppsErr
  | 0x30 => s.tb.learn
  | 0x34 => w32 (unsigned 16 s.tb.theta)
  | _ => 0

/-- Flight, and the offset within it. -/
def flightOf (o : Nat) : Nat := o / 0x800
def flightOff (o : Nat) : Nat := o % 0x800

/-- The channel whose registers hold offset `o` of the FL block, and the offset within them. -/
def chanAt (o : Nat) : Option (Nat × Nat) :=
  let f := flightOf o
  let r := flightOff o
  if f < 33 ∧ 0x100 ≤ r ∧ r < 0x100 + 0x40 * chansOf f then some (chanNo f ((r - 0x100) / 0x40), (r - 0x100) % 0x40) else none

/-- FL.FSTAT. -/
def State.fstat (s : State) (f : Nat) : W32 :=
  let ovr := ((List.range (chansOf f)).map (fun c => put (b2n (bit (s.chan (chanNo f c)).flags 2)) c 1)).sum
  w32 (put (s.sparesOf f) 20 4 + put (b2n s.flightsRun) 16 1 + ovr)

/-- A channel's registers: DEPTH, PKT and VALID as the flight cycle began (R64). -/
def chanReg (s : State) (i : Nat) : Nat → W32 :=
  let c := s.chan i
  let l := c.latched.getD (0, 0, 0, 0, 0)
  let n := c.noteOf s.cycle
  fun
  | 0x00 => c.cfg
  | 0x04 => w32 (put n.pkt 16 5 + put n.depth 8 5 + put (b2n c.latch.isSome) 1 1 + b2n n.valid)
  | 0x08 => c.flags
  | 0x0C => w32 c.core
  | 0x10 => lo32 c.ecnt.toNat
  | 0x14 => l.1.zeroExtend 32
  | 0x18 => l.2.1
  | 0x1C => l.2.2.1
  | 0x20 => l.2.2.2.1
  | 0x24 => l.2.2.2.2
  | _ => 0

/-- FL.CORESTAT of core `x`: before the flight self-test a core is untested, but a retired one is not tested (R412). -/
def State.coreStat (s : State) (x : Nat) : W32 :=
  let c := s.core x
  let st := if c.state = 3 ∨ s.fl.tested = true then c.state else 4
  w32 (put c.chan 20 4 + put st 16 3 + ((List.range 8).map (fun v => put (b2n (s.conv x v).ok) v 1)).sum)

/-- FL. -/
def flReg (s : State) (o : Nat) : W32 :=
  let f := flightOf o
  let r := flightOff o
  if 32 < f then 0
  else match chanAt o with
  | some (i, k) => chanReg s i k
  | none =>
    if r = 0 then s.fstat f
    else if r = 4 then (if f = 32 then w32 s.fl.f32sel else 0)
    else if 0x500 ≤ r ∧ r < 0x500 + 0x10 * coresOf f ∧ r % 16 = 0 then s.coreStat (coreNo f ((r - 0x500) / 16))
    else 0

/-- A signed 24-bit field. -/
def skew24 (v : Int) : W32 := w32 (unsigned 24 v)

/-- CA. -/
def caReg (s : State) (o : Nat) : W32 :=
  match wordOf 0x200 592 o, wordOf 0x1000 524 o, wordOf 0x2000 167 o with
  | some x, _, _ => skew24 (s.sCore x)
  | _, some i, _ => skew24 (s.s64 i (s.coreOf i))
  | _, _, some c => Tab.get zeroW s.ca.cTable c
  | _, _, _ =>
    match o with
    | 0x00 => w32 (b2n s.ca.freeze)
    | 0x04 => w32 (put s.staleCount 16 13 + put (b2n s.ca.fill) 1 1 + b2n s.ca.fillDone)
    | 0x08 => s.ca.period
    | 0x0C => s.ca.sel
    | 0x10 => s.ca.cStat
    | 0x14 => s.ca.cSamp
    | 0x18 => s.ca.cAbn
    | _ => 0

/-- SH.STATUS.STBY codes. -/
def Stby.code : Stby → Nat
  | .empty => 0 | .loading => 1 | .committed => 2 | .admission => 3

/-- SH.STATUS. -/
def State.shStatus (s : State) : W32 :=
  w32 (put s.sh.stepNow 16 12 + put (b2n s.sh.run.isSome) 8 1 + put (b2n s.sh.swPend) 5 1 + put s.sh.active 4 1 +
    put s.sh.stby.code 2 2 + put (b2n s.sh.valid) 1 1)

/-- SH. -/
def shReg (s : State) (o : Nat) : W32 :=
  match wordOf 0x40 16 o, wordOf 0x84 8 o with
  | some j, _ => s.serve j
  | _, some w => Tab.get zeroW s.sh.lent w
  | _, _ =>
    match o with
    | 0x00 => s.sh.cfg
    | 0x04 => s.sh.fbwin
    | 0x08 => s.shStatus
    | 0x0C => lo32 s.sh.shotNum.toNat
    | 0x10 => s.sh.shotHi
    | 0x14 => s.sh.frameCnt
    | 0x18 => w32 (put s.sh.peak 16 16 + put s.occupancy 0 16)
    | 0x1C => s.sh.voidCnt
    | 0x20 => s.sh.strayCnt
    | 0x24 => s.sh.lfullCnt
    | 0x28 => s.sh.skipCnt
    | 0x80 => w32 s.sh.lsel
    | _ => 0

/-- EM.DRVSTAT. -/
def Driver.stat (r : Driver) : W32 :=
  w32 (put r.id 12 20 + put (b2n r.dis) 11 1 + put (b2n r.selErr) 10 1 + put (b2n r.ovt) 9 1 + put (b2n r.uvlo) 8 1 +
    put r.selCnt 0 8)

/-- EM.LINESTAT. -/
def State.lineStat (s : State) (x : Nat) : W32 :=
  let l := s.line x
  let g := if s.fl.tested then s.logical x else none
  w32 (put (s.lineState x) 29 3 + put l.fkind 27 2 + put (b2n l.diagDue) 26 1 + put (b2n g.isSome) 16 1 +
    put (g.getD 0) 8 8 + min 255 l.voidRun)

/-- EM.STATUS. -/
def State.emStatus (s : State) : W32 :=
  let mask (p : Driver → Bool) : Nat := ((List.range 8).map (fun d => put (b2n (p (s.driver d))) d 1)).sum
  let spares := ((List.range 16).filter (fun k => s.lineState (256 + k) = 1)).length
  w32 (put (mask Driver.linkOk) 24 8 + put (mask Driver.alarm) 16 8 + spares)

/-- EM. -/
def emReg (s : State) (o : Nat) : W32 :=
  match wordOf 0x40 8 o, wordOf 0x100 272 o with
  | some d, _ => (s.driver d).stat
  | _, some x => s.lineStat x
  | _, _ =>
    match o with
    | 0x00 => s.em.cfg
    | 0x04 => w32 (put s.th.step 16 3 + put (b2n s.em.dis) 8 1 + put s.em.plim 0 6)
    | 0x08 => s.emStatus
    | 0x0C => s.em.crcErr
    | 0x10 => s.em.retry
    | 0x14 => s.em.eyeCnt
    | 0x18 => s.em.disCnt
    | 0x1C => s.em.diagCnt
    | _ => 0

/-- A channel's Arcade registers. -/
def acReg (a : AChan) : Nat → W32
  | 0 => a.early
  | 1 => a.out
  | 2 => a.dwells
  | _ => w32 (put (b2n a.pass) 3 1 + put (b2n a.late) 2 1 + put (b2n a.sat) 1 1 + b2n a.accY)

/-- AR.FTSTAT. -/
def Tracker.stat (t : Tracker) : W32 := w32 (put t.state 30 2 + put t.hits 25 5 + put t.period 0 24)

/-- AR. -/
def arReg (s : State) (o : Nat) : W32 :=
  match wordOf 0x1000 2048 o, wordOf 0x4100 64 o, wordOf 0x5000 512 o with
  | some k, _, _ => acReg (s.achan (k / 4)) (k % 4)
  | _, some n, _ => (Tab.get freshTracker s.ar.trackers n).stat
  | _, _, some i => (s.achan i).vetoCnt
  | _, _, _ =>
    match o with
    | 0x00 => s.ar.cfg
    | 0x04 => w32 (put s.ar.snapN 16 5 + (if s.ar.snapArm.isSome then 1 else if s.ar.snapOk then 2 else 0))
    | 0x08 => s.ar.satCnt
    | 0x4000 => s.ar.xcfg
    | 0x4004 => s.ar.xsun
    | 0x4008 => s.ar.xrain
    | 0x400C => s.ar.ftcfg
    | 0x4010 => s.ar.rainCnt
    | 0x4014 => s.ar.recCnt
    | 0x4018 => s.ar.frameCnt
    | _ => 0

/-- The low and high registers of a 48-bit signed result. -/
def resLo (v : Int) : W32 := lo32 (unsigned 48 v)
def resHi (v : Int) : W32 := hi32 (unsigned 48 v)

/-- A slot's registers; the result registers return what MS.SGATECNT latched, and zero before (R222, R362). -/
def slotReg (x : MSlot) : Nat → W32 :=
  let l := x.latched.getD ⟨0, 0, 0, 0, 0, 0⟩
  fun
  | 0x00 => x.cfg
  | 0x04 => x.gate
  | 0x08 => x.ngates
  | 0x0C => x.hmin
  | 0x10 => x.hmax
  | 0x14 => lo32 x.pnom.toNat
  | 0x18 => hi32 x.pnom.toNat
  | 0x1C => x.sstat
  | 0x20 => x.gateCnt
  | 0x24 => resLo l.res
  | 0x28 => resHi l.res
  | 0x2C => w32 l.n
  | 0x30 => resLo l.mn
  | 0x34 => resHi l.mn
  | 0x38 => resLo l.mx
  | 0x3C => resHi l.mx
  | 0x40 => l.unpair
  | 0x44 => l.gapCnt
  | _ => 0

/-- A SYNC output's registers. -/
def syncReg (y : Sync) : Nat → W32
  | 0x00 => y.cfg
  | 0x04 => lo32 y.per.toNat
  | 0x08 => hi32 y.per.toNat
  | 0x0C => y.ofs
  | 0x10 => y.tgt
  | 0x14 => y.tol
  | 0x18 => w32 (put (b2n y.locked) 31 1 + put y.good 27 4)
  | 0x1C => y.err
  | _ => 0

/-- MS. -/
def msReg (s : State) (o : Nat) : W32 :=
  if o = 0 then w32 ((List.range 32).map (fun k => put (b2n ((s.slot k).state == 2)) k 1)).sum
  else if 0x100 ≤ o ∧ o < 0x1100 then slotReg (s.slot ((o - 0x100) / 0x80)) ((o - 0x100) % 0x80)
  else if 0x1200 ≤ o ∧ o < 0x1280 then syncReg (s.sync ((o - 0x1200) / 0x20)) ((o - 0x1200) % 0x20)
  else 0

/-- BL. -/
def blReg (s : State) : Nat → W32
  | 0x00 => s.bl.cfg
  | 0x04 => s.bl.pcfg
  | 0x08 => w32 (put (b2n s.bl.sumBusy) 2 1 + put (b2n s.bl.viol) 1 1 + b2n s.supervises)
  | 0x0C => s.bl.pmflt
  | 0x10 => s.bl.violCnt
  | 0x14 => s.bl.dwellCnt
  | 0x18 => s.bl.envSum
  | _ => 0

/-- VALID of CL.DLY and CL.SKEWTT: units of a valid round, and the own unit while CL.CFG.EN = 1 (DESIGN CHOICE, log 91: the
spec says neither from when it is valid nor that its reset value 0 stands). -/
def State.clValid (s : State) (u : Nat) : Bool := (u == s.unit && s.clEn) || s.cl.valid.testBit u

/-- CL.LASTTRG_HI. -/
def Trigger.hi (t : Trigger) : W32 := w32 (put t.src 29 3 + put t.cause 26 3 + put (t.time.toNat / 2 ^ 32) 0 22)

/-- CL. -/
def clReg (s : State) (o : Nat) : W32 :=
  match wordOf 0x100 8 o, wordOf 0x120 8 o, wordOf 0x140 8 o with
  | some u, _, _ => w32 (put (b2n (s.clValid u)) 31 1 + (Tab.get (fun _ => (0 : BitVec 24)) s.cl.dly u).toNat)
  | _, some u, _ => Tab.get zeroW s.cl.ofs u
  | _, _, some u => w32 (put (b2n (s.clValid u)) 31 1 + (Tab.get (fun _ => (0 : W16)) s.cl.skew u).toNat)
  | _, _, _ =>
    match o with
    | 0x00 => s.cl.cfg
    | 0x04 => w32 (put s.cl.heard 24 8 + put s.cl.round 20 4 + put (b2n s.cl.rnd.isSome) 16 1 + put (b2n s.cl.tset) 2 1 +
        put (b2n s.beacons) 1 1 + b2n s.cl.busOk)
    | 0x08 => s.cl.trgcfg
    | 0x0C => s.cl.trgCnt
    | 0x10 => s.cl.trgRx
    | 0x14 => s.cl.trgSup
    | 0x18 => s.cl.crcErr
    | 0x1C => lo32 s.cl.last.time.toNat
    | 0x20 => s.cl.last.hi
    | _ => 0

/-- GL.STATUS.STATE codes (state table of chapter 10). -/
def GlState.code : GlState → Nat
  | .idle => 0 | .fill => 1 | .ready => 2 | .post => 3 | .rearm => 4 | .done => 5 | .out => 6

/-- GL. -/
def glReg (s : State) (o : Nat) : W32 :=
  match wordOf 0x100 17 o, wordOf 0x180 16 o, wordOf 0x200 16 o with
  | some k, _, _ => Tab.get zeroW s.gl.esel k
  | _, some g, _ => Tab.get zeroW s.gl.evsel g
  | _, _, some p => (s.partn p).image
  | _, _, _ =>
    match o with
    | 0x00 => s.gl.cfg
    | 0x04 => s.gl.rcfg
    | 0x08 => w32 (put s.gl.part 24 4 + put (b2n s.gl.retired.isSome) 11 1 + put (s.gl.retired.getD 0) 8 3 + s.gl.state.code)
    | 0x0C => w32 (put (s.capacity / 512) 0 26)
    | 0x10 => w32 (put (s.pSize / 512) 0 26)
    | 0x14 => lo32 s.gl.pre
    | 0x18 => hi32 s.gl.pre
    | 0x1C => lo32 s.gl.post
    | 0x20 => hi32 s.gl.post
    | 0x24 => s.gl.earlyTrg
    | 0x28 => s.gl.rearmTrg
    | 0x2C => s.gl.postTrg
    | 0x30 => w32 ((List.range 16).map (fun m => put (b2n (s.mark m).isSome) m 1)).sum
    | 0x34 => lo32 s.gl.wcount.toNat
    | 0x38 => s.gl.wcountHi
    | _ => 0

/-- The mask word of event group `g`. -/
def State.maskWord (s : State) (g : Nat) : W32 := Tab.get freshMask s.ev.mask g

/-- A word with a bit per source of group `g`. -/
def State.sourceWord (s : State) (p : Source → Bool) (g : Nat) : Nat :=
  ((List.range 32).map (fun n => put (b2n (p (s.ev.get (32 * g + n)))) n 1)).sum

/-- EV.SUMMARY. -/
def State.evSummary (s : State) : W32 :=
  let any := ((List.range 16).map (fun g => put (b2n (s.sourceWord Source.latched g != 0)) g 1)).sum
  let open_ := ((List.range 16).map (fun g => put (b2n (s.latchWord g != 0)) g 1)).sum
  w32 (put any 16 16 + open_)

/-- EV. -/
def evReg (s : State) (o : Nat) : W32 :=
  match wordOf 0x100 16 o, wordOf 0x140 16 o, wordOf 0x180 16 o, wordOf 0x1000 256 o with
  | some g, _, _, _ => w32 (s.sourceWord Source.latched g)
  | _, some g, _, _ => s.maskWord g
  | _, _, some g, _ => w32 (s.sourceWord Source.lapped g)
  | _, _, _, some m => w32 (put (s.ev.get (2 * m + 1)).occ.toNat 16 16 + (s.ev.get (2 * m)).occ.toNat)
  | _, _, _, _ =>
    match o with
    | 0x00 => s.evSummary
    | 0x08 => s.ev.count
    | _ => 0

/-- TH.SENS. -/
def State.sensStat (s : State) (k : Nat) : W32 :=
  let x := s.sens k
  w32 (put (b2n (s.fitted k)) 31 1 + put (b2n (s.th.ctl.testBit k)) 30 1 + put (b2n x.fail) 29 1 + put (b2n x.excl) 28 1 +
    put (b2n (bit x.boot 30)) 27 1 + unsigned 16 x.reading)

/-- The code of a mode that may be none. -/
def modeOr7 : Option Mode → Nat
  | some m => m.code
  | none => 7

/-- TH. -/
def thReg (s : State) (o : Nat) : W32 :=
  match wordOf 0x40 7 o, wordOf 0x80 16 o with
  | some k, _ => (Tab.get freshLim s.th.lim (k + 1)).zeroExtend 32
  | _, some k => s.sensStat k
  | _, _ =>
    match o with
    | 0x00 => w32 (put (b2n s.th.startup) 27 1 + put (modeOr7 s.th.pend) 24 3 + put (modeOr7 s.th.origin) 16 3 + s.th.mode.code)
    | 0x04 => w32 (put s.quiet 16 10 + put (b2n s.th.limpPend) 4 1 + put (b2n (decide (2 ≤ s.av.outst.length))) 3 1 +
        put (b2n (s.th.step == 7)) 2 1 + put (b2n s.limpSpares) 1 1 + b2n s.tb.limpRef)
    | 0x08 => w32 (put s.th.csens 24 4 + put (b2n s.th.noctrl) 23 1 + put (b2n (!s.th.bias.isEmpty)) 22 1 + put s.th.step 16 3 +
        unsigned 16 s.th.thetaC)
    | 0x0C => s.th.up
    | 0x10 => s.th.down
    | _ => 0

/-- AV.PSTAT. -/
def State.pstat (s : State) : W32 :=
  let n := s.ps.free
  w32 (put n 16 13 + put s.ps.lastKind 2 2 + put (b2n (n == 0)) 1 1 + b2n (decide (n ≤ 256)))

/-- AV. -/
def avReg (s : State) (o : Nat) : W32 :=
  match wordOf 0x20 8 o, wordOf 0x180 17 o, wordOf 0x200 16 o, wordOf 0x400 256 o with
  | some d, _, _, _ => w32 (s.fbDelay d).toNat
  | _, some k, _, _ => Tab.get zeroW s.av.trch k
  | _, _, some g, _ => Tab.get zeroW s.av.trev g
  | _, _, _, some n => if n = 0 then Tab.get zeroW s.av.lcnt 0 else Tab.get zeroW (s.av.lcntL.getD []) n
  | _, _, _, _ =>
    match o with
    | 0x00 => w32 (put (min 255 s.av.outst.length) 16 8 + put (b2n s.av.halt) 2 1 + put (b2n s.av.restart) 1 1)
    | 0x04 => s.av.restarts
    | 0x08 => s.av.logNext
    | 0x0C => s.av.logLost
    | 0x10 => w32 s.av.fbSyn
    | 0x100 => s.av.trcfg
    | 0x108 => s.av.trLost
    | 0xF00 => s.pstat
    | 0xF04 => s.ps.spared
    | 0xF08 => s.ps.corr
    | 0xF0C => s.ps.unread
    | 0xF10 => s.ps.last
    | 0xF14 => s.ps.scrubs
    | _ => 0

/-- The destination MAC address of a port is known: given, or found by ARP (R285). -/
def State.arpOk (s : State) (p : Nat) : Bool := !(s.lk.regs.port p).resolves || (s.port p).arp.isSome

/-- A port's registers. -/
def portReg (s : State) (p : Nat) : Nat → W32 :=
  let r := s.lk.regs.port p
  fun
  | 0x00 => r.pcfg
  | 0x04 => w32 (put (b2n (s.port p).up) 31 1 + put (b2n (s.lk.active == some p)) 30 1 + put (b2n (s.port p).lpi) 29 1 +
      put (b2n (s.arpOk p)) 28 1)
  | 0x08 => r.ip
  | 0x0C => r.mask
  | 0x10 => r.dest
  | 0x14 => r.dmacLo
  | 0x18 => r.dmacHi
  | 0x1C => lo32 (Config.mac p).toNat
  | 0x20 => hi32 (Config.mac p).toNat
  | _ => 0

/-- LK.MBSTAT. -/
def Mailbox.stat (b : Mailbox) : W32 :=
  let st := match b.state with
    | .unsync => 0
    | .idle => 1
    | .executing => 2
  let a := match b.answer with
    | some a => a.status.code
    | none => 0
  w32 (put st 30 2 + put a 16 8 + b.l.toNat)

/-- LK.STATUS. -/
def State.lkStatus (s : State) : W32 :=
  w32 (put (b2n s.lk.active.isNone) 8 1 + put (s.lk.active.getD 0) 5 1 + put (b2n s.alert) 4 1 + put (b2n s.spiPend) 3 1 +
    put (b2n (s.port 1).up) 1 1 + b2n (s.port 0).up)

/-- LK. -/
def lkReg (s : State) (o : Nat) : W32 :=
  match wordOf 0x40 32 o, wordOf 0x100 4 o, wordOf 0x200 32 o with
  | some k, _, _ => portReg s (k / 16) (4 * (k % 16))
  | _, some h, _ => s.lk.regs.host h
  | _, _, some m => (s.box m).stat
  | _, _, _ =>
    match o with
    | 0x00 => s.lk.regs.cfg
    | 0x04 => s.lkStatus
    | 0x08 => s.lk.regs.qos
    | 0x0C => s.lk.regs.evcfg
    | 0x140 => s.lk.crcErr
    | 0x144 => s.lk.badFrame
    | 0x148 => s.lk.rejHost
    | 0x14C => s.lk.seqErr
    | 0x150 => s.lk.busyCnt
    | 0x154 => s.lk.retDrop
    | 0x158 => s.lk.failCnt
    | _ => 0

/-- The value that a read of address `a` returns; an address with no register reads zero (R325, R361). -/
def regValue (s : State) (a : Nat) : W32 :=
  if a < 0x10000 then idReg s a
  else if a < 0x20000 then tbReg s (a - 0x10000)
  else if a < 0x40000 then flReg s (a - 0x20000)
  else if a < 0x60000 then caReg s (a - 0x40000)
  else if a < 0x70000 then shReg s (a - 0x60000)
  else if a < 0x80000 then emReg s (a - 0x70000)
  else if a < 0xA0000 then arReg s (a - 0x80000)
  else if a < 0xC0000 then msReg s (a - 0xA0000)
  else if a < 0xD0000 then blReg s (a - 0xC0000)
  else if a < 0xE0000 then glReg s (a - 0xD0000)
  else if a < 0x100000 then clReg s (a - 0xE0000)
  else if a < 0x110000 then evReg s (a - 0x100000)
  else if a < 0x120000 then thReg s (a - 0x110000)
  else if a < 0x130000 then avReg s (a - 0x120000)
  else if a < 0x140000 then lkReg s (a - 0x130000)
  else preadMapped s a

/-! ## Reads that clear or latch -/

/-- RC_READ (R364): the read-clear fields of the register at `a` clear, but for what its cycle has set: this flight cycle in FL and AR.CHFLAG (R76, R181), this TBCLK cycle elsewhere. SH.OCC.PEAK starts again from the entries held. -/
def rcClear (a : Nat) (s : State) : State :=
  if 0x20000 ≤ a ∧ a < 0x40000 then
    match chanAt (a - 0x20000) with
    | some (i, 0x08) => updChan i (Chan.readFlags s.cycle) s
    | _ => s
  else if a = 0x60018 then { s with sh := { s.sh with peak := s.occupancy } }
  else if a = 0xC0008 then { s with bl := { s.bl with viol := s.bl.viol && s.bl.violAt == some s.uptime } }
  else match wordOf 0x70040 8 a, wordOf 0x81000 2048 a with
  | some d, _ => updDriver d (fun r => { r with selErr := r.selErr && r.selErrAt == some s.uptime }) s
  | _, some k => if k % 4 = 3 then updAChan (k / 4) (AChan.readFlags s.cycle) s else s
  | _, _ => s

/-- RC_READ. -/
def execRcRead (addr : Nat) (s : State) : Host.Outcome State Fault Refusal := act true (rcClear addr) s

/-- A read of a latching register latches (R41, R73, R134, R222, R280, R428). -/
def latchRead (a : Nat) (s : State) : State :=
  if a = 0x10018 then latchNow s
  else if 0x20000 ≤ a ∧ a < 0x40000 then
    match chanAt (a - 0x20000) with
    | some (i, 0x10) => latchCounts i s
    | _ => s
  else if a = 0x6000C then latchShotnum s
  else if 0xA0100 ≤ a ∧ a < 0xA1100 ∧ (a - 0xA0100) % 0x80 = 0x20 then latchSlot ((a - 0xA0100) / 0x80) s
  else if a = 0xD0034 then latchWcount s
  else if a = 0x120400 then latchCounters s
  else s

/-- What one word read gives, and the state after it. -/
def regRead (a : Nat) (s : State) : W32 × State := (regValue s a, rcClear a (latchRead a s))

/-! ## REG_RD -/

/-- The ranges of a REG_RD: payload offset, address, words. -/
def rangesOf (p : List Byte) : List (Nat × Nat × Nat) :=
  (List.range (pByte p 0)).map (fun r => (4 + 8 * r, pNat p (4 + 8 * r) 4, pNat p (8 + 8 * r) 2))

/-- A range lies in the block map: no block gap is narrower than a range can step over. -/
def rangeOk (a n : Nat) : Bool := inMap a && inMap (a + 4 * (n - 1))

/-- The payload offset of the count that takes the sum of words past `limit`. -/
def sumPast (limit : Nat) : Nat → List (Nat × Nat × Nat) → Option Nat
  | _, [] => none
  | t, (o, _, n) :: rs => if limit < t + n then some (o + 4) else sumPast limit (t + n) rs

/-- The first check of R325 that fails, taken in the order of the rule (R455). -/
def rdBad (p : List Byte) (limit : Nat) : Option Nat :=
  let rs := rangesOf p
  if pByte p 0 = 0 ∨ 16 < pByte p 0 then some 0
  else match rs.find? (fun (r : Nat × Nat × Nat) => r.2.2 = 0), rs.find? (fun (r : Nat × Nat × Nat) => r.2.1 % 4 ≠ 0),
      rs.find? (fun (r : Nat × Nat × Nat) => !rangeOk r.2.1 r.2.2) with
  | some r, _, _ => some (r.1 + 4)
  | _, some r, _ => some r.1
  | _, _, some r => some (r.1 + 4)
  | _, _, _ => sumPast limit 0 rs

/-- Words read one after the other, persistent ones with their check bits (R372). -/
def readWords : List Nat → State → List Byte × State
  | [], s => ([], s)
  | a :: as, s =>
    let (v, s) := regRead a (checkRead a s)
    let (bs, s) := readWords as s
    (wBytes v ++ bs, s)

/-- REG_RD (R325). -/
def regRdOwn (reads : Reads) (tk : Ticket) (p : List Byte) (s : State) : Reply :=
  match rdBad p (if tk.src.path = spiPath then 1023 else 351) with
  | some o => reply s (.badarg o)
  | none =>
    let (bs, s) := readWords ((rangesOf p).flatMap (fun r => (List.range r.2.2).map (fun j => r.2.1 + 4 * j))) (strike reads s)
    reply s (.okWith bs)

/-- REG_RD. -/
def execRegRd (m : Nat) (reads : Reads) (s : State) : Host.Outcome State Fault Refusal :=
  act (m < 32) (lodge m 0x0201 anyRow (fun p => 4 ≤ p.length && p.length == 4 + 8 * pByte p 0) anyMode (regRdOwn reads)) s

end Sys2Proof.Machine
end

