-- ==== Sys2Proof/Machine/RegWrite.lean ====
section
/-!
DEFINITION. RegWrite.lean: which bits of which register REG_WR may write, each register's own rules and what a write does
(R326), and EV.TEST (R383).
-/
namespace Sys2Proof.Machine

/-- How a write is refused: a status and, within the triple, the offset of the faulty field; or the rule of an ADMIT. -/
structure Refused where
  status : Status
  arg : Nat
  deriving DecidableEq, Repr

/-- What one triple of a REG_WR yields. -/
abbrev Written := Except Refused State

def refuse (st : Status) (arg : Nat) : Written := .error { status := st, arg := arg }

/-- BADARG for a field whose most significant bit is `b`: the byte of the value that holds it (R455). -/
def badField (b : Nat) : Written := refuse .badarg (4 + (31 - b) / 8)

/-- The last word of a channel selection, of which bits above channel 523 are reserved. -/
def selMask (k : Nat) : W32 := if k = 16 then 0xFFF else 0xFFFFFFFF

/-- The RW and WO bits of the register at `a`, 0 where there is none. -/
def writable (a : Nat) : W32 :=
  if 0x20000 ≤ a ∧ a < 0x40000 then
    match chanAt (a - 0x20000) with
    | some (_, 0) => 0x87
    | some _ => 0
    | none => if (a - 0x20000) % 0x800 = 4 ∧ a < 0x30800 then 3 else 0
  else match wordOf 0x60040 16 a, wordOf 0xD0100 17 a, wordOf 0xD0180 16 a, wordOf 0x120180 17 a, wordOf 0x120200 16 a with
  | some _, _, _, _, _ => 0xFFFFFFFF
  | _, some k, _, _, _ => selMask k
  | _, _, some _, _, _ => 0xFFFFFFFF
  | _, _, _, some k, _ => selMask k
  | _, _, _, _, some _ => 0xFFFFFFFF
  | _, _, _, _, _ =>
    match a with
    | 0x10000 => tbCfgMask
    | 0x10004 => 0xFFFFFFFF
    | 0x40000 => 1
    | 0x4000C => 0x1FFF
    | 0x60000 => 0xFF3F0002
    | 0x60004 => 0xFF00FF
    | 0x60080 => 0x1FFF
    | 0x70000 => 0xFF00
    | 0xC0000 => 0xFF1F0003
    | 0xC0004 => 0x0F00FFFF
    | 0xD0000 => 0x70307
    | 0xD0004 => 0xFF00FFFF
    | 0xD0014 => 0xFFFFFFFF
    | 0xD0018 => 7
    | 0xD001C => 0xFFFFFFFF
    | 0xD0020 => 7
    | 0xE0000 => 0xFFFFFF1F
    | 0xE0008 => 0xFFFFFFEF
    | 0x100004 => 0xFFFFFFFF
    | 0x120100 => 0x800F007E
    | 0x120104 => 0x3FF
    | _ => 0

/-! ## Single registers -/

/-- TB.CFG and TB.HOLD (R39). -/
def writeTbCfg (v : W32) (s : State) : Written :=
  if !tbCfgModeOk s v then refuse .mode 0 else if fld v 0 2 = 3 then badField 1 else .ok (setTbCfg v s)

def writeTbHold (v : W32) (s : State) : Written :=
  if fld v 24 8 = 0 then badField 31 else .ok { s with tb := { s.tb with hold := v } }

/-- FL.CHCFG of channel `i` (R69, R75). -/
def writeChCfg (i : Nat) (v : W32) (s : State) : Written :=
  let old := (s.chan i).cfg
  if bit v 7 && !stillMode s then refuse .mode 0
  else if (old ^^^ v) &&& 7 ≠ 0 ∧ restMode s = false then refuse .mode 0
  else if fld v 1 2 = 3 then badField 2
  else .ok (updChan i (fun c => c.setCfg s.cycle v) s)

/-- FL.F32SEL (R44): in force at the next mode change, or at once in DORMANT; ignored in other flights. -/
def writeF32Sel (f : Nat) (v : W32) (s : State) : Written :=
  let n := fld v 0 2
  if f ≠ 32 then .ok s
  else if n = 3 then badField 1
  else .ok { s with fl := { s.fl with
    f32sel := n, clnLoop := if s.th.mode = .dormant then cnlSource n .dormant else s.fl.clnLoop } }

/-- CA.CFG (R94). -/
def writeCaCfg (v : W32) (s : State) : Written :=
  if bit v 0 && !stillMode s then refuse .mode 0 else .ok { s with ca := { s.ca with freeze := bit v 0 } }

/-- CA.SEL (R100). -/
def writeCaSel (v : W32) (s : State) : Written := if 591 < fld v 3 10 then badField 12 else .ok (caSelWrite v s)

/-- SH.CFG: a change of GUARD is judged against every committed bank, and against the Gallery while it is written
(R103, R110, R265). -/
def writeShCfg (v : W32) (s : State) : Written :=
  let c := { s.adm with g := guardOf v }
  let change := guardOf v ≠ s.guardNs
  if fld v 24 8 = 0 then badField 31
  else match (if change then rejudge s c false else none) with
    | some r => refuse .notAdmitted r
    | none =>
      if change && s.gl.writing && !galleryAdmits s c then refuse .notAdmitted 7
      else .ok { s with sh := { s.sh with cfg := v } }

/-- SH.FBWIN (R110). -/
def writeFbwin (v : W32) (s : State) : Written :=
  let c := { s.adm with j := fbMax v - fbMin v }
  if 240 < fbMax v ∨ fbMax v < fbMin v then badField 23
  else match (if v = s.sh.fbwin then none else rejudge s c false) with
    | some r => refuse .notAdmitted r
    | none => .ok { s with sh := { s.sh with fbwin := v } }

/-- A committed bank uses serve mask `j`. -/
def State.usesServe (s : State) (j : Nat) : Bool :=
  s.committedBanks.any (fun b => (List.range (s.lenOf b)).any (fun n => (s.stepAt b n).serve = j))

/-- SH.SERVE[j]: a change to a mask in use answers MODE while a schedule runs. -/
def writeServe (j : Nat) (v : W32) (s : State) : Written :=
  if v ≠ s.serve j ∧ s.sh.run.isSome = true ∧ s.usesServe j = true then refuse .mode 0
  else .ok { s with sh := { s.sh with serve := Tab.put freshServe s.sh.serve j v } }

/-- EM.CFG. -/
def writeEmCfg (v : W32) (s : State) : Written :=
  if fld v 8 8 = 0 then badField 15 else .ok { s with em := { s.em with cfg := v } }

/-- BL.CFG and BL.PCFG. -/
def writeBlCfg (v : W32) (s : State) : Written :=
  let n := fld v 16 5
  if n = 0 ∨ 16 < n then badField 20
  else if fld v 0 2 = 3 then badField 1
  else .ok { s with bl := { s.bl with cfg := v } }

def writeBlPcfg (v : W32) (s : State) : Written :=
  if fld v 24 4 = 0 then badField 27 else .ok { s with bl := { s.bl with pcfg := v } }

/-- A Gallery register, while no partition is being written (R265). -/
def writeGl (g : Gallery) (s : State) : Written := if s.gl.writing then refuse .busy 0 else .ok { s with gl := g }

/-- GL.CFG. -/
def writeGlCfg (v : W32) (s : State) : Written := if 4 < fld v 16 3 then badField 18 else writeGl { s.gl with cfg := v } s

/-- CL.TRGCFG (R242). -/
def writeTrgCfg (v : W32) (s : State) : Written := if fld v 24 8 = 0 then badField 31 else .ok (setTrgCfg v s)

/-- AV.TRCFG: a trace that starts after a change of epoch begins with an EPOCH record (R29). -/
def writeTrcfg (v : W32) (s : State) : Written :=
  let starts := bit v 31 && !bit s.av.trcfg 31 && s.av.traceEpoch
  let s := { s with av := { s.av with trcfg := v, traceEpoch := s.av.traceEpoch && !bit v 31 } }
  .ok (if starts then { s with av := s.av.push true (epochRec s.tb.epoch) } else s)

/-- AV.TRDUMP (R427). -/
def writeTrdump (v : W32) (s : State) : Written :=
  let i := fld v 0 10
  if 523 < i ∨ (s.chan i).hold = false then badField 9 else .ok (dumpQueue v s)

/-- EV.TEST (R383). -/
def evTest (v : W32) (s : State) : State := raises (((List.range 32).filter (fun n => bit v n)).map (fun n => 480 + n)) s

/-- EV_TEST. -/
def execEvTest (v : W32) (s : State) : Host.Outcome State Fault Refusal := act true (evTest v) s

/-! ## REG_WR -/

/-- The value that a masked write starts from: what the register holds, zero for a write-only one, and for CL.CFG the value
that waits for the next bus cycle. -/
def baseValue (a : Nat) (s : State) : W32 :=
  if a = 0x100004 ∨ a = 0x120104 then 0 else if a = 0xE0000 then s.cl.next.getD s.cl.cfg else regValue s a

/-- The register at `a` takes the value `v`, under its own rules; the raises of EV.TEST follow all triples (`testBits`). -/
def writeReg (a : Nat) (v : W32) (s : State) : Written :=
  if 0x20000 ≤ a ∧ a < 0x40000 then
    match chanAt (a - 0x20000) with
    | some (i, _) => writeChCfg i v s
    | none => writeF32Sel ((a - 0x20000) / 0x800) v s
  else match wordOf 0x60040 16 a, wordOf 0xD0100 17 a, wordOf 0xD0180 16 a, wordOf 0x120180 17 a, wordOf 0x120200 16 a with
  | some j, _, _, _, _ => writeServe j v s
  | _, some k, _, _, _ => writeGl { s.gl with esel := Tab.put zeroW s.gl.esel k v } s
  | _, _, some g, _, _ => writeGl { s.gl with evsel := Tab.put zeroW s.gl.evsel g v } s
  | _, _, _, some k, _ => .ok { s with av := { s.av with trch := Tab.put zeroW s.av.trch k v } }
  | _, _, _, _, some g => .ok { s with av := { s.av with trev := Tab.put zeroW s.av.trev g v } }
  | _, _, _, _, _ =>
    match a with
    | 0x10000 => writeTbCfg v s
    | 0x10004 => writeTbHold v s
    | 0x40000 => writeCaCfg v s
    | 0x4000C => writeCaSel v s
    | 0x60000 => writeShCfg v s
    | 0x60004 => writeFbwin v s
    | 0x60080 => .ok (lselWrite v s)
    | 0x70000 => writeEmCfg v s
    | 0xC0000 => writeBlCfg v s
    | 0xC0004 => writeBlPcfg v s
    | 0xD0000 => writeGlCfg v s
    | 0xD0004 => writeGl { s.gl with rcfg := v } s
    | 0xD0014 => writeGl { s.gl with pre := s.gl.pre / 2 ^ 32 * 2 ^ 32 + v.toNat } s
    | 0xD0018 => writeGl { s.gl with pre := s.gl.pre % 2 ^ 32 + v.toNat * 2 ^ 32 } s
    | 0xD001C => writeGl { s.gl with post := s.gl.post / 2 ^ 32 * 2 ^ 32 + v.toNat } s
    | 0xD0020 => writeGl { s.gl with post := s.gl.post % 2 ^ 32 + v.toNat * 2 ^ 32 } s
    | 0xE0000 => .ok (writeClnCfg v s)
    | 0xE0008 => writeTrgCfg v s
    | 0x100004 => .ok s
    | 0x120100 => writeTrcfg v s
    | 0x120104 => writeTrdump v s
    | _ => .ok s

/-- One triple (R326): the address and the mask are judged first. -/
def writeTriple (a : Nat) (v m : W32) (s : State) : Written :=
  let w := writable a
  if w = 0 then refuse .badarg 0
  else if w &&& m = 0 then refuse .badarg 8
  else writeReg a (masked (baseValue a s) v (w &&& m)) s

/-- Triples from number `t` on, in order, each on what the earlier ones leave. -/
def writeTriples (p : List Byte) : Nat → Nat → State → Written
  | 0, _, s => .ok s
  | n + 1, t, s =>
    match writeTriple (pNat p (4 + 12 * t) 4) (pWord p (8 + 12 * t)) (pWord p (12 + 12 * t)) s with
    | .ok s => writeTriples p n (t + 1) s
    | .error e => .error { e with arg := if e.status = .badarg then 4 + 12 * t + e.arg else e.arg }

/-- Bits set by the EV.TEST triples among `n` from number `t` on: all of them fall in one cycle, so a bit named twice is one
raise (R378, R457). -/
def testBits (p : List Byte) : Nat → Nat → W32
  | 0, _ => 0
  | n + 1, t =>
    (if pNat p (4 + 12 * t) 4 = 0x100004 then pWord p (8 + 12 * t) &&& pWord p (12 + 12 * t) else 0) ||| testBits p n (t + 1)

/-- REG_WR (R326): nothing is written unless every triple passes. -/
def regWrOwn (_ : Ticket) (p : List Byte) (s : State) : Reply :=
  let n := pByte p 0
  if n = 0 ∨ 100 < n then reply s (.badarg 0)
  else match writeTriples p n 0 s with
    | .ok s => reply (evTest (testBits p n 0) s) (.plain .ok)
    | .error e => reply s { status := e.status, arg := e.arg, data := [] }

/-- REG_WR. -/
def execRegWr (m : Nat) (s : State) : Host.Outcome State Fault Refusal :=
  act (m < 32) (lodge m 0x0202 anyRow (fun p => 4 ≤ p.length && p.length == 4 + 12 * pByte p 0) anyMode regWrOwn) s

end Sys2Proof.Machine
end

