-- ==== Sys2Proof/Machine/Lodge.lean ====
section
/-!
DEFINITION. Lodge.lean: the remaining commands of the Lodge: IDENT, PING (R320, R321), PREG_WR, PREG_WEAR (R327, R328),
the event commands (R351 to R353, R380, R382), SPARE_MAP (R355 to R359) and FAULT_LOG (R360).
-/
namespace Sys2Proof.Machine

/-! ## IDENT and PING -/

/-- IDENT (R320). -/
def identOwn (_ : Ticket) (_ : List Byte) (s : State) : Reply :=
  let origin := match s.th.origin with
    | some o => o.code
    | none => 0xFF
  reply s (.okWith (wBytes (regValue s 0) ++ wBytes (regValue s 4) ++ beBytes 8 Config.serial.toNat ++
    beBytes 6 (Config.mac 0).toNat ++ beBytes 6 (Config.mac 1).toNat ++
    [BitVec.ofNat 8 s.th.mode.code, BitVec.ofNat 8 origin, BitVec.ofNat 8 s.unit, 0]))

/-- IDENT. -/
def execIdent (m : Nat) (s : State) : Host.Outcome State Fault Refusal :=
  act (m < 32) (lodge m 0x0001 anyRow (fun p => p.isEmpty) anyMode identOwn) s

/-- PING (R321). -/
def pingOwn (_ : Ticket) (p : List Byte) (s : State) : Reply :=
  reply s (.okWith (s.nowBytes ++ beBytes 2 s.tb.epoch.toNat ++ [BitVec.ofNat 8 s.th.mode.code, 0] ++ p))

/-- LENGTH of PING: 0 to the path limit less 16 (R319). -/
def ping (m : Nat) (s : State) : State :=
  lodge m 0x0002 anyRow (fun p => decide (p.length + 16 ≤ pathLimit (s.box m).src.path)) anyMode pingOwn s

/-- PING. -/
def execPing (m : Nat) (s : State) : Host.Outcome State Fault Refusal := act (m < 32) (ping m) s

/-! ## Persistent words -/

/-- P.XTAL_LEARN. -/
def learnAddr : Nat := 0x01000214

/-- The words of a PREG_WR, their reserved bits zero (R11), or the field that R327 refuses. -/
def pregWords (p : List Byte) : Except Nat (List (Nat × W32)) :=
  let a := pNat p 0 4
  let n := pByte p 4
  if a % 4 ≠ 0 then .error 0
  else if n = 0 ∨ 32 < n then .error 4
  else if a < 0x01000000 ∨ 0x01007FFC < a + 4 * (n - 1) then .error 4
  else match (List.range n).find? (fun j => !pregWritable (a + 4 * j)) with
    | some j => .error (8 + 4 * j)
    | none => .ok ((List.range n).map (fun j => (a + 4 * j, pWord p (8 + 4 * j) &&& wordMask (a + 4 * j))))

/-- A word that the host has written is in use where the part keeps it live: P.XTAL_LEARN (R19). -/
def takeLearn (ws : List (Nat × W32)) (s : State) : State :=
  if ws.any (fun w => w.1 = learnAddr) then
    let v := pread s learnAddr
    { s with tb := { s.tb with learn := v, learnWritten := v } }
  else s

/-- PREG_WR (R327). -/
def pregWrOwn (_ : Ticket) (p : List Byte) (s : State) : Reply :=
  match pregWords p with
  | .error o => reply s (.badarg o)
  | .ok ws =>
    let (k, ok, s) := commits ws s
    let s := takeLearn (ws.take k) s
    if ok then reply s (.plain .ok) else reply s { status := .worn, arg := 0, data := beBytes 2 k ++ [0, 0] }

/-- PREG_WR. -/
def execPregWr (m : Nat) (s : State) : Host.Outcome State Fault Refusal :=
  act (m < 32) (lodge m 0x0203 anyRow (fun p => 8 ≤ p.length && p.length == 8 + 4 * pByte p 4) anyMode pregWrOwn) s

/-- SPARED and the wear count of the word at `a`; in the pool, of the pool word itself, which holds an address while it is the
highest tagged with it (R328, R369, R370). -/
def State.wearOf (s : State) (a : Nat) : W32 :=
  let image (spared : Bool) (w : Nat) : W32 := w32 (put (b2n spared) 31 1 + put w 0 27)
  if 0x010FC000 ≤ a then
    match s.ps.spares.find? (fun (e : Nat × Spare) => e.1 = (a - 0x010FC000) / 4) with
    | some (k, sp) => image ((holder s.ps.spares sp.tag).any (fun h => h.1 = k)) sp.cell.wear
    | none => image false 0
  else image (holder s.ps.spares a).isSome (s.ps.cell a).wear

/-- PREG_WEAR (R328). -/
def pregWearOwn (_ : Ticket) (p : List Byte) (s : State) : Reply :=
  let a := pNat p 0 4
  let n := pNat p 4 2
  if a % 4 ≠ 0 then reply s (.badarg 0)
  else if n = 0 ∨ 256 < n ∨ a < 0x01000000 ∨ 0x010FFFFC < a + 4 * (n - 1) then reply s (.badarg 4)
  else reply s (.okWith (beBytes 4 s.ps.free ++ (List.range n).flatMap (fun j => wBytes (s.wearOf (a + 4 * j)))))

/-- PREG_WEAR. -/
def execPregWear (m : Nat) (s : State) : Host.Outcome State Fault Refusal :=
  act (m < 32) (lodge m 0x0204 anyRow (fun p => p.length == 8) anyMode pregWearOwn) s

/-! ## Events -/

/-- EVT_MASK (R351, R379). -/
def evtMaskOwn (_ : Ticket) (p : List Byte) (s : State) : Reply :=
  let g := pByte p 0
  if 15 < g then reply s (.badarg 0) else
  let old := s.maskWord g
  let new := masked old (pWord p 8) (pWord p 4)
  let opened := (List.range 32).any (fun n => bit old n && !bit new n && (s.ev.get (32 * g + n)).latched)
  reply { s with
    ev := { s.ev with mask := Tab.put freshMask s.ev.mask g new }
    lk := { s.lk with notify := s.lk.notify || opened } } (.okWith (wBytes new))

/-- EVT_MASK. -/
def execEvtMask (m : Nat) (s : State) : Host.Outcome State Fault Refusal :=
  act (m < 32) (lodge m 0x0901 anyRow (fun p => p.length == 12) anyMode evtMaskOwn) s

/-- The 76 bytes of a group (R352). -/
def State.groupBytes (s : State) (g : Nat) : List Byte :=
  beBytes 4 (s.sourceWord Source.latched g) ++ beBytes 4 (s.sourceWord Source.lapped g) ++ wBytes (s.maskWord g) ++
    (List.range 32).flatMap (fun n => beBytes 2 (s.ev.get (32 * g + n)).occ.toNat)

/-- The raise counts of a group start again, with its lapped flags (R380). -/
def restartGroup (g : Nat) (s : State) : State :=
  let fresh (n : Nat) (x : Source) : Source := if n / 32 = g then { x with raises := 0 } else x
  { s with ev := { s.ev with src := Tab.remap freshSource fresh s.ev.src } }

/-- EVT_READ (R352, R380). -/
def evtReadOwn (_ : Ticket) (p : List Byte) (s : State) : Reply :=
  let g := pByte p 0
  let n := pByte p 1
  if n = 0 ∨ 16 < n ∨ 16 < g + n then reply s (.badarg 1) else
  let gs := (List.range n).map (g + ·)
  reply (gs.foldl (fun s g => restartGroup g s) s) (.okWith (gs.flatMap s.groupBytes))

/-- EVT_READ. -/
def execEvtRead (m : Nat) (s : State) : Host.Outcome State Fault Refusal :=
  act (m < 32) (lodge m 0x0902 anyRow (fun p => p.length == 4) anyMode evtReadOwn) s

/-- One entry of an EVT_CLEAR, with no raise in its cycle (R382): its outcome, and the source after it. -/
def Source.clear (x : Source) (seen : W16) : Byte × Source :=
  if !x.latched then (2, x)
  else if x.occ ≠ seen ∨ x.lapped = true then (1, x)
  else (0, { x with latched := false })

/-- The entries of an EVT_CLEAR: source and SEEN. -/
def clearEntries (p : List Byte) : List (Nat × W16) :=
  (List.range (pByte p 0)).map (fun i => (pNat p (4 + 4 * i) 2, BitVec.ofNat 16 (pNat p (6 + 4 * i) 2)))

/-- An entry of a source that entered the cycle as `x` and now is `now`: a raise of that cycle wins (R382). -/
def Source.clearIn (x now : Source) (seen : W16) : Byte × Source :=
  if now.occ = x.occ then now.clear seen else (if x.latched then 1 else 2, now)

/-- The next entry of a running EVT_CLEAR; the answer follows the last one (R382). -/
def clearNext (s : State) : State :=
  match s.lk.clearing with
  | none => s
  | some c =>
    match c.left with
    | [] => s
    | (n, seen) :: es =>
      let (b, x) := (s.ev.entered s.uptime n).clearIn (s.ev.get n) seen
      let out := c.out ++ [b]
      let run : Option Clearing := if es.isEmpty then none else some { c with left := es, out := out }
      let s := { s with ev := { s.ev with src := Tab.put freshSource s.ev.src n x }, lk := { s.lk with clearing := run } }
      if es.isEmpty then answerBadop 32 (answer c.box (.okWith out) c.start s) else s

/-- EVT_CLEAR (R353, R382): its entries follow, one per cycle, the first at once (`evtClear`). -/
def evtClearOwn (tk : Ticket) (p : List Byte) (s : State) : Reply :=
  let k := pByte p 0
  let es := clearEntries p
  if k = 0 ∨ 64 < k then reply s (.badarg 0)
  else match (List.range k).find? (fun i => 511 < pNat p (4 + 4 * i) 2) with
    | some i => reply s (.badarg (4 + 4 * i))
    | none =>
      { s := { s with lk := { s.lk with clearing := some { box := tk.mb, left := es, out := [], start := s.start } } },
        ans := none, done := none }

/-- EVT_CLEAR: the first entry is judged at the execution instant. -/
def evtClear (m : Nat) (s : State) : State :=
  let s := lodge m 0x0903 anyRow (fun p => 4 ≤ p.length && p.length == 4 + 4 * pByte p 0) anyMode evtClearOwn s
  match s.lk.clearing with
  | some c => if c.out.isEmpty then clearNext s else s
  | none => s

/-- EVT_CLEAR. -/
def execEvtClear (m : Nat) (s : State) : Host.Outcome State Fault Refusal := act (m < 32) (evtClear m) s

/-! ## SPARE_MAP -/

/-- A substitution that the host asks for: the answer carries its switch instant (R357). -/
def planHost (i x : Nat) (s : State) : Reply :=
  let tsw := switchInstant s.tb.coarse
  reply (planSwitch i x tsw none s) (.okWith (beBytes 8 tsw.toNat))

/-- SWAP (R356, R413). -/
def swapOwn (p : List Byte) (s : State) : Reply :=
  let f := pByte p 1
  let c := pByte p 2
  let k := pByte p 3
  let x := coreNo f k
  let i := chanNo f c
  if 32 < f then reply s (.badarg 1)
  else if k < chansOf f ∨ coresOf f ≤ k ∨ (s.core x).state ≠ 0 ∨ s.fl.tested = false ∨ (s.chosen f).contains x = true then reply s (.badarg 3)
  else if chansOf f ≤ c ∨ (s.chan i).en = false ∨ (s.chan i).subst.isSome = true then reply s (.badarg 2)
  else planHost i x s

/-- HOME (R356, R413). -/
def homeOwn (p : List Byte) (s : State) : Reply :=
  let f := pByte p 1
  let c := pByte p 2
  let x := coreNo f c
  let i := chanNo f c
  if 32 < f then reply s (.badarg 1)
  else if chansOf f ≤ c ∨ (s.core x).state = 3 ∨ s.fl.tested = false ∨ (s.chan i).core = c ∨ (s.chan i).subst.isSome = true then
    reply s (.badarg 2)
  else planHost i x s

/-- RETIRE (R356, R413). -/
def retireOwn (p : List Byte) (s : State) : Reply :=
  let f := pByte p 1
  let k := pByte p 3
  let x := coreNo f k
  if 32 < f then reply s (.badarg 1)
  else if coresOf f ≤ k ∨ (s.core x).state = 1 ∨ (s.core x).state = 2 ∨ (s.chosen f).contains x = true then reply s (.badarg 3)
  else if (s.core x).state = 3 then reply s (.plain .ok)
  else reply (retire x s) (.plain .ok)

/-- MEMRET (R278, R356); P.GL_RETIRE.OUT lasts until MEMCLR (R278). -/
def memretOwn (p : List Byte) (s : State) : Reply :=
  let c := pByte p 1
  if 7 < c ∨ s.gl.retired.isSome = true then reply s (.badarg 1)
  else
    let (ok, s) := commit retireAddr (retireWord c s) s
    if ok then reply (leaveRotation c s) (.plain .ok) else reply s (.plain .worn)

/-- MEMCLR (R356, R358): P.GL_RETIRE clears, and the second memory fault stops being outstanding. -/
def memclrOwn (s : State) : Reply :=
  if s.gl.retired.isNone ∧ bit (pread s retireAddr) 4 = false then reply s (.badarg 0)
  else
    let (ok, s) := commit retireAddr 0 s
    if !ok then reply s (.plain .worn)
    else reply ((List.range 8).foldl (fun s c => repair 0x0602 c 0 s) s) (.plain .ok)

/-- SPARE_MAP (R355). -/
def spareOwn (_ : Ticket) (p : List Byte) (s : State) : Reply :=
  match pByte p 0 with
  | 0 => swapOwn p s
  | 1 => homeOwn p s
  | 2 => retireOwn p s
  | 3 => memretOwn p s
  | 4 => memclrOwn s
  | _ => reply s (.badarg 0)

/-- Modes of the operations (R359). -/
def spareMode (s : State) (p : List Byte) : Bool :=
  match pByte p 0 with
  | 0 | 1 | 2 => s.th.mode != .dormant
  | 4 => deepMode s
  | _ => true

/-- A row of SPARE_MAP; undefined operations and short payloads belong to SWAP. -/
def spareRow (m : Nat) (row : List Byte → Bool) (s : State) : State :=
  lodge m 0x0B01 row (subLen 5 8) spareMode spareOwn s

/-- The operation byte of a SPARE_MAP is `n`. -/
def opIs (n : Nat) (p : List Byte) : Bool := !p.isEmpty && pByte p 0 == n

/-- SPARE_MAP_SWAP. -/
def execSpareMapSwap (m : Nat) (s : State) : Host.Outcome State Fault Refusal :=
  act (m < 32) (spareRow m (fun p => !opIs 1 p && !opIs 2 p && !opIs 3 p && !opIs 4 p)) s

/-- SPARE_MAP_HOME. -/
def execSpareMapHome (m : Nat) (s : State) : Host.Outcome State Fault Refusal := act (m < 32) (spareRow m (opIs 1)) s

/-- SPARE_MAP_RETIRE. -/
def execSpareMapRetire (m : Nat) (s : State) : Host.Outcome State Fault Refusal := act (m < 32) (spareRow m (opIs 2)) s

/-- SPARE_MAP MEMRET. -/
def execMemret (m : Nat) (s : State) : Host.Outcome State Fault Refusal := act (m < 32) (spareRow m (opIs 3)) s

/-- SPARE_MAP MEMCLR. -/
def execMemclr (m : Nat) (s : State) : Host.Outcome State Fault Refusal := act (m < 32) (spareRow m (opIs 4)) s

/-! ## FAULT_LOG -/

/-- FAULT_LOG (R360): the entries from the first index on that exist. -/
def faultLogOwn (reads : Reads) (_ : Ticket) (p : List Byte) (s : State) : Reply :=
  let n := pByte p 4
  let next := s.av.logNext.toNat
  let oldest := next - 2048
  let back := signed 32 (next + 2 ^ 32 - pNat p 0 4)
  if n = 0 ∨ 64 < n then reply s (.badarg 4)
  else if Int.ofNat (next - oldest) < back then reply s (.plain .stale)
  else
    let k := min n back.toNat
    let addrs (j : Nat) : List Nat := (List.range 4).map (fun w => logAddr (pNat p 0 4 + j) + 4 * w)
    let s := checkReads ((List.range k).flatMap addrs) (strike reads s)
    let entry (j : Nat) : List Byte := (addrs j).flatMap (fun a => wBytes (pread s a))
    reply s (.okWith (beBytes 4 next ++ beBytes 4 oldest ++ beBytes 4 k ++ (List.range k).flatMap entry))

/-- FAULT_LOG. -/
def execFaultLog (m : Nat) (reads : Reads) (s : State) : Host.Outcome State Fault Refusal :=
  act (m < 32) (lodge m 0x0B02 anyRow (fun p => p.length == 8) anyMode (faultLogOwn reads)) s

end Sys2Proof.Machine
end

