-- ==== Sys2Proof/Machine/Restart.lean ====
section
/-!
DEFINITION. Restart.lean: the restart and the halt of the Lodge (R301, R419 to R421).
-/
namespace Sys2Proof.Machine

/-- The answer after a restart or at a halt (R301, R421). -/
def faulted : Answer := { status := .fault, arg := 0xFFFF, data := [] }

/-- The state that a meaning leads to. -/
def nextOf (s : State) : Host.Outcome State Fault Refusal → State
  | .next t => t
  | _ => s

/-- What the command of mailbox `m` would lead to, for the commands that write persistent words. -/
def runCommitting (m : Nat) (s : State) : State :=
  match (s.box m).op with
  | 0x0003 => nextOf s (execLinkCfg m s)
  | 0x0203 => nextOf s (execPregWr m s)
  | 0x0301 => nextOf s (execTbCfg m s)
  | 0x0402 => nextOf s (execSkewSet m s)
  | 0x0505 => nextOf (nextOf s (execLineMap m s)) (execClearfail m (nextOf s (execLineMap m s)))
  | 0x0807 => nextOf s (execClnCfg m s)
  | 0x0B01 => nextOf (nextOf s (execMemret m s)) (execMemclr m (nextOf s (execMemret m s)))
  | _ => s

/-- The persistent words that a command writes, in the order of its rule. -/
def wordsOf (op : Nat) (p : List Byte) (s : State) : List (Nat × W32) :=
  match op with
  | 0x0003 => if (pByte p 0).testBit 0 then linkWords p (linkImage p s.linkAhead) else []
  | 0x0203 =>
    match pregWords p with
    | .ok ws => ws
    | .error _ => []
  | 0x0301 => if (pByte p 0).testBit 2 then [(0x01000200, pWord p 4 &&& tbCfgMask)] else []
  | 0x0402 => (List.range (pByte p 2)).map (fun j => (0x01001000 + 4 * (pNat p 0 2 + j), w32 (pNat p (4 + 2 * j) 2)))
  | 0x0505 =>
    if pByte p 0 = 0 then (mapEntries p).mapIdx (fun j x => (0x01000800 + 4 * (pByte p 1 + j), w32 x))
    else [(failAddr (pNat p 2 2), pread s (failAddr (pNat p 2 2)) &&& ~~~(failBit (pNat p 2 2)))]
  | 0x0807 => if pByte p 0 = 0 ∧ (pByte p 1).testBit 0 = true then [(0x01000240, pWord p 4 &&& 0xFFFFFF1F)] else []
  | 0x0B01 => if pByte p 0 = 3 then [(retireAddr, retireWord (pByte p 1) s)] else if pByte p 0 = 4 then [(retireAddr, 0)] else []
  | _ => []

/-- The command of mailbox `m` passes its checks: it answers OK, or comes to write a word that is worn (R456). -/
def wouldRun (m : Nat) (s : State) : Bool :=
  match ((runCommitting m s).box m).answer with
  | some a => a.status == .ok || a.status == .worn
  | none => false

/-- A command is cut short (R301): the first `k` words that it was writing hold their new values; nothing else of it takes
effect. -/
def cutShort (m k : Nat) (s : State) : State :=
  if s.waits m && wouldRun m s then
    let b := s.box m
    let ws := (wordsOf b.op b.payload s).take k
    takeLearn ws (commits ws s).2.2
  else s

/-- The mailbox whose command the Lodge is executing: one still cut short by a restart that is running, a MARK that waits for
its slot, an EVT_CLEAR that is not through, or the next one taken. -/
def State.executing (s : State) (cut : Option Nat) : Option Nat :=
  if s.av.restart then s.av.cut
  else match s.cl.markAsk, s.lk.clearing, cut with
    | some (m, _), _, _ => some m
    | none, some c, _ => some c.box
    | none, none, some m => if s.nextBox = some m then some m else none
    | none, none, none => none

/-- The words of the command of mailbox `m` that had committed as it was cut short, where the Lodge was taking commands. -/
def cutWords (m : Option Nat) (k : Nat) (s : State) : State :=
  match m with
  | some m => if s.lodgeRuns then cutShort m k s else s
  | none => s

/-- SCHED_LOAD admission is cancelled (R420). -/
def cancelAdmission (s : State) : State :=
  match s.sh.admission with
  | some (_, tk) => complete tk faulted { s with sh := { s.sh with admission := none, stby := .loading } }
  | none => s

/-- A running ENV_LOAD is cancelled; its first `k` words hold their new values (R420). -/
def cancelEnvLoad (k : Nat) (s : State) : State :=
  match s.bl.envLoad with
  | some e =>
    let s := (commits (e.words.take k) s).2.2
    complete e.tk faulted { s with bl := { s.bl with envLoad := none, sumBusy := true } }
  | none => s

/-- The commands of the deferred operations that are pending, but for STREAM. -/
def State.deferred (s : State) : List Ticket :=
  s.th.pendTk.toList ++ (s.tb.pend.map EpochPend.tk).toList ++ s.ca.calTk.toList ++
    (s.sh.trigStart.map (fun (t : Nat × Ticket) => t.2)).toList ++ (s.ar.snapArm.map SnapArm.tk).toList ++ s.cl.measTk.toList

/-- The Lodge halts (R421): what it was doing, and every command not yet taken, is answered FAULT; so is every deferred
operation but a STREAM. -/
def haltLodge (envWords : Nat) (s : State) : State :=
  let s := detect 0x0402 0 8 true s
  let s := cancelEnvLoad envWords (cancelAdmission s)
  let s := ((List.range 32).filter s.waits).foldl (fun s m => respond m faulted s) s
  let s := s.deferred.foldl (fun s tk => completeNow tk faulted s) s
  let s := s.lk.due.foldl (fun s (d : Ticket × Answer) => completeNow d.1 d.2 s) s
  { s with
    av := { s.av with halt := true, restart := false, cut := none }, cl := { s.cl with markAsk := none }
    lk := { s.lk with due := [], clearing := none } }

/-- The Lodge restarts (R419 step 1, R420). -/
def restartLodge (cut : Option Nat) (envWords : Nat) (s : State) : State :=
  let s := count 240 1 (raise 195 (detect 0x0401 0 7 true s))
  let s := { s with av := { s.av with restart := true, restarts := s.av.restarts + 1, cut := cut } }
  cancelEnvLoad envWords (cancelAdmission s)

/-- LOCKSTEP_MISMATCH (R419, R421): the third within 60 s halts the Lodge. One during a restart counts too, and the restart
begins again. -/
def lockstepMismatch (cut : Option Nat) (words envWords : Nat) (s : State) : State :=
  if s.av.halt then s else
  let times := s.uptime :: s.av.mismatches.filter (fun t => s.uptime ≤ t + 60000000000)
  let cut := s.executing cut
  let s := cutWords cut words s
  let s := { s with av := { s.av with mismatches := times } }
  if 3 ≤ times.length then haltLodge envWords s else restartLodge cut envWords s

/-- LOCKSTEP_MISMATCH. -/
def execLockstepMismatch (cut : Option Nat) (words envWords : Nat) (s : State) : Host.Outcome State Fault Refusal :=
  act (cut.all (fun m => m < 32)) (lockstepMismatch cut words envWords) s

/-- LODGE_RESTART_END (R301, R419 step 4, R420). -/
def lodgeRestartEnd (s : State) : State :=
  if !s.av.restart then s else
  let cut := s.av.cut
  let due := s.lk.due
  let s := repair 0x0401 0 7 { s with av := { s.av with restart := false, cut := none }, lk := { s.lk with due := [] } }
  let s := match cut with
    | some m => respond m faulted { s with cl := { s.cl with markAsk := none }, lk := { s.lk with clearing := none } }
    | none => s
  answerBadop 32 (due.foldl (fun s (d : Ticket × Answer) => completeNow d.1 d.2 s) s)

/-- LODGE_RESTART_END. -/
def execLodgeRestartEnd (s : State) : Host.Outcome State Fault Refusal := act true lodgeRestartEnd s

end Sys2Proof.Machine
end

