-- ==== Sys2Proof/Machine/Power.lean ====
section
/-!
DEFINITION. Power.lean: resets (R374, R397, R445) and the start-up sequence (R362, R366, R394, R409, R412).
-/
namespace Sys2Proof.Machine

/-! ## Reset -/

/-- The persistent store through a reset: its words stay; its registers are cleared. -/
def PStore.keep (p : PStore) : PStore :=
  { State.reset.ps with words := p.words, spares := p.spares, stuck := p.stuck, upset := p.upset }

/-- The pins in reset (R432): no memory line is driven, GM_RESET_N is low, and TDO is high impedance, the test access port being
back in Test-Logic-Reset; the input pins keep their levels. -/
def Pins.reset (p : Pins) : Pins :=
  { p with gmResetN := false, gmLines := false, tap := .testLogicReset, ir := 1, irShift := [], dr := [], tdo := [] }

/-- Everything that a reset clears (R362, R445); the levels of the input pins, the persistent store, the identity block and
what BL.ENVSUM shows of the envelope stay. -/
def volatileReset (s : State) : State :=
  { State.reset with
    pending := s.pending, id := s.id, ps := s.ps.keep, pins := s.pins.reset
    bl := { State.reset.bl with envSum := s.bl.envSum } }

/-- Persistent writes as a reset finds them (R374, R397): the word in progress completes, and of a command or ENV_LOAD that is
cut short the words before it are new. -/
def resetWords (c : Cut) (s : State) : State :=
  if s.live then
    let s := cutWords (s.executing c.box) c.words s
    match s.bl.envLoad with
    | some e => (commits (e.words.take c.envWords) s).2.2
    | none => s
  else s

/-- PWRGOOD_FALL. -/
def pwrgoodFall (c : Cut) (s : State) : State :=
  if s.pins.pwrgood then
    let s := volatileReset (resetWords c s)
    { s with pins := { s.pins with pwrgood := false }, id := { s.id with powerUp := true } }
  else s

/-- PWRGOOD_FALL. -/
def execPwrgoodFall (c : Cut) (s : State) : Host.Outcome State Fault Refusal := actAlways true (pwrgoodFall c) s

/-- RST_N_ASSERT. -/
def rstNAssert (c : Cut) (s : State) : State :=
  if !s.pins.rstN then s
  else if s.pins.pwrgood then
    let s := volatileReset (resetWords c s)
    { s with pins := { s.pins with rstN := false }, id := { s.id with powerUp := false } }
  else { s with pins := { s.pins with rstN := false } }

/-- RST_N_ASSERT. -/
def execRstNAssert (c : Cut) (s : State) : Host.Outcome State Fault Refusal := actAlways true (rstNAssert c) s

/-! ## Registers from their words (R362) -/

/-- TB.CFG and TB.XTAL_LEARN (R40, R19). A boot XSENS that names a sensor not fitted leaves XSENSOK 1 (DESIGN CHOICE,
log 79; R20). -/
def loadTb (s : State) : State :=
  let learn := pread s learnAddr
  { s with tb := { s.tb with cfg := pread s 0x01000200 &&& tbCfgMask, learn := learn, learnWritten := learn } }

/-- EV.MASK. -/
def loadMasks (s : State) : State :=
  { s with ev := { s.ev with
    mask := (List.range 16).foldl (fun t g => Tab.put freshMask t g (pread s (0x01000280 + 4 * g))) [] } }

/-- The settings of a host port. -/
def loadPort (s : State) (p : Nat) : PortRegs :=
  let o := 0x01000320 + 0x20 * p
  { pcfg := pread s o &&& lkPcfgMask, ip := pread s (o + 4), mask := pread s (o + 8), dest := pread s (o + 12)
    dmacLo := pread s (o + 16), dmacHi := pread s (o + 20) &&& 0xFFFF }

/-- LK.CFG, LK.HOST and the host ports. -/
def loadLink (s : State) : State :=
  { s with lk := { s.lk with regs := { s.lk.regs with
    cfg := pread s 0x01000300 &&& lkCfgMask
    hosts := (List.range 4).foldl (fun t h => Tab.put zeroW t h (pread s (0x01000310 + 4 * h))) []
    ports := [0, 1].foldl (fun t p => Tab.put freshPortRegs t p (loadPort s p)) [] } } }

/-- CL.CFG; the boot word 0 gives HTOL = 0x40. -/
def loadCln (s : State) : State :=
  let w := pread s 0x01000240 &&& 0xFFFFFF1F
  { s with cl := { s.cl with cfg := if w = 0 then 0x40000000 else w } }

/-- TH.LIM and the boot words of the sensors. -/
def loadTherm (s : State) : State :=
  let s := { s with th := { s.th with
    lim := (List.range 7).foldl (fun t j => Tab.put freshLim t (j + 1) ((pread s (0x01000600 + 4 * j)).truncate 16)) [] } }
  (List.range 16).foldl (fun s k => updSens k (fun x => { x with boot := preadMapped s (0x01000640 + 4 * k) }) s) s

/-- The failed marks of the lines (R158). -/
def loadLines (s : State) : State :=
  ((List.range 272).filter (fun x => bit (pread s (failAddr x)) (x % 32))).foldl
    (fun s x => updLine x (fun l => { l with state := 3 }) s) s

/-- Retired cores (R412). -/
def loadCores (s : State) : State :=
  ((List.range 592).filter (fun x => bit (pread s (coreRetAddr x)) (x % 32))).foldl
    (fun s x => updCore x (fun c => { c with state := 3 }) s) s

/-- The retired memory channel, and the Gallery out of service without training (R278). -/
def loadGallery (s : State) : State :=
  let w := pread s retireAddr
  let s := { s with gl := { s.gl with retired := if bit w 3 then some (fld w 0 3) else none } }
  if bit w 4 then outOfService s else s

/-- The next index of the fault log (R422). -/
def loadLog (s : State) : State := { s with av := { s.av with logNext := pread s logNextAddr } }

/-- Every register whose reset value is a persistent word. -/
def loadWords (s : State) : State :=
  loadGallery (loadLog (loadCores (loadLines (loadTherm (loadCln (loadLink (loadMasks (loadTb s))))))))

/-! ## The factory check (R366) -/

/-- The words that the factory check sums. -/
def factoryAddrs : List Nat := (List.range 57343).map (fun k => 0x01008000 + 4 * k)

/-- The factory check: ID.FACTSUM and FACTOK, and on a mismatch event 117 and fault 0x0702. -/
def factoryCheck (s : State) : State :=
  let sum := crc32 (factoryAddrs.flatMap (fun a => wBytes (pread s a)))
  let ok := (0x0103FFFC :: factoryAddrs).all (fun a => !(s.ps.cell a).unreadable) && sum == pread s 0x0103FFFC
  let s := { s with id := { s.id with factOk := ok, factSum := sum } }
  if ok then s else detect 0x0702 0 0 true (raise 117 s)

/-! ## The end of start-up -/

/-- Retired core `x` still serves a channel of a flight without spares. -/
def State.coreStuck (s : State) (x : Nat) : Bool :=
  (s.core x).state == 3 && (s.servedBy x).isSome && s.sparesOf (coreFlight x) == 0

/-- Mapped line `x` is failed and has no ready spare. -/
def State.lineStuck (s : State) (x : Nat) : Bool :=
  (s.line x).state == 3 && (s.logical x).isSome && (s.lineSpare x).isNone

/-- The condition of a fault persists through reset (R409). -/
def State.persists (s : State) (id : FaultId) : Bool :=
  match id.code with
  | 0x0101 | 0x0102 => s.sparesOf (coreFlight id.unit) == 0
  | 0x0301 => s.lineStuck id.unit
  | 0x0602 => bit (pread s retireAddr) 4
  | 0x0702 => !s.id.factOk
  | _ => false

/-- The faults of units that persist and are not counted yet: lines, cores, and a second memory channel. -/
def State.uncounted (s : State) : List Found :=
  let found (code unit action : Nat) : Found := { code := code, unit := unit, action := action, stays := true, part := 0 }
  (((List.range 272).filter s.lineStuck).map (fun x => found 0x0301 x 5) ++
    ((List.range 592).filter (fun x => s.coreStuck x && !s.outstanding 0x0101 x && !s.outstanding 0x0102 x)).map
      (fun x => found (if Config.retiredBySelfTest x then 0x0102 else 0x0101) x 1) ++
    (if bit (pread s retireAddr) 4 && !s.av.outst.any (fun id => id.code == 0x0602) then
      [found 0x0602 Config.secondChannel.toNat 0] else [])).filter (fun f => !s.av.outst.contains f.id)

/-- The count of outstanding faults begins at zero, and the conditions that persist through reset are counted again (R409): one
that start-up detected keeps its entry, the others are found now. -/
def recount (s : State) : State :=
  let s := settle { s with av := { s.av with
    outst := s.av.outst.filter s.persists, found := s.av.found.filter (fun x => s.persists x.1) } }
  s.uncounted.foldl (fun s f => detects [f] s) s

/-- START_UP_END (R394 step 12): the fill and the training have ended. -/
def startUpEnd (s : State) : State :=
  if s.th.startup && s.fl.tested && s.ca.fillDone && !s.ca.fill && (s.gl.trained || s.gl.state == .out) then
    raise 0 (recount { s with th := { s.th with startup := false } })
  else s

/-- START_UP_END. -/
def execStartUpEnd (s : State) : Host.Outcome State Fault Refusal := act true startUpEnd s

/-! ## Start-up (R394) -/

/-- Step 5 and what follows it: the flight self-test has ended, and memory training begins, which releases GM_RESET_N and drives the memory
lines but in a Gallery out of service (R278, R432, R443); the fill begins, and the drivers get their commands. -/
def finishSelfTest (test : SelfTest) (s : State) : State :=
  if s.fl.tested then s
  else
    startDrivers (surveyStart (selfTest test { s with
      fl := { s.fl with tested := true }, pins := { s.pins with
        gmResetN := s.gl.state != .out, gmLines := s.gl.state != .out } }))

/-- The words that steps 3 and 4 of R394 read: every word that a register is loaded from, and the factory area. -/
def startUpReads (a : Nat) : Bool := (a < 0x01002000 || (0x01008000 ≤ a && a < 0x01040000)) && mapped a

/-- The errors that stand in the words that start-up reads are found (R372), each once. -/
def readErrors (reads : Reads) (s : State) : State :=
  let s := strike reads s
  checkReads ((s.ps.upset.map Prod.fst).eraseDups.filter startUpReads) s

/-- Steps 1 to 5 of R394. -/
def startUp (test : SelfTest) (reads : Reads) (s : State) : State :=
  let s := loadWords (readErrors reads (loadMasks (volatileReset s)))
  let s := { s with bl := { s.bl with sumBusy := true } }
  finishSelfTest test (factoryCheck s)

/-- POWER_UP: a rise of PWRGOOD, or a release of RST_N; start-up begins at the later one (R445). -/
def powerUp (byPwrgood : Bool) (test : SelfTest) (reads : Reads) (s : State) : State :=
  if s.live then s else
  let s := { s with pins := if byPwrgood then { s.pins with pwrgood := true } else { s.pins with rstN := true } }
  if s.live then startUp test reads s else s

/-- POWER_UP. -/
def execPowerUp (byPwrgood : Bool) (test : SelfTest) (reads : Reads) (s : State) : Host.Outcome State Fault Refusal :=
  actAlways test.wellFormed (powerUp byPwrgood test reads) s

end Sys2Proof.Machine
end

