-- ==== Sys2Proof/Machine/Tick.lean ====
section
/-!
DEFINITION. Tick.lean: what a step does when no command waits: one TBCLK cycle (DESIGN CHOICE, log 4).
-/
namespace Sys2Proof.Machine

/-- One TBCLK cycle of a part that is not held in reset. A flight self-test that is still due ends in it, with no fault
(a start-up with faults is POWER_UP with its operand), a running EVT_CLEAR judges its next entry (R382), and a LIMP entry or
return that has waited for a command takes effect (R316). -/
def tick (s : State) : State :=
  if s.live then
    let t := finishSelfTest { badCores := [], badUnits := [] } (tbCycle s)
    lateChange (if s.av.restart then t else clearNext t)
  else s

/-- A step of an idle part. The queue of commands stays as it is. -/
def idle (s : State) : State := { tick s with pending := s.pending }

end Sys2Proof.Machine
end

