-- ==== Sys2Proof/Machine/Dispatch.lean ====
section
/-!
DEFINITION. Dispatch.lean: the meaning of every command.
-/
namespace Sys2Proof.Machine

def exec (i : Instr) (s : State) : Host.Outcome State Fault Refusal :=
  match i with
  | .powerUp byPwrgood test reads => Sys2Proof.Machine.execPowerUp byPwrgood test reads s
  | .pwrgoodFall cut => Sys2Proof.Machine.execPwrgoodFall cut s
  | .rstNAssert cut => Sys2Proof.Machine.execRstNAssert cut s
  | .memoryTrainingEnd r => Sys2Proof.Machine.execMemoryTrainingEnd r s
  | .startUpEnd => Sys2Proof.Machine.execStartUpEnd s
  | .refinAbsence => Sys2Proof.Machine.execRefinAbsence s
  | .frequencyGate inWindow ofs y => Sys2Proof.Machine.execFrequencyGate inWindow ofs y s
  | .phaseLoss => Sys2Proof.Machine.execPhaseLoss s
  | .qualificationEnd => Sys2Proof.Machine.execQualificationEnd s
  | .acquireComplete => Sys2Proof.Machine.execAcquireComplete s
  | .spanStart => Sys2Proof.Machine.execSpanStart s
  | .xtalUpdate => Sys2Proof.Machine.execXtalUpdate s
  | .holdLimit => Sys2Proof.Machine.execHoldLimit s
  | .learnUpdate => Sys2Proof.Machine.execLearnUpdate s
  | .replicaCompare upsets => Sys2Proof.Machine.execReplicaCompare upsets s
  | .coarseWrap => Sys2Proof.Machine.execCoarseWrap s
  | .ppsEdge rising => Sys2Proof.Machine.execPpsEdge rising s
  | .ppsMissing => Sys2Proof.Machine.execPpsMissing s
  | .timeMarker => Sys2Proof.Machine.execTimeMarker s
  | .epochSetApply => Sys2Proof.Machine.execEpochSetApply s
  | .epochSetTimeout => Sys2Proof.Machine.execEpochSetTimeout s
  | .edgeArrival n t rising cn code => Sys2Proof.Machine.execEdgeArrival n t rising cn code s
  | .conversionDone core conv => Sys2Proof.Machine.execConversionDone core conv s
  | .armedHandover core => Sys2Proof.Machine.execArmedHandover core s
  | .calibrationEdge core code => Sys2Proof.Machine.execCalibrationEdge core code s
  | .stampPush ch => Sys2Proof.Machine.execStampPush ch s
  | .closeWordPresent tag => Sys2Proof.Machine.execCloseWordPresent tag s
  | .closeWordRetry ch => Sys2Proof.Machine.execCloseWordRetry ch s
  | .queuePop ch => Sys2Proof.Machine.execQueuePop ch s
  | .coreSwitch ch => Sys2Proof.Machine.execCoreSwitch ch s
  | .calibrationPeriodEnd trims => Sys2Proof.Machine.execCalibrationPeriodEnd trims s
  | .tableSwitch flight => Sys2Proof.Machine.execTableSwitch flight s
  | .calFillEnd r => Sys2Proof.Machine.execCalFillEnd r s
  | .entryAllocate => Sys2Proof.Machine.execEntryAllocate s
  | .effectivePowerStep => Sys2Proof.Machine.execEffectivePowerStep s
  | .selectWord => Sys2Proof.Machine.execSelectWord s
  | .shotPosition => Sys2Proof.Machine.execShotPosition s
  | .voidDecision tag => Sys2Proof.Machine.execVoidDecision tag s
  | .stampAssignment ch => Sys2Proof.Machine.execStampAssignment ch s
  | .dwellEndToken ch => Sys2Proof.Machine.execDwellEndToken ch s
  | .incrementIssue ch => Sys2Proof.Machine.execIncrementIssue ch s
  | .bufferSwap ch => Sys2Proof.Machine.execBufferSwap ch s
  | .readoutPassEnd ch => Sys2Proof.Machine.execReadoutPassEnd ch s
  | .dwellJoin => Sys2Proof.Machine.execDwellJoin s
  | .extractionPhase1 ch => Sys2Proof.Machine.execExtractionPhase1 ch s
  | .extractionPhase2 ch => Sys2Proof.Machine.execExtractionPhase2 ch s
  | .laneLate flight => Sys2Proof.Machine.execLaneLate flight s
  | .dwellDecision => Sys2Proof.Machine.execDwellDecision s
  | .clusterClose flight outside => Sys2Proof.Machine.execClusterClose flight outside s
  | .acquisitionIntervalEnd flight => Sys2Proof.Machine.execAcquisitionIntervalEnd flight s
  | .trackerMiss flight tracker => Sys2Proof.Machine.execTrackerMiss flight tracker s
  | .gateBoundary slot => Sys2Proof.Machine.execGateBoundary slot s
  | .gateResult slot => Sys2Proof.Machine.execGateResult slot s
  | .intervalJudge slot => Sys2Proof.Machine.execIntervalJudge slot s
  | .slotRunStart slot => Sys2Proof.Machine.execSlotRunStart slot s
  | .syncPulse n => Sys2Proof.Machine.execSyncPulse n s
  | .cameraLoopUpdate n => Sys2Proof.Machine.execCameraLoopUpdate n s
  | .linkCycle => Sys2Proof.Machine.execLinkCycle s
  | .statusWord inTime w => Sys2Proof.Machine.execStatusWord inTime w s
  | .statusWordDeadline => Sys2Proof.Machine.execStatusWordDeadline s
  | .eyeBudgetInterval => Sys2Proof.Machine.execEyeBudgetInterval s
  | .diagDue pline => Sys2Proof.Machine.execDiagDue pline s
  | .voidRun pline => Sys2Proof.Machine.execVoidRun pline s
  | .fbPathCheck drv => Sys2Proof.Machine.execFbPathCheck drv s
  | .testPass => Sys2Proof.Machine.execTestPass s
  | .testPassReport drv => Sys2Proof.Machine.execTestPassReport drv s
  | .trginTrigger high time => Sys2Proof.Machine.execTrginTrigger high time s
  | .triggerDelivery => Sys2Proof.Machine.execTriggerDelivery s
  | .trgoutEnd => Sys2Proof.Machine.execTrgoutEnd s
  | .beacon => Sys2Proof.Machine.execBeacon s
  | .unitSlot => Sys2Proof.Machine.execUnitSlot s
  | .beaconReceive w => Sys2Proof.Machine.execBeaconReceive w s
  | .trigWordReceive w => Sys2Proof.Machine.execTrigWordReceive w s
  | .roundWordReceive w => Sys2Proof.Machine.execRoundWordReceive w s
  | .markWordReceive w => Sys2Proof.Machine.execMarkWordReceive w s
  | .beaconLoss => Sys2Proof.Machine.execBeaconLoss s
  | .roundStart => Sys2Proof.Machine.execRoundStart s
  | .roundUpdate => Sys2Proof.Machine.execRoundUpdate s
  | .envsumDone => Sys2Proof.Machine.execEnvsumDone s
  | .galleryRecordWrite => Sys2Proof.Machine.execGalleryRecordWrite s
  | .evtRecordSlot => Sys2Proof.Machine.execEvtRecordSlot s
  | .epochHoldRelease => Sys2Proof.Machine.execEpochHoldRelease s
  | .captureReady => Sys2Proof.Machine.execCaptureReady s
  | .captureDone => Sys2Proof.Machine.execCaptureDone s
  | .memoryCheck c ok => Sys2Proof.Machine.execMemoryCheck c ok s
  | .mr4Read hot => Sys2Proof.Machine.execMr4Read hot s
  | .refresh => Sys2Proof.Machine.execRefresh s
  | .capReadStreamEnd => Sys2Proof.Machine.execCapReadStreamEnd s
  | .frameReceive port f => Sys2Proof.Machine.execFrameReceive port f s
  | .arpReceive port a => Sys2Proof.Machine.execArpReceive port a s
  | .icmpEcho port e => Sys2Proof.Machine.execIcmpEcho port e s
  | .arpTimer port => Sys2Proof.Machine.execArpTimer port s
  | .arpUnresolved port => Sys2Proof.Machine.execArpUnresolved port s
  | .frameTransmit path => Sys2Proof.Machine.execFrameTransmit path s
  | .notificationFrame => Sys2Proof.Machine.execNotificationFrame s
  | .phyLinkUp port => Sys2Proof.Machine.execPhyLinkUp port s
  | .portUp port => Sys2Proof.Machine.execPortUp port s
  | .phyLinkDown port => Sys2Proof.Machine.execPhyLinkDown port s
  | .portDown port => Sys2Proof.Machine.execPortDown port s
  | .keepaliveExpiry port => Sys2Proof.Machine.execKeepaliveExpiry port s
  | .spiWrite bytes => Sys2Proof.Machine.execSpiWrite bytes s
  | .spiRead clocked => Sys2Proof.Machine.execSpiRead clocked s
  | .spiStatus => Sys2Proof.Machine.execSpiStatus s
  | .spiOther instr clocked => Sys2Proof.Machine.execSpiOther instr clocked s
  | .lockstepMismatch cut words envWords => Sys2Proof.Machine.execLockstepMismatch cut words envWords s
  | .lodgeRestartEnd => Sys2Proof.Machine.execLodgeRestartEnd s
  | .scrubRead r => Sys2Proof.Machine.execScrubRead r s
  | .correctionRewrite => Sys2Proof.Machine.execCorrectionRewrite s
  | .limpEntry => Sys2Proof.Machine.execLimpEntry s
  | .limpReturn => Sys2Proof.Machine.execLimpReturn s
  | .limpPendClear => Sys2Proof.Machine.execLimpPendClear s
  | .modeSetComplete test => Sys2Proof.Machine.execModeSetComplete test s
  | .sensorConversion k c => Sys2Proof.Machine.execSensorConversion k c s
  | .throttleEvaluation => Sys2Proof.Machine.execThrottleEvaluation s
  | .flrst flight => Sys2Proof.Machine.execFlrst flight s
  | .flrstEnd flight => Sys2Proof.Machine.execFlrstEnd flight s
  | .faultLogEntry => Sys2Proof.Machine.execFaultLogEntry s
  | .traceRecordSend => Sys2Proof.Machine.execTraceRecordSend s
  | .traceTimeRecord => Sys2Proof.Machine.execTraceTimeRecord s
  | .traceCounterBurst => Sys2Proof.Machine.execTraceCounterBurst s
  | .jtagIdcode clocks => Sys2Proof.Machine.execJtagIdcode clocks s
  | .jtagSample pins clocks => Sys2Proof.Machine.execJtagSample pins clocks s
  | .jtagBypass code clocks => Sys2Proof.Machine.execJtagBypass code clocks s
  | .admissionComplete => Sys2Proof.Machine.execAdmissionComplete s
  | .histSnapArmTimeout => Sys2Proof.Machine.execHistSnapArmTimeout s
  | .envLoadComplete => Sys2Proof.Machine.execEnvLoadComplete s
  | .clnMeasureTimeout => Sys2Proof.Machine.execClnMeasureTimeout s
  | .ident m => Sys2Proof.Machine.execIdent m s
  | .ping m => Sys2Proof.Machine.execPing m s
  | .linkCfg m => Sys2Proof.Machine.execLinkCfg m s
  | .modeSet m => Sys2Proof.Machine.execModeSet m s
  | .regRd m reads => Sys2Proof.Machine.execRegRd m reads s
  | .regWr m => Sys2Proof.Machine.execRegWr m s
  | .tbNowLoRead => Sys2Proof.Machine.execTbNowLoRead s
  | .flEcntLoRead ch => Sys2Proof.Machine.execFlEcntLoRead ch s
  | .shShotnumLoRead => Sys2Proof.Machine.execShShotnumLoRead s
  | .msSgatecntRead slot => Sys2Proof.Machine.execMsSgatecntRead slot s
  | .glWcountLoRead => Sys2Proof.Machine.execGlWcountLoRead s
  | .avLcntRead => Sys2Proof.Machine.execAvLcntRead s
  | .rcRead addr => Sys2Proof.Machine.execRcRead addr s
  | .caSelWrite v => Sys2Proof.Machine.execCaSelWrite v s
  | .shLselWrite v => Sys2Proof.Machine.execShLselWrite v s
  | .evTest v => Sys2Proof.Machine.execEvTest v s
  | .avTrdump v => Sys2Proof.Machine.execAvTrdump v s
  | .pregWr m => Sys2Proof.Machine.execPregWr m s
  | .pregWear m => Sys2Proof.Machine.execPregWear m s
  | .tbCfg m => Sys2Proof.Machine.execTbCfg m s
  | .epochSet m => Sys2Proof.Machine.execEpochSet m s
  | .calRun m => Sys2Proof.Machine.execCalRun m s
  | .skewSet m => Sys2Proof.Machine.execSkewSet m s
  | .schedLoad m => Sys2Proof.Machine.execSchedLoad m s
  | .schedLoadCommit m => Sys2Proof.Machine.execSchedLoadCommit m s
  | .schedStart m => Sys2Proof.Machine.execSchedStart m s
  | .schedStop m => Sys2Proof.Machine.execSchedStop m s
  | .emitLimit m => Sys2Proof.Machine.execEmitLimit m s
  | .lineMap m => Sys2Proof.Machine.execLineMap m s
  | .clearfail m => Sys2Proof.Machine.execClearfail m s
  | .histCfg m => Sys2Proof.Machine.execHistCfg m s
  | .rejectCfg m => Sys2Proof.Machine.execRejectCfg m s
  | .histSnapArm m => Sys2Proof.Machine.execHistSnapArm m s
  | .histSnapRead m => Sys2Proof.Machine.execHistSnapRead m s
  | .histSnapInfo m => Sys2Proof.Machine.execHistSnapInfo m s
  | .measCfg m => Sys2Proof.Machine.execMeasCfg m s
  | .measCfgSync m => Sys2Proof.Machine.execMeasCfgSync m s
  | .measRead m => Sys2Proof.Machine.execMeasRead m s
  | .envLoad m => Sys2Proof.Machine.execEnvLoad m s
  | .trigCfg m => Sys2Proof.Machine.execTrigCfg m s
  | .trigCfgFire m => Sys2Proof.Machine.execTrigCfgFire m s
  | .arm m => Sys2Proof.Machine.execArm m s
  | .disarm m => Sys2Proof.Machine.execDisarm m s
  | .markSet m => Sys2Proof.Machine.execMarkSet m s
  | .capReadInfo m => Sys2Proof.Machine.execCapReadInfo m s
  | .capReadRead m => Sys2Proof.Machine.execCapReadRead m s
  | .capReadStream m => Sys2Proof.Machine.execCapReadStream m s
  | .capReadRelease m => Sys2Proof.Machine.execCapReadRelease m s
  | .clnCfg m => Sys2Proof.Machine.execClnCfg m s
  | .clnCfgMeasure m => Sys2Proof.Machine.execClnCfgMeasure m s
  | .clnCfgMark m => Sys2Proof.Machine.execClnCfgMark m s
  | .evtMask m => Sys2Proof.Machine.execEvtMask m s
  | .evtRead m => Sys2Proof.Machine.execEvtRead m s
  | .evtClear m => Sys2Proof.Machine.execEvtClear m s
  | .thermCfgLimits m => Sys2Proof.Machine.execThermCfgLimits m s
  | .thermCfgSensor m => Sys2Proof.Machine.execThermCfgSensor m s
  | .spareMapSwap m => Sys2Proof.Machine.execSpareMapSwap m s
  | .spareMapHome m => Sys2Proof.Machine.execSpareMapHome m s
  | .spareMapRetire m => Sys2Proof.Machine.execSpareMapRetire m s
  | .memret m => Sys2Proof.Machine.execMemret m s
  | .memclr m => Sys2Proof.Machine.execMemclr m s
  | .faultLog m reads => Sys2Proof.Machine.execFaultLog m reads s
  | .clnWordDiscard w inSlot => Sys2Proof.Machine.execClnWordDiscard w inSlot s
  | .heardExpiry u => Sys2Proof.Machine.execHeardExpiry u s
  | .zqCalibration => Sys2Proof.Machine.execZqCalibration s

end Sys2Proof.Machine
end

