-- ==== Sys2Proof/Safety.lean ====
section
/-!
DEFINITION. Safety.lean: the terms in which claims are made: commands that complete, what a command leaves alone, and when
the Lodge takes a command.
-/
namespace Sys2Proof.Machine

/-- Every command that waits is well formed. -/
def State.queueOk (s : State) : Bool := s.pending.all Instr.wellFormed

/-- Command `i` completes in state `s`: it answers a next state, and that state has `P`. -/
def Completes (i : Instr) (s : State) (P : State → Prop) : Prop := ∃ t, exec i s = .next t ∧ P t

/-- `t` is `s` after things were said: events raised, records traced, answers stored and frames queued. Nothing else
differs: no register, no queue, no memory and no persistent word outside these fields. -/
def Said (s t : State) : Prop :=
  t = { s with
    ev := t.ev
    av := { s.av with
      lcnt := t.av.lcnt, fifo := t.av.fifo, trLost := t.av.trLost, dropped := t.av.dropped, held := t.av.held }
    gl := { s.gl with evts := t.gl.evts }
    lk := { s.lk with
      boxes := t.lk.boxes, paths := t.lk.paths, waiting := t.lk.waiting, retDrop := t.lk.retDrop, dropMs := t.lk.dropMs
      notify := t.lk.notify, due := t.lk.due } }

/-- Of the event sources, `n` alone is raised between `s` and `t`: once in a TBCLK cycle, so that one raised in this cycle
already stays as it is (R378). -/
def Raised (n : Nat) (s t : State) : Prop :=
  t.ev = if s.ev.hasRaised s.uptime n then s.ev else s.ev.raiseAll s.uptime [n]

/-- The Lodge, of a part that is not held in reset, takes next the command that mailbox `m` holds: opcode `op`, payload `p`. -/
def Takes (s : State) (m op : Nat) (p : List Byte) : Prop :=
  m < 32 ∧ s.live = true ∧ s.lodgeRuns = true ∧ s.nextBox = some m ∧ (s.box m).op = op ∧ (s.box m).payload = p

/-- Mailbox `m` has been answered with `a`. -/
def Answered (m : Nat) (a : Answer) (t : State) : Prop := (t.box m).answer = some a

end Sys2Proof.Machine
end

