-- ==== Sys2Proof/Certificates/Slice0/Obligations.lean ====
section
/-!
DEFINITION. Obligations.lean: the statements for the provers, in the order of the chapters of the spec.
-/
open Sys2Proof Sys2Proof.Machine

/-- A step with a command at the front of the queue runs that command on the rest of the queue
(95_what_each_step_holds.md). -/
def Obligations.StepRunsFrontCommand : Prop :=
  ∀ (c : Instr) (rest : List Instr) (s : State),
    step { s with pending := c :: rest } = exec c { s with pending := rest }

/-- With no command waiting, a step lets one TBCLK cycle pass: count and up-time advance, a full queue is found
(model's choice, log 4) (01_time_base.md, 02_stamp_channels.md, model choice: log 4, model choice: log 92). -/
def Obligations.EmptyQueueStepIsOneCycle : Prop :=
  (∀ s : State, s.pending = [] → s.live = true → s.fl.tested = true → s.lk.clearing = none → s.th.limpLater = false →
    s.tb.coarse.toNat + 1 < 2 ^ 54 → (∀ c ∈ s.fl.chans, c.2.fullAfter s.cycle = false) →
    step s = .next { s with uptime := s.uptime + 1, tb := { s.tb with coarse := s.tb.coarse + 1 } }) ∧
  (∀ (s : State) (i : Nat), s.pending = [] → s.live = true → s.fl.tested = true → s.lk.clearing = none →
    s.th.limpLater = false → s.tb.coarse.toNat + 1 < 2 ^ 54 → s.flightsRun = true → (s.uptime + 1 + s.tb.align) % 2 = 0 →
    (s.chan i).fullAfter s.cycle = true →
    ∃ t, step s = .next t ∧ t.uptime = s.uptime + 1 ∧ t.tb.coarse = s.tb.coarse + 1 ∧
      t.outstanding 0x0201 (chanFlight i) = true) ∧
  (∀ s : State, s.pending = [] → s.live = false → step s = .next s)

/-- Every command that names units of the part completes in every state; any other faults with noSuchUnit (model's
choice, log 25) (95_what_each_step_holds.md, model choice: log 25). -/
def Obligations.WellFormedCommandsComplete : Prop :=
  ∀ (i : Instr) (s : State),
    (i.wellFormed = true → Completes i s (fun t => t.pending = s.pending)) ∧
    (i.wellFormed = false → exec i s = .fault .noSuchUnit)

/-- From every state whose waiting commands are well formed, every step succeeds, takes one command and keeps the
invariant (95_what_each_step_holds.md). -/
def Obligations.QueueDrainsOnePerStep : Prop :=
  ∀ s : State, s.queueOk = true →
    ∃ t, step s = .next t ∧ t.pending = s.pending.tail ∧ t.queueOk = true

/-- Right after reset no command waits, and the Gallery memory lists nothing and is in canonical form
(95_what_each_step_holds.md, 10_gallery_capture.md). -/
def Obligations.ResetQueueOk : Prop :=
  State.reset.pending = [] ∧ State.reset.queueOk = true ∧ State.reset.gl.mem = [] ∧ State.reset.gl.mem.wf = true

/-- Every step keeps the Gallery memory in its canonical form (10_gallery_capture.md). -/
def Obligations.GalleryMemoryStaysCanonical : Prop :=
  ∀ s t : State, s.gl.mem.wf = true → step s = .next t → t.gl.mem.wf = true

/-- Only Gallery recording, delivery, DISARM, MARK_SET, MODE_SET and the resets can change a byte of Gallery memory
(10_gallery_capture.md). -/
def Obligations.OnlyGalleryCommandsStore : Prop :=
  ∀ (i : Instr) (s t : State),
    (match i with
      | .galleryRecordWrite | .captureDone | .triggerDelivery | .markSet _ | .disarm _ | .modeSet _ | .modeSetComplete _
      | .powerUp _ _ _ | .pwrgoodFall _ | .rstNAssert _ => False
      | _ => True) →
    exec i s = .next t → ∀ a, t.gl.mem.read a = s.gl.mem.read a

/-- The mode in force changes only by MODE_SET, its completion, LIMP entry and return, and the resets
(14_modes_startup_thermal.md). -/
def Obligations.OnlyModeCommandsChangeMode : Prop :=
  ∀ (i : Instr) (s t : State),
    (match i with
      | .modeSet _ | .modeSetComplete _ | .limpEntry | .limpReturn | .powerUp _ _ _ | .pwrgoodFall _ | .rstNAssert _ => False
      | _ => True) →
    exec i s = .next t → t.th.mode = s.th.mode

/-- The epoch changes only by the wrap of the count, by EPOCH_SET and its application, and by the resets
(01_time_base.md). -/
def Obligations.OnlyEpochCommandsChangeEpoch : Prop :=
  ∀ (i : Instr) (s t : State),
    (match i with
      | .coarseWrap | .epochSet _ | .epochSetApply | .powerUp _ _ _ | .pwrgoodFall _ | .rstNAssert _ => False
      | _ => True) →
    exec i s = .next t → t.tb.epoch = s.tb.epoch

/-- Fired shots are numbered from 0: only a SHOT_POSITION counts one, resets clear the number, and the shot ID is GEN
and TAG (R117). -/
def Obligations.OnlyShotPositionsCountShots : Prop :=
  State.reset.sh.shotNum = 0 ∧
  (∀ (i : Instr) (s t : State),
    (match i with
      | .shotPosition | .powerUp _ _ _ | .pwrgoodFall _ | .rstNAssert _ => False
      | _ => True) →
    exec i s = .next t → t.sh.shotNum = s.sh.shotNum) ∧
  (∀ s : State, Completes .shotPosition s (fun t =>
    t.sh.shotNum = s.sh.shotNum ∨
      t.sh.shotNum = s.sh.shotNum + 1 ∧
        (t.entry (s.sh.shotNum.toNat % 8192)).map (·.num) = some s.sh.shotNum.toNat)) ∧
  (∀ (s : State) (c : Cut),
    (s.pins.pwrgood = true → Completes (.pwrgoodFall c) s (fun t => t.sh.shotNum = 0)) ∧
    (s.pins.pwrgood = true → s.pins.rstN = true → Completes (.rstNAssert c) s (fun t => t.sh.shotNum = 0))) ∧
  (∀ n : Nat, shotId n = n % 2 ^ 21 ∧ shotId n = n / 8192 % 256 * 8192 + n % 8192)

/-- While PWRGOOD or RST_N is low, only POWER_UP, the reset pins and the JTAG port act (model's choice, logs 24 and
48) (16_pins_electrical_package.md, model choice: log 24, model choice: log 48). -/
def Obligations.HeldInResetNothingHappens : Prop :=
  ∀ (i : Instr) (s : State), s.live = false → i.wellFormed = true →
    (match i with
      | .powerUp _ _ _ | .pwrgoodFall _ | .rstNAssert _ | .jtagIdcode _ | .jtagSample _ _ | .jtagBypass _ _ => False
      | _ => True) →
    exec i s = .next s

/-- In LOCKED, absence, phase error or a second bad gate declares REFIN lost: event 8, HOLDOVER, and a span begins
(R14, R15, R22, R372, 01_time_base.md, model choice: logs 86, 89). -/
def Obligations.RefinLossFromLocked : Prop :=
  let lost (t : TimeBase) (u : Nat) : TimeBase :=
    { t with state := .holdover, lossSeen := true, badGates := 0, span := some u, terr := 0, holdMs := 0, theta0 := t.theta }
  (∀ s : State, s.live = true → s.tb.state = .locked →
    Completes .refinAbsence s (fun t =>
      Said { s with tb := { lost s.tb s.uptime with refPres := false } } t ∧ Raised 8 s t)) ∧
  (∀ s : State, s.live = true → s.tb.state = .locked →
    Completes .phaseLoss s (fun t => Said { s with tb := lost s.tb s.uptime } t ∧ Raised 8 s t)) ∧
  (∀ (s : State) (ofs : W32) (y : Int), s.live = true → s.tb.state = .locked → 1 ≤ s.tb.badGates →
    Completes (.frequencyGate false ofs y) s (fun t =>
      let r := checkReads polyWords s
      Said { r with tb := { lost s.tb s.uptime with
        refFok := false, refofs := ofs, gates := s.tb.gates + 1
        residual := s.tb.residual + (y - r.polynomial s.theta) } } t ∧ Raised 8 r t)) ∧
  (∀ (s : State) (ofs : W32) (y : Int), s.live = true → s.tb.state = .locked → s.tb.badGates = 0 →
    let r := checkReads polyWords s
    exec (.frequencyGate false ofs y) s =
      .next { r with tb := { s.tb with
        refFok := false, refofs := ofs, badGates := 1, gates := s.tb.gates + 1
        residual := s.tb.residual + (y - r.polynomial s.theta) } })

/-- In FREERUN and HOLDOVER no loss of REFIN is declared and no event 8 raised; a gate in window sets REFPRES (model's
choice, log 79) (R14, R15, model choice: log 79). -/
def Obligations.NoLossWhileNotQualified : Prop :=
  (∀ s : State, s.live = true → s.tb.state = .freerun ∨ s.tb.state = .holdover →
    exec .refinAbsence s = .next { s with tb := { s.tb with refPres := false } } ∧ exec .phaseLoss s = .next s) ∧
  (∀ (s : State) (ok : Bool) (ofs : W32) (y : Int), s.live = true → s.tb.state = .freerun ∨ s.tb.state = .holdover →
    Completes (.frequencyGate ok ofs y) s (fun t =>
      t = { s with tb := { s.tb with
        refFok := ok, refPres := s.tb.refPres || ok, refofs := ofs, badGates := if ok then 0 else s.tb.badGates + 1 } })) ∧
  (∀ s : State, s.live = true → s.tb.state = .acquire ∨ s.tb.state = .locked →
    Completes .refinAbsence s (fun t => Raised 8 s t ∧ t.tb.lossSeen = true) ∧
    Completes .phaseLoss s (fun t => Raised 8 s t ∧ t.tb.lossSeen = true)) ∧
  (∀ (s : State) (ofs : W32) (y : Int), s.live = true → s.tb.state = .acquire ∨ s.tb.state = .locked → 1 ≤ s.tb.badGates →
    Completes (.frequencyGate false ofs y) s (fun t =>
      Raised 8 (if s.tb.state = .locked then checkReads polyWords s else s) t ∧ t.tb.lossSeen = true))

/-- Qualification enters ACQUIRE, its completion enters LOCKED and ends the span, and the start-up time begins one
(R15, R17, R21, R22, R23, 01_time_base.md, model choice: log 89). -/
def Obligations.ReferenceStatesAdvance : Prop :=
  (∀ s : State, s.live = true → bit s.tb.cfg 4 = true → s.tb.refPres = true → s.tb.refFok = true →
    s.tb.state = .freerun ∨ s.tb.state = .holdover →
    Completes .qualificationEnd s (fun t =>
      t = { s with tb := { s.tb with state := .acquire, fromHold := s.tb.state == .holdover, badGates := 0 } })) ∧
  (∀ s : State, s.live = true → s.tb.state = .acquire →
    Completes .acquireComplete s (fun t =>
      Raised 9 s t ∧
      Said { s with
        tb := { s.tb with
          state := .locked, gates := 0, residual := 0, span := none, terr := 0, limpRef := false, holdMs := w32 s.holdTime }
        th := { s.th with quietFrom := t.th.quietFrom, limpDue := t.th.limpDue } } t)) ∧
  (∀ s : State, s.live = true → s.tb.state = .freerun → bit s.tb.cfg 4 = true → s.tb.span = none →
    Completes .spanStart s (fun t =>
      t = { s with tb := { s.tb with
        startQual := true, span := some s.uptime, terr := 0, holdMs := 0, theta0 := s.tb.theta } })) ∧
  (∀ s : State, s.live = true → s.tb.coarse.toNat + 1 < 2 ^ 54 → exec .coarseWrap s = .next s)

/-- XTAL_UPDATE predicts the crystal and integrates TB.TERR, HOLD_LIMIT sets LIMPREF, LEARN_UPDATE learns an eighth
(R18, R19, R20, R21, R372, 01_time_base.md, model choice: log 86). -/
def Obligations.HoldoverIntegration : Prop :=
  (∀ s : State, s.live = true → s.tb.xsensOk = true →
    Completes .xtalUpdate s (fun t =>
      let r := checkReads polyWords s
      t = { r with tb := { s.tb with
        theta := (s.sens (fld s.tb.cfg 12 4)).reading
        y := r.crystal (s.sens (fld s.tb.cfg 12 4)).reading
        terr := if s.tb.span = none then s.tb.terr else
          s.tb.terr + 20 * fld s.tb.hold 16 8 + 5 * ((s.sens (fld s.tb.cfg 12 4)).reading - s.tb.theta0).natAbs } })) ∧
  (∀ s : State, s.live = true → s.tb.span ≠ none → s.tb.limpRef = false → fld s.tb.hold 8 8 ≠ 0 →
    fld s.tb.hold 8 8 * 2000000 < s.tb.terr →
    Completes .holdLimit s (fun t =>
      Raised 10 s t ∧
      Said { s with
        tb := { s.tb with limpRef := true }
        th := { s.th with quietFrom := none, limpDue := t.th.limpDue } } t ∧
      (s.th.mode = .sweep ∨ s.th.mode = .watch → t.th.limpDue = true))) ∧
  (∀ (s : State) (d : Int), s.live = true → s.tb.state = .locked → s.tb.learnSince < 35 → s.tb.gates ≠ 0 →
    s.tb.residual = (s.tb.learn.toInt + 8 * d) * 2 ^ 25 * s.tb.gates →
    Completes .learnUpdate s (fun t =>
      t = { s with tb := { s.tb with
        learn := s.tb.learn + BitVec.ofInt 32 d, learnSince := s.tb.learnSince + 1, gates := 0, residual := 0 } })) ∧
  (∀ (s : State) (ofs : W32) (y : Int), s.live = true → s.tb.state = .locked →
    Completes (.frequencyGate true ofs y) s (fun t =>
      let r := checkReads polyWords s
      t = { r with tb := { s.tb with
        refFok := true, refPres := true, refofs := ofs, badGates := 0, gates := s.tb.gates + 1
        residual := s.tb.residual + (y - r.polynomial s.theta) } }))

/-- At the wrap of the count the epoch advances with event 13, and from 0xFFFF it goes to 0 with event 14 as well
(R28, R30, R34). -/
def Obligations.WrapAdvancesEpoch : Prop :=
  (∀ s : State, s.live = true → s.tb.coarse.toNat = 2 ^ 54 - 1 → s.tb.due = none →
    Completes .coarseWrap s (fun t =>
      t.tb.coarse = 0 ∧ t.tb.epoch = s.tb.epoch + 1 ∧ t.uptime = s.uptime + 1 ∧
      (s.tb.epoch = 0xFFFF → t.tb.epoch = 0 ∧ (t.ev.get 14).latched = true) ∧
      (t.ev.get 13).latched = true)) ∧
  (∀ s : State, s.live = true → s.tb.coarse.toNat = 2 ^ 54 - 1 → s.tb.due ≠ none →
    (∀ c ∈ s.fl.chans, c.2.fullAfter s.cycle = false) →
    Completes .coarseWrap s (fun t =>
      t = { s with uptime := s.uptime + 1, tb := { s.tb with coarse := 0 } }))

/-- REPLICA_COMPARE without a struck replica does nothing; a struck one is found, reloaded and repaired (R26, R408,
15_availability_and_loggia.md). -/
def Obligations.ReplicaReload : Prop :=
  (∀ s : State, s.live = true → s.tb.replicaOff = [] → exec (.replicaCompare []) s = .next s) ∧
  (∀ (s : State) (f : Nat) (d : Coarse), s.live = true → s.tb.replicaOff = [] → s.av.replicaAt = [] → f < 33 → d ≠ 0 →
    s.outstanding 0x0103 f = false →
    Completes (.replicaCompare [(f, d)]) s (fun t =>
      t.tb = s.tb ∧ t.sh = s.sh ∧ t.gl.mem = s.gl.mem ∧ t.outstanding 0x0103 f = false ∧ t.av.outst = s.av.outst ∧
      (t.ev.get 192).latched = true ∧ (t.ev.get 193).latched = true ∧ (t.ev.get (224 + f)).latched = true))

/-- An active PPS edge latches the count, a missing or off-time one clears PPSOK, and TB.NOW_LO latches count and
epoch (R35, R36, R41, 01_time_base.md). -/
def Obligations.PpsEdgesAndTheNowLatch : Prop :=
  (∀ (s : State) (p : Coarse), s.live = true → bit s.tb.cfg 7 = true → s.tb.pend = none → s.slotsRun = false →
    s.tb.ppsPrev = some p →
    Completes (.ppsEdge (!bit s.tb.cfg 8)) s (fun t =>
      Said { s with
        pins := { s.pins with ppsIn := !bit s.tb.cfg 8 }
        tb := { s.tb with
          pps := s.tb.coarse, ppsErr := t.tb.ppsErr, ppsPres := true, ppsPrev := some s.tb.coarse, ppsOk := t.tb.ppsOk } } t ∧
      -500000000 ≤ t.tb.ppsErr.toInt ∧ t.tb.ppsErr.toInt ≤ 499999999 ∧
      (t.tb.ppsErr.toInt - s.tb.coarse.toNat) % 1000000000 = 0 ∧
      (((s.tb.coarse - p).toInt - 1000000000).natAbs ≤ 10000 → t.tb.ppsOk = true ∧ t.ev = s.ev) ∧
      (10000 < ((s.tb.coarse - p).toInt - 1000000000).natAbs → t.tb.ppsOk = false ∧ Raised 12 s t))) ∧
  (∀ s : State, s.live = true →
    exec (.ppsEdge (bit s.tb.cfg 8)) s = .next { s with pins := { s.pins with ppsIn := bit s.tb.cfg 8 } }) ∧
  (∀ s : State, s.live = true → bit s.tb.cfg 7 = true →
    Completes .ppsMissing s (fun t =>
      Said { s with tb := { s.tb with ppsOk := false, ppsPres := false } } t ∧ Raised 11 s t)) ∧
  (∀ s : State, s.live = true →
    Completes .tbNowLoRead s (fun t =>
      Said { s with tb := { s.tb with nowHi := BitVec.ofNat 32 (s.tb.coarse.toNat / 2 ^ 22), epochL := s.tb.epoch } } t ∧
      t.ev = s.ev))

/-- EPOCH_SET loads or waits, is applied at its instant with the count that has passed, and times out with FAULT (R32,
R33, R249, 01_time_base.md, model choice: log 79). -/
def Obligations.SettingTheTime : Prop :=
  (∀ (s : State) (m : Nat) (p : List Byte), Takes s m 0x0302 p → deepMode s = true → p.length = 12 →
    pNat p 0 1 = 1 ∨ pNat p 0 1 = 2 → pNat p 4 8 < 2 ^ 54 → s.tb.pend = none →
    Completes (.epochSet m) s (fun t =>
      Said { s with tb := { s.tb with
        pend := some ⟨pNat p 0 1, BitVec.ofNat 16 (pNat p 2 2), BitVec.ofNat 54 (pNat p 4 8), s.ticket m⟩, due := none } } t ∧
      Answered m (.plain .ok) t)) ∧
  (∀ (s : State) (m : Nat) (p : List Byte), Takes s m 0x0302 p → deepMode s = true → p.length = 12 →
    pNat p 0 1 = 0 → pNat p 4 8 < 2 ^ 54 → s.tb.pend = none →
    Completes (.epochSet m) s (fun t =>
      t.tb.coarse.toNat = pNat p 4 8 ∧ t.tb.epoch = BitVec.ofNat 16 (pNat p 2 2) ∧ Answered m (.plain .ok) t)) ∧
  (∀ (s : State) (e : EpochPend) (u : Nat) (dly : Int), s.live = true → s.tb.pend = some e → s.tb.due = some (u, dly) →
    Completes .epochSetApply s (fun t =>
      t.tb.coarse = e.k + BitVec.ofInt 54 dly + BitVec.ofNat 54 (s.uptime - u) ∧ t.tb.pend = none ∧
      t.tb.due = none ∧ t.sh = s.sh ∧
      ((e.k + BitVec.ofInt 54 dly).toNat + (s.uptime - u) < 2 ^ 54 → t.tb.epoch = e.e ∧ t.ev.get 13 = s.ev.get 13) ∧
      (2 ^ 54 ≤ (e.k + BitVec.ofInt 54 dly).toNat + (s.uptime - u) →
        t.tb.epoch = e.e + 1 ∧ (t.ev.get 13).latched = true))) ∧
  (∀ s : State, s.live = true → s.tb.pend ≠ none → s.tb.due = none →
    Completes .epochSetTimeout s (fun t => Said { s with tb := { s.tb with pend := none } } t)) ∧
  (∀ (s : State) (e : EpochPend), s.live = true → s.tb.pend = some e → s.tb.due = none → s.av.halt = false →
    s.av.restart = false → (s.box e.tk.mb).l = e.tk.seq → (s.box e.tk.mb).op = e.tk.op →
    Completes .epochSetTimeout s (fun t => (t.box e.tk.mb).compl = some (.plain .fault))) ∧
  (∀ (s : State) (c : Coarse) (e : EpochPend), s.live = true → s.cl.markSent = some c → s.tb.coarse = c + 3000 →
    s.tb.pend = some e → e.apply = 2 →
    Completes .timeMarker s (fun t =>
      t = { s with
        cl := { s.cl with markSent := none, markWin := none }
        tb := { s.tb with due := some (s.uptime, 0) } }))

/-- TB_CFG writes TB.CFG and TB.HOLD, checks mode before values, and answers MODE, BADARG or OK (R39, R22, R23, R20,
R329, R315, 01_time_base.md, model choice: log 79). -/
def Obligations.TbCfgAnswers : Prop :=
  (∀ (s : State) (m : Nat) (p : List Byte), Takes s m 0x0301 p → p.length = 12 → (pNat p 0 1).testBit 0 = true →
    deepMode s = false → (s.tb.cfg ^^^ (pWord p 4 &&& 0xF193)) &&& 0xF013 ≠ 0 →
    Completes (.tbCfg m) s (fun t => Said s t ∧ Answered m (.plain .mode) t)) ∧
  (∀ (s : State) (m : Nat) (p : List Byte), Takes s m 0x0301 p → p.length = 12 → (pNat p 0 1).testBit 0 = true →
    deepMode s = true → fld (pWord p 4) 0 2 = 3 →
    Completes (.tbCfg m) s (fun t => Said s t ∧ Answered m (.badarg 7) t)) ∧
  (∀ (s : State) (m : Nat) (p : List Byte), Takes s m 0x0301 p → p.length = 12 → pNat p 0 1 = 2 → fld (pWord p 8) 24 8 = 0 →
    Completes (.tbCfg m) s (fun t => Said s t ∧ Answered m (.badarg 8) t)) ∧
  (∀ (s : State) (m : Nat) (p : List Byte), Takes s m 0x0301 p → p.length = 12 → pNat p 0 1 = 2 → fld (pWord p 8) 24 8 ≠ 0 →
    Completes (.tbCfg m) s (fun t => Said { s with tb := { s.tb with hold := pWord p 8 } } t ∧ Answered m (.plain .ok) t)) ∧
  (∀ (s : State) (m : Nat) (p : List Byte), Takes s m 0x0301 p → p.length = 12 → (pNat p 0 1).testBit 0 = true →
    fld (pWord p 4) 0 2 ≠ 3 → ((pNat p 0 1).testBit 1 = true → fld (pWord p 8) 24 8 ≠ 0) →
    deepMode s = true ∨ (s.tb.cfg ^^^ (pWord p 4 &&& 0xF193)) &&& 0xF013 = 0 →
    let cfg := pWord p 4 &&& 0xF193
    let r := if (pNat p 0 1).testBit 2 then commit 0x01000200 cfg s else (true, s)
    let u := r.2
    let x := fld cfg 12 4
    Completes (.tbCfg m) s (fun t =>
      (r.1 = false → Said u t ∧ Answered m { status := .worn, arg := 0, data := [0, 0, 0, 0] } t) ∧
      (r.1 = true →
        Answered m (.plain .ok) t ∧
        t.tb.cfg = cfg ∧ t.tb.hold = (if (pNat p 0 1).testBit 1 then pWord p 8 else s.tb.hold) ∧
        (fld s.tb.cfg 12 4 = x → t.tb.xsensOk = s.tb.xsensOk) ∧
        (fld s.tb.cfg 12 4 ≠ x →
          t.tb.xsensOk = (u.fitted x && !(u.sens x).fail) ∧
          (s.tb.xsensOk = true → t.tb.xsensOk = false → (t.ev.get 15).latched = true)) ∧
        (bit s.tb.cfg 4 = true → bit cfg 4 = false →
          t.tb.state = .freerun ∧ t.tb.span = none ∧ t.tb.terr = 0 ∧ t.tb.limpRef = false ∧ t.tb.holdMs = w32 s.holdTime ∧
          t.tb.theta0 = s.tb.theta0) ∧
        (bit s.tb.cfg 4 = false → bit cfg 4 = true → s.tb.startQual = true → s.tb.state = .freerun →
          t.tb.state = .freerun ∧ t.tb.span = some s.uptime ∧ t.tb.terr = 0 ∧ t.tb.limpRef = s.tb.limpRef ∧ t.tb.holdMs = 0 ∧
          t.tb.theta0 = s.tb.theta) ∧
        (bit s.tb.cfg 4 = bit cfg 4 ∨ bit cfg 4 = true ∧ (s.tb.startQual = false ∨ s.tb.state ≠ .freerun) →
          t.tb.state = s.tb.state ∧ t.tb.span = s.tb.span ∧ t.tb.terr = s.tb.terr ∧ t.tb.limpRef = s.tb.limpRef ∧
          t.tb.holdMs = s.tb.holdMs ∧ t.tb.theta0 = s.tb.theta0) ∧
        Said { u with
          tb := { s.tb with
            cfg := t.tb.cfg, hold := t.tb.hold, xsensOk := t.tb.xsensOk, state := t.tb.state, span := t.tb.span
            terr := t.tb.terr, limpRef := t.tb.limpRef, holdMs := t.tb.holdMs, theta0 := t.tb.theta0 }
          th := { u.th with quietFrom := t.th.quietFrom, limpDue := t.th.limpDue } } t)))

/-- A selected edge is merged within 625 ps, missed after eight stamps in 44 ns, else taken by the armed converter
(R44, R46, R47, R48, R52, 02_stamp_channels.md, model choice: log 80, model choice: log 89). -/
def Obligations.EdgeFates : Prop :=
  (∀ (s : State) (m i n : Nat) (rising : Bool) (cn : Coarse) (code : Nat), s.live = true → s.inputChan m = some i → code < 168 →
    s.flightsRun = true → (s.chan i).en = true → (s.chan i).selects rising = true →
    Completes (.edgeArrival m n rising cn code) s (fun t =>
      t.tb = s.tb ∧ t.sh = s.sh ∧ t.gl.mem = s.gl.mem ∧ (∀ j, j ≠ i → t.chan j = s.chan j) ∧
      (t.chan i).queue = (s.chan i).queue ∧
      (t.chan i).ecnt = (s.chan i).ecnt + (if (s.chan i).counts rising then 1 else 0) ∧ (t.chan i).lastSel = some n ∧
      (match (s.chan i).fate n with
      | .merged => (t.chan i).mergeCnt = (s.chan i).mergeCnt + 1 ∧ bit (t.chan i).flags 0 = true ∧
          (t.chan i).missCnt = (s.chan i).missCnt ∧ (t.chan i).results = (s.chan i).results ∧ t.fl.cores = s.fl.cores
      | .missed => (t.chan i).missCnt = (s.chan i).missCnt + 1 ∧ bit (t.chan i).flags 1 = true ∧
          (t.chan i).mergeCnt = (s.chan i).mergeCnt ∧ (t.chan i).results = (s.chan i).results ∧ t.fl.cores = s.fl.cores
      | .stamped => (t.chan i).mergeCnt = (s.chan i).mergeCnt ∧ (t.chan i).missCnt = (s.chan i).missCnt ∧
          (t.chan i).results.dropLast = (s.chan i).results ∧
          (∀ v, (s.chan i).subst = none → (s.core (s.coreOf i)).armed = some v → (t.chan i).results = (s.chan i).results ++
            [⟨(s.chan i).core, v, n, rising, cn, code, false, (s.chan i).gap, (t.chan i).ecnt, s.tb.era⟩])))) ∧
  (∀ (s : State) (m n : Nat) (rising : Bool) (cn : Coarse) (code : Nat), s.live = true → m < 526 → code < 168 →
    (s.inputChan m).all (fun i => !(s.chan i).en) = true → exec (.edgeArrival m n rising cn code) s = .next s) ∧
  (∀ (s : State) (m : Nat), s.inputChan m = none ↔ 526 ≤ m ∨ (s.fl.clnLoop = true ∧ (m = 522 ∨ m = 523)) ∨
    (s.fl.clnLoop = false ∧ (m = 524 ∨ m = 525))) ∧
  (∀ (c : Chan) (n u : Nat), c.lastSel = some u → (c.fate n = .merged ↔ n < u + 640)) ∧
  (∀ (c : Chan) (n u : Nat), c.lastSel = some u → u + 640 ≤ n →
    (c.fate n = .missed ↔ 8 ≤ (c.stamps.filter (fun w => n < w + 45056)).length)) ∧
  (∀ (c : Chan) (n : Nat), c.lastSel = none → (c.fate n = .missed ↔ 8 ≤ (c.stamps.filter (fun u => n < u + 45056)).length))

/-- Conversions end, the armed role passes on, and calibration edges occupy the next free converter (R49, R50, R78,
R80, R81, R89, 02_stamp_channels.md, 03_interpolator_calibration.md). -/
def Obligations.ConvertersTurn : Prop :=
  (∀ (s : State) (x v code : Nat), s.live = true → s.flightsRun = true → x < 592 → v < 8 → (s.core x).calCode v = some code → code < 167 →
    Completes (.conversionDone x v) s (fun t =>
      Tab.get zeros (t.conv x v).h code = Tab.get zeros (s.conv x v).h code + 1 ∧
      (t.conv x v).samples = (s.conv x v).samples + 1 ∧ (t.core x).occupied v = ((Tab.erase (s.core x).busy v).any (·.1 = v)) ∧
      t.fl.chans = s.fl.chans ∧ (∀ y w, 8 * y + w ≠ 8 * x + v → t.conv y w = s.conv y w) ∧ t.ev = s.ev)) ∧
  (∀ (s : State) (x v : Nat), s.live = true → x < 592 → s.flightsRun = true → (s.servedBy x).isSome = true →
    (s.core x).armed = some v → (s.core x).busy = [] →
    Completes (.armedHandover x) s (fun t =>
      t = updCore x (fun c => { c with armed := some ((v + 1) % 8) }) s ∧ (t.core x).armed = some ((v + 1) % 8))) ∧
  (∀ (s : State) (x code : Nat), s.live = true → x < 592 → code < 168 → s.flightsRun = true → (s.core x).state ≠ 3 →
    (s.core x).failA = false → (s.core x).armed ≠ some ((s.core x).calNext % 8) → (s.core x).busy = [] →
    Completes (.calibrationEdge x code) s (fun t =>
      t.core x = { s.core x with
        busy := [((s.core x).calNext % 8, .cal code)], calNext := ((s.core x).calNext % 8 + 1) % 8
        edges := (s.core x).edges + 1 } ∧
      (∀ y, y ≠ x → t.core y = s.core y) ∧ t = { s with fl := { s.fl with cores := t.fl.cores } }))

/-- STAMP_PUSH appends the stamp of the oldest result, drops it at a full queue, and the retry latch goes in when it
fits (R58, R62, R64, R65, R66, R74, R86, 02_stamp_channels.md). -/
def Obligations.StampsEnterTheQueue : Prop :=
  (∀ (s : State) (i : Nat) (r : Flying) (rs : List Flying), s.live = true → i < 524 → s.flightsRun = true → (s.chan i).latch = none →
    (s.chan i).results = r :: rs → r.done = true → ((s.chan i).noteOf s.cycle).pushed = false →
    (s.chan i).depthAt s.cycle < 16 →
    Completes (.stampPush i) s (fun t =>
      t.chan i = { s.chan i with
        results := rs, ova := false, stampCnt := (s.chan i).stampCnt + 1
        note := some { (s.chan i).noteOf s.cycle with pushed := true }
        queue := (s.chan i).queue ++
          [⟨.stamp (s.stampOfResult i r) (s.chan i).ova r.rising r.conv r.core, s.cycle, s.cycle + 16, r.gap, r.ecnt,
            s.ca.skews, r.era⟩] } ∧
      (∀ j, j ≠ i → t.chan j = s.chan j) ∧
      Said { s with fl := { s.fl with chans := t.fl.chans } } t)) ∧
  (∀ (s : State) (i : Nat) (r : Flying) (rs : List Flying), s.live = true → i < 524 → s.flightsRun = true →
    (s.chan i).results = r :: rs → r.done = true → ((s.chan i).noteOf s.cycle).pushed = false →
    16 ≤ (s.chan i).depthAt s.cycle →
    Completes (.stampPush i) s (fun t =>
      t.chan i = { s.chan i with
        results := rs, ova := true, drop := true, ovrCnt := (s.chan i).ovrCnt + 1
        flags := setBit (s.chan i).flags 2 true
        note := some { (s.chan i).noteOf s.cycle with
          pushed := true, flags := setBit ((s.chan i).noteOf s.cycle).flags 2 true } } ∧
      (∀ j, j ≠ i → t.chan j = s.chan j) ∧ Raised 16 s t ∧
      Said { s with fl := { s.fl with chans := t.fl.chans } } t)) ∧
  (∀ (s : State) (i : Nat) (w : QWord), s.live = true → i < 524 → s.flightsRun = true → (s.chan i).latch = some w →
    (s.chan i).portOpen s.cycle = true →
    Completes (.closeWordRetry i) s (fun t =>
      t.chan i = { s.chan i with
        latch := none, ova := false, note := some { (s.chan i).noteOf s.cycle with pushed := true }
        queue := (s.chan i).queue ++
          [⟨w.withOva (s.chan i).ova, s.cycle, s.cycle + 16, false, (s.chan i).ecnt, s.ca.skews, s.tb.era⟩] } ∧
      (∀ j, j ≠ i → t.chan j = s.chan j) ∧ t = { s with fl := { s.fl with chans := t.fl.chans } })) ∧
  (∀ (s : State) (i : Nat), s.live = true → i < 524 → s.flightsRun = false → exec (.stampPush i) s = .next s) ∧
  (∀ (cn : Coarse) (e : Nat) (s64 : Int),
    (stampValue cn e s64).toNat = (((cn.toNat : Int) * 1024 - (e + s64 + 32) / 64) % 2 ^ 64).toNat)

/-- QUEUE_POP takes the head word, CORE_SWITCH moves a channel to its new core, FL.ECNT_LO latches the counters (R64,
R65, R72, R73, R408, R411, 02_stamp_channels.md). -/
def Obligations.QueuesDrainAndCoresSwitch : Prop :=
  (∀ (s : State) (i : Nat) (e : QEntry) (q : List QEntry), s.live = true → i < 524 → s.flightsRun = true →
    (s.chan i).queue = e :: q → e.ready ≤ s.cycle → (s.chan i).hold = false →
    Completes (.queuePop i) s (fun t =>
      t.chan i = { s.chan i with
        note := some ((s.chan i).noteOf s.cycle)
        queue := match q with
          | [] => []
          | n :: r => { n with ready := max n.ready (s.cycle + 1) } :: r } ∧
      (∀ j, j ≠ i → t.chan j = s.chan j) ∧ t.fl.cores = s.fl.cores)) ∧
  (∀ (s : State) (i : Nat), s.live = true → i < 524 → (s.chan i).hold = true → exec (.queuePop i) s = .next s) ∧
  (∀ (s : State) (i : Nat) (b : Subst), s.live = true → i < 524 → (s.chan i).subst = some b → b.fault = none →
    s.aheadBy b.tsw ≤ 0 →
    Completes (.coreSwitch i) s (fun t =>
      (t.chan i).core = b.core ∧ (t.ev.get 19).latched = true ∧ (∀ j, (t.chan j).queue = (s.chan j).queue) ∧
      ((∀ x ∈ s.unfit, x.1 ≠ coreNo (chanFlight i) b.core) → (t.chan i).subst = none))) ∧
  (∀ (s : State) (i : Nat) (b : Subst), s.live = true → i < 524 → (s.chan i).subst = some b →
    b.fault.isSome = true ∨ s.coreFaulty (s.coreOf i) = true → s.aheadBy b.tsw ≤ 0 →
    Completes (.coreSwitch i) s (fun t =>
      (t.chan i).core = b.core ∧ (t.ev.get 19).latched = true ∧ (t.ev.get 196).latched = true ∧
      (t.core (s.coreOf i)).state = 3 ∧ t.outstanding 0x0101 (s.coreOf i) = false ∧
      t.outstanding 0x0102 (s.coreOf i) = false ∧ (∀ j, (t.chan j).queue = (s.chan j).queue))) ∧
  (∀ (s : State) (i : Nat) (b : Subst), s.live = true → i < 524 → (s.chan i).subst = some b → 0 < s.aheadBy b.tsw →
    exec (.coreSwitch i) s = .next s) ∧
  (∀ (s : State) (i : Nat), s.live = true → i < 524 →
    Completes (.flEcntLoRead i) s (fun t =>
      (t.chan i).latched = some (BitVec.ofNat 16 ((s.chan i).ecnt.toNat / 2 ^ 32), (s.chan i).stampCnt,
        (s.chan i).mergeCnt, (s.chan i).missCnt, (s.chan i).ovrCnt) ∧
      t.chan i = { s.chan i with latched := (t.chan i).latched } ∧
      (∀ j, j ≠ i → t.chan j = s.chan j) ∧ t = { s with fl := { s.fl with chans := t.fl.chans } }))

/-- Periods, table switches, the fill, CAL_RUN and CA.SEL act on calibration state only (R79, R81, R82, R83, R84, R91,
R93, R94, R95, R100, 03_interpolator_calibration.md, model choice: log 74). -/
def Obligations.CalibrationCommands : Prop :=
  (∀ (s : State) (trims : List (Nat × Byte)), s.live = true → s.flightsRun = true →
    trims.all (fun k => decide (k.1 < 4736)) = true →
    Completes (.calibrationPeriodEnd trims) s (fun t =>
      t.ca.period = s.ca.period + 1 ∧ t.ca.clock = (if s.ca.freeze then s.ca.clock else s.ca.clock + 1) ∧
      t.ca.whole = true ∧ (∀ x, x < 592 → (t.core x).edges = 0) ∧
      (∀ x v, (t.conv x v).sampLast = w32 (s.conv x v).samples ∧ (t.conv x v).abnLast = (s.conv x v).abn ∧
        (t.conv x v).abn = 0) ∧
      t.tb = s.tb ∧ t.sh = s.sh ∧ t.gl.mem = s.gl.mem ∧ (∀ i, (t.chan i).queue = (s.chan i).queue))) ∧
  (∀ (s : State) (trims : List (Nat × Byte)), s.live = true → s.flightsRun = false →
    trims.all (fun k => decide (k.1 < 4736)) = true →
    exec (.calibrationPeriodEnd trims) s =
      .next { s with ca := { s.ca with period := s.ca.period + 1, whole := false } }) ∧
  (∀ (s : State) (f : Nat), s.live = true → f < 33 → s.ca.freeze = false → s.flightsRun = true →
    Completes (.tableSwitch f) s (fun t =>
      t = { s with ca := { s.ca with convs := t.ca.convs } } ∧
      ∀ k ∈ t.ca.convs, ∃ c, (k.1, c) ∈ s.ca.convs ∧ k.2 = if coreFlight (k.1 / 8) = f then switchConv c else c)) ∧
  (∀ (s : State) (f : Nat), s.live = true → f < 33 → s.ca.freeze = true ∨ s.flightsRun = false →
    exec (.tableSwitch f) s = .next s) ∧
  (∀ (s : State) (m : Nat), Takes s m 0x0401 [] → s.th.mode = .survey → s.th.startup = false → s.ca.fill = false →
    Completes (.calRun m) s (fun t =>
      Said { s with ca := t.ca } t ∧ t.ca.fill = true ∧ t.ca.freeze = false ∧ t.ca.saved = some s.ca.convs ∧
      t.ca.calTk = some (s.ticket m) ∧ Answered m (.plain .ok) t)) ∧
  (∀ (s : State) (skews : List (Nat × BitVec 24)), s.live = true → s.ca.fill = true → s.ca.calTk = none →
    s.ca.convs = [] → s.unfit = [] → skews.all (fun k => decide (k.1 < 592)) = true →
    Completes (.calFillEnd ⟨skews⟩) s (fun t =>
      Said { s with ca := { s.ca with
        fill := false, fillDone := true, saved := none, skewPeriod := s.ca.period, sCore := t.ca.sCore } } t ∧
      Tab.get Config.sCore t.ca.sCore 576 = Tab.get Config.sCore s.ca.sCore 576)) ∧
  (∀ (s : State) (v : W32), s.live = true → fld v 3 10 ≤ 591 →
    Completes (.caSelWrite v) s (fun t =>
      t = { s with ca := { s.ca with
        sel := v &&& 0x1FFF, cStat := t.ca.cStat, cSamp := (s.conv (fld v 3 10) (fld v 0 3)).sampLast
        cAbn := (s.conv (fld v 3 10) (fld v 0 3)).abnLast, cTable := t.ca.cTable } } ∧
      bit t.ca.cStat 0 = (s.conv (fld v 3 10) (fld v 0 3)).ok)) ∧
  (∀ (s : State) (v : W32), s.live = true → 591 < fld v 3 10 → exec (.caSelWrite v) s = .next s)

/-- SKEW_SET writes one board skew word per value, or answers BADARG 2 when its channels do not exist (R97, R332,
R368, 12_command_reference.md). -/
def Obligations.SkewSetCommits : Prop :=
  (∀ (s : State) (m : Nat) (p : List Byte), Takes s m 0x0402 p → restMode s = true → p.length = 6 → pNat p 2 1 = 1 →
    pNat p 0 2 < 524 → s.ps.spares = [] → (s.ps.cell (0x01001000 + 4 * pNat p 0 2)).unreadable = false →
    (s.ps.cell (0x01001000 + 4 * pNat p 0 2)).stuck = 0 → (s.ps.cell (0x01001000 + 4 * pNat p 0 2)).wear < 100000000 →
    (∀ x ∈ s.ps.upset, x.1 ≠ 0x01001000 + 4 * pNat p 0 2) →
    Completes (.skewSet m) s (fun t =>
      t.ps.read (0x01001000 + 4 * pNat p 0 2) = BitVec.ofNat 32 (pNat p 4 2) ∧
      (∀ a, a ≠ 0x01001000 + 4 * pNat p 0 2 → t.ps.read a = s.ps.read a) ∧
      Said { s with
        ps := t.ps
        ca := { s.ca with
          skews := s.ca.skews + 1
          skewWas := (s.ca.skews + 1, pNat p 0 2, pread s (0x01001000 + 4 * pNat p 0 2)) :: s.ca.skewWas } } t ∧
      Answered m (.plain .ok) t)) ∧
  (∀ (s : State) (m : Nat) (p : List Byte), Takes s m 0x0402 p → restMode s = true → p.length = 4 + 2 * pNat p 2 1 →
    pNat p 2 1 = 0 ∨ 32 < pNat p 2 1 ∨ 524 < pNat p 0 2 + pNat p 2 1 →
    Completes (.skewSet m) s (fun t => Said s t ∧ Answered m (.badarg 2) t))

/-- SCHED_LOAD writes the standby bank, COMMIT starts admission, and its verdict decides which bank is active (R107,
R108, R109, R333, 04_shots_and_ledger.md, 12_command_reference.md). -/
def Obligations.ScheduleBanks : Prop :=
  let bank (s u : State) : Tab W64 := if s.sh.active = 0 then u.sh.bankB else u.sh.bankA
  let other (s u : State) : Tab W64 := if s.sh.active = 0 then u.sh.bankA else u.sh.bankB
  let takes (s : State) (m : Nat) (p : List Byte) (c : Bool) : Prop :=
    Takes s m 0x0501 p ∧ 8 ≤ p.length ∧ p.length = 8 + 8 * pNat p 2 2 ∧ (pByte p 4).testBit 0 = c ∧
      s.th.mode ≠ .dormant ∧ (c = false → pNat p 2 2 ≠ 0) ∧ pNat p 0 2 + pNat p 2 2 ≤ 4096
  let loaded (s t : State) (p : List Byte) : Prop :=
    (∀ j, j < pNat p 2 2 → Tab.get noStep (bank s t) (pNat p 0 2 + j) = BitVec.ofNat 64 (pNat p (8 + 8 * j) 8)) ∧
    (∀ k, k < pNat p 0 2 ∨ pNat p 0 2 + pNat p 2 2 ≤ k → Tab.get noStep (bank s t) k = Tab.get noStep (bank s s) k) ∧
    other s t = other s s
  let anew (s t : State) (r : Sched) (n : Nat) : Prop :=
    (∃ r', t.sh.run = some r' ∧ r'.bank = s.sh.active ∧ r'.frame = n ∧ r'.step = 0 ∧ r'.sidx = 0 ∧ r'.did = none ∧
      r'.endStop = r.endStop) ∧
    t.sh.armed = s.sh.armed.filter (fun q => q.frame < n) ∧ t.sh.ledger = s.sh.ledger ∧ t.sh.shotNum = s.sh.shotNum ∧
    t.sh.active = s.sh.active ∧ Said { s with sh := t.sh, ms := t.ms } t
  (∀ (s : State) (m : Nat) (p : List Byte), takes s m p false → s.sh.admission = none →
    s.sh.run.all (fun r => r.bank = s.sh.active) = true →
    Completes (.schedLoad m) s (fun t =>
      Said { s with sh := { s.sh with bankA := t.sh.bankA, bankB := t.sh.bankB, stby := .loading, swPend := false } } t ∧
      loaded s t p ∧ Answered m (.plain .ok) t)) ∧
  (∀ (s : State) (m : Nat) (p : List Byte) (r : Sched) (n b : Nat) (u : Nominal), takes s m p false → s.sh.admission = none →
    s.sh.run = some r → r.bank ≠ s.sh.active → (r.known.filter (fun f => f.2.1 ≠ s.sh.active)).getLast? = some (n, b, u) →
    Completes (.schedLoad m) s (fun t =>
      anew s t r n ∧ loaded s t p ∧ t.sh.stby = .loading ∧ t.sh.swPend = false ∧ t.sh.admission = none ∧
      Answered m (.plain .ok) t)) ∧
  (∀ (s : State) (m : Nat) (p : List Byte), takes s m p true → s.sh.admission = none →
    s.sh.run.all (fun r => r.bank = s.sh.active) = true →
    Completes (.schedLoadCommit m) s (fun t =>
      Said { s with sh := { s.sh with
        bankA := t.sh.bankA, bankB := t.sh.bankB
        stby := .admission, swPend := false, admission := some (pNat p 6 2, s.ticket m) } } t ∧
      loaded s t p ∧ Answered m (.plain .ok) t)) ∧
  (∀ (s : State) (m : Nat) (p : List Byte) (r : Sched) (n b : Nat) (u : Nominal), takes s m p true → s.sh.admission = none →
    s.sh.run = some r → r.bank ≠ s.sh.active → (r.known.filter (fun f => f.2.1 ≠ s.sh.active)).getLast? = some (n, b, u) →
    Completes (.schedLoadCommit m) s (fun t =>
      anew s t r n ∧ loaded s t p ∧ t.sh.stby = .admission ∧ t.sh.swPend = false ∧
      t.sh.admission = some (pNat p 6 2, s.ticket m) ∧ Answered m (.plain .ok) t)) ∧
  (∀ (s : State) (m : Nat) (p : List Byte), takes s m p false → s.sh.admission ≠ none →
    Completes (.schedLoad m) s (fun t => Said s t ∧ Answered m (.plain .busy) t)) ∧
  (∀ (s : State) (m : Nat) (p : List Byte), takes s m p true → s.sh.admission ≠ none →
    Completes (.schedLoadCommit m) s (fun t => Said s t ∧ Answered m (.plain .busy) t)) ∧
  (∀ (s : State) (len : Nat) (tk : Ticket), s.live = true → s.sh.admission = some (len, tk) →
    ({ s with sh := { s.sh with admission := none } } : State).verdict len ≠ none →
    Completes .admissionComplete s (fun t => Said { s with sh := { s.sh with admission := none, stby := .loading } } t)) ∧
  (∀ (s : State) (len : Nat) (tk : Ticket), s.live = true → s.sh.admission = some (len, tk) → s.sh.run = none →
    ({ s with sh := { s.sh with admission := none } } : State).verdict len = none →
    Completes .admissionComplete s (fun t =>
      t.sh.active = 1 - s.sh.active ∧ t.sh.valid = true ∧ t.sh.admission = none ∧ t.sh.stby ≠ .committed ∧
      (s.sh.active = 0 → t.sh.lenB = len) ∧ (s.sh.active = 1 → t.sh.lenA = len) ∧ Said { s with sh := t.sh } t))

/-- SCHED_START sets the first instant, positions are allocated in order with dither, and SCHED_STOP fires no more
(R104, R105, R106, R111, R113, R149, R150, 04_shots_and_ledger.md). -/
def Obligations.ScheduleStartsAndStops : Prop :=
  (∀ (s : State) (m : Nat) (p : List Byte), Takes s m 0x0502 p → s.ranges = true → p.length = 12 → pByte p 0 = 0 →
    s.schedBusy = false → s.sh.valid = true → s.leaving = false →
    Completes (.schedStart m) s (fun t =>
      Answered m (.okWith (beBytes 8 (wholeMicro s.tb.coarse 20000).toNat)) t ∧ Said { s with sh := t.sh, ms := t.ms } t ∧
      (∃ r, t.sh.run = some r ∧ r.step = 0 ∧ r.sidx = 0 ∧ r.bank = s.sh.active ∧ r.did = none ∧
        r.t = BitVec.ofNat 58 ((wholeMicro s.tb.coarse 20000).toNat * 16)) ∧
      t.sh.shotNum = s.sh.shotNum ∧ t.sh.ledger = s.sh.ledger ∧ t.sh.armed = s.sh.armed)) ∧
  (∀ (s : State) (m : Nat) (p : List Byte), Takes s m 0x0502 p → s.ranges = true → p.length = 12 → pByte p 0 = 0 →
    s.schedBusy = false → s.sh.valid = false →
    Completes (.schedStart m) s (fun t => Said s t ∧ Answered m (.plain .stale) t)) ∧
  (∀ (s : State) (r : Sched), s.live = true → s.sh.run = some r → r.did = none → r.endStop = false →
    Completes .effectivePowerStep s (fun t =>
      t = { s with sh := { s.sh with
        dwells := t.sh.dwells, nextDid := s.sh.nextDid + 1, run := some { r with did := some s.sh.nextDid } } } ∧
      ∃ d, t.sh.dwells = s.sh.dwells ++ [d] ∧ d.did = s.sh.nextDid ∧ d.step = r.step ∧ d.reached = 0 ∧ d.nfired = 0 ∧
        d.line = (s.stepAt r.bank r.step).line ∧ d.pline = s.pline d.line ∧
        d.pEff = max (s.stepAt r.bank r.step).pwr (max s.em.plim (thrPower s.th.step)))) ∧
  (∀ (s : State) (r : Sched) (k : Nat) (d : Dwell), s.live = true → s.sh.run = some r → r.did = some k → s.dwell k = some d →
    Completes .entryAllocate s (fun t =>
      (∃ q, t.sh.armed = s.sh.armed ++ [q] ∧ q.did = d.did ∧ q.step = r.step ∧ q.sidx = r.sidx ∧ q.q = s.sh.q ∧
        q.tplan = planInstant r.t s.sh.q (s.stepAt r.bank r.step).dscale ∧ q.thin = decide (r.sidx % d.m ≠ 0)) ∧
      t.sh.q = ditherNext s.sh.q ∧ t.sh.shotNum = s.sh.shotNum ∧ t.sh.ledger = s.sh.ledger ∧ t.sh.dwells = s.sh.dwells)) ∧
  (∀ (s : State) (m : Nat) (p : List Byte), Takes s m 0x0503 p → p.length = 4 → (pByte p 0).testBit 0 = false →
    s.sh.trigStart = none → s.sh.run ≠ none → s.sh.swPend = false →
    Completes (.schedStop m) s (fun t =>
      t.sh.run = none ∧ t.sh.armed = [] ∧ t.sh.ledger = s.sh.ledger ∧ t.sh.shotNum = s.sh.shotNum ∧
      Said { s with sh := t.sh, ms := t.ms, em := t.em } t ∧ Answered m (.plain .ok) t))

/-- A reached position fires and enters the ledger, a thinned one does not; void shots and close words follow (R105,
R115, R117, R121, R139, R148, R61, 04_shots_and_ledger.md). -/
def Obligations.ShotsFireAndClose : Prop :=
  (∀ (s : State) (q : Position) (ps : List Position) (d : Dwell), s.live = true → s.sh.armed = q :: ps → q.sidx ≠ 0 →
    q.frameLast = false → q.thin = false → q.full = false → s.dwell q.did = some d → d.did = q.did → s.blocked d = false →
    (s.driver d.drv).eyeLim = 0xFFFFFFFF → s.synthetic d.drv = false →
    Completes .shotPosition s (fun t =>
      t.sh.armed = ps ∧ t.sh.shotNum = s.sh.shotNum + 1 ∧ t.sh.skipCnt = s.sh.skipCnt ∧ t.tb = s.tb ∧ t.fl = s.fl ∧
      t.gl.mem = s.gl.mem ∧
      t.em = { s.em with
        diagCnt := if d.diag then s.em.diagCnt + 1 else s.em.diagCnt, fire := t.em.fire, lines := t.em.lines } ∧
      t.firePair d.drv = (if (s.driver d.drv).present then
        (s.firePair d.drv).filter (fun o => !o.ended s.tb.coarse) ++ [.strobe q.tplan] else s.firePair d.drv) ∧
      (∀ k, k ≠ d.drv → t.firePair k = s.firePair k) ∧
      ∃ e, Tab.get (fun _ => none) (t.sh.ledger.map (fun kv => (kv.1, some kv.2))) (s.sh.shotNum.toNat % 8192) = some e ∧
        e.num = s.sh.shotNum.toNat ∧ e.did = d.did ∧ e.tplan = q.tplan ∧ e.state = 1 ∧ e.void = false)) ∧
  (∀ (s : State) (q : Position) (ps : List Position) (d : Dwell), s.live = true → s.sh.armed = q :: ps → q.sidx ≠ 0 →
    q.frameLast = false → q.thin = true → s.dwell q.did = some d →
    Completes .shotPosition s (fun t =>
      t.sh.armed = ps ∧ t.sh.shotNum = s.sh.shotNum ∧ t.sh.skipCnt = s.sh.skipCnt + 1 ∧ t.sh.ledger = s.sh.ledger ∧
      t = { s with sh := t.sh })) ∧
  (∀ (s : State) (tag : Nat) (e : Entry), s.live = true → tag < 8192 → s.entry tag = some e → e.syn = false → e.state = 1 →
    Completes (.voidDecision tag) s (fun t =>
      (t.entry tag).map (·.void) = some true ∧ t.sh.voidCnt = s.sh.voidCnt + 1 ∧ Raised 25 s t ∧
      Said { s with sh := t.sh, em := t.em } t ∧ t.sh.shotNum = s.sh.shotNum)) ∧
  (∀ (s : State) (tag : Nat) (e : Entry) (d : Dwell) (i : Nat), s.live = true → tag < 8192 → s.entry tag = some e →
    e.state = 2 → e.shown = false → s.dwell e.did = some d → s.served d = [i] → (s.chan i).en = true →
    (s.chan i).latch = none → (s.chan i).portOpen s.cycle = true → ((s.chan i).noteOf s.cycle).latched = false →
    Completes (.closeWordPresent tag) s (fun t =>
      (t.entry tag).map (·.shown) = some true ∧
      (t.chan i).queue = (s.chan i).queue ++
        [⟨.close false (s.chan i).mrg (s.chan i).drop (e.num / 8192 % 256) tag (s.chan i).ova, s.cycle, s.cycle + 16, false,
          (s.chan i).ecnt, s.ca.skews, s.tb.era⟩] ∧
      (t.chan i).mrg = false ∧ (t.chan i).drop = false ∧ (t.chan i).ova = false ∧ (∀ j, j ≠ i → t.chan j = s.chan j) ∧
      t = { s with fl := t.fl, sh := { s.sh with ledger := t.sh.ledger } })) ∧
  (∀ (s : State) (d : Dwell), s.live = true → s.sh.dwells.find? (fun d => !d.selected) = some d →
    Completes .selectWord s (fun t =>
      t = { s with sh := { s.sh with dwells := t.sh.dwells }, em := { s.em with lines := t.em.lines, fire := t.em.fire } } ∧
      (t.dwell d.did).map (fun d => (d.selected, d.pline)) = some (true, s.pline d.line) ∧
      (t.line (s.pline d.line)).diagDue = false ∧
      (let x := s.pline d.line
       let w := (s.driver (driverOf x)).width
       t.firePair (driverOf x) = (if (s.driver (driverOf x)).present then
         (s.firePair (driverOf x)).filter (fun o => !o.ended s.tb.coarse) ++
           [.select (d.t0 - 200) (selectWord (dlineOf x) (min d.pEff 30) w ((s.line x).diagDue && decide (w < 4)) false)]
         else s.firePair (driverOf x)) ∧
       (∀ k, k ≠ driverOf x → t.firePair k = s.firePair k))))

/-- A stamp is assigned to its one candidate shot, a dwell ends by a token per channel, and its join frees the ledger
(R125, R127, R131, R171, R172, R176, R134, 06_arcade_histograms.md). -/
def Obligations.DwellsEndAndJoin : Prop :=
  (∀ (s : State) (i : Nat) (st : Stamp) (n : Nat) (e : Entry), s.live = true → s.arcadeRuns = true → i < 512 → (s.achan i).waits = [.stamp st] →
    s.judgeable st = true → s.sh.ledger.filter (fun x => s.candidate i st x.2) = [(n, e)] → (s.achan i).incs.length < 32 →
    Completes (.stampAssignment i) s (fun t =>
      t.achan i = { s.achan i with
        waits := [], incs := (s.achan i).incs ++ [.inc (s.shotInterval i st e).toNat e.did n false] } ∧
      (∀ j, j ≠ i → t.achan j = s.achan j) ∧ t = { s with ar := { s.ar with chans := t.ar.chans } })) ∧
  (∀ (s : State) (i : Nat) (d : Dwell), s.live = true → i < 512 →
    s.sh.dwells.find? (fun d => (s.served d).contains i && d.reached ≠ 0 && !d.tokens.contains i) = some d →
    s.endsOn i d = true → (s.achan i).incs.length < 32 →
    Completes (.dwellEndToken i) s (fun t =>
      t.achan i = { s.achan i with incs := (s.achan i).incs ++ [.token d.did] } ∧ (∀ j, j ≠ i → t.achan j = s.achan j) ∧
      (t.dwell d.did).map (fun d => d.tokens.contains i) = some true ∧
      t = { s with ar := { s.ar with chans := t.ar.chans }, sh := { s.sh with dwells := t.sh.dwells } })) ∧
  (∀ (s : State) (d : Dwell), s.live = true → s.sh.dwells.find? s.joinable = some d →
    Completes .dwellJoin s (fun t =>
      t.sh.ledger = s.sh.ledger.filter (fun e => e.2.did ≠ d.did) ∧ t.sh.shotNum = s.sh.shotNum ∧ t.tb = s.tb ∧ t.fl = s.fl ∧
      t.gl.mem = s.gl.mem)) ∧
  (∀ s : State, s.live = true →
    Completes .shShotnumLoRead s (fun t =>
      t = { s with sh := { s.sh with shotHi := t.sh.shotHi } } ∧ t.sh.shotHi.toNat = s.sh.shotNum.toNat / 2 ^ 32)) ∧
  (∀ (s : State) (v : W32) (e : Entry), s.live = true → s.entry (fld v 0 13) = some e →
    Completes (.shLselWrite v) s (fun t =>
      t = { s with sh := { s.sh with lsel := fld v 0 13, lent := t.sh.lent } } ∧
      Tab.get zeroW t.sh.lent 0 = w32 (put e.state 29 3 + put (b2n e.void) 28 1 + put (b2n e.inc) 27 1 + put (b2n e.amb) 26 1 +
        put (e.num / 8192) 13 8 + e.num % 8192) ∧
      Tab.get zeroW t.sh.lent 3 = w32 (e.tplan.toNat % 2 ^ 32)))

/-- The link sends broadcasts first and else polls in turn; failures are counted, and good answers end them (R141,
R142, R143, R145, R146, 05_emitter_link.md). -/
def Obligations.EmitterLinkExchanges : Prop :=
  (∀ s : State, s.live = true → s.tb.coarse.toNat % 1024 ≠ 0 → exec .linkCycle s = .next s) ∧
  (∀ (s : State) (arg n : Nat) (rest : List (Nat × Nat)), s.live = true → s.tb.coarse.toNat % 1024 = 0 →
    s.em.exch = none → s.em.bcast = (arg, n) :: rest →
    Completes .linkCycle s (fun t =>
      t = { s with em := { s.em with bcSeq := t.em.bcSeq, bcast := t.em.bcast, cmdLast := false, emc := t.em.emc } } ∧
      t.em.bcast = (if n ≤ 1 then rest else (arg, n - 1) :: rest) ∧
      t.em.emc = some ⟨s.uptime, emcWord 0 true 3 t.em.bcSeq arg⟩)) ∧
  (∀ (s : State) (d : Nat), s.live = true → s.tb.coarse.toNat % 1024 = 0 → d < 8 → s.em.exch = none → s.em.bcast = [] → s.present = [d] →
    (s.driver d).queue = [] → (s.driver d).repeatPoll = none →
    Completes .linkCycle s (fun t =>
      t.em.exch = some ⟨d, ⟨0, 0⟩, ((s.driver d).seq + 1) % 16, false⟩ ∧
      t.em.emc = some ⟨s.uptime, emcWord d false 0 (((s.driver d).seq + 1) % 16) 0⟩ ∧
      (t.driver d).seq = ((s.driver d).seq + 1) % 16 ∧ Said { s with em := t.em } t)) ∧
  (∀ (s : State) (w : BitVec 40) (e : Exchange), s.live = true → s.em.exch = some e → (s.driver e.drv).fails ≠ 2 →
    crc8 32 (w.toNat / 256) ≠ w.toNat % 256 →
    Completes (.statusWord true w) s (fun t =>
      t.em.exch = none ∧ t.em.retry = s.em.retry + 1 ∧ t.em.crcErr = s.em.crcErr + 1 ∧
      t = { s with em := { s.em with exch := none, retry := t.em.retry, crcErr := t.em.crcErr, drivers := t.em.drivers } })) ∧
  (∀ (s : State) (w : BitVec 40), s.live = true → exec (.statusWord false w) s = .next s) ∧
  (∀ (s : State) (w : BitVec 40) (e : Exchange), s.live = true → s.em.exch = some e → e.cmd.op = 0 →
    crc8 32 (w.toNat / 256) = w.toNat % 256 → bits w.toNat 37 3 = e.drv → bits w.toNat 32 4 = 0 →
    bits w.toNat 28 4 = e.seq → w.toNat.testBit 36 = false →
    Completes (.statusWord true w) s (fun t =>
      t.em.exch = none ∧
      (let r := t.driver e.drv
       r.fails = 0 ∧ r.linkOk = true ∧ r.answered = true ∧ r.flt = false ∧ r.dis = w.toNat.testBit 27 ∧
       r.selErr = ((s.driver e.drv).selErr || w.toNat.testBit 26) ∧ r.ovt = w.toNat.testBit 25 ∧
       r.uvlo = w.toNat.testBit 24 ∧ r.selCnt = bits w.toNat 8 8) ∧
      (∀ d, d ≠ e.drv → t.driver d = s.driver d) ∧
      (s.outstanding 0x0303 e.drv = false →
        Said { s with em := { s.em with exch := none, drivers := t.em.drivers } } t))) ∧
  (∀ (s : State) (e : Exchange), s.live = true → s.em.exch = some e → (s.driver e.drv).fails ≠ 2 →
    Completes .statusWordDeadline s (fun t =>
      t.em.exch = none ∧ t.em.retry = s.em.retry + 1 ∧ (t.driver e.drv).linkOk = (s.driver e.drv).linkOk ∧
      t = { s with em := { s.em with exch := none, retry := t.em.retry, drivers := t.em.drivers } }))

/-- Eye budgets restart, idle lines fall due for diagnosis, void runs and test passes ask the driver (R152, R154,
R156, R157, R394, R417, 05_emitter_link.md). -/
def Obligations.LinesAndTests : Prop :=
  (∀ s : State, s.live = true →
    Completes .eyeBudgetInterval s (fun t =>
      t = { s with em := { s.em with lines := t.em.lines } } ∧
      (∀ k ∈ t.em.lines, k.2.energy = 0 ∧ k.2.eyeRaised = false ∧
        ∃ l, (k.1, l) ∈ s.em.lines ∧ k.2 = { l with energy := 0, eyeRaised := false }))) ∧
  (∀ (s : State) (x : Nat), s.live = true → x < 272 → (s.logical x).isSome = true → (s.line x).state ≠ 3 →
    (s.driver (driverOf x)).width < 4 → (s.line x).lastQual + 256000000 ≤ s.uptime →
    Completes (.diagDue x) s (fun t =>
      t.line x = { s.line x with diagDue := true } ∧ (∀ y, y ≠ x → t.line y = s.line y) ∧
      t = { s with em := { s.em with lines := t.em.lines } })) ∧
  (∀ (s : State) (x : Nat), s.live = true → x < 272 → 4 ≤ (s.driver (driverOf x)).width → exec (.diagDue x) s = .next s) ∧
  (∀ (s : State) (x : Nat), s.live = true → x < 272 → (s.line x).voidRun = s.voidLim → (s.line x).state ≠ 3 →
    (s.driver (driverOf x)).present = true →
    Completes (.voidRun x) s (fun t =>
      Raised 39 s t ∧ (t.driver (driverOf x)).queue = (s.driver (driverOf x)).queue ++ [⟨4, dlineOf x⟩] ∧
      (t.driver (driverOf x)).fbAsk = true ∧ Said { s with em := { s.em with drivers := t.em.drivers } } t)) ∧
  (∀ (s : State) (d : Nat), s.live = true → d < 8 → (s.driver d).voids < s.voidLim → exec (.fbPathCheck d) s = .next s) ∧
  (∀ (s : State) (d : Nat), s.live = true → d < 8 → s.voidLim ≤ (s.driver d).voids → (s.driver d).fbAsk = false →
    s.synthetic d = false → (s.driver d).fbStep = 0 → driverOf (s.driver d).lastVoid = d → (s.driver d).present = true →
    Completes (.fbPathCheck d) s (fun t =>
      t.driver d = { s.driver d with fbAsk := true, queue := (s.driver d).queue ++ [⟨4, dlineOf (s.driver d).lastVoid⟩] } ∧
      (∀ e, e ≠ d → t.driver e = s.driver e) ∧ t = { s with em := { s.em with drivers := t.em.drivers } })) ∧
  (∀ s : State, s.live = true → s.testsRun = true → s.fl.tested = true → s.em.dis = false →
    s.th.startup = false ∨ s.present.all (fun d => (s.driver d).answered) = true →
    Completes .testPass s (fun t =>
      t = { s with em := { s.em with
        testRun := true, drivers := t.em.drivers, lines := t.em.lines, fire := t.em.fire } } ∧
      (∀ d, d < 8 → (s.driver d).present = true →
        (t.driver d).testFb = [] ∧
        (t.driver d).test =
          (List.range 34).map (fun n => (lineAt d n, s.tb.coarse + BitVec.ofNat 54 (1024 * n + 200))) ∧
        ∀ n, n < 34 → ∀ o ∈ testWords d n s.tb.coarse s, o ∈ t.firePair d) ∧
      (∀ d, (s.driver d).present = false → t.driver d = s.driver d ∧ t.firePair d = s.firePair d))) ∧
  (∀ (s : State) (d : Nat), s.live = true → d < 8 → (s.driver d).test = [] → exec (.testPassReport d) s = .next s) ∧
  (∀ (s : State) (d : Nat), s.live = true → d < 8 → (s.driver d).test ≠ [] → (s.driver d).flt = false →
    Completes (.testPassReport d) s (fun t => (t.driver d).test = [] ∧ t.tb = s.tb ∧ t.sh = s.sh ∧ t.fl = s.fl))

/-- EMIT_LIMIT sets the power limit and the disable, LINE_MAP refuses clashes, CLEARFAIL frees a failed line (R151,
R158, R159, R160, R336, R337, R456, 12_command_reference.md). -/
def Obligations.EmitLimitAndLineMap : Prop :=
  (∀ (s : State) (m : Nat) (p : List Byte), Takes s m 0x0504 p → p.length = 4 → 36 < pByte p 0 % 64 →
    Completes (.emitLimit m) s (fun t => Said s t ∧ Answered m (.badarg 0) t)) ∧
  (∀ (s : State) (m : Nat) (p : List Byte), Takes s m 0x0504 p → p.length = 4 → pByte p 0 % 64 ≤ 36 →
    (pByte p 1).testBit 0 = true → s.em.dis = false →
    Completes (.emitLimit m) s (fun t =>
      t.em.plim = pByte p 0 % 64 ∧ t.em.dis = true ∧ t.em.bcast = s.em.bcast ++ [(1, 3)] ∧ (t.ev.get 38).latched = true ∧
      Said { s with em := { s.em with plim := t.em.plim, dis := true, bcast := t.em.bcast, fire := t.em.fire } } t ∧
      Answered m (.plain .ok) t)) ∧
  (∀ (s : State) (m : Nat) (p : List Byte), Takes s m 0x0504 p → p.length = 4 → pByte p 0 % 64 ≤ 36 →
    (pByte p 1).testBit 0 = false → s.em.dis = false →
    Completes (.emitLimit m) s (fun t =>
      Said { s with em := { s.em with plim := pByte p 0 % 64, bcast := s.em.bcast ++ [(0, 3)] } } t ∧
      Answered m (.plain .ok) t)) ∧
  (∀ (s : State) (m : Nat) (p : List Byte), Takes s m 0x0504 p → p.length = 4 → pByte p 0 % 64 ≤ 36 →
    (pByte p 1).testBit 0 = false → s.em.dis = true →
    Completes (.emitLimit m) s (fun t =>
      Said { s with
        em := { s.em with plim := pByte p 0 % 64, dis := false, bcast := s.em.bcast ++ [(0, 3)] }
        sh := { s.sh with dwells := s.sh.dwells.map (fun d => { d with
          barred := d.barred || decide (stampDiff (stampOf d.t0) (stampOf (s.tb.coarse + 1000)) < 0) }) } } t ∧
      Answered m (.plain .ok) t)) ∧
  (∀ (s : State) (m : Nat) (p : List Byte) (j : Nat), Takes s m 0x0505 p → restMode s = true → p.length = 4 + 2 * pByte p 2 →
    pByte p 0 = 0 → pByte p 2 ≠ 0 → pByte p 2 ≤ 32 → pByte p 1 + pByte p 2 ≤ 256 → badMapEntry s (mapEntries p) = some j →
    Completes (.lineMap m) s (fun t => Said s t ∧ Answered m (.badarg (4 + 2 * j)) t)) ∧
  (∀ (s : State) (m : Nat) (p : List Byte) (j : Nat), Takes s m 0x0505 p → restMode s = true → p.length = 4 + 2 * pByte p 2 →
    pByte p 0 = 0 → pByte p 2 ≠ 0 → pByte p 2 ≤ 32 → pByte p 1 + pByte p 2 ≤ 256 → badMapEntry s (mapEntries p) = none →
    mapClash (mapEntries p)
      (((List.range 256).filter (fun k => k < pByte p 1 || pByte p 1 + pByte p 2 ≤ k)).map s.pline) 0 = some j →
    Completes (.lineMap m) s (fun t => Said s t ∧ Answered m (.badarg (4 + 2 * j)) t)) ∧
  (∀ (s : State) (m : Nat) (p : List Byte), Takes s m 0x0505 p → restMode s = true → p.length = 6 → pByte p 0 = 0 →
    pByte p 2 = 1 → badMapEntry s (mapEntries p) = none → (∀ k, k < 256 → k ≠ pByte p 1 → s.pline k ≠ pNat p 4 2) →
    s.ps.spares = [] → (s.ps.cell (0x01000800 + 4 * pByte p 1)).unreadable = false →
    (s.ps.cell (0x01000800 + 4 * pByte p 1)).stuck = 0 → (s.ps.cell (0x01000800 + 4 * pByte p 1)).wear < 100000000 →
    (∀ x ∈ s.ps.upset, x.1 ≠ 0x01000800 + 4 * pByte p 1) →
    Completes (.lineMap m) s (fun t =>
      t.ps.read (0x01000800 + 4 * pByte p 1) = w32 (pNat p 4 2) ∧ t.pline (pByte p 1) = pNat p 4 2 ∧
      (∀ a, a ≠ 0x01000800 + 4 * pByte p 1 → t.ps.read a = s.ps.read a) ∧ t.em = s.em ∧ t.sh = s.sh ∧ t.tb = s.tb ∧
      t.fl = s.fl ∧ Answered m (.plain .ok) t)) ∧
  (∀ (s : State) (m : Nat) (p : List Byte), Takes s m 0x0505 p → deepMode s = true → p.length = 4 → pByte p 0 = 1 →
    pNat p 2 2 ≤ 271 → (s.line (pNat p 2 2)).state ≠ 3 →
    Completes (.clearfail m) s (fun t => Said s t ∧ Answered m (.badarg 2) t)) ∧
  (∀ (s : State) (m : Nat) (p : List Byte), Takes s m 0x0505 p → deepMode s = true → p.length = 4 → pByte p 0 = 1 →
    pNat p 2 2 ≤ 271 → (s.line (pNat p 2 2)).state = 3 → s.ps.spares = [] →
    (s.ps.cell (failAddr (pNat p 2 2))).unreadable = false → (s.ps.cell (failAddr (pNat p 2 2))).stuck = 0 →
    (s.ps.cell (failAddr (pNat p 2 2))).wear < 100000000 → (∀ x ∈ s.ps.upset, x.1 ≠ failAddr (pNat p 2 2)) →
    Completes (.clearfail m) s (fun t =>
      (t.line (pNat p 2 2)).state = 0 ∧ (∀ y, y ≠ pNat p 2 2 → t.line y = s.line y) ∧
      pread t (failAddr (pNat p 2 2)) = pread s (failAddr (pNat p 2 2)) &&& ~~~(failBit (pNat p 2 2)) ∧
      Answered m (.plain .ok) t))

/-- An increment adds one to its bin, a swap freezes exactly what was counted, and the end of a pass empties the
frozen buffer (R165, R166, R167, R169, R172, R175, R174, 06_arcade_histograms.md). -/
def Obligations.IncrementsFillTheBuffers : Prop :=
  (∀ (s : State) (i x did tag : Nat) (amb : Bool) (r : List Inc), s.live = true → s.arcadeRuns = true → i < 512 →
    (s.achan i).incs = .inc x did tag amb :: r → (s.achan i).current (binOf s.bw x) < 65535 →
    Completes (.incrementIssue i) s (fun t =>
      (t.achan i).current (binOf s.bw x) = (s.achan i).current (binOf s.bw x) + 1 ∧
      (∀ b, b ≠ binOf s.bw x → (t.achan i).current b = (s.achan i).current b) ∧
      (t.achan i).incs = r ∧ (t.achan i).cnt.ninc = sat24 (s.achan i).cnt.ninc ∧ (∀ j, j ≠ i → t.achan j = s.achan j) ∧
      t = { s with ar := { s.ar with chans := t.ar.chans }, av := { s.av with lcnt := t.av.lcnt } })) ∧
  (∀ (s : State) (i x did tag : Nat) (amb : Bool) (r : List Inc), s.live = true → s.arcadeRuns = true → i < 512 →
    (s.achan i).incs = .inc x did tag amb :: r → (s.achan i).current (binOf s.bw x) = 65535 →
    Completes (.incrementIssue i) s (fun t =>
      (∀ b, (t.achan i).current b = (s.achan i).current b) ∧ (t.achan i).sat = true ∧ (t.achan i).cnt.sat = true ∧
      (t.achan i).incs = r ∧ (∀ j, j ≠ i → t.achan j = s.achan j) ∧
      ((s.achan i).cnt.sat = false → ((s.dwell did).map Dwell.satSeen).getD false = false → t.ar.satCnt = s.ar.satCnt + 1) ∧
      (((s.dwell did).map Dwell.satSeen).getD false = true → t.ar.satCnt = s.ar.satCnt) ∧
      Said { s with ar := t.ar, sh := { s.sh with dwells := t.sh.dwells } } t)) ∧
  (∀ (s : State) (i did : Nat) (r : List Inc), s.live = true → s.arcadeRuns = true → i < 512 →
    (s.achan i).incs = .token did :: r → (s.achan i).pass = false →
    Completes (.bufferSwap i) s (fun t =>
      (t.achan i).incs = r ∧ (t.achan i).accY = !(s.achan i).accY ∧ (t.achan i).pass = true ∧
      (t.achan i).dwells = (s.achan i).dwells + 1 ∧ (t.achan i).cnt = noCounts ∧ (t.achan i).opened = some s.uptime ∧
      (∃ l, (t.achan i).lanes = (s.achan i).lanes ++ [l] ∧ l.did = did ∧ l.cnt = (s.achan i).cnt ∧
        ∀ b, Tab.get zeros l.bins b = (s.achan i).current b) ∧
      (∀ j, j ≠ i → t.achan j = s.achan j) ∧
      t = { s with ar := { s.ar with chans := t.ar.chans, snapArm := t.ar.snapArm }, sh := { s.sh with dwells := t.sh.dwells } })) ∧
  (∀ (s : State) (i : Nat), s.live = true → i < 512 → (s.achan i).pass = true →
    Completes (.readoutPassEnd i) s (fun t =>
      (t.achan i).pass = false ∧ (t.achan i).waitPass = false ∧ (t.achan i).acc = (s.achan i).acc ∧
      (if (t.achan i).accY then (t.achan i).binsX else (t.achan i).binsY) = [] ∧ (t.achan i).incs = (s.achan i).incs ∧
      (∀ j, j ≠ i → t.achan j = s.achan j) ∧ t.sh.ledger = s.sh.ledger ∧ t.tb = s.tb ∧ t.fl = s.fl ∧ t.gl.mem = s.gl.mem))

/-- HIST_CFG, the three HIST_SNAP subcommands and the ARM time-out (order of the answers of READ: model's reading, log
68) (R164, R178, R179, R338, R340, 12_command_reference.md, model choice: log 68). -/
def Obligations.HistogramCommands : Prop :=
  (∀ (s : State) (m : Nat) (p : List Byte), Takes s m 0x0601 p → p.length = 4 → restMode s = true → 2 ≤ pByte p 1 % 16 →
    pByte p 1 % 16 ≤ 8 → s.ar.snapArm = none → s.passesLeft = false →
    rejudge s { s.adm with w := windowOf (w32 (put (pByte p 0) 16 2 + pByte p 1 % 16)) } false = none →
    Completes (.histCfg m) s (fun t =>
      t.ar.cfg = w32 (put (pByte p 0) 16 2 + pByte p 1 % 16) ∧
      (∀ i, (t.achan i).binsX = [] ∧ (t.achan i).binsY = [] ∧ (t.achan i).accY = false) ∧
      t.ar.snapOk = false ∧
      Said { s with ar := { s.ar with cfg := t.ar.cfg, chans := t.ar.chans, slots := [], snapOk := false, snapN := 0 } } t ∧
      Answered m (.plain .ok) t)) ∧
  (∀ (s : State) (m : Nat) (p : List Byte), Takes s m 0x0603 p → pByte p 0 = 0 → s.ranges = true → 1 ≤ pByte p 2 →
    pByte p 2 ≤ 16 → p.length = 4 + 2 * pByte p 2 → (∀ c ∈ armChans p, c ≤ 511) → s.ar.snapArm = none →
    Completes (.histSnapArm m) s (fun t =>
      Said { s with ar := { s.ar with
        snapArm := some { line := pByte p 1, chans := armChans p, tk := s.ticket m, armedAt := s.uptime, did := none }
        slots := (armChans p).map (fun c => emptySlot c none), snapOk := false, snapN := 0 } } t ∧ Answered m (.plain .ok) t)) ∧
  (∀ (s : State) (m : Nat) (p : List Byte) (x : Slot), Takes s m 0x0603 p → pByte p 0 = 1 → p.length = 8 →
    s.ar.snapArm = none → s.ar.snapOk = true → s.ar.slots[pByte p 1]? = some x → 1 ≤ pNat p 4 2 → pNat p 4 2 ≤ 512 →
    pNat p 2 2 + pNat p 4 2 ≤ s.bins →
    Completes (.histSnapRead m) s (fun t => Said s t ∧ Answered m
      (.okWith ((List.range (pNat p 4 2)).flatMap (fun j => beBytes 2 (Tab.get zeros x.bins (pNat p 2 2 + j))))) t)) ∧
  (∀ (s : State) (m : Nat) (p : List Byte), Takes s m 0x0603 p → pByte p 0 = 1 → p.length = 8 → s.ar.snapArm = none →
    s.ar.snapOk = false → Completes (.histSnapRead m) s (fun t => Said s t ∧ Answered m (.plain .stale) t)) ∧
  (∀ (s : State) (m : Nat) (p : List Byte) (x : Slot), Takes s m 0x0603 p → pByte p 0 = 2 → p.length = 4 →
    s.ar.snapArm = none → s.ar.snapOk = true → s.ar.slots[pByte p 1]? = some x →
    Completes (.histSnapInfo m) s (fun t => Said s t ∧ Answered m (.okWith (beBytes 2 x.chan ++
      [BitVec.ofNat 8 (b2n x.present + 2 * b2n x.cnt.sat + 4 * b2n x.inc + 8 * b2n x.amb + 16 * b2n x.void + 32 * b2n x.short),
        BitVec.ofNat 8 x.line] ++ beBytes 4 x.group ++ beBytes 2 x.pline ++ beBytes 2 x.step ++ beBytes 2 x.nplan ++
      beBytes 2 x.nfired ++ beBytes 2 x.nvoid ++ [0, 0] ++ beBytes 4 x.cnt.ninc ++ beBytes 4 x.cnt.namb ++
      beBytes 4 x.cnt.nearly ++ beBytes 4 x.cnt.nout)) t)) ∧
  (∀ (s : State) (a : SnapArm), s.live = true → s.ar.snapArm = some a → a.did = none →
    Completes .histSnapArmTimeout s (fun t =>
      Said { s with ar := { s.ar with snapArm := none, slots := [], snapOk := false, snapN := 0 } } t))

/-- Phase 1 keeps the highest 32 local maxima of the filter at or above M, and phase 2 makes and places the records of
those that pass (R183, R187, R188, R189, R190, R191, R206, R235, R415, 07_returns_and_rejection.md). -/
def Obligations.PeaksAndRecords : Prop :=
  (∀ (s : State) (i : Nat) (l : Lane) (r : List Lane), s.live = true → i < 512 → (s.achan i).lanes = l :: r →
    l.passEnd = true → l.phase1 = false →
    let n := lenF l.xcfg
    let top := s.bins - n
    let f (b : Nat) : Nat := boxSum l.bins b n
    let cs := (List.range (top + 1)).filter (isPeak f top (fld l.xcfg 16 8))
    Completes (.extractionPhase1 i) s (fun t =>
      (∃ l', (t.achan i).lanes = l' :: r ∧
        l' = { l with phase1 := true, aHist := histAmbient l.bins s.bins, peaks := l'.peaks, overFlag := decide (32 < cs.length) } ∧
        l'.peaks.length = min 32 cs.length ∧ (l'.peaks.map Peak.b).Nodup ∧
        l'.peaks.Pairwise (fun x y => peakBefore x y = true) ∧
        (∀ p ∈ l'.peaks, p.b ∈ cs ∧ p = peakAt f top p.b ∧ p.s = boxSum l.bins p.b n) ∧
        (∀ b ∈ cs, peakAt f top b ∉ l'.peaks → ∀ p ∈ l'.peaks, peakBefore p (peakAt f top b) = true)) ∧
      t.achan i = { s.achan i with lanes := (t.achan i).lanes } ∧ (∀ j, j ≠ i → t.achan j = s.achan j) ∧
      t = { s with ar := { s.ar with chans := t.ar.chans } })) ∧
  (∀ (f : Nat → Nat) (top m b : Nat), isPeak f top m b = true ↔
    m ≤ f b ∧ (b = 0 ∨ f (b - 1) < f b) ∧ (b = top ∨ f (b + 1) ≤ f b)) ∧
  (∀ (s : State) (i : Nat) (l : Lane) (r : List Lane) (d : Dwell), s.live = true → i < 512 → (s.achan i).lanes = l :: r →
    l.phase1 = true → s.dwell l.did = some d → d.joined = true →
    Completes (.extractionPhase2 i) s (fun t =>
      t.achan i = { s.achan i with lanes := r } ∧ (∀ j, j ≠ i → t.achan j = s.achan j) ∧
      t.ar.rainCnt = s.ar.rainCnt + w32 (phase2Of s d i l).2 ∧
      (t.dwell l.did).map (fun d => d.extracted.contains i) = some true ∧
      (t.dwell l.did).map (fun d => Tab.get (fun _ => []) d.records i) = some (phase2Of s d i l).1 ∧
      (s.sh.dwells.find? (fun d => !d.placed) = some d → (s.served d).all (fun j => j == i || d.extracted.contains j) = true →
        (t.dwell l.did).map Dwell.placed = some true) ∧
      t.tb = s.tb ∧ t.fl = s.fl ∧ t.ms = s.ms ∧ t.sh.ledger = s.sh.ledger)) ∧
  (∀ (s : State) (d : Dwell) (i : Nat) (l : Lane), (phase2Of s d i l).1.length ≤ nretOf l.xcfg) ∧
  (∀ (s : State) (d : Dwell) (i : Nat) (l : Lane), d.nplan ≠ 0 → d.nok ≠ 0 → d.dead.contains (chanFlight i) = false →
    let a := ambient s d l
    let pass := l.peaks.filter (fun p => decide (l.thr a ≤ p.s) && (!l.inRain s.bw p || l.dry a d.nok p))
    let kept := separate (lenF l.xcfg) [] pass
    (phase2Of s d i l).1.length = min (nretOf l.xcfg) kept.length ∧
    (∀ x ∈ (phase2Of s d i l).1, ∃ p ∈ kept, ∃ j, x = recordOf s d i a l (l.overFlag || decide (nretOf l.xcfg < kept.length)) j p) ∧
    (kept.length ≤ nretOf l.xcfg → ∀ p ∈ kept, ∃ j, recordOf s d i a l l.overFlag j p ∈ (phase2Of s d i l).1)) ∧
  (∀ (n : Nat) (ps : List Peak), 1 ≤ n → ps.Pairwise (fun x y => y.s ≤ x.s) →
    (∀ q ∈ separate n [] ps, q ∈ ps) ∧
    (separate n [] ps).Pairwise (fun x y => n ≤ (Int.ofNat x.b - Int.ofNat y.b).natAbs) ∧
    (∀ p ∈ ps, ∃ q ∈ separate n [] ps, (Int.ofNat p.b - Int.ofNat q.b).natAbs < n ∧ p.s ≤ q.s)) ∧
  (∀ (s : State) (f i : Nat), s.live = true → f < 32 → i ∈ flightChans f → (s.achan i).lanes ≠ [] →
    Completes (.laneLate f) s (fun t =>
      bit t.bl.pmflt f = true ∧ (∀ g, g < 32 → g ≠ f → bit t.bl.pmflt g = bit s.bl.pmflt g) ∧
      Tab.get zeros t.ar.laneBad f = 1 ∧ t.outstanding 0x0203 f = true ∧ (t.ev.get 52).latched = true ∧
      t.ar.chans = s.ar.chans ∧ t.tb = s.tb ∧ t.fl = s.fl ∧ t.gl.mem = s.gl.mem))

/-- Clusters leave their pool, an acquisition interval clears the votes, a miss moves the prediction on, REJECT_CFG
sets all (R195, R196, R197, R198, R204, R339, 07_returns_and_rejection.md). -/
def Obligations.ForeignTrains : Prop :=
  (∀ (s : State) (f : Nat) (u : Stamp), s.live = true → f < 32 → earliest (s.locker f).outPool = some u →
    Completes (.clusterClose f true) s (fun t =>
      (t.locker f).outPool = (s.locker f).outPool.filter (fun q => !inCluster u q) ∧ (t.locker f).pool = (s.locker f).pool ∧
      (∀ g, g ≠ f → t.locker g = s.locker g) ∧ t = { s with ar := { s.ar with lockers := t.ar.lockers } })) ∧
  (∀ (s : State) (f : Nat) (u : Stamp), s.live = true → f < 32 → earliest (s.locker f).pool = some u →
    Completes (.clusterClose f false) s (fun t =>
      t.locker f = { s.locker f with pool := (s.locker f).pool.filter (fun q => !inCluster u q) } ∧
      (∀ g, g ≠ f → t.locker g = s.locker g) ∧
      Said { s with ar := { s.ar with lockers := t.ar.lockers, trackers := t.ar.trackers } } t)) ∧
  (∀ (s : State) (f : Nat), s.live = true → f < 32 →
    Completes (.acquisitionIntervalEnd f) s (fun t =>
      (t.locker f).votes = [] ∧ (t.locker f).idle = false ∧ (∀ g, g ≠ f → t.locker g = s.locker g) ∧
      (s.ftOn = false → t.ar.trackers = s.ar.trackers) ∧
      Said { s with ar := { s.ar with lockers := t.ar.lockers, trackers := t.ar.trackers } } t)) ∧
  (∀ (s : State) (f k : Nat), s.live = true → f < 32 → k < 2 → (s.tracker f k).state ≠ 0 →
    Completes (.trackerMiss f k) s (fun t =>
      ((t.tracker f k).state ≠ 0 →
        (t.tracker f k).tPred = (s.tracker f k).tPred + periodStamp (s.tracker f k).period ∧
        (t.tracker f k).hist = (false :: (s.tracker f k).hist).take 16) ∧
      (∀ g j, j < 2 → (g ≠ f ∨ j ≠ k) → t.tracker g j = s.tracker g j) ∧
      Said { s with ar := { s.ar with trackers := t.ar.trackers } } t)) ∧
  (∀ (s : State) (m : Nat) (p : List Byte), Takes s m 0x0602 p → p.length = 16 →
    rejectBad (pWord p 0 &&& 0xFFFF0333) (pWord p 12 &&& 0x8FFFFCFF) = none →
    fld (pWord p 0 &&& 0xFFFF0333) 4 2 + 1 ≤ s.adm.nret →
    Completes (.rejectCfg m) s (fun t =>
      t.ar.xcfg = pWord p 0 &&& 0xFFFF0333 ∧ t.ar.xsun = pWord p 4 &&& 0xFFFF ∧ t.ar.xrain = pWord p 8 &&& 0xFFFF ∧
      t.ar.ftcfg = pWord p 12 &&& 0x8FFFFCFF ∧ t.ar.chans = s.ar.chans ∧ Said { s with ar := t.ar } t ∧
      Answered m (.plain .ok) t)) ∧
  (∀ (s : State) (m : Nat) (p : List Byte) (off : Nat), Takes s m 0x0602 p → p.length = 16 →
    rejectBad (pWord p 0 &&& 0xFFFF0333) (pWord p 12 &&& 0x8FFFFCFF) = some off →
    Completes (.rejectCfg m) s (fun t => Said s t ∧ Answered m (.badarg off) t))

/-- A slot starts, passes boundaries, forms FREQ and PERIOD results between two anchors, judges its starts (logs 37,
63) (R210, R212, R214, R219, R220, R222, R97, 08_counter_measurements.md, model choice: log 37, model choice: log 63).
-/
def Obligations.GatesAndResults : Prop :=
  (∀ (s : State) (k : Nat), s.live = true → k < 32 → (s.slot k).state = 1 → (s.slot k).tStart ≠ none → s.slotsRun = true →
    Completes (.slotRunStart k) s (fun t => t.slot k = { s.slot k with state := 2 } ∧ (∀ j, j ≠ k → t.slot j = s.slot j) ∧
      t = { s with ms := { s.ms with slots := t.ms.slots } })) ∧
  (∀ (s : State) (k : Nat), s.live = true → k < 32 → (s.slot k).state = 2 →
    Completes (.gateBoundary k) s (fun t =>
      (t.slot k).k = (s.slot k).k + 1 ∧
      (t.slot k).g = (if (s.slot k).k = 0 then (s.slot k).g
        else (s.slot k).g + BitVec.ofNat 54 (fld (s.slot k).gate 0 30 * 1000)) ∧
      t.slot k = { s.slot k with
        refs := Tab.insert (s.slot k).refs (s.slot k).k s.tb.state.code, g := (t.slot k).g, k := (t.slot k).k } ∧
      (∀ j, j ≠ k → t.slot j = s.slot j) ∧ t = { s with ms := { s.ms with slots := t.ms.slots } })) ∧
  (∀ (s : State) (k : Nat) (p q : Anchor), s.live = true → k < 32 → (s.slot k).state = 2 →
    (s.slot k).type = 1 ∨ (s.slot k).type = 2 → anchorAt (s.slot k).ancA (s.slot k).judged = some p →
    anchorAt (s.slot k).ancA ((s.slot k).judged + 1) = some q → (s.slot k).ripe (s.slot k).judged = true →
    Completes (.gateResult k) s (fun t =>
      (t.slot k).res = (limited (if (s.slot k).type = 1 then freqOf p q else periodOf p q)).1 ∧
      (t.slot k).gateCnt = (s.slot k).gateCnt + 1 ∧ (t.slot k).judged = (s.slot k).judged + 1 ∧
      (t.slot k).state = (if (s.slot k).ngates ≠ 0 ∧ (s.slot k).ngates.toNat ≤ (s.slot k).judged + 1 then 3 else 2) ∧
      (t.slot k).ended = ⟨(t.slot k).n, (t.slot k).s1, (t.slot k).s2, (t.slot k).mn, (t.slot k).mx, (t.slot k).unpair,
        (t.slot k).gapCnt⟩ ∧
      (∀ j, j ≠ k → t.slot j = s.slot j) ∧ Said { s with ms := { s.ms with slots := t.ms.slots } } t)) ∧
  (∀ (s : State) (k : Nat) (a : Tapped) (r : List Tapped), s.live = true → k < 32 → (s.slot k).state = 2 →
    (s.slot k).starts = a :: r → stopOf s { s.slot k with starts := r } a = none →
    Completes (.intervalJudge k) s (fun t =>
      (t.slot k).starts = r ∧ (t.slot k).unpair = (s.slot k).unpair + 1 ∧ (t.slot k).pairs = (s.slot k).pairs ∧
      (t.slot k).n = (s.slot k).n ∧ (∀ j, j ≠ k → t.slot j = s.slot j) ∧
      Said { s with ms := { s.ms with slots := t.ms.slots } } t)) ∧
  (∀ (s : State) (k : Nat) (a b : Tapped) (r : List Tapped), s.live = true → k < 32 → (s.slot k).state = 2 →
    (s.slot k).starts = a :: r → stopOf s { s.slot k with starts := r } a = some b → b.gap = false →
    s.elapsed (s.slot k).inA a (s.slot k).inB b ≤ (s.slot k).hmax.toInt →
    Completes (.intervalJudge k) s (fun t =>
      (t.slot k).starts = r ∧ (t.slot k).pairs = (s.slot k).pairs + 1 ∧ 
      (t.slot k).pairRes = s.elapsed (s.slot k).inA a (s.slot k).inB b ∧
      (t.slot k).unpair = (s.slot k).unpair ∧ (∀ j, j ≠ k → t.slot j = s.slot j) ∧
      Said { s with ms := { s.ms with slots := t.ms.slots } } t)) ∧
  (∀ (s : State) (k : Nat), s.live = true → k < 32 →
    Completes (.msSgatecntRead k) s (fun t =>
      t.slot k = { s.slot k with
        latched := some ⟨(s.slot k).res, (s.slot k).ended.n, (s.slot k).ended.mn, (s.slot k).ended.mx,
          (s.slot k).ended.unpair, (s.slot k).ended.gapCnt⟩ } ∧
      (∀ j, j ≠ k → t.slot j = s.slot j) ∧ t = { s with ms := { s.ms with slots := t.ms.slots } }))

/-- SYNC pulses, the camera loop's correction, MEAS_CFG of a slot and of an output (checks: log 62), and MEAS_READ
(R219, R222, R223, R224, R341, R342, R343, 12_command_reference.md, model choice: log 62). -/
def Obligations.OutputsAndMeasurementCommands : Prop :=
  (∀ (s : State) (n : Nat) (t0 : Coarse), s.live = true → n < 4 → (s.sync n).mode = 1 → (s.sync n).tStart = some t0 →
    Completes (.syncPulse n) s (fun t =>
      t.sync n = { s.sync n with
        high := if s.slotsRun then some (s.uptime + (s.sync n).width) else (s.sync n).high, j := (s.sync n).j + 1
        last := some (t0 + BitVec.ofNat 54 ((s.sync n).j * (s.sync n).per.toNat / 65536))
        prevOfs := (s.sync n).prevOfs.filter
          (fun o => before (t0 + BitVec.ofNat 54 ((s.sync n).j * (s.sync n).per.toNat / 65536)) o.2) } ∧
      (∀ j, j ≠ n → t.sync j = s.sync j) ∧ t = { s with ms := { s.ms with syncs := t.ms.syncs } })) ∧
  (∀ (s : State) (n f : Nat) (t0 : Nominal) (fs : List (Nat × Nominal)), s.live = true → n < 4 → (s.sync n).mode = 2 →
    (s.sync n).pulses = (f, t0) :: fs →
    Completes (.syncPulse n) s (fun t =>
      t.sync n = { s.sync n with
        high := if s.slotsRun then some (s.uptime + (s.sync n).width) else (s.sync n).high, pulses := fs
        last := some ((s.sync n).pulseAt t0)
        prevOfs := (s.sync n).prevOfs.filter (fun o => before ((s.sync n).pulseAt t0) o.2) } ∧
      (∀ j, j ≠ n → t.sync j = s.sync j) ∧ t = { s with ms := { s.ms with syncs := t.ms.syncs } })) ∧
  (∀ (s : State) (n k f : Nat) (t0 : Nominal) (fs : List (Nat × Nominal × Nat)), s.live = true → n < 4 →
    (s.sync n).frames = (k, t0, f) :: fs →
    (∀ e ∈ (s.sync n).edges, stampDiff e (nominalStamp (t0 + BitVec.ofInt 58 (s.sync n).tgt.toInt)) < -Int.ofNat (32 * f) ∨
      Int.ofNat (32 * f) ≤ stampDiff e (nominalStamp (t0 + BitVec.ofInt 58 (s.sync n).tgt.toInt))) →
    Completes (.cameraLoopUpdate n) s (fun t =>
      (t.sync n).good = 0 ∧ (t.sync n).locked = false ∧ (t.sync n).ofs = (s.sync n).ofs ∧ (t.sync n).frames = fs ∧
      (∀ j, j ≠ n → t.sync j = s.sync j) ∧ Said { s with ms := { s.ms with syncs := t.ms.syncs } } t)) ∧
  (∀ (s : State) (n k f : Nat) (t0 : Nominal) (fs : List (Nat × Nominal × Nat)) (e : Stamp) (es : List Stamp), s.live = true →
    n < 4 → (s.sync n).frames = (k, t0, f) :: fs → (s.sync n).edges = e :: es →
    -Int.ofNat (32 * f) ≤ stampDiff e (nominalStamp (t0 + BitVec.ofInt 58 (s.sync n).tgt.toInt)) →
    stampDiff e (nominalStamp (t0 + BitVec.ofInt 58 (s.sync n).tgt.toInt)) < Int.ofNat (32 * f) →
    Completes (.cameraLoopUpdate n) s (fun t =>
      (t.sync n).ofs = (s.sync n).ofs - BitVec.ofInt 32 (shiftErr
        (divHalfUp (stampDiff e (nominalStamp (t0 + BitVec.ofInt 58 (s.sync n).tgt.toInt))) 64) (s.sync n).gain) ∧
      (t.sync n).err =
        BitVec.ofInt 32 (divHalfUp (stampDiff e (nominalStamp (t0 + BitVec.ofInt 58 (s.sync n).tgt.toInt))) 64) ∧
      (t.sync n).frames = fs ∧ (∀ j, j ≠ n → t.sync j = s.sync j) ∧
      Said { s with ms := { s.ms with syncs := t.ms.syncs } } t)) ∧
  (∀ (s : State) (m : Nat) (p : List Byte), Takes s m 0x0701 p → pByte p 0 = 0 → p.length = 40 → s.th.mode ≠ .dormant →
    slotBad s p (slotFrom p) = none → (∀ i, i < 524 → s.unitsOn (pByte p 1) (slotFrom p) i ≤ 4) → (slotFrom p).type ≠ 0 →
    Completes (.measCfg m) s (fun t =>
      t.slot (pByte p 1) = { slotFrom p with
        state := 1, tStart := startInstant (pByte p 2) p s, g := (startInstant (pByte p 2) p s).getD 0 } ∧
      (∀ j, j ≠ pByte p 1 → t.slot j = s.slot j) ∧ Said { s with ms := { s.ms with slots := t.ms.slots } } t ∧
      Answered m (.plain .ok) t)) ∧
  (∀ (s : State) (m : Nat) (p : List Byte), Takes s m 0x0701 p → pByte p 0 = 0 → p.length = 40 → s.th.mode ≠ .dormant →
    slotBad s p (slotFrom p) = none → (slotFrom p).type = 0 →
    Completes (.measCfg m) s (fun t =>
      t.slot (pByte p 1) = { s.slot (pByte p 1) with
        cfg := (slotFrom p).cfg, gate := (slotFrom p).gate, ngates := (slotFrom p).ngates, hmin := (slotFrom p).hmin
        hmax := (slotFrom p).hmax, pnom := (slotFrom p).pnom, apply := (slotFrom p).apply, state := 0 } ∧
      (∀ j, j ≠ pByte p 1 → t.slot j = s.slot j) ∧ Said { s with ms := { s.ms with slots := t.ms.slots } } t ∧
      Answered m (.plain .ok) t)) ∧
  (∀ (s : State) (m : Nat) (p : List Byte) (off : Nat), Takes s m 0x0701 p → pByte p 0 = 0 → p.length = 40 →
    s.th.mode ≠ .dormant → slotBad s p (slotFrom p) = some off →
    Completes (.measCfg m) s (fun t => Said s t ∧ Answered m (.badarg off) t)) ∧
  (∀ (s : State) (m : Nat) (p : List Byte), Takes s m 0x0701 p → pByte p 0 = 1 → p.length = 40 → s.th.mode ≠ .dormant →
    syncBad s p (syncFrom p) = none →
    Completes (.measCfgSync m) s (fun t =>
      (t.sync (pByte p 1)).cfg = (syncFrom p).cfg ∧ (t.sync (pByte p 1)).per = (syncFrom p).per ∧
      (t.sync (pByte p 1)).ofs = (syncFrom p).ofs ∧ (t.sync (pByte p 1)).tgt = (syncFrom p).tgt ∧
      (∀ j, j ≠ pByte p 1 → t.sync j = s.sync j) ∧ Said { s with ms := { s.ms with syncs := t.ms.syncs } } t ∧
      Answered m (.plain .ok) t)) ∧
  (∀ (s : State) (m : Nat) (p : List Byte) (off : Nat), Takes s m 0x0701 p → pByte p 0 = 1 → p.length = 40 →
    s.th.mode ≠ .dormant → syncBad s p (syncFrom p) = some off →
    Completes (.measCfgSync m) s (fun t => Said s t ∧ Answered m (.badarg off) t)) ∧
  (∀ (s : State) (m : Nat) (p : List Byte), Takes s m 0x0702 p → p.length = 4 → pByte p 0 ≤ 31 →
    Completes (.measRead m) s (fun t => Said s t ∧ Answered m (.okWith (s.slot (pByte p 0)).answer) t))

/-- A dwell leaves at its decision, a violation is counted and raised, and ENV_LOAD writes the envelope and renews its
sum (R229, R230, R231, R234, R236, R344, R372, 09_balustrade_and_colonnade.md, model choice: log 86). -/
def Obligations.EnvelopeAndDecisions : Prop :=
  (∀ (s : State) (d : Dwell), s.live = true → s.sh.dwells.find? (fun d => d.placed) = some d → s.supervises = false →
    s.th.pend ≠ some .survey →
    exec .dwellDecision s = .next { s with sh := { s.sh with dwells := s.sh.dwells.filter (fun x => x.did ≠ d.did) } }) ∧
  (∀ (s : State) (d : Dwell), s.live = true → s.sh.dwells.find? (fun d => d.placed) = some d → s.supervises = true →
    s.th.pend ≠ some .survey →
    ((s.violations d).1.map recChan ++ (s.violations d).2).eraseDups.length < fld s.bl.cfg 16 5 →
    exec .dwellDecision s = .next { s with
      sh := { s.sh with dwells := s.sh.dwells.filter (fun x => x.did ≠ d.did) }
      bl := { s.bl with dwellCnt := s.bl.dwellCnt + 1 } }) ∧
  (∀ (s : State) (d : Dwell), s.live = true → s.sh.dwells.find? (fun d => d.placed) = some d → s.supervises = true →
    s.th.pend ≠ some .survey →
    fld s.bl.cfg 16 5 ≤ ((s.violations d).1.map recChan ++ (s.violations d).2).eraseDups.length →
    Completes .dwellDecision s (fun t =>
      t.bl = { s.bl with dwellCnt := s.bl.dwellCnt + 1, violCnt := s.bl.violCnt + 1, viol := true, violAt := some s.uptime } ∧
      t.sh = { s.sh with dwells := s.sh.dwells.filter (fun x => x.did ≠ d.did) } ∧ (t.ev.get 80).latched = true ∧
      t.tb = s.tb ∧ t.fl = s.fl ∧ t.em = s.em ∧ t.ar = s.ar ∧ t.gl.mem = s.gl.mem)) ∧
  (∀ (s : State) (m : Nat) (p : List Byte), Takes s m 0x0801 p → 8 ≤ p.length → p.length = 8 + 2 * pNat p 4 2 →
    pNat p 0 2 ≤ 271 → pNat p 2 2 % 2 = 0 → pNat p 4 2 % 2 = 0 → pNat p 4 2 ≠ 0 → pNat p 2 2 + pNat p 4 2 ≤ 512 →
    s.bl.envLoad = none →
    Completes (.envLoad m) s (fun t =>
      Said { s with bl := { s.bl with envLoad := some ⟨pNat p 0 2, pNat p 2 2,
        (List.range (pNat p 4 2)).map (fun j => BitVec.ofNat 16 (pNat p (8 + 2 * j) 2)), s.ticket m⟩ } } t ∧
      Answered m (.plain .ok) t)) ∧
  (∀ (s : State) (m : Nat) (p : List Byte), Takes s m 0x0801 p → 8 ≤ p.length → p.length = 8 + 2 * pNat p 4 2 →
    pNat p 0 2 ≤ 271 → pNat p 2 2 % 2 = 0 → pNat p 4 2 % 2 = 0 → pNat p 4 2 ≠ 0 → pNat p 2 2 + pNat p 4 2 ≤ 512 →
    s.bl.envLoad ≠ none → Completes (.envLoad m) s (fun t => Said s t ∧ Answered m (.plain .busy) t)) ∧
  (∀ (s : State) (e : EnvLoad), s.live = true → s.bl.envLoad = some e →
    Completes .envLoadComplete s (fun t =>
      t.bl = { s.bl with envLoad := none, sumBusy := true } ∧ t.ps = (commits e.words s).2.2.ps ∧ t.tb = s.tb ∧ t.fl = s.fl ∧
      t.gl.mem = s.gl.mem)) ∧
  (∀ s : State, s.live = true → s.bl.sumBusy = true →
    Completes .envsumDone s (fun t =>
      let r := checkReads ((s.ps.upset.map Prod.fst).filter (fun a => 0x01040000 ≤ a && a < 0x01084000)) s
      t = { r with bl := { s.bl with sumBusy := false, envSum := r.envSum } } ∧ t.tb = s.tb)) ∧
  (∀ s : State, s.live = true → s.bl.sumBusy = false → exec .envsumDone s = .next s)

/-- A local trigger forms when its source is enabled, a suppressed one is only counted, a delivered one is LASTTRG
(TRGIN by level: model's choice, log 82) (R238, R239, R240, R241, R242, R246, R345, 09_balustrade_and_colonnade.md,
model choice: log 82, model choice: log 64). -/
def Obligations.TriggersFormAndDeliver : Prop :=
  (∀ (s : State) (high : Bool) (c e : Coarse) (k : W32), s.live = true → s.trgEdge high c = e → s.trgCfg e = k →
    high = bit k 7 ∨ bit k 0 = false ∨ s.trgRested k high e = false ∨ 0 < s.aheadBy e + Int.ofNat (inflt k) →
    exec (.trginTrigger high c) s = .next { s with
      pins := { s.pins with trgin := high }
      cl := { s.cl with trgRun := some (high, e), trgReady := s.trgRested k high e } }) ∧
  (∀ (s : State) (high : Bool) (c e : Coarse) (k : W32), s.live = true → s.trgEdge high c = e → s.trgCfg e = k →
    high ≠ bit k 7 → bit k 0 = true → s.trgRested k high e = true → s.aheadBy e + Int.ofNat (inflt k) ≤ 0 →
    s.cl.triggers.any (fun x => x.isLocal && x.time == e) = false →
    Completes (.trginTrigger high c) s (fun t =>
      t.cl.triggers = s.cl.triggers ++
        [{ time := e, src := s.unit, cause := 0, bus := false, isLocal := true, upAt := s.upOf e }] ∧
      t = { s with
        pins := { s.pins with trgin := high }
        cl := { s.cl with
          trgRun := some (high, e), trgReady := false, triggers := t.cl.triggers, send := t.cl.send, tseq := t.cl.tseq } })) ∧
  (∀ (s : State) (x : Trigger), s.live = true → firstTrigger s.cl.triggers = some x → s.suppressed x = true →
    exec .triggerDelivery s = .next { s with cl := { s.cl with
      triggers := s.cl.triggers.erase x, trgSup := s.cl.trgSup + 1 } }) ∧
  (∀ (s : State) (x : Trigger), s.live = true → firstTrigger s.cl.triggers = some x → s.suppressed x = false →
    Completes .triggerDelivery s (fun t =>
      t.cl.triggers = s.cl.triggers.erase x ∧ t.cl.last = x ∧ x ∈ t.cl.delivered ∧
      t.cl.trgOut = (s.cl.trgOut || bit (s.trgCfgAt x.upAt) 6) ∧
      t.cl.trgCnt = (if x.isLocal then s.cl.trgCnt + 1 else s.cl.trgCnt) ∧
      t.cl.trgRx = (if x.isLocal then s.cl.trgRx else s.cl.trgRx + 1) ∧ t.tb = s.tb ∧ t.fl = s.fl ∧ t.ar = s.ar ∧ t.bl = s.bl)) ∧
  (∀ s : State, s.live = true → exec .trgoutEnd s = .next { s with cl := { s.cl with trgOut := false } }) ∧
  (∀ (s : State) (m : Nat) (p : List Byte), Takes s m 0x0802 p → pByte p 0 = 0 → p.length = 8 → pByte p 4 ≠ 0 →
    Completes (.trigCfg m) s (fun t =>
      Said { s with cl := { s.cl with
        trgcfg := pWord p 4 &&& 0xFFFFFFEF
        trgHist := (s.uptime, s.cl.trgcfg) :: s.cl.trgHist.filter (fun h => s.uptime < h.1 + 2 ^ 35) } } t ∧
      Answered m (.plain .ok) t)) ∧
  (∀ (s : State) (m : Nat) (p : List Byte), Takes s m 0x0802 p → pByte p 0 = 1 → p.length = 8 →
    bit s.cl.trgcfg 1 = true → s.cl.triggers.any (fun x => x.isLocal && x.time == s.tb.coarse) = false →
    Completes (.trigCfgFire m) s (fun t =>
      t.cl.triggers = s.cl.triggers ++
        [{ time := s.tb.coarse, src := s.unit, cause := 1, bus := false, isLocal := true, upAt := s.upOf s.tb.coarse }] ∧
      Said { s with cl := { s.cl with triggers := t.cl.triggers, send := t.cl.send, tseq := t.cl.tseq } } t ∧
      Answered m (.okWith (beBytes 8 s.tb.coarse.toNat)) t)) ∧
  (∀ (s : State) (m : Nat) (p : List Byte), Takes s m 0x0802 p → pByte p 0 = 1 → p.length = 8 →
    bit s.cl.trgcfg 1 = false →
    Completes (.trigCfgFire m) s (fun t => Said s t ∧ Answered m (.badarg 0) t)) ∧
  (∀ (s : State) (w : W64), s.live = true → isWord 2 w = true → wSrc w ≠ s.unit →
    (∀ x ∈ s.cl.seen, x.1 ≠ wSrc w ∨ x.2.1 ≠ wRound w ∨ x.2.2 + 16384 < s.uptime) →
    bit (s.trgCfg (restoreTime s.tb.coarse (bits w.toNat 16 34))) 3 = true →
    Completes (.trigWordReceive w) s (fun t =>
      t.cl.triggers = s.cl.triggers ++ [⟨restoreTime s.tb.coarse (bits w.toNat 16 34), wSrc w, wCause w, true, false,
        s.upOf (restoreTime s.tb.coarse (bits w.toNat 16 34))⟩] ∧
      t = { s with cl := { s.cl with triggers := t.cl.triggers, seen := t.cl.seen, heard := s.cl.heard ||| 2 ^ wSrc w } }))

/-- Beacons begin cycles, a master gives way to a lower unit, a unit drives a word in its slot, losses are raised
(unheard bus: model's choice, log 67) (R244, R245, R246, R249, R350, 09_balustrade_and_colonnade.md, model choice: log
67). -/
def Obligations.BusCycles : Prop :=
  (∀ s : State, s.live = true → s.beacons = true → s.cl.next = none →
    Completes .beacon s (fun t =>
      t.cl.line = some ⟨s.uptime, busWord 1 s.unit (put s.cl.cycle.toNat 41 16)⟩ ∧ t.cl.cycle = s.cl.cycle + 1 ∧ t.cl.busOk = true ∧
      t.cl.receipt = some s.tb.coarse ∧ t.cl.heard = s.cl.heard ||| 2 ^ s.unit ∧ t.cl.cfg = s.cl.cfg ∧
      Said { s with cl := t.cl } t)) ∧
  (∀ (s : State) (w : W64), s.live = true → isWord 1 w = true → s.beacons = false → s.cl.next = none →
    Completes (.beaconReceive w) s (fun t =>
      t.cl.busOk = true ∧ t.cl.lost = false ∧ t.cl.receipt = some s.tb.coarse ∧ t.cl.heard = s.cl.heard ||| 2 ^ wSrc w ∧
      t.cl.cfg = s.cl.cfg ∧ (s.cl.lost = true → (t.ev.get 89).latched = true) ∧ Said { s with cl := t.cl } t)) ∧
  (∀ (s : State) (w : W64), s.live = true → isWord 1 w = true → s.beacons = true → wSrc w < s.unit → s.cl.next = none →
    Completes (.beaconReceive w) s (fun t =>
      t.beacons = false ∧ t.cl.busOk = true ∧ t.cl.receipt = some s.tb.coarse ∧ t.cl.markAsk = none ∧ t.cl.askRound = false ∧
      (t.ev.get 90).latched = true ∧ Said { s with cl := t.cl } t)) ∧
  (∀ (s : State) (w : W64), s.live = true → isWord 1 w = true → s.beacons = true → s.unit ≤ wSrc w →
    exec (.beaconReceive w) s = .next { s with cl := { s.cl with heard := s.cl.heard ||| 2 ^ wSrc w } }) ∧
  (∀ s : State, s.live = true → s.beacons = false → s.cl.lost = false → s.cl.next = none →
    Completes .beaconLoss s (fun t =>
      Said { s with cl := { s.cl with busOk := false, lost := true } } t ∧ Raised 88 s t)) ∧
  (∀ s : State, s.live = true → s.beacons = true ∨ s.cl.lost = true → exec .beaconLoss s = .next s) ∧
  (∀ (s : State) (c : Coarse) (cause q k : Nat) (r : List (Coarse × Nat × Nat × Nat)), s.live = true → s.clEn = true →
    s.cl.receipt ≠ none → s.cl.send = (c, cause, q, k) :: r →
    Completes .unitSlot s (fun t =>
      t.cl.line = some ⟨s.uptime, busWord 2 s.unit (put cause 54 3 + put q 50 4 + put c.toNat 16 34)⟩ ∧
      t.cl.send = (if k ≤ 1 then r else (c, cause, q, k - 1) :: r) ∧ t.cl.rnd = s.cl.rnd ∧ t.cl.markAsk = s.cl.markAsk ∧
      t = { s with cl := { s.cl with
        line := t.cl.line, send := t.cl.send, triggers := t.cl.triggers, heard := s.cl.heard ||| 2 ^ s.unit } })) ∧
  (∀ (s : State) (w : W64), s.live = true → isWord 7 w = true → wSrc w ≠ s.unit →
    exec (.markWordReceive w) s = .next { s with cl := { s.cl with
      markWin := some (s.tb.coarse, wSrc w), heard := s.cl.heard ||| 2 ^ wSrc w } }) ∧
  (∀ (s : State) (w : W64) (b : Bool), s.live = true →
    exec (.clnWordDiscard w b) s = .next (if wordCrc w then s else { s with cl := { s.cl with crcErr := s.cl.crcErr + 1 } })) ∧
  (∀ (s : State) (v : W32), s.live = true → s.beacons = true → s.cl.next = some v →
    Completes .beacon s (fun t =>
      t.cl.cfg = v &&& 0xFFFFFF1F ∧ t.cl.next = none ∧ t.cl.busOk = true ∧ t.cl.receipt = some s.tb.coarse ∧
      t.cl.line = (if t.beacons then some ⟨s.uptime, busWord 1 t.unit (put s.cl.cycle.toNat 41 16)⟩ else s.cl.line) ∧
      t.cl.cycle = (if t.beacons then s.cl.cycle + 1 else s.cl.cycle) ∧ Said { s with cl := t.cl } t)) ∧
  (∀ (s : State) (w : W64) (v : W32), s.live = true → isWord 1 w = true → s.cl.next = some v →
    s.beacons = false ∨ wSrc w < s.unit →
    Completes (.beaconReceive w) s (fun t =>
      t.cl.cfg = v &&& 0xFFFFFF1F ∧ t.cl.next = none ∧ t.cl.busOk = true ∧ t.cl.receipt = some s.tb.coarse ∧
      t.cl.cycle = (if t.beacons then 0 else s.cl.cycle) ∧ (s.beacons = true → (t.ev.get 90).latched = true) ∧
      Said { s with cl := t.cl } t)) ∧
  (∀ (s : State) (v : W32), s.live = true → s.beacons = false → s.cl.lost = false → s.cl.next = some v →
    Completes .beaconLoss s (fun t =>
      t.cl.cfg = v &&& 0xFFFFFF1F ∧ t.cl.next = none ∧ t.cl.busOk = false ∧ t.cl.lost = true ∧ Raised 88 s t ∧
      Said { s with cl := t.cl } t)) ∧
  (∀ (s : State) (u : Nat), s.live = true → u < 8 →
    exec (.heardExpiry u) s = .next { s with cl := { s.cl with heard := s.cl.heard &&& (255 - 2 ^ u) } })

/-- A ROUND word starts a round, a finished round gives delays and event 91, CLN_CFG writes, measures, marks (waits:
model's choice, log 67) (R247, R248, R249, R350, 12_command_reference.md, model choice: log 67). -/
def Obligations.RoundsAndColonnadeCommands : Prop :=
  (∀ (s : State) (w : W64), s.live = true → wordCrc w = true → wKind w = 3 → wSrc w ≠ s.unit →
    exec (.roundWordReceive w) s = .next { s with cl := { s.cl with
      rnd := some (newRound (wRound w) s.takesPart), heard := s.cl.heard ||| 2 ^ wSrc w } }) ∧
  (∀ (s : State) (w : W64), s.live = true → wordCrc w = true → 4 ≤ wKind w → wKind w ≤ 6 → wSrc w ≠ s.unit →
    exec (.roundWordReceive w) s = .next { s with cl := { s.cl with
      rnd := s.cl.rnd.map (Round.hear w s.unit), heard := s.cl.heard ||| 2 ^ wSrc w } }) ∧
  (∀ s : State, s.live = true → s.beacons = true → fld s.cl.cfg 16 8 ≠ 0 → s.takesPart = true →
    exec .roundStart s = .next { s with cl := { s.cl with askRound := true } }) ∧
  (∀ s : State, s.live = true → s.beacons = false ∨ fld s.cl.cfg 16 8 = 0 ∨ s.takesPart = false →
    exec .roundStart s = .next s) ∧
  (∀ (s : State) (r : Round), s.live = true → s.cl.rnd = some r → 16 ≤ r.cycle →
    Completes .roundUpdate s (fun t =>
      t.cl.round = r.r ∧ t.cl.rnd = none ∧ t.cl.measTk = (if r.asked then none else s.cl.measTk) ∧ (t.ev.get 91).latched = true ∧
      (∀ y, y = s.unit ∨ r.pair s.unit y = none →
        Tab.get (fun _ => 0) t.cl.dly y = Tab.get (fun _ => 0) s.cl.dly y ∧ Tab.get zeroW t.cl.ofs y = Tab.get zeroW s.cl.ofs y) ∧
      Said { s with cl := { s.cl with
        round := r.r, rnd := none, measTk := t.cl.measTk, dly := t.cl.dly, ofs := t.cl.ofs, skew := t.cl.skew, valid := t.cl.valid } } t)) ∧
  (∀ (s : State) (m : Nat) (p : List Byte), Takes s m 0x0807 p → pByte p 0 = 0 → p.length = 8 → (pByte p 1).testBit 0 = false →
    s.beacons = true ∨ s.cl.busOk = true →
    Completes (.clnCfg m) s (fun t =>
      Said { s with cl := { s.cl with next := some (pWord p 4 &&& 0xFFFFFF1F) } } t ∧ Answered m (.plain .ok) t)) ∧
  (∀ (s : State) (m : Nat) (p : List Byte), Takes s m 0x0807 p → pByte p 0 = 0 → p.length = 8 → (pByte p 1).testBit 0 = false →
    s.beacons = false → s.cl.busOk = false →
    Completes (.clnCfg m) s (fun t =>
      t.cl.cfg = pWord p 4 &&& 0xFFFFFF1F ∧ t.cl.next = none ∧
      Said { s with cl := { s.cl with cfg := t.cl.cfg, next := none, cycle := t.cl.cycle } } t ∧ Answered m (.plain .ok) t)) ∧
  (∀ (s : State) (m : Nat) (p : List Byte), Takes s m 0x0807 p → pByte p 0 = 1 → p.length = 8 → s.th.mode ≠ .dormant →
    s.beacons = true → s.cl.measTk = none →
    Completes (.clnCfgMeasure m) s (fun t =>
      Said { s with cl := { s.cl with askRound := true, measTk := some (s.ticket m) } } t ∧ Answered m (.plain .ok) t)) ∧
  (∀ (s : State) (m : Nat) (p : List Byte), Takes s m 0x0807 p → pByte p 0 = 1 → p.length = 8 → s.th.mode ≠ .dormant →
    s.beacons = true → s.cl.measTk ≠ none →
    Completes (.clnCfgMeasure m) s (fun t => Said s t ∧ Answered m (.plain .busy) t)) ∧
  (∀ (s : State) (m : Nat) (p : List Byte), Takes s m 0x0807 p → pByte p 0 = 1 → p.length = 8 → s.th.mode ≠ .dormant →
    s.beacons = false → Completes (.clnCfgMeasure m) s (fun t => Said s t ∧ Answered m (.badarg 0) t)) ∧
  (∀ (s : State) (m : Nat) (p : List Byte), Takes s m 0x0807 p → pByte p 0 = 2 → p.length = 8 → s.beacons = true →
    Completes (.clnCfgMark m) s (fun t => Said { s with cl := { s.cl with markAsk := some (m, s.start) } } t)) ∧
  (∀ (s : State) (tk : Ticket), s.live = true → s.cl.measTk = some tk →
    Completes .clnMeasureTimeout s (fun t => Said { s with cl := { s.cl with
      measTk := none, askRound := false, rnd := s.cl.rnd.map (fun r => { r with asked := false }) } } t))

/-- The writer stores one record at the next position, or a BASE or PAD in its place; a capture ends by padding
(model's choice: logs 28, 40) (R254, R256, R258, R268, R270, R271, R274, 10_gallery_capture.md, model choice: log 28,
model choice: log 40). -/
def Obligations.RecordsReachMemory : Prop :=
  (∀ (s : State) (r : GRec) (rs : List GRec), s.live = true → s.gl.buf = r :: rs → s.gl.writing = true → s.captured = false →
    (s.partn s.gl.part).wc % 512 ≠ 0 → needsBase s.gl.base r = false → r.word ≠ 0 →
    Completes .galleryRecordWrite s (fun t =>
      t.gl.buf = rs ∧ (t.partn s.gl.part).wc = (s.partn s.gl.part).wc + 1 ∧ t.gl.wcount = s.gl.wcount + 1 ∧
      Memory.readAll 8 t.gl.mem (s.recAddr s.gl.part (s.partn s.gl.part).wc) = recBytes r.word ∧
      (∀ a, a < s.recAddr s.gl.part (s.partn s.gl.part).wc ∨ s.recAddr s.gl.part (s.partn s.gl.part).wc + 8 ≤ a →
        t.gl.mem.read a = s.gl.mem.read a) ∧
      (r.trig = true → (t.partn s.gl.part).t = some (s.partn s.gl.part).wc) ∧
      (∀ m, r.mark = some m → t.mark m = some (s.gl.part, (s.partn s.gl.part).wc)) ∧
      (∀ p, p ≠ s.gl.part → t.partn p = s.partn p) ∧ Said { s with gl := t.gl } t)) ∧
  (∀ (s : State) (r : GRec) (rs : List GRec), s.live = true → s.gl.buf = r :: rs → s.gl.writing = true → s.captured = false →
    (s.partn s.gl.part).wc % 512 = 0 → r.word ≠ 0 →
    Completes .galleryRecordWrite s (fun t =>
      t.gl.buf = r :: rs ∧ t.gl.base = some (s.baseFor r) ∧ (t.partn s.gl.part).wc = (s.partn s.gl.part).wc + 1 ∧
      Memory.readAll 8 t.gl.mem (s.recAddr s.gl.part (s.partn s.gl.part).wc) =
        recBytes (baseRec (s.baseFor r).1 ((s.baseFor r).2 / 2 ^ 16)) ∧
      (∀ a, a < s.recAddr s.gl.part (s.partn s.gl.part).wc ∨ s.recAddr s.gl.part (s.partn s.gl.part).wc + 8 ≤ a →
        t.gl.mem.read a =
          if s.inSegment s.gl.part (s.partn s.gl.part).wc a = true then Memory.empty a else s.gl.mem.read a) ∧
      (∀ p, p ≠ s.gl.part → t.partn p = s.partn p) ∧ Said { s with gl := t.gl } t)) ∧
  (∀ (s : State) (r : GRec) (rs : List GRec), s.live = true → s.gl.buf = r :: rs → s.gl.writing = true → s.captured = false →
    (s.partn s.gl.part).wc % 512 ≠ 0 → needsBase s.gl.base r = true →
    Completes .galleryRecordWrite s (fun t =>
      t.gl.buf = r :: rs ∧ t.gl.base = s.gl.base ∧ (t.partn s.gl.part).wc = (s.partn s.gl.part).wc + 1 ∧
      Memory.readAll 8 t.gl.mem (s.recAddr s.gl.part (s.partn s.gl.part).wc) = recBytes padRec ∧
      (∀ a, a < s.recAddr s.gl.part (s.partn s.gl.part).wc ∨ s.recAddr s.gl.part (s.partn s.gl.part).wc + 8 ≤ a →
        t.gl.mem.read a = s.gl.mem.read a) ∧ Said { s with gl := t.gl } t)) ∧
  (∀ s : State, s.live = true → s.gl.buf = [] ∨ s.gl.writing = false ∨ s.captured = true →
    exec .galleryRecordWrite s = .next s) ∧
  (∀ s : State, s.live = true → s.gl.writing = true → s.gl.state = .fill ∨ s.gl.state = .rearm →
    (s.partn s.gl.part).pre ≤ (s.partn s.gl.part).wc →
    exec .captureReady s = .next { s with gl := { s.gl with state := .ready } }) ∧
  (∀ s : State, s.live = true → s.captured = true →
    Completes .captureDone s (fun t =>
      (t.partn s.gl.part).state = 2 ∧ (t.partn s.gl.part).wc = ((s.partn s.gl.part).wc + 31) / 32 * 32 ∧
      (bit s.gl.cfg 9 = false → t.gl.state = .done ∧ t.gl.writing = false) ∧ (bit s.gl.cfg 9 = true → t.gl.state = .rearm) ∧
      (∀ a, (∀ k, (s.partn s.gl.part).wc ≤ k → k < ((s.partn s.gl.part).wc + 31) / 32 * 32 →
        a < s.recAddr s.gl.part k ∨ s.recAddr s.gl.part k + 8 ≤ a) → t.gl.mem.read a = s.gl.mem.read a) ∧
      (∀ k, (s.partn s.gl.part).wc ≤ k → k < ((s.partn s.gl.part).wc + 31) / 32 * 32 →
        Memory.readAll 8 t.gl.mem (s.recAddr s.gl.part k) = recBytes padRec) ∧
      (t.ev.get 97).latched = true ∧ Said { s with gl := t.gl } t))

/-- ARM takes a free partition, DISARM leaves the Gallery idle, MARK_SET stores its record (waiting in the epoch hold:
model's choice, log 66) (R259, R262, R266, R272, R274, R346, R347, R348, 12_command_reference.md, model choice: log
66). -/
def Obligations.ArmingAndMarking : Prop :=
  (∀ (s : State) (m : Nat) (p : List Byte) (q : Nat), Takes s m 0x0803 p → p.length = 16 → s.watching = true →
    s.armFails (pNat p 0 8) (pNat p 8 8) = none → s.freePart = some q →
    Completes (.arm m) s (fun t =>
      t.gl.part = q ∧ t.gl.writing = true ∧ t.gl.state = .fill ∧ t.gl.buf = [] ∧ t.gl.base = none ∧ t.gl.mem = s.gl.mem ∧
      t.partn q = { freshPart q with state := 1, pre := pNat p 0 8, post := pNat p 8 8 } ∧
      (∀ r, r ≠ q → t.partn r = s.partn r) ∧ Said { s with gl := t.gl } t ∧
      Answered m (.okWith ([BitVec.ofNat 8 q, 0, 0, 0] ++ beBytes 8 s.pSize)) t)) ∧
  (∀ (s : State) (m : Nat) (p : List Byte) (a : Answer), Takes s m 0x0803 p → p.length = 16 → s.watching = true →
    s.armFails (pNat p 0 8) (pNat p 8 8) = some a → Completes (.arm m) s (fun t => Said s t ∧ Answered m a t)) ∧
  (∀ (s : State) (m : Nat), Takes s m 0x0804 [] → s.gl.state ≠ .out →
    Completes (.disarm m) s (fun t =>
      t.gl.state = .idle ∧ t.gl.writing = false ∧ t.gl.buf = [] ∧ t.gl.hold = [] ∧ Said { s with gl := t.gl } t)) ∧
  (∀ (s : State) (m : Nat), Takes s m 0x0804 [] → s.gl.writing = false → s.gl.state ≠ .out →
    Completes (.disarm m) s (fun t => t.gl.mem = s.gl.mem ∧ t.gl.parts = s.gl.parts ∧ Answered m (.okWith [0xFF, 0, 0, 0]) t)) ∧
  (∀ (s : State) (m : Nat) (p : List Byte), Takes s m 0x0805 p → p.length = 4 → s.gl.holding = false → 15 < pByte p 0 →
    Completes (.markSet m) s (fun t => Said s t ∧ Answered m (.badarg 0) t)) ∧
  (∀ (s : State) (m : Nat) (p : List Byte), Takes s m 0x0805 p → p.length = 4 → s.gl.holding = false → pByte p 0 ≤ 15 →
    s.gl.writing = false → Completes (.markSet m) s (fun t => Said s t ∧ Answered m (.plain .stale) t)) ∧
  (∀ (s : State) (m : Nat) (p : List Byte), Takes s m 0x0805 p → p.length = 4 → s.gl.holding = false → pByte p 0 ≤ 15 →
    s.gl.writing = true → s.captured = false → s.gl.buf = [] → (s.partn s.gl.part).wc % 512 ≠ 0 →
    needsBase s.gl.base { timed s (markRec (pByte p 0) s.tb.coarse) s.tb.coarse with mark := some (pByte p 0) } = false →
    Completes (.markSet m) s (fun t =>
      t.mark (pByte p 0) = some (s.gl.part, (s.partn s.gl.part).wc) ∧
      Answered m (.okWith ([BitVec.ofNat 8 s.gl.part, 0, 0, 0] ++ beBytes 8 (s.partn s.gl.part).wc)) t ∧
      Memory.readAll 8 t.gl.mem (s.recAddr s.gl.part (s.partn s.gl.part).wc) = recBytes (markRec (pByte p 0) s.tb.coarse) ∧
      (∀ a, a < s.recAddr s.gl.part (s.partn s.gl.part).wc ∨ s.recAddr s.gl.part (s.partn s.gl.part).wc + 8 ≤ a →
        t.gl.mem.read a = s.gl.mem.read a) ∧ Said { s with gl := t.gl } t)) ∧
  (∀ (s : State) (m : Nat), s.live = true → m < 32 → s.gl.holding = true → exec (.markSet m) s = .next s) ∧
  (∀ (s : State) (n occ : Nat) (c : Coarse), s.live = true → s.nextEvt = some (n, (occ, c)) → s.gl.writing = true →
    s.gl.holding = false → s.gl.buf.length < 65535 →
    exec .evtRecordSlot s = .next { s with gl := { s.gl with
      evts := Tab.erase s.gl.evts n, evtNext := (n + 1) % 512, buf := s.gl.buf ++ [timed s (evtRec n occ c) c] } }) ∧
  (∀ s : State, s.live = true → s.nextEvt = none → exec .evtRecordSlot s = .next s) ∧
  (∀ s : State, s.live = true → s.gl.holding = true → s.gl.buf.length + s.gl.hold.length < 65536 →
    exec .epochHoldRelease s = .next { s with gl := { s.gl with
      holding := false, hold := []
      buf := s.gl.buf ++ { word := 0, time := none, epoch := s.tb.epoch, mark := none, trig := false } :: s.gl.hold } })

/-- Training and DQ checks put a memory channel out of rotation, refresh keeps everything, a stream ends, WCOUNT
latches (R252, R253, R277, R278, R280, R408, 10_gallery_capture.md). -/
def Obligations.MemoryCareAndRetirement : Prop :=
  (∀ (s : State) (r : Training), s.live = true → s.th.startup = true → s.gl.trained = false → s.gl.state ≠ .out →
    r.same = true → r.density ∈ [2, 4, 8, 16] → r.failed = [] →
    exec (.memoryTrainingEnd r) s = .next { s with gl := { s.gl with trained := true, density := r.density } }) ∧
  (∀ (s : State) (r : Training), s.live = true → s.th.startup = true → s.gl.trained = false → s.gl.state ≠ .out →
    r.same = false →
    Completes (.memoryTrainingEnd r) s (fun t =>
      t.gl.state = .out ∧ t.gl.trained = true ∧ t.gl.writing = false ∧ t.gl.marks = [] ∧ (t.ev.get 103).latched = true)) ∧
  (∀ (s : State) (c : Nat) (ok : Bool), s.live = true → c < 8 → s.gl.trained = true → s.gl.selfRefresh = false →
    s.gl.state ≠ .out → s.gl.retired ≠ some c → ok = true ∨ Tab.get zeros s.gl.checks c = 0 →
    exec (.memoryCheck c ok) s = .next { s with gl := { s.gl with
      checks := Tab.put zeros s.gl.checks c (if ok then 0 else 1) } }) ∧
  (∀ (s : State) (c : Nat), s.live = true → c < 8 → s.gl.trained = true → s.gl.selfRefresh = false → s.gl.state ≠ .out →
    s.gl.retired = none → Tab.get zeros s.gl.checks c = 1 → s.gl.writing = false →
    Completes (.memoryCheck c false) s (fun t =>
      t.gl.retired = some c ∧ (∀ p, (t.partn p).state = 0) ∧ t.gl.marks = [] ∧ (t.ev.get 101).latched = true ∧
      t.gl.mem = s.gl.mem ∧ t.tb = s.tb ∧ t.fl = s.fl)) ∧
  (∀ (s : State) (c r : Nat), s.live = true → c < 8 → s.gl.trained = true → s.gl.selfRefresh = false → s.gl.state ≠ .out →
    s.gl.retired = some r → r ≠ c → Tab.get zeros s.gl.checks c = 1 →
    Completes (.memoryCheck c false) s (fun t =>
      t.gl.state = .out ∧ t.outstanding 0x0602 c = true ∧ (t.ev.get 103).latched = true ∧ t.tb = s.tb ∧ t.fl = s.fl)) ∧
  (∀ (s : State) (hot : Bool), s.live = true → hot = true → s.gl.trained = true → s.gl.selfRefresh = false →
    Completes (.mr4Read hot) s (fun t => Said s t ∧ Raised 104 s t)) ∧
  (∀ (s : State) (hot : Bool), s.live = true → hot = false ∨ s.gl.trained = false ∨ s.gl.selfRefresh = true →
    exec (.mr4Read hot) s = .next s) ∧
  (∀ s : State, exec .refresh s = .next s ∧ exec .zqCalibration s = .next s) ∧
  (∀ (s : State) (x : Stream), s.live = true → s.gl.stream = some x →
    x.left = 0 ∨ x.lost = true →
    Completes .capReadStreamEnd s (fun t => Said { s with gl := { s.gl with stream := none } } t)) ∧
  (∀ (s : State) (x : Stream), s.live = true → s.gl.stream = some x → x.left ≠ 0 →
    x.lost = false → exec .capReadStreamEnd s = .next s) ∧
  (∀ s : State, s.live = true →
    Completes .glWcountLoRead s (fun t =>
      t = { s with gl := { s.gl with wcountHi := t.gl.wcountHi } } ∧ t.gl.wcountHi.toNat = s.gl.wcount.toNat / 2 ^ 32))

/-- CAP_READ tells of a partition, answers records (byte order: model's choice, log 66), starts one stream, releases a
HELD partition (R276, R277, R349, 12_command_reference.md, model choice: log 66). -/
def Obligations.CaptureReads : Prop :=
  (∀ (s : State) (m : Nat) (p : List Byte), Takes s m 0x0806 p → pByte p 0 = 0 → p.length = 12 → s.th.mode ≠ .dormant →
    s.th.startup = false → pByte p 2 < s.nPart →
    Completes (.capReadInfo m) s (fun t => Said s t ∧ ∃ d, Answered m (.okWith d) t ∧
      d.take 20 = wBytes (s.partn (pByte p 2)).image ++ beBytes 8 (s.partn (pByte p 2)).wc ++
        beBytes 8 (oldest s.pSize (s.partn (pByte p 2)).wc))) ∧
  (∀ (s : State) (m : Nat) (p : List Byte), Takes s m 0x0806 p → pByte p 0 = 0 → p.length = 12 → s.th.mode ≠ .dormant →
    s.th.startup = false → s.nPart ≤ pByte p 2 →
    Completes (.capReadInfo m) s (fun t => Said s t ∧ Answered m (.badarg 2) t)) ∧
  (∀ (s : State) (m : Nat) (p : List Byte) (q k : Nat), Takes s m 0x0806 p → pByte p 0 = 1 → p.length = 12 →
    s.th.mode ≠ .dormant → s.th.startup = false → capStart s p 168 = .ok (q, k) →
    Completes (.capReadRead m) s (fun t => Said s t ∧ Answered m (.okWith (s.recordsOut q k (pNat p 8 4))) t)) ∧
  (∀ (s : State) (m : Nat) (p : List Byte) (a : Answer), Takes s m 0x0806 p → pByte p 0 = 1 → p.length = 12 →
    s.th.mode ≠ .dormant → s.th.startup = false → capStart s p 168 = .error a →
    Completes (.capReadRead m) s (fun t => Said s t ∧ Answered m a t)) ∧
  (∀ (s : State) (m : Nat) (p : List Byte) (q k : Nat), Takes s m 0x0806 p → pByte p 0 = 2 → p.length = 12 →
    s.th.mode ≠ .dormant → s.th.startup = false → (s.ticket m).src.path ≠ spiPath →
    capStart s p (2 ^ 32 - 1) = .ok (q, k) → s.gl.stream = none →
    Completes (.capReadStream m) s (fun t =>
      Said { s with gl := { s.gl with
        stream := some { part := q, pos := k, left := pNat p 8 4, sent := 0, tk := s.ticket m, lost := false } } } t ∧
      Answered m (.plain .ok) t)) ∧
  (∀ (s : State) (m : Nat) (p : List Byte), Takes s m 0x0806 p → pByte p 0 = 2 → p.length = 12 →
    s.th.mode ≠ .dormant → s.th.startup = false → (s.ticket m).src.path ≠ spiPath → s.gl.stream ≠ none →
    Completes (.capReadStream m) s (fun t => Said s t ∧ Answered m (.plain .busy) t)) ∧
  (∀ (s : State) (m : Nat) (p : List Byte), Takes s m 0x0806 p → pByte p 0 = 2 → p.length = 12 →
    s.th.mode ≠ .dormant → s.th.startup = false → (s.ticket m).src.path = spiPath →
    Completes (.capReadStream m) s (fun t => Said s t ∧ Answered m (.badarg 0) t)) ∧
  (∀ (s : State) (m : Nat) (p : List Byte), Takes s m 0x0806 p → pByte p 0 = 3 → p.length = 12 →
    s.th.mode ≠ .dormant → s.th.startup = false → pByte p 2 < s.nPart → (s.partn (pByte p 2)).state = 2 →
    s.gl.state ≠ .rearm ∨ s.gl.writing = true →
    Completes (.capReadRelease m) s (fun t =>
      t.partn (pByte p 2) = { s.partn (pByte p 2) with state := 0 } ∧ (∀ q, q ≠ pByte p 2 → t.partn q = s.partn q) ∧
      (∀ j k, t.mark j ≠ some (pByte p 2, k)) ∧
      Said { s with gl := { s.gl with parts := t.gl.parts, marks := t.gl.marks } } t ∧ Answered m (.plain .ok) t)) ∧
  (∀ (s : State) (m : Nat) (p : List Byte), Takes s m 0x0806 p → pByte p 0 = 3 → p.length = 12 →
    s.th.mode ≠ .dormant → s.th.startup = false → s.nPart ≤ pByte p 2 ∨ (s.partn (pByte p 2)).state ≠ 2 →
    Completes (.capReadRelease m) s (fun t => Said s t ∧ Answered m (.badarg 2) t))

/-- A good command frame is taken into its mailbox, a busy one keeps its command, and bad frames are only counted
(R285, R286, R287, R288, R293, R294, R295, 11_lodge_link_and_mailbox.md). -/
def Obligations.FramesAreReceived : Prop :=
  (∀ (s : State) (p : Nat) (f : RxFrame), s.live = true → p < 2 → (s.port p).up = false →
    exec (.frameReceive p f) s = .next s) ∧
  (∀ (s : State) (p : Nat) (f : RxFrame), s.live = true → p < 2 → (s.port p).up = true → f.fcsOk = false →
    Completes (.frameReceive p f) s (fun t =>
      t = { s with lk := { s.lk with badFrame := s.lk.badFrame + 1, ports := t.lk.ports } } ∧
      t.port p = { s.port p with lpi := false })) ∧
  (∀ (s : State) (p : Nat) (f : RxFrame) (ip : RxIp), s.live = true → p < 2 → (s.port p).up = true → f.fcsOk = true →
    f.dstMac = Config.mac p → f.vid = none → f.type = .ipv4 ip → ip.hdrOk = true → ip.ihl = 5 → ip.fragmented = false →
    ip.dst = (s.lk.regs.port p).ip → ip.proto ≠ .udp →
    Completes (.frameReceive p f) s (fun t =>
      t = { s with lk := { s.lk with
        badFrame := if ip.proto = .other then s.lk.badFrame + 1 else s.lk.badFrame, ports := t.lk.ports } } ∧
      t.port p = { s.port p with lpi := false })) ∧
  (∀ (s : State) (p : Nat) (f : RxFrame) (ip : RxIp), s.live = true → p < 2 → (s.port p).up = true → f.fcsOk = true →
    f.dstMac = Config.mac p → f.vid = none → f.type = .ipv4 ip → ip.hdrOk = true → ip.ihl = 5 → ip.fragmented = false →
    ip.dst = (s.lk.regs.port p).ip → ip.proto = .udp → ip.udpSumOk = true → ip.dstPort = s.lk.regs.udpBase →
    s.lk.regs.accepts p ip.src = true → frameShape p f.payload = true → frameCrc f.payload = true →
    frameCommand f.payload = true → isDisable f.payload = false →
    (s.box (fBox f.payload)).verdict (fSeq f.payload) = .accepted → s.av.halt = false →
    opcodes.contains (fOp f.payload) = true →
    Completes (.frameReceive p f) s (fun t =>
      t.box (fBox f.payload) = { state := .executing, l := fSeq f.payload, op := fOp f.payload, payload := fBody f.payload,
                                 src := { path := p, ip := ip.src, mac := f.srcMac, port := ip.srcPort },
                                 order := s.lk.accepted + 1, answer := none, compl := none } ∧
      Said { s with lk := { s.lk with accepted := s.lk.accepted + 1, ports := t.lk.ports } } t)) ∧
  (∀ (s : State) (b : List Byte), s.live = true → frameShape spiPath b = true → frameCrc b = true → frameCommand b = true →
    isDisable b = false → (s.box (fBox b)).verdict (fSeq b) = .accepted → s.av.halt = false →
    opcodes.contains (fOp b) = true →
    Completes (.spiWrite b) s (fun t =>
      t.box (fBox b) = { state := .executing, l := fSeq b, op := fOp b, payload := fBody b,
                         src := { noPeer with path := spiPath },
                         order := s.lk.accepted + 1, answer := none, compl := none } ∧
      Said { s with lk := { s.lk with accepted := s.lk.accepted + 1, spiBad := false, spiOut := t.lk.spiOut } } t)) ∧
  (∀ (s : State) (b : List Byte), s.live = true → frameShape spiPath b = true → frameCrc b = true → frameCommand b = true →
    isDisable b = false → (s.box (fBox b)).verdict (fSeq b) = .busy →
    Completes (.spiWrite b) s (fun t =>
      t.box (fBox b) = s.box (fBox b) ∧
      Said { s with lk := { s.lk with busyCnt := s.lk.busyCnt + 1, spiBad := false, spiOut := t.lk.spiOut } } t)) ∧
  (∀ (s : State) (b : List Byte), s.live = true → frameShape spiPath b = true → frameCrc b = false →
    Completes (.spiWrite b) s (fun t =>
      t = { s with lk := { s.lk with crcErr := s.lk.crcErr + 1, spiBad := true, spiOut := t.lk.spiOut } })) ∧
  (∀ (s : State) (p : Nat) (a : ArpMsg), s.live = true → p < 2 → (s.port p).up = true → a.request = true →
    a.targetIp = (s.lk.regs.port p).ip →
    Completes (.arpReceive p a) s (fun t =>
      (t.path p).c2 = (s.path p).c2 ++ [.arp ⟨false, (s.lk.regs.port p).ip, Config.mac p, a.senderIp, a.senderMac⟩] ∧
      (t.path p).c1 = (s.path p).c1 ∧ (t.path p).c3 = (s.path p).c3 ∧
      t = { s with lk := { s.lk with ports := t.lk.ports, paths := t.lk.paths } })) ∧
  (∀ (s : State) (p : Nat) (a : ArpMsg), s.live = true → p < 2 → (s.port p).up = true → a.request = false →
    (s.lk.regs.port p).resolves = true → a.senderIp = (s.lk.regs.port p).dest →
    Completes (.arpReceive p a) s (fun t =>
      t.port p = { s.port p with lpi := false, arp := some a.senderMac, unres := false } ∧
      t = { s with lk := { s.lk with ports := t.lk.ports } })) ∧
  (∀ (s : State) (p : Nat) (e : EchoMsg), s.live = true → p < 2 → (s.port p).up = true →
    s.lk.regs.accepts p e.src = true → e.data.length ≤ 1472 → (s.port p).icmpMs = none →
    Completes (.icmpEcho p e) s (fun t =>
      (t.path p).c2 = (s.path p).c2 ++ [.echo e] ∧ (t.port p).icmpMs = some s.uptime ∧
      t = { s with lk := { s.lk with ports := t.lk.ports, paths := t.lk.paths } })) ∧
  (∀ (s : State) (p : Nat) (e : EchoMsg), s.live = true → p < 2 → (s.port p).up = true →
    s.lk.regs.accepts p e.src = false →
    Completes (.icmpEcho p e) s (fun t =>
      Said { s with lk := { s.lk with rejHost := s.lk.rejHost + 1, rejMs := t.lk.rejMs, ports := t.lk.ports } } t))

/-- Class 1 leaves before class 2, a response that leaves frees its mailbox, and ARP and notifications are queued
(R285, R289, R294, R298, R302, R313, 11_lodge_link_and_mailbox.md). -/
def Obligations.FramesAreSent : Prop :=
  (∀ (s : State) (p : Nat) (f : Frame) (r : List Out), s.live = true → p < 2 → (s.port p).up = true →
    (s.path p).c1 = .polcor f :: r → f.kind = 3 → f.own = false →
    Completes (.frameTransmit p) s (fun t =>
      (t.path p).c1 = r ∧ (t.path p).c2 = (s.path p).c2 ∧ (t.path p).c3 = (s.path p).c3 ∧
      ∃ g : Frame, (t.port p).wire = some (s.wireOf p (.polcor g)) ∧ g = { f with seq := g.seq, counted := true })) ∧
  (∀ (s : State) (p : Nat) (a : ArpMsg) (r : List Out), s.live = true → p < 2 → (s.port p).up = true → (s.path p).c1 = [] →
    (s.path p).c2 = .arp a :: r → (Out.arp a).size p * 80000 ≤ s.tokens p →
    Completes (.frameTransmit p) s (fun t =>
      (t.path p).c2 = r ∧ (t.path p).c3 = (s.path p).c3 ∧ (t.path p).tokens = s.tokens p - (Out.arp a).size p * 80000 ∧
      (t.port p).wire = some (s.wireOf p (.arp a)))) ∧
  (∀ (s : State) (p : Nat) (f : Frame) (r : List Out), s.live = true → p < 2 → (s.port p).up = true → (s.path p).c1 = [] →
    (s.path p).c2 = .polcor f :: r → (Out.polcor f).size p * 80000 ≤ s.tokens p → s.answers f = true → f.counted = true →
    s.lk.change = [] →
    Completes (.frameTransmit p) s (fun t =>
      (t.path p).c2 = r ∧ (t.path p).c3 = (s.path p).c3 ∧ (t.port p).wire = some (s.wireOf p (.polcor f)) ∧
      t.box f.mb = { s.box f.mb with state := .idle } ∧ (∀ m, m ≠ f.mb → t.box m = s.box m))) ∧
  (∀ (s : State) (p : Nat), s.live = true → p < 2 → (s.port p).up = true → (s.path p).c1 = [] → (s.path p).c2 = [] →
    (s.path p).c3 = [] → s.gl.stream = none →
    Completes (.frameTransmit p) s (fun t =>
      t.path p = { s.path p with tokens := s.tokens p, since := s.uptime } ∧
      t = { s with lk := { s.lk with paths := t.lk.paths } })) ∧
  (∀ (s : State) (p : Nat), s.live = true → p < 3 → p = spiPath ∨ (s.port p).up = false →
    exec (.frameTransmit p) s = .next s) ∧
  (∀ (s : State) (p : Nat), s.live = true → p < 2 → (s.port p).up = true → (s.lk.regs.port p).resolves = true →
    Completes (.arpTimer p) s (fun t =>
      (t.path p).c2 = (s.path p).c2 ++ [.arp ⟨true, (s.lk.regs.port p).ip, Config.mac p, (s.lk.regs.port p).dest, 0⟩] ∧
      (t.port p).unres = (s.port p).arp.isNone ∧ t = { s with lk := { s.lk with ports := t.lk.ports, paths := t.lk.paths } })) ∧
  (∀ (s : State) (p : Nat), s.live = true → p < 2 → (s.port p).up = false ∨ (s.lk.regs.port p).resolves = false →
    exec (.arpTimer p) s = .next s) ∧
  (∀ (s : State) (p : Nat), s.live = true → p < 2 → (s.port p).up = true → (s.port p).unres = true → (s.port p).arp = none →
    Completes (.arpUnresolved p) s (fun t => Said s t ∧ Raised 133 s t)) ∧
  (∀ (s : State) (p : Nat), s.live = true → p < 2 → (s.port p).up = false ∨ (s.port p).unres = false ∨ (s.port p).arp ≠ none →
    exec (.arpUnresolved p) s = .next s) ∧
  (∀ (s : State) (p : Nat), s.live = true → s.lk.notify = true → s.notifyDue = true → s.lk.active = some p → p < 2 →
    s.lk.regs.evSpi = false →
    Completes .notificationFrame s (fun t =>
      t.lk.notify = false ∧ t.lk.lastNotify = some s.uptime ∧
      (∃ f : Frame, (t.path p).c2 = (s.path p).c2 ++ [.polcor f] ∧ f.op = 0x0990 ∧ f.kind = 3 ∧
        f.payload = s.nowBytes ++ beBytes 2 s.tb.epoch.toNat ++ [0, 0] ++
          (List.range 16).flatMap (fun g => beBytes 4 (s.latchWord g))) ∧
      t = { s with lk := { s.lk with notify := false, lastNotify := t.lk.lastNotify, paths := t.lk.paths } })) ∧
  (∀ s : State, s.live = true → s.lk.notify = false ∨ s.notifyDue = false → exec .notificationFrame s = .next s) ∧
  (∀ (s : State) (p : Nat) (f : Frame), f.dst = none → (s.lk.regs.port p).resolves = false →
    let w := s.wireOf p (.polcor f)
    w.dst.toNat = (s.lk.regs.port p).dmacHi.toNat % 2 ^ 16 * 2 ^ 32 + (s.lk.regs.port p).dmacLo.toNat ∧
      w.src = Config.mac p ∧ w.ip.map (·.dst) = some (s.lk.regs.port p).dest ∧
      w.ip.map (·.src) = some (s.lk.regs.port p).ip) ∧
  (∀ (s : State) (p : Nat) (f : Frame) (a : BitVec 48), f.dst = none → (s.lk.regs.port p).resolves = true →
    (s.port p).arp = some a → (s.wireOf p (.polcor f)).dst = a)

/-- Ports come up and go down, the other takes over, LINK_CFG waits until its answer has left (BADARG byte: model's
choice, log 57) (R305, R306, R310, R322, R313, R408, R455, 11_lodge_link_and_mailbox.md, model choice: log 57). -/
def Obligations.PortsAndFailover : Prop :=
  (∀ (s : State) (p : Nat), s.live = true → p < 2 → bit (s.lk.regs.port p).pcfg 0 = true →
    Completes (.phyLinkUp p) s (fun t => t.port p = { s.port p with phy := true } ∧ (∀ q, q ≠ p → t.port q = s.port q) ∧
      t = { s with lk := { s.lk with ports := t.lk.ports } })) ∧
  (∀ (s : State) (p : Nat), s.live = true → p < 2 → bit (s.lk.regs.port p).pcfg 0 = false →
    exec (.phyLinkUp p) s = .next s) ∧
  (∀ (s : State) (p : Nat), s.live = true → p < 2 →
    Completes (.phyLinkDown p) s (fun t => t.port p = { s.port p with phy := false } ∧ (∀ q, q ≠ p → t.port q = s.port q) ∧
      t = { s with lk := { s.lk with ports := t.lk.ports } })) ∧
  (∀ (s : State) (p : Nat), s.live = true → p < 2 → (s.port p).phy = true → (s.port p).up = false →
    Completes (.portUp p) s (fun t =>
      (t.port p).up = true ∧ (t.ev.get 129).latched = true ∧ t.lk.active = (if s.lk.active = none then some p else s.lk.active) ∧
      t.outstanding 0x0501 p = false ∧ t.lk.regs = s.lk.regs ∧ t.lk.boxes = s.lk.boxes ∧ t.tb = s.tb ∧ t.sh = s.sh)) ∧
  (∀ (s : State) (p : Nat), s.live = true → p < 2 → (s.port p).phy = false ∨ (s.port p).up = true →
    exec (.portUp p) s = .next s) ∧
  (∀ (s : State) (p : Nat), s.live = true → p < 2 → (s.port p).up = true → (s.port p).phy = false → s.lk.change = [] →
    s.lk.active = some p → (s.port (1 - p)).up = true →
    Completes (.portDown p) s (fun t =>
      (t.port p).up = false ∧ t.lk.active = some (1 - p) ∧ t.lk.failCnt = s.lk.failCnt + 1 ∧ (t.ev.get 128).latched = true ∧
      (t.ev.get 130).latched = true ∧ t.outstanding 0x0501 p = true ∧ t.lk.regs = s.lk.regs ∧ t.tb = s.tb ∧ t.sh = s.sh)) ∧
  (∀ (s : State) (p : Nat), s.live = true → p < 2 → (s.port p).up = true → (s.port p).phy = false → s.lk.change = [] →
    s.lk.active = some p → (s.port (1 - p)).up = false →
    Completes (.portDown p) s (fun t =>
      (t.port p).up = false ∧ t.lk.active = none ∧ t.lk.failCnt = s.lk.failCnt ∧ (t.ev.get 131).latched = true ∧
      t.outstanding 0x0502 0xFFFF = true ∧ t.lk.regs = s.lk.regs ∧ t.tb = s.tb ∧ t.sh = s.sh)) ∧
  (∀ (s : State) (p : Nat), s.live = true → p < 2 → (s.port p).up = true → (s.port p).phy = false → s.lk.change = [] →
    s.lk.active ≠ some p →
    Completes (.portDown p) s (fun t =>
      (t.port p).up = false ∧ t.lk.active = s.lk.active ∧ t.lk.failCnt = s.lk.failCnt ∧ (t.ev.get 128).latched = true ∧
      t.outstanding 0x0501 p = true ∧ t.lk.regs = s.lk.regs ∧ t.tb = s.tb ∧ t.sh = s.sh)) ∧
  (∀ (s : State) (p : Nat), s.live = true → p < 2 → (s.port p).up = true → s.lk.regs.kal ≠ 0 → s.lk.change = [] →
    s.lk.active = some p → (s.port (1 - p)).up = true →
    Completes (.keepaliveExpiry p) s (fun t =>
      (t.port p).up = false ∧ t.lk.active = some (1 - p) ∧ t.lk.failCnt = s.lk.failCnt + 1 ∧ (t.ev.get 130).latched = true ∧
      t.outstanding 0x0501 p = true ∧ t.lk.regs = s.lk.regs ∧ t.tb = s.tb ∧ t.sh = s.sh)) ∧
  (∀ (s : State) (p : Nat), s.live = true → p < 2 → (s.port p).up = false ∨ s.lk.regs.kal = 0 →
    exec (.keepaliveExpiry p) s = .next s) ∧
  (∀ (s : State) (m : Nat) (b : List Byte), Takes s m 0x0003 b → b.length = 84 → s.lk.change = [] →
    s.lk.regs.deepChange (linkImage b s.lk.regs) = false ∨ restMode s = true → linkBad b (linkImage b s.lk.regs) = none →
    s.lk.regs.rejudged (linkImage b s.lk.regs) = false → (pByte b 0).testBit 0 = false →
    (s.box m).src.path < 2 → (s.port (s.box m).src.path).up = true →
    Completes (.linkCfg m) s (fun t =>
      Said { s with lk := { s.lk with change := [(m, (s.box m).l, b)] } } t ∧ Answered m (.plain .ok) t)) ∧
  (∀ (s : State) (m : Nat) (b : List Byte) (off : Nat), Takes s m 0x0003 b → b.length = 84 → s.lk.change = [] →
    s.lk.regs.deepChange (linkImage b s.lk.regs) = false ∨ restMode s = true →
    linkBad b (linkImage b s.lk.regs) = some off →
    Completes (.linkCfg m) s (fun t => Said s t ∧ Answered m (.badarg off) t))

/-- SPI reads take whole frames only (partial reads: model's choice, log 56), STATUS counts what waits, IDENT and PING
answer (R307, R308, R320, R321, 11_lodge_link_and_mailbox.md, model choice: log 56). -/
def Obligations.SpiTransfersAndIdentity : Prop :=
  (∀ (s : State) (k : Nat), s.live = true → s.spiHead = none →
    exec (.spiRead k) s = .next { s with lk := { s.lk with spiOut := s.spiByte :: List.replicate k 0 } }) ∧
  (∀ (s u : State) (k c : Nat) (f : Frame), s.live = true → s.spiHead = some (c, f, u) → k < s.headBytes.length + 3 →
    Completes (.spiRead k) s (fun t =>
      t.lk.spiOut = s.spiByte :: (0 :: beBytes 2 s.headBytes.length ++ s.headBytes).take k ∧
      t = { s with lk := { s.lk with spiOut := t.lk.spiOut, spiPart := if k ≤ 3 then s.lk.spiPart else some c } })) ∧
  (∀ (s u : State) (k c : Nat) (f : Frame), s.live = true → s.spiHead = some (c, f, u) → s.headBytes.length + 3 ≤ k →
    s.lk.change = [] →
    Completes (.spiRead k) s (fun t =>
      t.lk.spiOut = s.spiByte :: (0 :: beBytes 2 s.headBytes.length ++ s.headBytes ++
        List.replicate (k - (s.headBytes.length + 3)) 0) ∧ t.lk.spiPart = none ∧
      (t.path spiPath).cls c = ((s.path spiPath).cls c).tail ∧ t.lk.boxes = s.lk.boxes ∧ t.lk.regs = s.lk.regs ∧
      t.lk.ports = s.lk.ports ∧ t.tb = s.tb ∧ t.ev = s.ev)) ∧
  (∀ s : State, s.live = true →
    exec .spiStatus s = .next { s with lk := { s.lk with
      spiOut := s.spiByte :: (beBytes 2 (min 0xFFFF s.spiFrames) ++ beBytes 2 s.headBytes.length) } }) ∧
  (∀ (s : State) (i : Byte) (k : Nat), s.live = true → i ≠ 2 → i ≠ 3 → i ≠ 5 →
    exec (.spiOther i k) s = .next { s with lk := { s.lk with spiOut := s.spiByte :: List.replicate k 0 } }) ∧
  (∀ (s : State) (m : Nat), Takes s m 0x0001 [] →
    Completes (.ident m) s (fun t => Said s t ∧ Answered m (.okWith (wBytes (regValue s 0) ++ wBytes (regValue s 4) ++
      beBytes 8 Config.serial.toNat ++ beBytes 6 (Config.mac 0).toNat ++ beBytes 6 (Config.mac 1).toNat ++
      [BitVec.ofNat 8 s.th.mode.code, BitVec.ofNat 8 ((s.th.origin.map Mode.code).getD 0xFF), BitVec.ofNat 8 s.unit, 0])) t)) ∧
  (∀ (s : State) (m : Nat) (p : List Byte), Takes s m 0x0002 p → p.length + 16 ≤ pathLimit (s.box m).src.path →
    Completes (.ping m) s (fun t => Said s t ∧
      Answered m (.okWith (s.nowBytes ++ beBytes 2 s.tb.epoch.toNat ++ [BitVec.ofNat 8 s.th.mode.code, 0] ++ p)) t))

/-- REG_RD, REG_WR, PREG_WR answer and write what they name, scrubs find bad words (order, count: model's choice, logs
38, 41, 45, 86) (R325, R326, R327, R328, R364, R372, R373, R375, 13_registers_persistence_events.md, model choice: log
38, model choice: log 41, model choice: logs 45, 86). -/
def Obligations.RegistersAndWords : Prop :=
  (∀ (s : State) (m : Nat) (p : List Byte) (reads : Reads), Takes s m 0x0201 p → 4 ≤ p.length → p.length = 4 + 8 * pByte p 0 →
    rdBad p (if (s.ticket m).src.path = spiPath then 1023 else 351) = none →
    Completes (.regRd m reads) s (fun t =>
      let u := readWords ((rangesOf p).flatMap (fun r => (List.range r.2.2).map (fun j => r.2.1 + 4 * j))) (strike reads s)
      Said { u.2 with pending := s.pending } t ∧ Answered m (.okWith u.1) t)) ∧
  (∀ (s : State) (m : Nat) (p : List Byte) (reads : Reads), Takes s m 0x0201 p → p.length = 12 →
    rangesOf p = [(4, 0x10008, 1)] → (∀ x ∈ s.ps.upset, x.1 ≠ 0x10008) →
    Completes (.regRd m reads) s (fun t => Said (strike reads s) t ∧ Answered m (.okWith (wBytes s.tbStatus)) t)) ∧
  (∀ (s : State) (m : Nat) (p : List Byte) (off : Nat) (reads : Reads), Takes s m 0x0201 p → 4 ≤ p.length → p.length = 4 + 8 * pByte p 0 →
    rdBad p (if (s.ticket m).src.path = spiPath then 1023 else 351) = some off →
    Completes (.regRd m reads) s (fun t => Said s t ∧ Answered m (.badarg off) t)) ∧
  (∀ (s u : State) (m : Nat) (p : List Byte), Takes s m 0x0202 p → 4 ≤ p.length → p.length = 4 + 12 * pByte p 0 →
    1 ≤ pByte p 0 → pByte p 0 ≤ 100 → writeTriples p (pByte p 0) 0 s = .ok u →
    Completes (.regWr m) s (fun t => Said { u with pending := s.pending } t ∧
      (∀ n, n ≠ 134 → t.ev.get n = if 480 ≤ n ∧ n < 512 ∧ bit (testBits p (pByte p 0) 0) (n - 480) = true ∧
          u.ev.hasRaised u.uptime n = false
        then (u.ev.get n).raised else u.ev.get n) ∧ Answered m (.plain .ok) t)) ∧
  (∀ (s : State) (m : Nat) (p : List Byte), Takes s m 0x0202 p → p.length = 16 → pByte p 0 = 1 → pNat p 4 4 = 0x10004 →
    pWord p 12 = 0xFFFFFFFF → fld (pWord p 8) 24 8 ≠ 0 →
    Completes (.regWr m) s (fun t => Said { s with tb := { s.tb with hold := pWord p 8 } } t ∧ Answered m (.plain .ok) t)) ∧
  (∀ (s : State) (m : Nat) (p : List Byte) (e : Refused), Takes s m 0x0202 p → 4 ≤ p.length → p.length = 4 + 12 * pByte p 0 →
    1 ≤ pByte p 0 → pByte p 0 ≤ 100 → writeTriples p (pByte p 0) 0 s = .error e →
    Completes (.regWr m) s (fun t => Said s t ∧ Answered m ⟨e.status, e.arg, []⟩ t)) ∧
  (∀ s : State, s.live = true → exec (.rcRead 0xC0008) s =
    .next { s with bl := { s.bl with viol := s.bl.viol && s.bl.violAt == some s.uptime } }) ∧
  (∀ (s : State) (a i : Nat), s.live = true → 0x20000 ≤ a → a < 0x40000 → chanAt (a - 0x20000) = some (i, 0x08) →
    Completes (.rcRead a) s (fun t => t.chan i = { s.chan i with flags := (s.chan i).flags &&& ((s.chan i).noteOf s.cycle).flags } ∧ (∀ j, j ≠ i → t.chan j = s.chan j) ∧
      t = { s with fl := { s.fl with chans := t.fl.chans } })) ∧
  (∀ (s : State) (a : Nat), s.live = true → a < 0x20000 → exec (.rcRead a) s = .next s) ∧
  (∀ (s : State) (m : Nat) (p : List Byte) (ws : List (Nat × W32)), Takes s m 0x0203 p → 8 ≤ p.length →
    p.length = 8 + 4 * pByte p 4 → pregWords p = .ok ws → (commits ws s).2.1 = true →
    Completes (.pregWr m) s (fun t => t.ps = (commits ws s).2.2.ps ∧ t.fl = s.fl ∧ t.sh = s.sh ∧ t.gl.mem = s.gl.mem ∧
      Answered m (.plain .ok) t)) ∧
  (∀ (s : State) (m : Nat) (p : List Byte) (off : Nat), Takes s m 0x0203 p → 8 ≤ p.length → p.length = 8 + 4 * pByte p 4 →
    pregWords p = .error off → Completes (.pregWr m) s (fun t => Said s t ∧ Answered m (.badarg off) t)) ∧
  (∀ (s : State) (m : Nat) (p : List Byte), Takes s m 0x0204 p → p.length = 8 → pNat p 0 4 % 4 = 0 → 1 ≤ pNat p 4 2 →
    pNat p 4 2 ≤ 256 → 0x01000000 ≤ pNat p 0 4 → pNat p 0 4 + 4 * (pNat p 4 2 - 1) ≤ 0x010FFFFC →
    Completes (.pregWear m) s (fun t => Said s t ∧ Answered m (.okWith (beBytes 4 s.ps.free ++
      (List.range (pNat p 4 2)).flatMap (fun j => wBytes (s.wearOf (pNat p 0 4 + 4 * j))))) t)) ∧
  (∀ s : State, s.live = true → s.ps.scrubAddr ≠ 0x010FFFFC →
    (∀ w, s.wordAt s.ps.scrubAddr = some w → ∀ x ∈ s.ps.upset, x.1 ≠ w) →
    exec (.scrubRead .good) s = .next { s with ps := { s.ps with scrubAddr := s.ps.scrubAddr + 4 } }) ∧
  (∀ s : State, s.live = true → s.ps.scrubAddr < 0x010FC000 → holder s.ps.spares s.ps.scrubAddr = none →
    s.ps.rewrite.contains s.ps.scrubAddr = false → mapped s.ps.scrubAddr = true →
    exec (.scrubRead .corrected) s = .next { s with ps := { s.ps with
      scrubAddr := s.ps.scrubAddr + 4, rewrite := s.ps.rewrite ++ [s.ps.scrubAddr]
      upset := s.ps.upset.filter (fun x => x.1 ≠ s.ps.scrubAddr) } }) ∧
  (∀ (s : State) (r : ReadResult), s.live = true → s.ps.scrubAddr < 0x010FC000 → holder s.ps.spares s.ps.scrubAddr = none →
    (s.ps.cell s.ps.scrubAddr).unreadable = false → mapped s.ps.scrubAddr = true →
    r = .uncorrectable ∨ (r = .good ∧
      s.ps.upset.find? (fun x => x.1 == s.ps.scrubAddr) = some (s.ps.scrubAddr, .uncorrectable)) →
    Completes (.scrubRead r) s (fun t =>
      t.ps.read s.ps.scrubAddr = wordReset s.ps.scrubAddr ∧ t.ps.scrubAddr = s.ps.scrubAddr + 4 ∧
      t.ps.unread = s.ps.unread + 1 ∧ t.av.outst.contains (wordFault s.ps.scrubAddr) = true ∧
      (t.ev.get 116).latched = true)) ∧
  (∀ (s : State) (a : Nat) (r : List Nat), s.live = true → s.ps.rewrite = a :: r → (s.ps.cell a).unreadable = false →
    Completes .correctionRewrite s (fun t => t.ps.rewrite = r ∧ t.ps.corr = s.ps.corr + 1 ∧ (t.ev.get 118).latched = true)) ∧
  (∀ s : State, s.live = true → s.ps.rewrite = [] → exec .correctionRewrite s = .next s)

/-- EVT_MASK writes a group, EVT_READ restarts raise counts, EVT_CLEAR judges one entry a cycle (model's choice, logs
85, 4), EV.TEST raises 480 on (R351, R352, R353, R379, R380, R382, R383, 13_registers_persistence_events.md, model
choice: log 85, model choice: log 4). -/
def Obligations.EventCommands : Prop :=
  (∀ (s : State) (m : Nat) (p : List Byte), Takes s m 0x0901 p → p.length = 12 → pByte p 0 ≤ 15 →
    Completes (.evtMask m) s (fun t =>
      t.maskWord (pByte p 0) = masked (s.maskWord (pByte p 0)) (pWord p 8) (pWord p 4) ∧
      (∀ g, g ≠ pByte p 0 → t.maskWord g = s.maskWord g) ∧ Said s t ∧
      Answered m (.okWith (wBytes (masked (s.maskWord (pByte p 0)) (pWord p 8) (pWord p 4)))) t)) ∧
  (∀ (s : State) (m : Nat) (p : List Byte), Takes s m 0x0901 p → p.length = 12 → 15 < pByte p 0 →
    Completes (.evtMask m) s (fun t => Said s t ∧ t.ev.mask = s.ev.mask ∧ Answered m (.badarg 0) t)) ∧
  (∀ (s : State) (m : Nat) (p : List Byte), Takes s m 0x0902 p → p.length = 4 → 1 ≤ pByte p 1 → pByte p 1 ≤ 16 →
    pByte p 0 + pByte p 1 ≤ 16 →
    Completes (.evtRead m) s (fun t =>
      (∀ n, n ≠ 134 → pByte p 0 ≤ n / 32 → n / 32 < pByte p 0 + pByte p 1 → (t.ev.get n).raises = 0) ∧
      t.ev.mask = s.ev.mask ∧ Said s t ∧
      Answered m (.okWith (((List.range (pByte p 1)).map (pByte p 0 + ·)).flatMap s.groupBytes)) t)) ∧
  (∀ (s : State) (m : Nat) (p : List Byte), Takes s m 0x0902 p → p.length = 4 →
    pByte p 1 = 0 ∨ 16 < pByte p 1 ∨ 16 < pByte p 0 + pByte p 1 →
    Completes (.evtRead m) s (fun t => Said s t ∧ Answered m (.badarg 1) t)) ∧
  (∀ (s : State) (m : Nat) (p : List Byte), Takes s m 0x0903 p → p.length = 4 + 4 * pByte p 0 → pByte p 0 = 1 →
    pNat p 4 2 ≤ 511 →
    Completes (.evtClear m) s (fun t =>
      let r := (s.ev.entered s.uptime (pNat p 4 2)).clearIn (s.ev.get (pNat p 4 2)) (BitVec.ofNat 16 (pNat p 6 2))
      (∀ n, n ≠ 134 → t.ev.get n = if n = pNat p 4 2 then r.2 else s.ev.get n) ∧ t.ev.mask = s.ev.mask ∧
      Said s t ∧ Answered m (.okWith [r.1]) t)) ∧
  (∀ (s : State) (m : Nat) (p : List Byte), Takes s m 0x0903 p → p.length = 4 + 4 * pByte p 0 → 2 ≤ pByte p 0 →
    pByte p 0 ≤ 64 → (∀ i, i < pByte p 0 → pNat p (4 + 4 * i) 2 ≤ 511) →
    Completes (.evtClear m) s (fun t =>
      let r := (s.ev.entered s.uptime (pNat p 4 2)).clearIn (s.ev.get (pNat p 4 2)) (BitVec.ofNat 16 (pNat p 6 2))
      (∀ n, t.ev.get n = if n = pNat p 4 2 then r.2 else s.ev.get n) ∧ t.ev.mask = s.ev.mask ∧
      t.lk.clearing = some { box := m, left := (clearEntries p).tail, out := [r.1], start := s.start } ∧
      t = { s with ev := t.ev, lk := { s.lk with clearing := t.lk.clearing } })) ∧
  (∀ (s : State) (c : Clearing) (n : Nat) (seen : W16) (es : List (Nat × W16)), s.pending = [] → s.live = true →
    s.fl.tested = true → s.av.restart = false → s.tb.coarse.toNat + 1 < 2 ^ 54 → s.lk.clearing = some c →
    c.left = (n, seen) :: es → s.th.limpLater = false → (∀ c ∈ s.fl.chans, c.2.fullAfter s.cycle = false) →
    ∃ t, step s = .next t ∧
      let r := (s.ev.entered (s.uptime + 1) n).clearIn (s.ev.get n) seen
      let run : Option Clearing := if es.isEmpty then none else some { c with left := es, out := c.out ++ [r.1] }
      let now : State := { s with
        uptime := s.uptime + 1, tb := { s.tb with coarse := s.tb.coarse + 1 }, lk := { s.lk with clearing := run } }
      (∀ k, k ≠ 134 ∨ es ≠ [] → t.ev.get k = if k = n then r.2 else s.ev.get k) ∧
      (es = [] → Said now t ∧ Answered c.box (.okWith (c.out ++ [r.1])) t) ∧
      (es ≠ [] → t = { now with ev := t.ev })) ∧
  (∀ (s : State) (v : W32), s.live = true →
    Completes (.evTest v) s (fun t =>
      (∀ n, n < 32 → bit v n = true → t.ev.get (480 + n) =
        if s.ev.hasRaised s.uptime (480 + n) then s.ev.get (480 + n) else (s.ev.get (480 + n)).raised) ∧
      (∀ k, k < 480 ∨ 512 ≤ k ∨ bit v (k - 480) = false → t.ev.get k = s.ev.get k) ∧ Said s t))

/-- EVT_MASK writes the selected mask bits of one group and answers them, and a REG_WR of EV.TEST raises 480 + n in
every mode (R351, R383). -/
def Obligations.EventMasksAndTests : Prop :=
  (∀ (s : State) (m : Nat) (p : List Byte), Takes s m 0x0901 p → p.length = 12 → pByte p 0 ≤ 15 →
    Completes (.evtMask m) s (fun t =>
      (∀ n, n < 32 → t.ev.masked (32 * pByte p 0 + n) =
        if bit (pWord p 4) n then bit (pWord p 8) n else s.ev.masked (32 * pByte p 0 + n)) ∧
      (∀ k, k / 32 ≠ pByte p 0 → t.ev.masked k = s.ev.masked k) ∧
      Said s t ∧ Answered m (.okWith (wBytes (t.maskWord (pByte p 0)))) t)) ∧
  (∀ (s : State) (m : Nat) (p : List Byte), Takes s m 0x0901 p → p.length = 12 → 15 < pByte p 0 →
    Completes (.evtMask m) s (fun t =>
      (∀ k, t.ev.masked k = s.ev.masked k) ∧ Said s t ∧ Answered m (.badarg 0) t)) ∧
  (∀ (s : State) (m : Nat) (p : List Byte), Takes s m 0x0202 p → p.length = 16 → pByte p 0 = 1 → pNat p 4 4 = 0x100004 →
    pWord p 12 = 0xFFFFFFFF →
    Completes (.regWr m) s (fun t =>
      (∀ n, n < 32 → bit (pWord p 8) n = true → t.ev.get (480 + n) =
        if s.ev.hasRaised s.uptime (480 + n) then s.ev.get (480 + n) else (s.ev.get (480 + n)).raised) ∧
      (∀ k, k ≠ 134 → (∀ n, n < 32 → bit (pWord p 8) n = true → k ≠ 480 + n) → t.ev.get k = s.ev.get k) ∧
      Said s t ∧ Answered m (.plain .ok) t))

/-- MODE_SET is answered and pends, its completion enters the mode or LIMP, LIMP is entered and left as due (model's
choice: logs 30, 35) (R323, R324, R386, R387, R389, R390, R391, R393, R394, R44, R316, model choice: logs 30, 35). -/
def Obligations.ModeChanges : Prop :=
  (∀ (s : State) (m : Nat) (p : List Byte), Takes s m 0x0101 p → p.length = 4 → s.th.startup = true →
    Completes (.modeSet m) s (fun t => Said s t ∧ Answered m (.plain .busy) t)) ∧
  (∀ (s : State) (m : Nat) (p : List Byte), Takes s m 0x0101 p → p.length = 4 → s.th.startup = false →
    Mode.ofCode (pByte p 0) = some s.th.mode → s.th.mode ≠ .limp → s.th.pend = none →
    Completes (.modeSet m) s (fun t => Said s t ∧ Answered m (.plain .ok) t)) ∧
  (∀ (s : State) (m : Nat) (p : List Byte) (g : Mode), Takes s m 0x0101 p → p.length = 4 → s.th.startup = false →
    Mode.ofCode (pByte p 0) = some g → g ≠ .limp → allowed s.th.mode g = false →
    Completes (.modeSet m) s (fun t => Said s t ∧ Answered m (.plain .mode) t)) ∧
  (∀ (s : State) (m : Nat) (p : List Byte) (g : Mode), Takes s m 0x0101 p → p.length = 4 → s.th.startup = false →
    Mode.ofCode (pByte p 0) = some g → g ≠ .limp → allowed s.th.mode g = true → s.th.pend = none → g ≠ s.th.mode →
    s.th.mode ≠ .limp ∨ g.rangingTarget = false →
    Completes (.modeSet m) s (fun t =>
      t.th.pend = some g ∧ t.th.pendTk = some (s.ticket m) ∧ t.th.mode = s.th.mode ∧ t.th.origin = s.th.origin ∧
      Answered m (.plain .ok) t)) ∧
  (∀ (s : State) (test : SelfTest) (g : Mode) (tk : Ticket), s.live = true → test.wellFormed = true → s.th.pend = some g →
    s.th.pendTk = some tk → s.drained g = true → g.rangingTarget = false →
    Completes (.modeSetComplete test) s (fun t =>
      t.th.mode = g ∧ t.th.origin = none ∧ t.th.pend = none ∧ (t.ev.get 1).latched = true)) ∧
  (∀ (s : State) (test : SelfTest) (g : Mode) (tk : Ticket), s.live = true → test.wellFormed = true → s.th.pend = some g →
    s.th.pendTk = some tk → g.rangingTarget = true → s.limpCond = false → s.th.limpDue = false → s.th.limpPend = false →
    Completes (.modeSetComplete test) s (fun t =>
      t.th.mode = g ∧ t.th.origin = none ∧ t.th.pend = none ∧ (t.ev.get 1).latched = true)) ∧
  (∀ (s : State) (test : SelfTest) (g : Mode) (tk : Ticket), s.live = true → test.wellFormed = true → s.th.pend = some g →
    s.th.pendTk = some tk → g.rangingTarget = true → s.limpCond = true ∨ s.th.limpDue = true ∨ s.th.limpPend = true →
    Completes (.modeSetComplete test) s (fun t =>
      t.th.mode = .limp ∧ t.th.origin = some g ∧ t.th.pend = none ∧ (t.ev.get 2).latched = true)) ∧
  (∀ (s : State) (test : SelfTest), s.live = true → test.wellFormed = true → s.th.pend = none →
    exec (.modeSetComplete test) s = .next s) ∧
  (∀ s : State, s.live = true → s.midCommand = false → s.th.mode = .sweep ∨ s.th.mode = .watch → s.th.limpDue = true →
    s.th.pend = none →
    Completes .limpEntry s (fun t =>
      Said { s with
        th := { s.th with mode := .limp, origin := some s.th.mode, limpDue := false }
        fl := { s.fl with clnLoop := cnlSource s.fl.f32sel .limp } } t ∧
      (t.ev.get 1).latched = true ∧ (t.ev.get 2).latched = true)) ∧
  (∀ s : State, s.live = true → s.midCommand = false → s.th.mode = .sweep ∨ s.th.mode = .watch →
    s.th.limpDue = false ∨ s.th.pend ≠ none → exec .limpEntry s = .next s) ∧
  (∀ s : State, s.live = true → s.midCommand = false → restMode s = true →
    exec .limpEntry s = .next { s with th := { s.th with
      limpPend := s.th.limpPend || s.limpCond && s.th.pend.all Mode.rangingTarget } }) ∧
  (∀ s : State, s.live = true → s.midCommand = true →
    exec .limpEntry s = .next { s with th := { s.th with limpLater := true } } ∧
    exec .limpReturn s = .next { s with th := { s.th with limpLater := true } }) ∧
  (∀ (s : State) (o : Mode), s.live = true → s.midCommand = false → s.th.mode = .limp → s.th.origin = some o → s.quiet = 1000 →
    s.th.pend = none →
    Completes .limpReturn s (fun t =>
      Said { s with
        th := { s.th with mode := o, origin := none, limpDue := false }
        fl := { s.fl with clnLoop := cnlSource s.fl.f32sel o } } t ∧
      (t.ev.get 1).latched = true ∧ (t.ev.get 3).latched = true)) ∧
  (∀ s : State, s.live = true → s.midCommand = false → s.th.mode ≠ .limp ∨ s.quiet ≠ 1000 ∨ s.th.pend ≠ none →
    exec .limpReturn s = .next s) ∧
  (∀ s : State, s.live = true → s.th.mode ≠ .limp → s.th.limpPend = true → s.quiet = 1000 →
    exec .limpPendClear s = .next { s with th := { s.th with limpPend := false } }) ∧
  (∀ s : State, s.live = true → s.th.startup = true → s.fl.tested = true → s.ca.fillDone = true → s.ca.fill = false →
    s.gl.trained = true ∨ s.gl.state = .out →
    Completes .startUpEnd s (fun t =>
      t.th.startup = false ∧ t.th.mode = s.th.mode ∧ (t.ev.get 0).latched = true ∧
      (∀ id ∈ s.av.outst, (id ∈ t.av.outst ↔ s.persists id = true)) ∧
      t.tb = s.tb ∧ t.fl = s.fl ∧ t.sh = s.sh ∧ t.ps = s.ps ∧ t.gl.mem = s.gl.mem)) ∧
  (∀ s : State, s.live = true → s.th.startup = false ∨ s.ca.fill = true ∨ s.ca.fillDone = false →
    exec .startUpEnd s = .next s)

/-- A reading is the mean of ten (fewer: model's choice, log 18), ten bad ones fail a sensor, the throttle moves a
step, THERM_CFG sets limits (R398, R399, R400, R401, R402, R354, 14_modes_startup_thermal.md, model choice: log 33,
model choice: log 18, model choice: log 34). -/
def Obligations.TemperatureAndThrottle : Prop :=
  (∀ (s : State) (k : Nat) (c : Conversion), s.live = true → k < 16 → s.fitted k = false →
    exec (.sensorConversion k c) s = .next s) ∧
  (∀ (s : State) (k : Nat) (c : Conversion) (x : Int), s.live = true → k < 16 → s.fitted k = true → s.validConv k c = some x →
    (s.sens k).fail = false →
    Completes (.sensorConversion k c) s (fun t =>
      (t.sens k).last = (x :: (s.sens k).last).take 10 ∧
      (t.sens k).reading = meanReading ((x :: (s.sens k).last).take 10) (s.sens k).offset ∧ (t.sens k).bad = 0 ∧
      (t.sens k).fail = false ∧ (∀ j, j ≠ k → t.sens j = s.sens j) ∧
      Said { s with th := { s.th with sens := t.th.sens } } t)) ∧
  (∀ (s : State) (k : Nat) (c : Conversion), s.live = true → k < 16 → s.fitted k = true → s.validConv k c = none →
    (s.sens k).fail = false → (s.sens k).bad + 1 ≠ 10 →
    Completes (.sensorConversion k c) s (fun t =>
      t.sens k = { s.sens k with bad := (s.sens k).bad + 1 } ∧ (∀ j, j ≠ k → t.sens j = s.sens j) ∧
      t = { s with th := { s.th with sens := t.th.sens } })) ∧
  (∀ (s : State) (k : Nat) (c : Conversion), s.live = true → k < 16 → s.fitted k = true → s.validConv k c = none →
    (s.sens k).fail = false → (s.sens k).bad + 1 = 10 →
    Completes (.sensorConversion k c) s (fun t =>
      (t.sens k).fail = true ∧ (∀ j, j ≠ k → t.sens j = s.sens j) ∧ t.th.step = s.th.step ∧
      (s.th.csens ≠ k → (t.ev.get 162).latched = true ∧ t.th.leads = s.th.leads) ∧
      (s.th.csens = k → t.th.leads = s.th.leads ++ [k]) ∧
      t.outstanding 0x0801 k = true ∧ t.fl = s.fl ∧ t.sh = s.sh ∧ t.gl.mem = s.gl.mem)) ∧
  (∀ (s : State) (k : Nat), s.live = true → s.th.leads = [] → s.hottest s.controlSet = some k →
    Completes .throttleEvaluation s (fun t =>
      t.th.csens = k ∧ t.th.thetaC = (s.sens k).reading + (if s.th.bias.isEmpty then 0 else 40) ∧ t.th.noctrl = false ∧
      t.th.step = s.newStep false ((s.sens k).reading + (if s.th.bias.isEmpty then 0 else 40)) ∧ t.th.evaluated = true ∧ t.th.ctl = sensorBits s.controlSet ∧
      t.th.mode = s.th.mode ∧ t.th.sens = s.th.sens ∧ t.tb = s.tb ∧ t.sh = s.sh)) ∧
  (∀ (s : State) (k : Nat), s.live = true → s.th.leads = [k] → (s.sens k).excl = false → s.th.evaluated = true →
    1 ≤ s.th.step → s.th.step ≤ 6 →
    Completes .throttleEvaluation s (fun t =>
      (t.ev.get 162).latched = true ∧ k ∈ t.th.bias ∧ t.th.step = s.th.step + 1 ∧ t.th.leads = [] ∧
      t.th.sens = s.th.sens ∧ t.tb = s.tb ∧ t.sh = s.sh)) ∧
  (∀ s : State, s.live = true → s.hottest s.controlSet = none →
    Completes .throttleEvaluation s (fun t => t.th.noctrl = true ∧ t.th.sens = s.th.sens ∧
      (s.th.evaluated = false → t.th.step = 7) ∧ (s.th.evaluated = true → s.th.step ≤ t.th.step))) ∧
  (∀ (s : State) (b : Bool) (x : Int), s.th.evaluated = true →
    s.newStep b x ≤ s.th.step + 1 ∧ s.th.step ≤ s.newStep b x + 1 ∧ (s.stepFree = false → s.newStep b x = s.th.step)) ∧
  (∀ (s : State) (m : Nat) (p : List Byte), Takes s m 0x0A01 p → p.length = 20 → pByte p 0 = 0 → badLimit p = none →
    Completes (.thermCfgLimits m) s (fun t =>
      (∀ j, j < 7 → t.limOf (j + 1) = (BitVec.ofNat 16 (pNat p (4 + 2 * j) 2)).toInt) ∧
      Said { s with th := { s.th with lim := t.th.lim } } t ∧ Answered m (.plain .ok) t)) ∧
  (∀ (s : State) (m : Nat) (p : List Byte) (off : Nat), Takes s m 0x0A01 p → p.length = 20 → pByte p 0 = 0 →
    badLimit p = some off → Completes (.thermCfgLimits m) s (fun t => Said s t ∧ Answered m (.badarg off) t)) ∧
  (∀ (s : State) (m : Nat) (p : List Byte), Takes s m 0x0A01 p → p.length = 4 → pByte p 0 = 1 → pByte p 1 ≤ 15 →
    s.fitted (pByte p 1) = true → pByte p 2 = 1 → (∃ j ∈ s.controlSet, j ≠ pByte p 1) → (s.sens (pByte p 1)).excl = false →
    Completes (.thermCfgSensor m) s (fun t =>
      t.sens (pByte p 1) = { s.sens (pByte p 1) with excl := true } ∧ (∀ j, j ≠ pByte p 1 → t.sens j = s.sens j) ∧
      (t.ev.get 162).latched = true ∧ t.outstanding 0x0801 (pByte p 1) = false ∧ Answered m (.plain .ok) t)) ∧
  (∀ (s : State) (m : Nat) (p : List Byte), Takes s m 0x0A01 p → p.length = 4 → pByte p 0 = 1 → pByte p 1 ≤ 15 →
    s.fitted (pByte p 1) = true → pByte p 2 = 0 → (s.sens (pByte p 1)).excl = true →
    Completes (.thermCfgSensor m) s (fun t =>
      t.sens (pByte p 1) = { s.sens (pByte p 1) with excl := false } ∧ (∀ j, j ≠ pByte p 1 → t.sens j = s.sens j) ∧
      (t.ev.get 163).latched = true ∧ Said { s with th := { s.th with sens := t.th.sens } } t ∧ Answered m (.plain .ok) t)) ∧
  (∀ (s : State) (m : Nat) (p : List Byte), Takes s m 0x0A01 p → p.length = 4 → pByte p 0 = 1 →
    15 < pByte p 1 ∨ s.fitted (pByte p 1) = false →
    Completes (.thermCfgSensor m) s (fun t => Said s t ∧ Answered m (.badarg 1) t))

/-- A reset clears all but input pins and persistent words, POWER_UP starts in SURVEY, JTAG only shows (model's
choice: logs 24, 48, 49, 87) (R374, R394, R429, R432, R445, 16_pins_electrical_package.md, model choice: logs 24, 48,
49, 87). -/
def Obligations.ResetsAndBoundaryScan : Prop :=
  (∀ (s : State) (c : Cut), s.pins.pwrgood = true → c.words = 0 → c.envWords = 0 →
    exec (.pwrgoodFall c) s = .next { State.reset with
      pending := s.pending
      pins := { s.pins with
        pwrgood := false, gmResetN := false, gmLines := false, tap := .testLogicReset, ir := 1, irShift := [], dr := [], tdo := [] }
      id := { s.id with powerUp := true }
      ps := { State.reset.ps with words := s.ps.words, spares := s.ps.spares, stuck := s.ps.stuck, upset := s.ps.upset }
      bl := { State.reset.bl with envSum := s.bl.envSum } }) ∧
  (∀ (s : State) (c : Cut), s.pins.pwrgood = false → exec (.pwrgoodFall c) s = .next s) ∧
  (∀ (s : State) (c : Cut) (e : EnvLoad), s.live = true → c.box = none → s.bl.envLoad = some e →
    Completes (.pwrgoodFall c) s (fun t =>
      t.live = false ∧ t.ps.words = (commits (e.words.take c.envWords) s).2.2.ps.words ∧
      t.ps.spares = (commits (e.words.take c.envWords) s).2.2.ps.spares)) ∧
  (∀ (s : State) (c : Cut) (m : Nat), s.live = true → s.lodgeRuns = true → s.nextBox = some m → c.box = some m →
    s.bl.envLoad = none →
    Completes (.rstNAssert c) s (fun t =>
      t.live = false ∧ t.ps.words = (cutShort m c.words s).ps.words ∧ t.ps.spares = (cutShort m c.words s).ps.spares)) ∧
  (∀ (s : State) (c : Cut), s.pins.pwrgood = true → s.pins.rstN = true → c.words = 0 → c.envWords = 0 →
    exec (.rstNAssert c) s = .next { State.reset with
      pending := s.pending
      pins := { s.pins with
        rstN := false, gmResetN := false, gmLines := false, tap := .testLogicReset, ir := 1, irShift := [], dr := [], tdo := [] }
      id := { s.id with powerUp := false }
      ps := { State.reset.ps with words := s.ps.words, spares := s.ps.spares, stuck := s.ps.stuck, upset := s.ps.upset }
      bl := { State.reset.bl with envSum := s.bl.envSum } }) ∧
  (∀ (s : State) (b : Bool) (test : SelfTest) (reads : Reads), test.wellFormed = true → s.live = true →
    exec (.powerUp b test reads) s = .next s) ∧
  (∀ (s : State) (test : SelfTest) (reads : Reads), test.wellFormed = true → s.pins.pwrgood = false → s.pins.rstN = false →
    exec (.powerUp true test reads) s = .next { s with pins := { s.pins with pwrgood := true } }) ∧
  (∀ (s : State) (test : SelfTest) (reads : Reads), test.wellFormed = true → s.pins.pwrgood = false → s.pins.rstN = true →
    Completes (.powerUp true test reads) s (fun t =>
      t.live = true ∧ t.th.mode = .survey ∧ t.th.startup = true ∧ t.th.pend = none ∧ t.fl.tested = true ∧ t.tb.coarse = 0 ∧
      t.tb.epoch = 0 ∧ t.uptime = 0 ∧ t.gl.mem = [] ∧ t.sh.shotNum = 0 ∧ t.bl.sumBusy = true)) ∧
  (∀ (s : State) (test : SelfTest) (reads : Reads), test.wellFormed = true → s.pins.pwrgood = true → s.pins.rstN = false →
    Completes (.powerUp false test reads) s (fun t =>
      t.live = true ∧ t.th.mode = .survey ∧ t.th.startup = true ∧ t.th.pend = none ∧ t.fl.tested = true ∧ t.tb.coarse = 0 ∧
      t.tb.epoch = 0 ∧ t.uptime = 0 ∧ t.gl.mem = [] ∧ t.sh.shotNum = 0 ∧ t.bl.sumBusy = true)) ∧
  (∀ (s : State) (clocks : List Tck), clocks.length = 5 → clocks.all Tck.tms = true →
    Completes (.jtagIdcode clocks) s (fun t =>
      t.pins.tap = .testLogicReset ∧ t.pins.ir = 1 ∧
      t = { s with pins := { s.pins with
        tap := t.pins.tap, ir := t.pins.ir, irShift := t.pins.irShift, dr := t.pins.dr, tdo := t.pins.tdo } })) ∧
  (∀ s : State, s.pins.tap = .runTestIdle → s.pins.ir = 1 →
    exec (.jtagIdcode ([⟨true, false⟩, ⟨false, false⟩, ⟨false, false⟩] ++ List.replicate 32 ⟨false, false⟩)) s =
      .next { s with pins := { s.pins with
        tap := .shiftDr, dr := List.replicate 32 false
        tdo := [none, none, none] ++ (bitList 32 idcode.toNat).map some } }) ∧
  (∀ (s : State) (p : BitVec 24), s.pins.tap = .runTestIdle → s.pins.ir = 2 →
    Completes (.jtagSample p [⟨true, false⟩, ⟨false, false⟩, ⟨false, false⟩]) s (fun t =>
      t = { s with pins := t.pins } ∧ t.pins.ir = 2 ∧ t.pins.tap = .shiftDr ∧ t.pins.dr = bitList 24 t.cells ∧
      t.pins.trgin = p.getLsbD 2 ∧ t.pins.ppsIn = p.getLsbD 17 ∧ t.live = s.live)) ∧
  (∀ (s : State) (c : BitVec 4) (b : Bool), c ≠ 1 → c ≠ 2 → s.pins.tap = .runTestIdle → s.pins.ir = c →
    exec (.jtagBypass c [⟨true, false⟩, ⟨false, false⟩, ⟨false, false⟩, ⟨false, b⟩, ⟨false, false⟩]) s =
      .next { s with pins := { s.pins with
        tap := .shiftDr, dr := [false], tdo := [none, none, none, some false, some b] } }) ∧
  (∀ (s : State) (c : BitVec 4), c ≠ 1 → c ≠ 2 → s.pins.tap = .runTestIdle →
    exec (.jtagBypass c [⟨true, false⟩, ⟨true, false⟩, ⟨false, false⟩, ⟨false, false⟩, ⟨false, c.getLsbD 0⟩,
        ⟨false, c.getLsbD 1⟩, ⟨false, c.getLsbD 2⟩, ⟨true, c.getLsbD 3⟩, ⟨true, false⟩]) s =
      .next { s with pins := { s.pins with
        tap := .updateIr, ir := c, irShift := bitList 4 c.toNat
        tdo := [none, none, none, none, some true, some false, some false, some false, none] } })

/-- A mismatch restarts the Lodge, the third halts it, FLRST clears one flight, the fault log is written and read
(model's choice: logs 44, 46, 86) (R301, R360, R408, R414, R419, R420, R421, R422, 15_availability_and_loggia.md,
model choice: log 44, model choice: log 46, model choice: log 86). -/
def Obligations.RestartsAndTheFaultLog : Prop :=
  (∀ (s : State) (c : Option Nat) (a b : Nat), s.live = true → c.all (fun m => m < 32) = true →
    s.av.halt = true → exec (.lockstepMismatch c a b) s = .next s) ∧
  (∀ (s : State) (a b : Nat), s.live = true → s.av.halt = false →
    (s.av.mismatches.filter (fun u => s.uptime ≤ u + 60000000000)).length < 2 →
    Completes (.lockstepMismatch none a b) s (fun t =>
      t.av.restart = true ∧ t.av.halt = false ∧ t.av.cut = s.executing none ∧ t.av.restarts = s.av.restarts + 1 ∧ (t.ev.get 195).latched = true ∧
      t.outstanding 0x0401 0 = true ∧ t.sh.admission = none ∧ t.bl.envLoad = none ∧ t.tb = s.tb ∧ t.fl = s.fl ∧
      t.gl.mem = s.gl.mem)) ∧
  (∀ (s : State) (a b : Nat), s.live = true → s.av.halt = false →
    2 ≤ (s.av.mismatches.filter (fun u => s.uptime ≤ u + 60000000000)).length →
    Completes (.lockstepMismatch none a b) s (fun t =>
      t.av.halt = true ∧ t.outstanding 0x0402 0 = true ∧ (∀ m, m < 32 → t.waits m = false) ∧ t.tb = s.tb ∧ t.fl = s.fl ∧
      t.gl.mem = s.gl.mem)) ∧
  (∀ s : State, s.live = true → s.av.restart = false → exec .lodgeRestartEnd s = .next s) ∧
  (∀ (s : State) (m : Nat), s.live = true → s.av.restart = true → s.av.cut = some m → s.lk.due = [] →
    Completes .lodgeRestartEnd s (fun t =>
      t.av.restart = false ∧ t.outstanding 0x0401 0 = false ∧ Answered m faulted t ∧ t.tb = s.tb ∧ t.sh = s.sh ∧
      t.gl.mem = s.gl.mem)) ∧
  (∀ s : State, s.live = true → s.av.restart = true → s.av.cut = none → s.lk.due = [] →
    Completes .lodgeRestartEnd s (fun t =>
      t.av.restart = false ∧ t.outstanding 0x0401 0 = false ∧ Said { s with th := t.th, av := t.av } t)) ∧
  (∀ (s : State) (f : Nat), s.live = true → f < 33 → s.restartDue f = true → f ∉ s.fl.flrst → s.passing f = false →
    Completes (.flrst f) s (fun t =>
      f ∈ t.fl.flrst ∧
      (f < 32 → ∀ i ∈ flightChans f, (t.achan i).incs = [] ∧ (t.achan i).waits = [] ∧ (t.achan i).acc = []) ∧
      (∀ i, i ∉ flightChans f → t.achan i = s.achan i) ∧ t.sh.shotNum = s.sh.shotNum ∧
      t = { s with fl := { s.fl with flrst := t.fl.flrst }, ar := t.ar, sh := t.sh })) ∧
  (∀ (s : State) (f : Nat), s.live = true → f < 33 → s.restartDue f = false ∨ f ∈ s.fl.flrst ∨ s.passing f = true →
    exec (.flrst f) s = .next s) ∧
  (∀ (s : State) (f : Nat), s.live = true → f < 33 → f ∈ s.fl.flrst →
    Completes (.flrstEnd f) s (fun t =>
      f ∉ t.fl.flrst ∧ t.outstanding 0x0201 f = false ∧ t.outstanding 0x0202 f = false ∧ t.outstanding 0x0204 f = false ∧
      t.sh = s.sh ∧ t.tb = s.tb ∧ t.gl.mem = s.gl.mem)) ∧
  (∀ (s : State) (f : Nat), s.live = true → f < 33 → f ∉ s.fl.flrst → exec (.flrstEnd f) s = .next s) ∧
  (∀ s : State, s.live = true → s.av.log = [] → exec .faultLogEntry s = .next s) ∧
  (∀ (s : State) (e : LogEntry) (r : List LogEntry), s.live = true → s.av.log = e :: r → (fillTokens s).av.tokens = 0 →
    Completes .faultLogEntry s (fun t =>
      t = { s with av := { s.av with
        log := r, logLost := s.av.logLost + 1, tokens := 0, tokenAt := t.av.tokenAt } })) ∧
  (∀ (s : State) (e : LogEntry) (r : List LogEntry), s.live = true → s.av.log = e :: r → (fillTokens s).av.tokens ≠ 0 →
    Completes .faultLogEntry s (fun t =>
      t.av.logNext = s.av.logNext + 1 ∧ t.av.logLost = s.av.logLost ∧ t.av.tokens = (fillTokens s).av.tokens - 1 ∧
      t.tb = s.tb ∧ t.fl = s.fl ∧ t.sh = s.sh ∧ t.gl.mem = s.gl.mem)) ∧
  (∀ (s : State) (e : LogEntry) (r : List LogEntry), s.live = true → s.av.log = e :: r → (fillTokens s).av.tokens ≠ 0 →
    (s.ps.spares.map Prod.fst).Pairwise (· < ·) →
    (∀ a, a = logNextAddr ∨ (∃ j, j < 4 ∧ a = logAddr s.av.logNext.toNat + 4 * j) →
      (s.ps.cell a).stuck = 0 ∧ (s.ps.cell a).wear < 100000000) →
    Completes .faultLogEntry s (fun t =>
      (∀ j, j < 4 → t.ps.read (logAddr s.av.logNext.toNat + 4 * j) = pWord e.bytes (4 * j)) ∧
      t.ps.read logNextAddr = s.av.logNext + 1 ∧
      (∀ a, a ≠ logNextAddr → (∀ j, j < 4 → a ≠ logAddr s.av.logNext.toNat + 4 * j) → t.ps.read a = s.ps.read a))) ∧
  (∀ (s : State) (m : Nat) (p : List Byte) (reads : Reads), Takes s m 0x0B02 p → p.length = 8 → 1 ≤ pByte p 4 → pByte p 4 ≤ 64 →
    signed 32 (s.av.logNext.toNat + 2 ^ 32 - pNat p 0 4) ≤
      Int.ofNat (s.av.logNext.toNat - (s.av.logNext.toNat - 2048)) →
    Completes (.faultLog m reads) s (fun t =>
      let k := min (pByte p 4) (signed 32 (s.av.logNext.toNat + 2 ^ 32 - pNat p 0 4)).toNat
      let as := (List.range k).flatMap (fun j => (List.range 4).map (fun w => logAddr (pNat p 0 4 + j) + 4 * w))
      let u := checkReads as (strike reads s)
      Said { u with pending := s.pending } t ∧
      Answered m (.okWith (beBytes 4 s.av.logNext.toNat ++ beBytes 4 (s.av.logNext.toNat - 2048) ++ beBytes 4 k ++
        as.flatMap (fun a => wBytes (u.ps.read a)))) t)) ∧
  (∀ (s : State) (m : Nat) (p : List Byte) (reads : Reads), Takes s m 0x0B02 p → p.length = 8 → 1 ≤ pByte p 4 → pByte p 4 ≤ 64 →
    Int.ofNat (s.av.logNext.toNat - (s.av.logNext.toNat - 2048)) <
      signed 32 (s.av.logNext.toNat + 2 ^ 32 - pNat p 0 4) →
    Completes (.faultLog m reads) s (fun t => Said s t ∧ Answered m (.plain .stale) t)) ∧
  (∀ (s : State) (m : Nat) (p : List Byte) (reads : Reads), Takes s m 0x0B02 p → p.length = 8 →
    pByte p 4 = 0 ∨ 64 < pByte p 4 →
    Completes (.faultLog m reads) s (fun t => Said s t ∧ Answered m (.badarg 4) t))

/-- Trace records leave in order with SEQ, a drop is told first, dumps add records, counters latch (order, slots:
model's choice, logs 47, 82, 84) (R424, R425, R426, R427, R428, R29, R65, 15_availability_and_loggia.md, model choice:
log 47, model choice: log 82, model choice: log 84). -/
def Obligations.TraceAndCounters : Prop :=
  (∀ s : State, s.live = true → s.av.held = none ∨ s.traceSettled = false →
    bit s.av.trcfg 31 = false ∨ (s.av.fifo = [] ∧ s.av.dropped = 0) → exec .traceRecordSend s = .next s) ∧
  (∀ (s : State) (r : TraceRec) (rs : List TraceRec), s.live = true → s.av.held = none ∨ s.traceSettled = false →
    bit s.av.trcfg 31 = true → s.av.dropped = 0 → s.av.fifo = r :: rs →
    let at_ := max (s.uptime / 4) (s.av.laneAt + if s.av.lanes.isEmpty then 0 else 5)
    exec .traceRecordSend s = .next { s with av := { s.av with
      fifo := rs, lanes := [BitVec.ofNat 8 r.type, s.av.trSeq] ++ r.body, trSeq := s.av.trSeq + 1
      laneAt := at_, laneRd := (List.range 4).map (fun n => s.av.rdAt n at_) } }) ∧
  (∀ s : State, s.live = true → s.av.held = none ∨ s.traceSettled = false → bit s.av.trcfg 31 = true → s.av.dropped ≠ 0 →
    let at_ := max (s.uptime / 4) (s.av.laneAt + if s.av.lanes.isEmpty then 0 else 5)
    exec .traceRecordSend s = .next { s with av := { s.av with
      dropped := 0, lanes := [10, s.av.trSeq] ++ (beBytes 4 s.av.dropped ++ s.nowBytes ++ [0, 0]), trSeq := s.av.trSeq + 1
      laneAt := at_, laneRd := (List.range 4).map (fun n => s.av.rdAt n at_) } }) ∧
  (∀ (s : State) (l : List TraceRec), s.live = true → s.av.held = some l → s.traceSettled = true →
    bit s.av.trcfg 31 = true → s.av.dropped = 0 → s.av.fifo = [] → l ≠ [] →
    Completes .traceRecordSend s (fun t => t.av.held = none ∧ t.av.fifo = l.tail ∧
      t = { s with av := { s.av with
        held := none, fifo := l.tail, lanes := t.av.lanes, trSeq := s.av.trSeq + 1, laneAt := t.av.laneAt
        laneRd := t.av.laneRd } })) ∧
  (∀ (a : Avail) (n : Nat), n < 4 → a.lanes.length = 16 →
    (a.symbols n a.laneAt).getLastD k28 = k27 ∧
    (∀ j, j < 4 → (a.symbols n (a.laneAt + 1 + j)).getLastD k28 = { ctl := false, byte := a.lanes.getD (4 * j + n) 0 }) ∧
    (∀ t, a.laneAt + 5 ≤ t → (a.symbols n t).getLastD k28 = k28)) ∧
  (∀ s : State, s.live = true → s.av.held = none → bit s.av.trcfg 31 = true → s.av.fifo.length < 4096 →
    Completes .traceTimeRecord s (fun t =>
      (∃ r : TraceRec, t.av.fifo = s.av.fifo ++ [r] ∧ r.type = 8 ∧ r.body.take 2 = beBytes 2 s.tb.epoch.toNat) ∧
      t = { s with av := { s.av with fifo := t.av.fifo } })) ∧
  (∀ s : State, s.live = true → bit s.av.trcfg 31 = false → exec .traceTimeRecord s = .next s) ∧
  (∀ s : State, s.live = true → s.av.held = none → bit s.av.trcfg 31 = true → fld s.av.trcfg 16 4 ≠ 0 → s.av.fifo.length + 256 ≤ 4032 →
    exec .traceCounterBurst s = .next { s with av := { s.av with
      fifo := s.av.fifo ++ (List.range 256).map (counterRec s.av.lcnt s.nowBytes) } }) ∧
  (∀ s : State, s.live = true → fld s.av.trcfg 16 4 = 0 → exec .traceCounterBurst s = .next s) ∧
  (∀ s : State, s.live = true → exec .avLcntRead s = .next { s with av := { s.av with lcntL := some s.av.lcnt } }) ∧
  (∀ (s : State) (v : W32), s.live = true → fld v 0 10 < 524 → (s.chan (fld v 0 10)).hold = true →
    s.av.held = none → bit s.av.trcfg 31 = true → s.av.fifo.length + (s.chan (fld v 0 10)).queue.length ≤ 4032 →
    exec (.avTrdump v) s = .next { s with av := { s.av with
      fifo := s.av.fifo ++ (stages s.cycle 15 (s.chan (fld v 0 10)).queue).map
        (fun ke => stampRec true ke.1 (fld v 0 10) ke.2.word) } }) ∧
  (∀ (n : Nat) (q : List QEntry),
    (stages n 15 q).map Prod.snd = q ∧ (∀ ke ∈ stages n 15 q, ke.1 ≤ 15 - (ke.2.ready - n)) ∧
    ((∀ e ∈ q, e.ready ≤ n) → ∀ j, j < q.length → ((stages n 15 q).map Prod.fst)[j]? = some (15 - j))) ∧
  (∀ (s : State) (v : W32), s.live = true → 524 ≤ fld v 0 10 ∨ (s.chan (fld v 0 10)).hold = false →
    exec (.avTrdump v) s = .next s)

/-- SPARE_MAP plans a switch of cores, retires cores and a memory channel, clears the map (some answers: model's
choice, log 43) (R355, R356, R357, R358, R359, R278, R413, 12_command_reference.md, model choice: log 43). -/
def Obligations.SpareMapOperations : Prop :=
  (∀ (s : State) (m : Nat) (p : List Byte), Takes s m 0x0B01 p → p.length = 8 → pByte p 0 = 0 → s.th.mode ≠ .dormant →
    pByte p 1 ≤ 32 → chansOf (pByte p 1) ≤ pByte p 3 → pByte p 3 < coresOf (pByte p 1) →
    (s.core (coreNo (pByte p 1) (pByte p 3))).state = 0 → s.fl.tested = true →
    coreNo (pByte p 1) (pByte p 3) ∉ s.chosen (pByte p 1) →
    pByte p 2 < chansOf (pByte p 1) → (s.chan (chanNo (pByte p 1) (pByte p 2))).en = true →
    (s.chan (chanNo (pByte p 1) (pByte p 2))).subst = none →
    Completes (.spareMapSwap m) s (fun t =>
      t.chan (chanNo (pByte p 1) (pByte p 2)) = { s.chan (chanNo (pByte p 1) (pByte p 2)) with
        subst := some { core := pByte p 3, tsw := switchInstant s.tb.coarse, fault := none } } ∧
      (∀ j, j ≠ chanNo (pByte p 1) (pByte p 2) → t.chan j = s.chan j) ∧
      Said { s with fl := { s.fl with chans := t.fl.chans } } t ∧
      Answered m (.okWith (beBytes 8 (switchInstant s.tb.coarse).toNat)) t)) ∧
  (∀ (s : State) (m : Nat) (p : List Byte), Takes s m 0x0B01 p → p.length = 8 → pByte p 0 ≤ 2 → s.th.mode ≠ .dormant →
    32 < pByte p 1 →
    (pByte p 0 = 0 → Completes (.spareMapSwap m) s (fun t => Said s t ∧ Answered m (.badarg 1) t)) ∧
    (pByte p 0 = 1 → Completes (.spareMapHome m) s (fun t => Said s t ∧ Answered m (.badarg 1) t)) ∧
    (pByte p 0 = 2 → Completes (.spareMapRetire m) s (fun t => Said s t ∧ Answered m (.badarg 1) t))) ∧
  (∀ (s : State) (m : Nat) (p : List Byte), Takes s m 0x0B01 p → p.length = 8 → pByte p 0 = 1 → s.th.mode ≠ .dormant →
    pByte p 1 ≤ 32 → pByte p 2 < chansOf (pByte p 1) → (s.core (coreNo (pByte p 1) (pByte p 2))).state ≠ 3 →
    s.fl.tested = true → (s.chan (chanNo (pByte p 1) (pByte p 2))).core ≠ pByte p 2 →
    (s.chan (chanNo (pByte p 1) (pByte p 2))).subst = none →
    Completes (.spareMapHome m) s (fun t =>
      t.chan (chanNo (pByte p 1) (pByte p 2)) = { s.chan (chanNo (pByte p 1) (pByte p 2)) with
        subst := some { core := pByte p 2, tsw := switchInstant s.tb.coarse, fault := none } } ∧
      (∀ j, j ≠ chanNo (pByte p 1) (pByte p 2) → t.chan j = s.chan j) ∧
      Said { s with fl := { s.fl with chans := t.fl.chans } } t ∧
      Answered m (.okWith (beBytes 8 (switchInstant s.tb.coarse).toNat)) t)) ∧
  (∀ (s : State) (m : Nat) (p : List Byte), Takes s m 0x0B01 p → p.length = 8 → pByte p 0 = 2 → s.th.mode ≠ .dormant →
    pByte p 1 ≤ 32 → pByte p 3 < coresOf (pByte p 1) → (s.core (coreNo (pByte p 1) (pByte p 3))).state = 0 →
    coreNo (pByte p 1) (pByte p 3) ∉ s.chosen (pByte p 1) →
    Completes (.spareMapRetire m) s (fun t =>
      (t.core (coreNo (pByte p 1) (pByte p 3))).state = 3 ∧
      (∀ x, x ≠ coreNo (pByte p 1) (pByte p 3) → t.core x = s.core x) ∧ (t.ev.get 196).latched = true ∧
      t.fl = { s.fl with cores := t.fl.cores } ∧ t.tb = s.tb ∧ t.sh = s.sh ∧ Answered m (.plain .ok) t)) ∧
  (∀ (s : State) (m : Nat) (p : List Byte), Takes s m 0x0B01 p → p.length = 8 → pByte p 0 = 2 → s.th.mode ≠ .dormant →
    pByte p 1 ≤ 32 → pByte p 3 < coresOf (pByte p 1) → (s.core (coreNo (pByte p 1) (pByte p 3))).state = 3 →
    coreNo (pByte p 1) (pByte p 3) ∉ s.chosen (pByte p 1) →
    Completes (.spareMapRetire m) s (fun t => Said s t ∧ Answered m (.plain .ok) t)) ∧
  (∀ (s : State) (m : Nat) (p : List Byte), Takes s m 0x0B01 p → p.length = 8 → pByte p 0 = 3 → pByte p 1 ≤ 7 →
    s.gl.retired = none → (commit retireAddr (retireWord (pByte p 1) s) s).1 = true → s.gl.writing = false →
    Completes (.memret m) s (fun t =>
      t.gl.retired = some (pByte p 1) ∧ (∀ q, (t.partn q).state = 0) ∧ t.gl.marks = [] ∧ (t.ev.get 101).latched = true ∧
      t.gl.mem = s.gl.mem ∧ t.tb = s.tb ∧ t.fl = s.fl ∧ Answered m (.plain .ok) t)) ∧
  (∀ (s : State) (m : Nat) (p : List Byte), Takes s m 0x0B01 p → p.length = 8 → pByte p 0 = 3 →
    7 < pByte p 1 ∨ s.gl.retired ≠ none →
    Completes (.memret m) s (fun t => Said s t ∧ Answered m (.badarg 1) t)) ∧
  (∀ (s : State) (m : Nat) (p : List Byte), Takes s m 0x0B01 p → p.length = 8 → pByte p 0 = 3 → pByte p 1 ≤ 7 →
    s.gl.retired = none → (commit retireAddr (retireWord (pByte p 1) s) s).1 = false →
    Completes (.memret m) s (fun t =>
      t.gl.retired = none ∧ t.gl.parts = s.gl.parts ∧ t.gl.marks = s.gl.marks ∧ t.gl.mem = s.gl.mem ∧ t.tb = s.tb ∧ t.fl = s.fl ∧
      Answered m (.plain .worn) t)) ∧
  (∀ (s : State) (m : Nat) (p : List Byte), Takes s m 0x0B01 p → p.length = 8 → pByte p 0 = 4 →
    s.th.mode = .dormant ∨ s.th.mode = .survey → s.gl.retired ≠ none ∨ bit (pread s retireAddr) 4 = true →
    (commit retireAddr 0 s).1 = false →
    Completes (.memclr m) s (fun t =>
      (∀ c, c < 8 → t.outstanding 0x0602 c = s.outstanding 0x0602 c) ∧ t.gl.retired = s.gl.retired ∧ t.gl.mem = s.gl.mem ∧
      t.tb = s.tb ∧ t.fl = s.fl ∧ Answered m (.plain .worn) t)) ∧
  (∀ (s : State) (m : Nat) (p : List Byte), Takes s m 0x0B01 p → p.length = 8 → pByte p 0 = 4 →
    s.th.mode = .dormant ∨ s.th.mode = .survey → s.gl.retired ≠ none ∨ bit (pread s retireAddr) 4 = true →
    (commit retireAddr 0 s).1 = true →
    Completes (.memclr m) s (fun t =>
      (∀ c, c < 8 → t.outstanding 0x0602 c = false) ∧ t.gl.retired = s.gl.retired ∧ t.gl.mem = s.gl.mem ∧ t.tb = s.tb ∧
      t.fl = s.fl ∧ Answered m (.plain .ok) t)) ∧
  (∀ (s : State) (m : Nat) (p : List Byte), Takes s m 0x0B01 p → p.length = 8 → pByte p 0 = 4 →
    s.th.mode = .dormant ∨ s.th.mode = .survey → s.gl.retired = none → bit (pread s retireAddr) 4 = false →
    Completes (.memclr m) s (fun t => Said s t ∧ Answered m (.badarg 0) t))
end

