-- ==== Sys2Proof/Laws/Tab.lean ====
section
/-!
SUPPORT. Tab.lean (laws): reading after writing a sparse table, and that every operation keeps its canonical form; the same
for the Gallery memory.
-/
namespace Sys2Proof.Machine

variable {α : Type}

theorem Tab.get_above (d : Nat → α) {k j : Nat} (h : j ≤ k) : ∀ {t : Tab α}, Tab.above k t = true → Tab.get d t j = d j
  | [], _ => rfl
  | (k', v) :: t, ht => by
    simp only [Tab.above, Bool.and_eq_true, decide_eq_true_eq] at ht
    have hne : j ≠ k' := by omega
    simp only [Tab.get, hne, if_false]
    exact Tab.get_above d h ht.2

theorem Tab.above_weaken {j k : Nat} (h : j ≤ k) : ∀ {t : Tab α}, Tab.above k t = true → Tab.above j t = true
  | [], _ => rfl
  | (k', v) :: t, ht => by
    simp only [Tab.above, Bool.and_eq_true, decide_eq_true_eq] at ht ⊢
    exact ⟨by omega, Tab.above_weaken h ht.2⟩

theorem Tab.above_insert {j k : Nat} (v : α) (h : j < k) :
    ∀ {t : Tab α}, Tab.above j t = true → Tab.above j (Tab.insert t k v) = true
  | [], _ => by simp [Tab.insert, Tab.above, h]
  | (k', v') :: t, ht => by
    have ht' := ht
    simp only [Tab.above, Bool.and_eq_true, decide_eq_true_eq] at ht
    simp only [Tab.insert]
    split
    · simp [Tab.above, h, ht.1, ht.2]
    · split
      · simp [Tab.above, h, ht.2]
      · simp [Tab.above, ht.1, Tab.above_insert v h ht.2]

theorem Tab.above_erase {j k : Nat} : ∀ {t : Tab α}, Tab.above j t = true → Tab.above j (Tab.erase t k) = true
  | [], _ => rfl
  | (k', v') :: t, ht => by
    simp only [Tab.above, Bool.and_eq_true, decide_eq_true_eq] at ht
    simp only [Tab.erase]
    split
    · exact Tab.above_erase ht.2
    · simp [Tab.above, ht.1, Tab.above_erase ht.2]

variable [DecidableEq α]

theorem Tab.wf_cons (d : Nat → α) (k : Nat) (v : α) (t : Tab α) :
    Tab.wf d ((k, v) :: t) = true ↔ Tab.above k t = true ∧ v ≠ d k ∧ Tab.wf d t = true := by
  simp [Tab.wf, and_assoc]

theorem Tab.wf_insert (d : Nat → α) {k : Nat} {v : α} (hv : v ≠ d k) :
    ∀ {t : Tab α}, Tab.wf d t = true → Tab.wf d (Tab.insert t k v) = true
  | [], _ => by simp [Tab.insert, Tab.wf, Tab.above, hv]
  | (k', v') :: t, ht => by
    rw [Tab.wf_cons] at ht
    simp only [Tab.insert]
    split
    · rename_i hk
      simp [Tab.wf, Tab.above, hk, hv, ht.1, ht.2.1, ht.2.2, Tab.above_weaken (Nat.le_of_lt hk) ht.1]
    · split
      · rename_i hk
        subst hk
        simp [Tab.wf, ht.1, hv, ht.2.2]
      · rename_i h1 h2
        rw [Tab.wf_cons]
        exact ⟨Tab.above_insert v (by omega) ht.1, ht.2.1, Tab.wf_insert d hv ht.2.2⟩

theorem Tab.wf_erase (d : Nat → α) {k : Nat} : ∀ {t : Tab α}, Tab.wf d t = true → Tab.wf d (Tab.erase t k) = true
  | [], _ => rfl
  | (k', v') :: t, ht => by
    rw [Tab.wf_cons] at ht
    simp only [Tab.erase]
    split
    · exact Tab.wf_erase d ht.2.2
    · rw [Tab.wf_cons]
      exact ⟨Tab.above_erase ht.1, ht.2.1, Tab.wf_erase d ht.2.2⟩

/-- A write keeps the canonical form. -/
theorem Tab.wf_put (d : Nat → α) {t : Tab α} (k : Nat) (v : α) (h : Tab.wf d t = true) : Tab.wf d (Tab.put d t k v) = true := by
  unfold Tab.put
  split
  · exact Tab.wf_erase d h
  · rename_i hv
    exact Tab.wf_insert d hv h

/-- A change of one entry keeps the canonical form. -/
theorem Tab.wf_upd (d : Nat → α) {t : Tab α} (k : Nat) (f : α → α) (h : Tab.wf d t = true) :
    Tab.wf d (Tab.upd d t k f) = true := Tab.wf_put d k _ h

omit [DecidableEq α] in
theorem Tab.get_insert_same (d : Nat → α) (k : Nat) (v : α) : ∀ t : Tab α, Tab.get d (Tab.insert t k v) k = v
  | [] => by simp [Tab.insert, Tab.get]
  | (k', v') :: t => by
    simp only [Tab.insert]
    split
    · simp [Tab.get]
    · split
      · simp [Tab.get]
      · rename_i h1 h2
        simp [Tab.get, h2, Tab.get_insert_same d k v t]

omit [DecidableEq α] in
theorem Tab.get_insert_other (d : Nat → α) {j k : Nat} (v : α) (h : j ≠ k) :
    ∀ t : Tab α, Tab.get d (Tab.insert t k v) j = Tab.get d t j
  | [] => by simp [Tab.insert, Tab.get, h]
  | (k', v') :: t => by
    simp only [Tab.insert]
    split
    · simp [Tab.get, h]
    · split
      · rename_i hk
        subst hk
        simp [Tab.get, h]
      · simp [Tab.get, Tab.get_insert_other d v h t]

omit [DecidableEq α] in
theorem Tab.get_erase_other (d : Nat → α) {j k : Nat} (h : j ≠ k) :
    ∀ t : Tab α, Tab.get d (Tab.erase t k) j = Tab.get d t j
  | [] => rfl
  | (k', v') :: t => by
    simp only [Tab.erase]
    split
    · rename_i hk
      subst hk
      simp [Tab.get, h, Tab.get_erase_other d h t]
    · simp [Tab.get, Tab.get_erase_other d h t]

omit [DecidableEq α] in
theorem Tab.get_erase_same (d : Nat → α) (k : Nat) : ∀ t : Tab α, Tab.get d (Tab.erase t k) k = d k
  | [] => rfl
  | (k', v') :: t => by
    simp only [Tab.erase]
    split
    · exact Tab.get_erase_same d k t
    · rename_i hk
      simp [Tab.get, hk, Tab.get_erase_same d k t]

/-- A read after a write to the same key gives the value written. -/
theorem Tab.get_put_same (d : Nat → α) (t : Tab α) (k : Nat) (v : α) : Tab.get d (Tab.put d t k v) k = v := by
  unfold Tab.put
  split
  · rename_i hv
    rw [Tab.get_erase_same d k t, hv]
  · exact Tab.get_insert_same d k v t

/-- A write leaves every other key alone. -/
theorem Tab.get_put_other (d : Nat → α) {t : Tab α} {j k : Nat} (v : α) (h : j ≠ k) :
    Tab.get d (Tab.put d t k v) j = Tab.get d t j := by
  unfold Tab.put
  split
  · exact Tab.get_erase_other d h t
  · exact Tab.get_insert_other d v h t

/-- A changed entry reads as changed. -/
theorem Tab.get_upd_same (d : Nat → α) (t : Tab α) (k : Nat) (f : α → α) :
    Tab.get d (Tab.upd d t k f) k = f (Tab.get d t k) := Tab.get_put_same d t k _

/-- A change of one entry leaves every other alone. -/
theorem Tab.get_upd_other (d : Nat → α) {t : Tab α} {j k : Nat} (f : α → α) (h : j ≠ k) :
    Tab.get d (Tab.upd d t k f) j = Tab.get d t j := Tab.get_put_other d _ h

/-! ## Gallery memory -/

theorem Memory.write_wf {m : Memory} (a : Nat) (b : Byte) (h : m.wf = true) : (m.write a b).wf = true := Tab.wf_put _ a b h

theorem Memory.read_write_same (m : Memory) (a : Nat) (b : Byte) : (m.write a b).read a = b := Tab.get_put_same _ m a b

theorem Memory.read_write_other {m : Memory} {a c : Nat} (b : Byte) (h : c ≠ a) : (m.write a b).read c = m.read c :=
  Tab.get_put_other _ b h

theorem Memory.writeAll_wf : ∀ (bs : List Byte) {m : Memory} (a : Nat), m.wf = true → (Memory.writeAll bs m a).wf = true
  | [], _, _, h => h
  | b :: bs, _, a, h => Memory.writeAll_wf bs (a + 1) (Memory.write_wf a b h)

/-- Erasing keeps the canonical form. -/
theorem Memory.wipe_wf (gone : Nat → Bool) : ∀ {m : Memory}, m.wf = true → (m.wipe gone).wf = true := by
  intro m
  have hab : ∀ (k : Nat) (t : Memory), Tab.above k t = true → Tab.above k (Memory.wipe t gone) = true := by
    intro k t
    induction t with
    | nil => intro _; rfl
    | cons c t ih =>
      intro h
      simp only [Tab.above, Bool.and_eq_true] at h
      simp only [Memory.wipe, List.filter_cons]
      split
      · simp only [Tab.above, Bool.and_eq_true]
        exact ⟨h.1, ih h.2⟩
      · exact ih h.2
  induction m with
  | nil => intro h; exact h
  | cons c t ih =>
    intro h
    simp only [Memory.wf, Tab.wf, Bool.and_eq_true] at h
    simp only [Memory.wipe, List.filter_cons]
    split
    · simp only [Memory.wf, Tab.wf, Bool.and_eq_true]
      exact ⟨⟨hab c.1 t h.1.1, h.1.2⟩, ih h.2⟩
    · exact ih h.2

/-- An erased byte reads as one that nothing has written; every other byte is left alone. -/
theorem Memory.read_wipe (gone : Nat → Bool) (a : Nat) : ∀ m : Memory,
    (m.wipe gone).read a = if gone a = true then Memory.empty a else m.read a
  | [] => by simp [Memory.wipe, Memory.read, Tab.get]
  | (k, v) :: t => by
    have ih := Memory.read_wipe gone a t
    simp only [Memory.read, Memory.wipe] at ih ⊢
    simp only [List.filter_cons]
    by_cases hk : a = k
    · subst hk
      cases hg : gone a
      · simp [Tab.get]
      · simp only [hg, if_true] at ih
        simpa [hg] using ih
    · cases hg : gone k <;> simp [hk, Tab.get] <;> exact ih

/-- Bytes written leave every byte outside them alone. -/
theorem Memory.read_writeAll_other : ∀ (bs : List Byte) {m : Memory} {a c : Nat}, c < a ∨ a + bs.length ≤ c →
    (Memory.writeAll bs m a).read c = m.read c
  | [], _, _, _, _ => rfl
  | b :: bs, m, a, c, h => by
    have h1 : c ≠ a := by simp only [List.length_cons] at h; omega
    have h2 : c < a + 1 ∨ a + 1 + bs.length ≤ c := by simp only [List.length_cons] at h; omega
    simp only [Memory.writeAll]
    rw [Memory.read_writeAll_other bs h2, Memory.read_write_other b h1]

/-- Bytes written read back. -/
theorem Memory.readAll_writeAll : ∀ (bs : List Byte) (m : Memory) (a : Nat),
    Memory.readAll bs.length (Memory.writeAll bs m a) a = bs
  | [], _, _ => rfl
  | b :: bs, m, a => by
    simp only [Memory.writeAll, List.length_cons, Memory.readAll]
    rw [Memory.read_writeAll_other bs (by omega), Memory.read_write_same m a b, Memory.readAll_writeAll bs _ (a + 1)]

end Sys2Proof.Machine
end

