-- ==== Sys2Proof/Laws/KeepsEpoch.lean ====
section
/-!
SUPPORT. KeepsEpoch.lean: the epoch is left alone by every operation but those of the wrap, of EPOCH_SET and of a reset: one lemma per operation.
-/
set_option Elab.async false

namespace Sys2Proof.Machine

@[simp] theorem ite_epoch {c : Prop} [Decidable c] (a b : State) :
    (if c then a else b).tb.epoch = if c then a.tb.epoch else b.tb.epoch := by split <;> rfl

@[simp] theorem reply_ite_epoch {c : Prop} [Decidable c] (a b : Reply) :
    (if c then a else b).s.tb.epoch = if c then a.s.tb.epoch else b.s.tb.epoch := by split <;> rfl

/-- A loop keeps it where its body does. -/
@[simp] theorem foldl_epoch {β : Type} (f : State → β → State) (h : ∀ s b, (f s b).tb.epoch = s.tb.epoch) :
    ∀ (l : List β) (s : State), (l.foldl f s).tb.epoch = s.tb.epoch
  | [], _ => rfl
  | b :: l, s => by rw [List.foldl_cons, foldl_epoch f h l (f s b), h]

@[simp] theorem State.pushStamped_epoch (s : State) (e : Nat) (r : TraceRec) :
    (State.pushStamped s e r).tb.epoch = s.tb.epoch := by
  simp [State.pushStamped] <;> (repeat' split) <;> simp

@[simp] theorem count_epoch (n k : Nat) (s : State) : (count n k s).tb.epoch = s.tb.epoch := by
  simp [count]

@[simp] theorem raises_epoch (ns : List Nat) (s : State) : (raises ns s).tb.epoch = s.tb.epoch := by
  unfold raises
  dsimp only
  split <;> rfl

@[simp] theorem raise_epoch (n : Nat) (s : State) : (raise n s).tb.epoch = s.tb.epoch := by
  simp [raise]

@[simp] theorem raiseIf_epoch (b : Bool) (n : Nat) (s : State) : (raiseIf b n s).tb.epoch = s.tb.epoch := by
  simp [raiseIf]

@[simp] theorem updSens_epoch (k : Nat) (f : Sensor → Sensor) (s : State) : (updSens k f s).tb.epoch = s.tb.epoch := by
  simp [updSens]

@[simp] theorem settle_epoch (s : State) : (settle s).tb.epoch = s.tb.epoch := by
  simp [settle]

@[simp] theorem detects_epoch (fs : List Found) (s : State) : (detects fs s).tb.epoch = s.tb.epoch := by
  simp [detects]

@[simp] theorem detect_epoch (code unit action : Nat) (stays : Bool) (s : State) :
    (detect code unit action stays s).tb.epoch = s.tb.epoch := by
  simp [detect]

@[simp] theorem repairId_epoch (id : FaultId) (action : Nat) (s : State) :
    (repairId id action s).tb.epoch = s.tb.epoch := by
  simp [repairId] <;> (repeat' split) <;> simp

@[simp] theorem repair_epoch (code unit action : Nat) (s : State) :
    (repair code unit action s).tb.epoch = s.tb.epoch := by
  simp [repair]

@[simp] theorem updSlot_epoch (k : Nat) (f : MSlot → MSlot) (s : State) : (updSlot k f s).tb.epoch = s.tb.epoch := by
  simp [updSlot]

@[simp] theorem updSync_epoch (n : Nat) (f : Sync → Sync) (s : State) : (updSync n f s).tb.epoch = s.tb.epoch := by
  simp [updSync]

@[simp] theorem startWaiters_epoch (n : Nat) (t : Coarse) (s : State) : (startWaiters n t s).tb.epoch = s.tb.epoch := by
  simp [startWaiters]

@[simp] theorem markSats_epoch (i : Nat) (n : BitVec 48) (t : Stamp) (s : State) :
    (markSats i n t s).tb.epoch = s.tb.epoch := by
  simp [markSats]

@[simp] theorem findUnreadable_epoch (a : Nat) (s : State) : (findUnreadable a s).tb.epoch = s.tb.epoch := by
  simp [findUnreadable]

@[simp] theorem checkWord_epoch (a : Nat) (r : ReadResult) (s : State) : (checkWord a r s).tb.epoch = s.tb.epoch := by
  simp [checkWord] <;> (repeat' split) <;> simp

@[simp] theorem clearUpset_epoch (a : Nat) (s : State) : (clearUpset a s).tb.epoch = s.tb.epoch := by
  simp [clearUpset] <;> (repeat' split) <;> simp

@[simp] theorem checkRead_epoch (a : Nat) (s : State) : (checkRead a s).tb.epoch = s.tb.epoch := by
  simp [checkRead] <;> (repeat' split) <;> simp

@[simp] theorem checkReads_epoch (as : List Nat) (s : State) : (checkReads as s).tb.epoch = s.tb.epoch := by
  simp [checkReads] <;> (repeat' split) <;> simp

@[simp] theorem intoSpare_epoch : ∀ (n a : Nat) (v : W32) (s : State), (intoSpare n a v s).2.tb.epoch = s.tb.epoch
  | 0, _, _, _ => rfl
  | n + 1, a, v, s => by
    simp only [intoSpare]
    repeat' split
    all_goals simp [intoSpare_epoch n]

@[simp] theorem refuseWrite_epoch (a : Nat) (old : W32) (s : State) : (refuseWrite a old s).tb.epoch = s.tb.epoch := by
  simp [refuseWrite]

@[simp] theorem committed_epoch (a : Nat) (was : Bool) (s : State) : (committed a was s).tb.epoch = s.tb.epoch := by
  simp [committed]

@[simp] theorem writeWord_epoch (a : Nat) (v : W32) (s : State) : (writeWord a v s).2.tb.epoch = s.tb.epoch := by
  simp only [writeWord]
  repeat' split
  all_goals simp

@[simp] theorem commit_epoch (a : Nat) (v : W32) (s : State) : (commit a v s).2.tb.epoch = s.tb.epoch := by
  simp only [commit]
  split <;> simp

@[simp] theorem commits_epoch : ∀ (ws : List (Nat × W32)) (s : State), (commits ws s).2.2.tb.epoch = s.tb.epoch
  | [], _ => rfl
  | (a, v) :: ws, s => by
    have h := commit_epoch a v s
    unfold commits
    split
    · rename_i s' hc
      rw [hc] at h
      simp only [commits_epoch ws s']
      exact h
    · rename_i s' hc
      rw [hc] at h
      exact h

@[simp] theorem commitOwn_epoch (a : Nat) (v : W32) (s : State) : (commitOwn a v s).tb.epoch = s.tb.epoch := by
  simp [commitOwn]

@[simp] theorem commitChanged_epoch (a : Nat) (f : W32 → W32) (s : State) : (commitChanged a f s).2.tb.epoch = s.tb.epoch := by
  simp [commitChanged]

@[simp] theorem strike_epoch (reads : Reads) (s : State) : (strike reads s).tb.epoch = s.tb.epoch := by
  simp [strike] <;> (repeat' split) <;> simp

@[simp] theorem updPort_epoch (p : Nat) (f : Port → Port) (s : State) : (updPort p f s).tb.epoch = s.tb.epoch := by
  simp [updPort]

@[simp] theorem updPath_epoch (p : Nat) (f : PathQ → PathQ) (s : State) : (updPath p f s).tb.epoch = s.tb.epoch := by
  simp [updPath]

@[simp] theorem dropOut_epoch (n : Nat) (s : State) : (dropOut n s).tb.epoch = s.tb.epoch := by
  simp [dropOut]

@[simp] theorem enqueue_epoch (p c : Nat) (o : Out) (s : State) : (enqueue p c o s).tb.epoch = s.tb.epoch := by
  simp [enqueue]

@[simp] theorem sendHost_epoch (c : Nat) (f : Frame) (s : State) : (sendHost c f s).tb.epoch = s.tb.epoch := by
  simp [sendHost] <;> (repeat' split) <;> simp

@[simp] theorem sendEvent_epoch (c : Nat) (f : Frame) (s : State) : (sendEvent c f s).tb.epoch = s.tb.epoch := by
  simp [sendEvent]

@[simp] theorem sendReturn_epoch (f : Frame) (s : State) : (sendReturn f s).tb.epoch = s.tb.epoch := by
  simp [sendReturn] <;> (repeat' split) <;> simp

@[simp] theorem updBox_epoch (m : Nat) (f : Mailbox → Mailbox) (s : State) : (updBox m f s).tb.epoch = s.tb.epoch := by
  simp [updBox]

@[simp] theorem sendResponse_epoch (f : Frame) (dst : Peer) (s : State) :
    (sendResponse f dst s).tb.epoch = s.tb.epoch := by
  simp [sendResponse]

@[simp] theorem respond_epoch (m : Nat) (a : Answer) (s : State) : (respond m a s).tb.epoch = s.tb.epoch := by
  simp [respond]

@[simp] theorem answer_epoch (m : Nat) (a : Answer) (now : Start) (s : State) :
    (answer m a now s).tb.epoch = s.tb.epoch := by
  simp [answer]

@[simp] theorem completeNow_epoch (tk : Ticket) (a : Answer) (s : State) :
    (completeNow tk a s).tb.epoch = s.tb.epoch := by
  simp [completeNow]

@[simp] theorem complete_epoch (tk : Ticket) (a : Answer) (s : State) : (complete tk a s).tb.epoch = s.tb.epoch := by
  simp [complete]

@[simp] theorem answerBadop_epoch : ∀ (n : Nat) (s : State), (answerBadop n s).tb.epoch = s.tb.epoch
  | 0, _ => rfl
  | n + 1, s => by
    unfold answerBadop
    split
    · split
      · rw [answerBadop_epoch n, answer_epoch]
      · rfl
    · rfl

@[simp] theorem reply_epoch (s : State) (a : Answer) : (reply s a).s.tb.epoch = s.tb.epoch := by
  simp [reply]

@[simp] theorem lodge_epoch (m op : Nat) (row len : List Byte → Bool) (mode : State → List Byte → Bool)
    (own : Ticket → List Byte → State → Reply) (h : ∀ tk p s, (own tk p s).s.tb.epoch = s.tb.epoch) (s : State) :
    (lodge m op row len mode own s).tb.epoch = s.tb.epoch := by
  unfold lodge
  simp only []
  split
  · rw [answerBadop_epoch]
    split
    · simp
    · split
      · simp
      · split <;> (split <;> simp [h])
  · rfl

@[simp] theorem closeReturn_epoch (s : State) : (closeReturn s).tb.epoch = s.tb.epoch := by
  simp [closeReturn]

@[simp] theorem placeItem_epoch (x : BitVec 128) (service : Bool) (s : State) :
    (placeItem x service s).tb.epoch = s.tb.epoch := by
  simp [placeItem]

@[simp] theorem startSpan_epoch (s : State) : (startSpan s).tb.epoch = s.tb.epoch := by
  simp [startSpan]

@[simp] theorem declareLoss_epoch (s : State) : (declareLoss s).tb.epoch = s.tb.epoch := by
  simp [declareLoss] <;> (repeat' split) <;> simp

@[simp] theorem refinAbsence_epoch (s : State) : (refinAbsence s).tb.epoch = s.tb.epoch := by
  simp [refinAbsence]

@[simp] theorem learnGate_epoch (y : Int) (s : State) : (learnGate y s).tb.epoch = s.tb.epoch := by
  simp [learnGate] <;> (repeat' split) <;> simp

@[simp] theorem frequencyGate_epoch (ok : Bool) (ofs : W32) (y : Int) (s : State) :
    (frequencyGate ok ofs y s).tb.epoch = s.tb.epoch := by
  simp [frequencyGate]

@[simp] theorem phaseLoss_epoch (s : State) : (phaseLoss s).tb.epoch = s.tb.epoch := by
  simp [phaseLoss]

@[simp] theorem qualificationEnd_epoch (s : State) : (qualificationEnd s).tb.epoch = s.tb.epoch := by
  simp [qualificationEnd]

@[simp] theorem endSpan_epoch (s : State) : (endSpan s).tb.epoch = s.tb.epoch := by
  simp [endSpan]

@[simp] theorem acquireComplete_epoch (s : State) : (acquireComplete s).tb.epoch = s.tb.epoch := by
  simp [acquireComplete]

@[simp] theorem spanStart_epoch (s : State) : (spanStart s).tb.epoch = s.tb.epoch := by
  simp [spanStart]

@[simp] theorem xtalUpdate_epoch (s : State) : (xtalUpdate s).tb.epoch = s.tb.epoch := by
  simp [xtalUpdate]

@[simp] theorem holdLimit_epoch (s : State) : (holdLimit s).tb.epoch = s.tb.epoch := by
  simp [holdLimit]

@[simp] theorem learnUpdate_epoch (s : State) : (learnUpdate s).tb.epoch = s.tb.epoch := by
  simp [learnUpdate]

@[simp] theorem reload_epoch (s : State) (f : Nat) : (reload s f).tb.epoch = s.tb.epoch := by
  simp [reload]

@[simp] theorem replicaCompare_epoch (upsets : List (Nat × Coarse)) (s : State) :
    (replicaCompare upsets s).tb.epoch = s.tb.epoch := by
  simp [replicaCompare]

@[simp] theorem ppsEdge_epoch (rising : Bool) (s : State) : (ppsEdge rising s).tb.epoch = s.tb.epoch := by
  simp [ppsEdge]

@[simp] theorem ppsMissing_epoch (s : State) : (ppsMissing s).tb.epoch = s.tb.epoch := by
  simp [ppsMissing]

@[simp] theorem latchNow_epoch (s : State) : (latchNow s).tb.epoch = s.tb.epoch := by
  simp [latchNow]

@[simp] theorem setTbCfg_epoch (new : W32) (s : State) : (setTbCfg new s).tb.epoch = s.tb.epoch := by
  simp [setTbCfg]

@[simp] theorem tbCfgOwn_epoch (a1 : Ticket) (p : List Byte) (s : State) :
    (tbCfgOwn a1 p s).s.tb.epoch = s.tb.epoch := by
  simp [tbCfgOwn] <;> (repeat' split) <;> simp

@[simp] theorem updChan_epoch (i : Nat) (f : Chan → Chan) (s : State) : (updChan i f s).tb.epoch = s.tb.epoch := by
  simp [updChan]

@[simp] theorem updCore_epoch (x : Nat) (f : Core → Core) (s : State) : (updCore x f s).tb.epoch = s.tb.epoch := by
  simp [updCore]

@[simp] theorem updConv_epoch (x v : Nat) (f : Conv → Conv) (s : State) : (updConv x v f s).tb.epoch = s.tb.epoch := by
  simp [updConv]

@[simp] theorem armNext_epoch (x v : Nat) (s : State) : (armNext x v s).tb.epoch = s.tb.epoch := by
  simp [armNext] <;> (repeat' split) <;> simp

@[simp] theorem armFirst_epoch (x : Nat) (s : State) : (armFirst x s).tb.epoch = s.tb.epoch := by
  simp [armFirst] <;> (repeat' split) <;> simp

@[simp] theorem takeHit_epoch (i x t : Nat) (f : Nat → Chan → Chan) (s : State) : (takeHit i x t f s).tb.epoch = s.tb.epoch := by
  simp [takeHit] <;> (repeat' split) <;> simp

@[simp] theorem feedNew_epoch (i t : Nat) (rising : Bool) (cn : Coarse) (code : Nat) (s : State) :
    (feedNew i t rising cn code s).tb.epoch = s.tb.epoch := by
  simp [feedNew] <;> (repeat' split) <;> simp

@[simp] theorem stampEdge_epoch (i t : Nat) (rising : Bool) (cn : Coarse) (code : Nat) (s : State) :
    (stampEdge i t rising cn code s).tb.epoch = s.tb.epoch := by
  simp [stampEdge]

@[simp] theorem checkRate_epoch (i t : Nat) (s : State) : (checkRate i t s).tb.epoch = s.tb.epoch := by
  simp [checkRate]

@[simp] theorem chanEdge_epoch (i t : Nat) (rising : Bool) (cn : Coarse) (code : Nat) (s : State) :
    (chanEdge i t rising cn code s).tb.epoch = s.tb.epoch := by
  simp [chanEdge] <;> (repeat' split) <;> simp

@[simp] theorem edgeArrival_epoch (n t : Nat) (rising : Bool) (cn : Coarse) (code : Nat) (s : State) :
    (edgeArrival n t rising cn code s).tb.epoch = s.tb.epoch := by
  simp [edgeArrival] <;> (repeat' split) <;> simp

@[simp] theorem retire_epoch (x : Nat) (s : State) : (retire x s).tb.epoch = s.tb.epoch := by
  simp [retire]

@[simp] theorem planSwitch_epoch (i x : Nat) (tsw : Coarse) (fault : Option Nat) (s : State) :
    (planSwitch i x tsw fault s).tb.epoch = s.tb.epoch := by
  simp [planSwitch]

@[simp] theorem planRepair_epoch (i : Nat) (code : Nat) (s : State) : (planRepair i code s).tb.epoch = s.tb.epoch := by
  simp [planRepair] <;> (repeat' split) <;> simp

@[simp] theorem coreFault_epoch (code x : Nat) (s : State) : (coreFault code x s).tb.epoch = s.tb.epoch := by
  unfold coreFault
  simp only []
  split
  · rfl
  · split
    · simp
    · rw [foldl_epoch]
      · simp
      · intro s b
        split <;> simp

@[simp] theorem endFreed_epoch (s : State) : (endFreed s).tb.epoch = s.tb.epoch := by
  simp [endFreed] <;> (repeat' split) <;> simp

@[simp] theorem replanCores_epoch (s : State) : (replanCores s).tb.epoch = s.tb.epoch := by
  unfold replanCores
  rw [foldl_epoch]
  intro s b
  split
  · split
    · rfl
    · split <;> simp
  · rfl

@[simp] theorem convFault_epoch (x v : Nat) (s : State) : (convFault x v s).tb.epoch = s.tb.epoch := by
  simp [convFault]

@[simp] theorem coreSwitch_epoch (i : Nat) (s : State) : (coreSwitch i s).tb.epoch = s.tb.epoch := by
  simp [coreSwitch] <;> (repeat' split) <;> simp

@[simp] theorem release_epoch (x v : Nat) (s : State) : (release x v s).tb.epoch = s.tb.epoch := by
  simp [release]

@[simp] theorem releaseHit_epoch (i x v : Nat) (s : State) : (releaseHit i x v s).tb.epoch = s.tb.epoch := by
  simp [releaseHit] <;> (repeat' split) <;> simp

@[simp] theorem conversionDone_epoch (x v : Nat) (s : State) : (conversionDone x v s).tb.epoch = s.tb.epoch := by
  simp [conversionDone] <;> (repeat' split) <;> simp

@[simp] theorem armedHandover_epoch (x : Nat) (s : State) : (armedHandover x s).tb.epoch = s.tb.epoch := by
  simp [armedHandover] <;> (repeat' split) <;> simp

@[simp] theorem calibrationEdge_epoch (x code : Nat) (s : State) :
    (calibrationEdge x code s).tb.epoch = s.tb.epoch := by
  simp [calibrationEdge] <;> (repeat' split) <;> simp

@[simp] theorem acceptLatch_epoch (i : Nat) (s : State) : (acceptLatch i s).tb.epoch = s.tb.epoch := by
  simp [acceptLatch] <;> (repeat' split) <;> simp

@[simp] theorem checkFull_epoch (n : Nat) (s : State) : (checkFull n s).tb.epoch = s.tb.epoch := by
  simp [checkFull]

@[simp] theorem pushStamp_epoch (i : Nat) (r : Flying) (s : State) : (pushStamp i r s).tb.epoch = s.tb.epoch := by
  simp [pushStamp]

@[simp] theorem stampPush_epoch (i : Nat) (s : State) : (stampPush i s).tb.epoch = s.tb.epoch := by
  simp [stampPush] <;> (repeat' split) <;> simp

@[simp] theorem closeWordRetry_epoch (i : Nat) (s : State) : (closeWordRetry i s).tb.epoch = s.tb.epoch := by
  simp [closeWordRetry] <;> (repeat' split) <;> simp

@[simp] theorem presentClose_epoch (gen tag i : Nat) (s : State) :
    (presentClose gen tag i s).tb.epoch = s.tb.epoch := by
  simp [presentClose] <;> (repeat' split) <;> simp

@[simp] theorem popHead_epoch (i : Nat) (s : State) : (popHead i s).tb.epoch = s.tb.epoch := by
  simp [popHead]

@[simp] theorem latchCounts_epoch (i : Nat) (s : State) : (latchCounts i s).tb.epoch = s.tb.epoch := by
  simp [latchCounts]

@[simp] theorem calibrationPeriodEnd_epoch (trims : List (Nat × Byte)) (s : State) :
    (calibrationPeriodEnd trims s).tb.epoch = s.tb.epoch := by
  simp [calibrationPeriodEnd]

@[simp] theorem tableSwitch_epoch (f : Nat) (s : State) : (tableSwitch f s).tb.epoch = s.tb.epoch := by
  simp [tableSwitch]

@[simp] theorem startFill_epoch (tk : Option Ticket) (s : State) : (startFill tk s).tb.epoch = s.tb.epoch := by
  simp [startFill]

@[simp] theorem calFillEnd_epoch (r : FillResult) (s : State) : (calFillEnd r s).tb.epoch = s.tb.epoch := by
  simp [calFillEnd] <;> (repeat' split) <;> simp

@[simp] theorem cancelFill_epoch (s : State) : (cancelFill s).tb.epoch = s.tb.epoch := by
  simp [cancelFill] <;> (repeat' split) <;> simp

@[simp] theorem calRunOwn_epoch (tk : Ticket) (a1 : List Byte) (s : State) :
    (calRunOwn tk a1 s).s.tb.epoch = s.tb.epoch := by
  simp [calRunOwn]

@[simp] theorem skewSetOwn_epoch (a1 : Ticket) (p : List Byte) (s : State) :
    (skewSetOwn a1 p s).s.tb.epoch = s.tb.epoch := by
  unfold skewSetOwn
  simp only []
  split
  · simp
  · split <;> simp

@[simp] theorem caSelWrite_epoch (v : W32) (s : State) : (caSelWrite v s).tb.epoch = s.tb.epoch := by
  simp [caSelWrite]

@[simp] theorem updLine_epoch (x : Nat) (f : Line → Line) (s : State) : (updLine x f s).tb.epoch = s.tb.epoch := by
  simp [updLine]

@[simp] theorem updDriver_epoch (d : Nat) (f : Driver → Driver) (s : State) :
    (updDriver d f s).tb.epoch = s.tb.epoch := by
  simp [updDriver]

@[simp] theorem driveFire_epoch (d : Nat) (o : FireOut) (s : State) : (driveFire d o s).tb.epoch = s.tb.epoch := by
  simp [driveFire]

@[simp] theorem selectOff_epoch (s : State) : (selectOff s).tb.epoch = s.tb.epoch := by
  simp [selectOff]

@[simp] theorem charge_epoch (x amp width : Nat) (s : State) : (charge x amp width s).tb.epoch = s.tb.epoch := by
  simp [charge]

@[simp] theorem queueCmd_epoch (d op arg : Nat) (s : State) : (queueCmd d op arg s).tb.epoch = s.tb.epoch := by
  simp [queueCmd]

@[simp] theorem broadcast_epoch (arg : Nat) (s : State) : (broadcast arg s).tb.epoch = s.tb.epoch := by
  simp [broadcast]

@[simp] theorem readDiag_epoch (x : Nat) (s : State) : (readDiag x s).tb.epoch = s.tb.epoch := by
  simp [readDiag]

@[simp] theorem exchangeFails_epoch (crc : Bool) (s : State) : (exchangeFails crc s).tb.epoch = s.tb.epoch := by
  simp [exchangeFails] <;> (repeat' split) <;> simp

@[simp] theorem sendTo_epoch (d : Nat) (c : EmCmd) (queued : Bool) (again : Option Nat) (s : State) :
    (sendTo d c queued again s).tb.epoch = s.tb.epoch := by
  simp [sendTo]

@[simp] theorem linkCycle_epoch (s : State) : (linkCycle s).tb.epoch = s.tb.epoch := by
  simp [linkCycle] <;> (repeat' split) <;> simp

@[simp] theorem takeSpare_epoch (x l y : Nat) (s : State) : (takeSpare x l y s).tb.epoch = s.tb.epoch := by
  simp [takeSpare]

@[simp] theorem lineFault_epoch (x kind : Nat) (s : State) : (lineFault x kind s).tb.epoch = s.tb.epoch := by
  simp [lineFault] <;> (repeat' split) <;> simp

@[simp] theorem setSynthetic_epoch (d : Nat) (s : State) : (setSynthetic d s).tb.epoch = s.tb.epoch := by
  simp [setSynthetic]

@[simp] theorem fbFault_epoch (d : Nat) (s : State) : (fbFault d s).tb.epoch = s.tb.epoch := by
  simp [fbFault] <;> (repeat' split) <;> simp

@[simp] theorem fbPathCheck_epoch (d : Nat) (s : State) : (fbPathCheck d s).tb.epoch = s.tb.epoch := by
  simp [fbPathCheck]

@[simp] theorem switchCore_epoch (i : Nat) (s : State) : (switchCore i s).tb.epoch = s.tb.epoch := by
  simp [switchCore] <;> (repeat' split) <;> simp

@[simp] theorem voidRun_epoch (x : Nat) (s : State) : (voidRun x s).tb.epoch = s.tb.epoch := by
  simp [voidRun]

@[simp] theorem driverState_epoch (d : Nat) (poll flt : Bool) (st : Nat) (s : State) :
    (driverState d poll flt st s).tb.epoch = s.tb.epoch := by
  simp [driverState]

@[simp] theorem lineReady_epoch (d : Nat) (s : State) : (lineReady d s).tb.epoch = s.tb.epoch := by
  unfold lineReady
  rw [foldl_epoch]
  intro s b
  split <;> simp

@[simp] theorem judgeLine_epoch (d x : Nat) (s : State) : (judgeLine d x s).tb.epoch = s.tb.epoch := by
  simp [judgeLine]

@[simp] theorem endBlind_epoch (d : Nat) (s : State) : (endBlind d s).tb.epoch = s.tb.epoch := by
  simp [endBlind] <;> (repeat' split) <;> simp

@[simp] theorem diagLine_epoch (d x kind : Nat) (asked advanced : Bool) (s : State) :
    (diagLine d x kind asked advanced s).tb.epoch = s.tb.epoch := by
  simp [diagLine] <;> (repeat' split) <;> simp

@[simp] theorem diagBlind_epoch (d x kind : Nat) (advanced : Bool) (b : Bool × List (Nat × Nat)) (s : State) :
    (diagBlind d x kind advanced b s).tb.epoch = s.tb.epoch := by
  simp [diagBlind] <;> (repeat' split) <;> simp

@[simp] theorem diagAnswer_epoch (d n data : Nat) (s : State) : (diagAnswer d n data s).tb.epoch = s.tb.epoch := by
  simp [diagAnswer] <;> (repeat' split) <;> simp

@[simp] theorem answered_epoch (e : Exchange) (flt : Bool) (data : Nat) (s : State) :
    (answered e flt data s).tb.epoch = s.tb.epoch := by
  simp [answered] <;> (repeat' split) <;> simp

@[simp] theorem statusWord_epoch (inTime : Bool) (w : BitVec 40) (s : State) :
    (statusWord inTime w s).tb.epoch = s.tb.epoch := by
  simp [statusWord] <;> (repeat' split) <;> simp

@[simp] theorem eyeBudgetInterval_epoch (s : State) : (eyeBudgetInterval s).tb.epoch = s.tb.epoch := by
  simp [eyeBudgetInterval]

@[simp] theorem diagDue_epoch (x : Nat) (s : State) : (diagDue x s).tb.epoch = s.tb.epoch := by
  simp [diagDue]

@[simp] theorem latchDrivers_epoch (s : State) : (latchDrivers s).tb.epoch = s.tb.epoch := by
  simp [latchDrivers]

@[simp] theorem surveyStart_epoch (s : State) : (surveyStart s).tb.epoch = s.tb.epoch := by
  simp [surveyStart]

@[simp] theorem startDrivers_epoch (s : State) : (startDrivers s).tb.epoch = s.tb.epoch := by
  simp [startDrivers]

@[simp] theorem testDriver_epoch (d : Nat) (s : State) : (testDriver d s).tb.epoch = s.tb.epoch := by
  simp [testDriver]

@[simp] theorem testPass_epoch (s : State) : (testPass s).tb.epoch = s.tb.epoch := by
  simp [testPass]

@[simp] theorem testPassReport_epoch (d : Nat) (s : State) : (testPassReport d s).tb.epoch = s.tb.epoch := by
  simp [testPassReport]

@[simp] theorem endTests_epoch (s : State) : (endTests s).tb.epoch = s.tb.epoch := by
  simp [endTests]

@[simp] theorem emitDisable_epoch (s : State) : (emitDisable s).tb.epoch = s.tb.epoch := by
  simp [emitDisable]

@[simp] theorem emitEnable_epoch (s : State) : (emitEnable s).tb.epoch = s.tb.epoch := by
  simp [emitEnable]

@[simp] theorem emitLimitOwn_epoch (a1 : Ticket) (p : List Byte) (s : State) :
    (emitLimitOwn a1 p s).s.tb.epoch = s.tb.epoch := by
  simp [emitLimitOwn]

@[simp] theorem settleLines_epoch (s : State) : (settleLines s).tb.epoch = s.tb.epoch := by
  simp [settleLines]

@[simp] theorem lineMapOwn_epoch (a1 : Ticket) (p : List Byte) (s : State) :
    (lineMapOwn a1 p s).s.tb.epoch = s.tb.epoch := by
  unfold lineMapOwn
  simp only []
  repeat' split
  all_goals simp

@[simp] theorem clearfailOwn_epoch (a1 : Ticket) (p : List Byte) (s : State) :
    (clearfailOwn a1 p s).s.tb.epoch = s.tb.epoch := by
  simp [clearfailOwn]

@[simp] theorem switchBank_epoch (s : State) : (switchBank s).tb.epoch = s.tb.epoch := by
  simp [switchBank]

@[simp] theorem announceFrame_epoch (n bank : Nat) (t : Nominal) (s : State) :
    (announceFrame n bank t s).tb.epoch = s.tb.epoch := by
  simp [announceFrame]

@[simp] theorem startSchedule_epoch (t : Coarse) (s : State) : (startSchedule t s).tb.epoch = s.tb.epoch := by
  simp [startSchedule]

@[simp] theorem dropFrames_epoch (s : State) : (dropFrames s).tb.epoch = s.tb.epoch := by
  simp [dropFrames]

@[simp] theorem stopSchedule_epoch (s : State) : (stopSchedule s).tb.epoch = s.tb.epoch := by
  simp [stopSchedule]

@[simp] theorem beginSchedule_epoch (t : Coarse) (s : State) : (beginSchedule t s).tb.epoch = s.tb.epoch := by
  simp [beginSchedule] <;> (repeat' split) <;> simp

@[simp] theorem dropTrigStart_epoch (st : Status) (s : State) : (dropTrigStart st s).tb.epoch = s.tb.epoch := by
  simp [dropTrigStart] <;> (repeat' split) <;> simp

@[simp] theorem stopAtFrameEnd_epoch (s : State) : (stopAtFrameEnd s).tb.epoch = s.tb.epoch := by
  simp [stopAtFrameEnd] <;> (repeat' split) <;> simp

@[simp] theorem setStandby_epoch (f : Tab W64 → Tab W64) (s : State) : (setStandby f s).tb.epoch = s.tb.epoch := by
  simp [setStandby]

@[simp] theorem withdrawNext_epoch (s : State) : (withdrawNext s).tb.epoch = s.tb.epoch := by
  simp [withdrawNext] <;> (repeat' split) <;> simp

@[simp] theorem schedLoadOwn_epoch (tk : Ticket) (p : List Byte) (s : State) :
    (schedLoadOwn tk p s).s.tb.epoch = s.tb.epoch := by
  simp [schedLoadOwn]

@[simp] theorem admissionComplete_epoch (s : State) : (admissionComplete s).tb.epoch = s.tb.epoch := by
  simp [admissionComplete] <;> (repeat' split) <;> simp

@[simp] theorem schedStartOwn_epoch (tk : Ticket) (p : List Byte) (s : State) :
    (schedStartOwn tk p s).s.tb.epoch = s.tb.epoch := by
  simp [schedStartOwn]

@[simp] theorem schedStopOwn_epoch (a1 : Ticket) (p : List Byte) (s : State) :
    (schedStopOwn a1 p s).s.tb.epoch = s.tb.epoch := by
  simp [schedStopOwn]

@[simp] theorem autostart_epoch (s : State) : (autostart s).tb.epoch = s.tb.epoch := by
  simp [autostart]

@[simp] theorem updDwell_epoch (did : Nat) (f : Dwell → Dwell) (s : State) :
    (updDwell did f s).tb.epoch = s.tb.epoch := by
  simp [updDwell]

@[simp] theorem formDwell_epoch (s : State) : (formDwell s).tb.epoch = s.tb.epoch := by
  simp [formDwell] <;> (repeat' split) <;> simp

@[simp] theorem notePeak_epoch (s : State) : (notePeak s).tb.epoch = s.tb.epoch := by
  simp [notePeak]

@[simp] theorem updEntry_epoch (tag : Nat) (f : Entry → Entry) (s : State) :
    (updEntry tag f s).tb.epoch = s.tb.epoch := by
  simp [updEntry]

@[simp] theorem advance_epoch (last frameLast : Bool) (b : StepWord) (r : Sched) (s : State) :
    (advance last frameLast b r s).tb.epoch = s.tb.epoch := by
  simp [advance]

@[simp] theorem entryAllocate_epoch (s : State) : (entryAllocate s).tb.epoch = s.tb.epoch := by
  simp [entryAllocate] <;> (repeat' split) <;> simp

@[simp] theorem selectNext_epoch (s : State) : (selectNext s).tb.epoch = s.tb.epoch := by
  simp [selectNext] <;> (repeat' split) <;> simp

@[simp] theorem traceShot_epoch (e : Entry) (s : State) : (traceShot e s).tb.epoch = s.tb.epoch := by
  simp [traceShot]

@[simp] theorem shotFired_epoch (tag : Nat) (st : Stamp) (s : State) : (shotFired tag st s).tb.epoch = s.tb.epoch := by
  simp [shotFired] <;> (repeat' split) <;> simp

@[simp] theorem fireShot_epoch (p : Position) (d : Dwell) (w : Nat) (s : State) :
    (fireShot p d w s).tb.epoch = s.tb.epoch := by
  simp [fireShot]

@[simp] theorem withhold_epoch (p : Position) (s : State) : (withhold p s).tb.epoch = s.tb.epoch := by
  simp [withhold]

@[simp] theorem judgePosition_epoch (p : Position) (d : Dwell) (s : State) :
    (judgePosition p d s).tb.epoch = s.tb.epoch := by
  simp [judgePosition]

@[simp] theorem beginFrame_epoch (p : Position) (s : State) : (beginFrame p s).tb.epoch = s.tb.epoch := by
  simp [beginFrame]

@[simp] theorem shotPosition_epoch (s : State) : (shotPosition s).tb.epoch = s.tb.epoch := by
  simp [shotPosition] <;> (repeat' split) <;> simp

@[simp] theorem shotVoid_epoch (tag : Nat) (e : Entry) (s : State) : (shotVoid tag e s).tb.epoch = s.tb.epoch := by
  simp [shotVoid]

@[simp] theorem voidDecision_epoch (tag : Nat) (s : State) : (voidDecision tag s).tb.epoch = s.tb.epoch := by
  simp [voidDecision] <;> (repeat' split) <;> simp

@[simp] theorem noteFire_epoch (e : Entry) (st : Stamp) (s : State) : (noteFire e st s).tb.epoch = s.tb.epoch := by
  simp [noteFire]

@[simp] theorem useReal_epoch (d : Nat) (s : State) : (useReal d s).tb.epoch = s.tb.epoch := by
  simp [useReal] <;> (repeat' split) <;> simp

@[simp] theorem clearSynthetic_epoch (d : Nat) (s : State) : (clearSynthetic d s).tb.epoch = s.tb.epoch := by
  simp [clearSynthetic]

@[simp] theorem strayFb_epoch (lone : Bool) (s : State) : (strayFb lone s).tb.epoch = s.tb.epoch := by
  simp [strayFb]

@[simp] theorem fbStamp_epoch (d : Nat) (st : Stamp) (s : State) : (fbStamp d st s).tb.epoch = s.tb.epoch := by
  simp [fbStamp] <;> (repeat' split) <;> simp

@[simp] theorem fbTest_epoch (d : Nat) (st : Stamp) (s : State) : (fbTest d st s).tb.epoch = s.tb.epoch := by
  simp [fbTest] <;> (repeat' split) <;> simp

@[simp] theorem closeWordPresent_epoch (tag : Nat) (s : State) : (closeWordPresent tag s).tb.epoch = s.tb.epoch := by
  simp [closeWordPresent] <;> (repeat' split) <;> simp

@[simp] theorem closeShots_epoch (i gen tag : Nat) (drop : Bool) (s : State) :
    (closeShots i gen tag drop s).tb.epoch = s.tb.epoch := by
  simp [closeShots]

@[simp] theorem latchShotnum_epoch (s : State) : (latchShotnum s).tb.epoch = s.tb.epoch := by
  simp [latchShotnum]

@[simp] theorem lselWrite_epoch (v : W32) (s : State) : (lselWrite v s).tb.epoch = s.tb.epoch := by
  simp [lselWrite]

@[simp] theorem tapMeas_epoch (i : Nat) (st : Stamp) (rising : Bool) (e : QEntry) (s : State) :
    (tapMeas i st rising e s).tb.epoch = s.tb.epoch := by
  simp [tapMeas]

@[simp] theorem slotRunStart_epoch (k : Nat) (s : State) : (slotRunStart k s).tb.epoch = s.tb.epoch := by
  simp [slotRunStart]

@[simp] theorem gateBoundary_epoch (k : Nat) (s : State) : (gateBoundary k s).tb.epoch = s.tb.epoch := by
  simp [gateBoundary]

@[simp] theorem gateResult_epoch (k : Nat) (s : State) : (gateResult k s).tb.epoch = s.tb.epoch := by
  simp [gateResult]

@[simp] theorem intervalJudge_epoch (k : Nat) (s : State) : (intervalJudge k s).tb.epoch = s.tb.epoch := by
  simp [intervalJudge] <;> (repeat' split) <;> simp

@[simp] theorem latchSlot_epoch (k : Nat) (s : State) : (latchSlot k s).tb.epoch = s.tb.epoch := by
  simp [latchSlot]

@[simp] theorem slotsStop_epoch (s : State) : (slotsStop s).tb.epoch = s.tb.epoch := by
  simp [slotsStop]

@[simp] theorem slotsEnter_epoch (s : State) : (slotsEnter s).tb.epoch = s.tb.epoch := by
  simp [slotsEnter]

@[simp] theorem syncPulse_epoch (n : Nat) (s : State) : (syncPulse n s).tb.epoch = s.tb.epoch := by
  simp [syncPulse]

@[simp] theorem cameraLoopUpdate_epoch (n : Nat) (s : State) : (cameraLoopUpdate n s).tb.epoch = s.tb.epoch := by
  simp [cameraLoopUpdate] <;> (repeat' split) <;> simp

@[simp] theorem measCfgSlot_epoch (p : List Byte) (s : State) : (measCfgSlot p s).s.tb.epoch = s.tb.epoch := by
  simp [measCfgSlot] <;> (repeat' split) <;> simp

@[simp] theorem measCfgSyncOut_epoch (p : List Byte) (s : State) : (measCfgSyncOut p s).s.tb.epoch = s.tb.epoch := by
  simp [measCfgSyncOut] <;> (repeat' split) <;> simp

@[simp] theorem measCfgOwn_epoch (a1 : Ticket) (p : List Byte) (s : State) :
    (measCfgOwn a1 p s).s.tb.epoch = s.tb.epoch := by
  simp [measCfgOwn] <;> (repeat' split) <;> simp

@[simp] theorem measReadOwn_epoch (a1 : Ticket) (p : List Byte) (s : State) :
    (measReadOwn a1 p s).s.tb.epoch = s.tb.epoch := by
  simp [measReadOwn]

@[simp] theorem formTrigger_epoch (cfg : W32) (cause : Nat) (t : Coarse) (s : State) :
    (formTrigger cfg cause t s).tb.epoch = s.tb.epoch := by
  simp [formTrigger]

@[simp] theorem trginTrigger_epoch (high : Bool) (t : Coarse) (s : State) :
    (trginTrigger high t s).tb.epoch = s.tb.epoch := by
  simp [trginTrigger]

@[simp] theorem setTrgCfg_epoch (v : W32) (s : State) : (setTrgCfg v s).tb.epoch = s.tb.epoch := by
  simp [setTrgCfg]

@[simp] theorem trigCfgOwn_epoch (a1 : Ticket) (p : List Byte) (s : State) :
    (trigCfgOwn a1 p s).s.tb.epoch = s.tb.epoch := by
  simp [trigCfgOwn] <;> (repeat' split) <;> simp

@[simp] theorem envsumDone_epoch (s : State) : (envsumDone s).tb.epoch = s.tb.epoch := by
  simp [envsumDone]

@[simp] theorem envLoadOwn_epoch (tk : Ticket) (p : List Byte) (s : State) :
    (envLoadOwn tk p s).s.tb.epoch = s.tb.epoch := by
  simp [envLoadOwn]

@[simp] theorem envLoadComplete_epoch (s : State) : (envLoadComplete s).tb.epoch = s.tb.epoch := by
  unfold envLoadComplete
  split
  · rfl
  · simp

@[simp] theorem mapUpdate_epoch (d : Dwell) (c : Nat) (bins : Tab Nat) (span : Option Nat) (nout : Nat) (s : State) :
    (mapUpdate d c bins span nout s).tb.epoch = s.tb.epoch := by
  simp [mapUpdate]

@[simp] theorem clearMap_epoch (s : State) : (clearMap s).tb.epoch = s.tb.epoch := by
  simp [clearMap]

@[simp] theorem violation_epoch (d : Dwell) (recs : List (BitVec 128)) (maps v : List Nat) (s : State) :
    (violation d recs maps v s).tb.epoch = s.tb.epoch := by
  simp [violation]

@[simp] theorem judgeDwell_epoch (d : Dwell) (s : State) : (judgeDwell d s).tb.epoch = s.tb.epoch := by
  simp [judgeDwell]

@[simp] theorem surveyNext_epoch (s : State) : (surveyNext s).tb.epoch = s.tb.epoch := by
  simp [surveyNext]

@[simp] theorem dwellDecision_epoch (s : State) : (dwellDecision s).tb.epoch = s.tb.epoch := by
  simp [dwellDecision] <;> (repeat' split) <;> simp

@[simp] theorem updPart_epoch (p : Nat) (f : Part → Part) (s : State) : (updPart p f s).tb.epoch = s.tb.epoch := by
  simp [updPart]

@[simp] theorem dropMarks_epoch (lost : Nat × Nat → Bool) (s : State) : (dropMarks lost s).tb.epoch = s.tb.epoch := by
  simp [dropMarks]

@[simp] theorem streamAt_epoch (p k : Nat) (s : State) : (streamAt p k s).tb.epoch = s.tb.epoch := by
  simp [streamAt] <;> (repeat' split) <;> simp

@[simp] theorem putRecord_epoch (w : W64) (s : State) : (putRecord w s).tb.epoch = s.tb.epoch := by
  simp [putRecord]

@[simp] theorem noteWritten_epoch (r : GRec) (k : Nat) (s : State) : (noteWritten r k s).tb.epoch = s.tb.epoch := by
  simp [noteWritten] <;> (repeat' split) <;> simp

@[simp] theorem writeOne_epoch (s : State) : (writeOne s).tb.epoch = s.tb.epoch := by
  simp [writeOne] <;> (repeat' split) <;> simp

@[simp] theorem padBlock_epoch : ∀ (n : Nat) (s : State), (padBlock n s).tb.epoch = s.tb.epoch
  | 0, _ => rfl
  | n + 1, s => by
    unfold padBlock
    split
    · rfl
    · rw [padBlock_epoch n, putRecord_epoch]

@[simp] theorem takePart_epoch (p : Nat) (st : GlState) (s : State) : (takePart p st s).tb.epoch = s.tb.epoch := by
  simp [takePart]

@[simp] theorem armPart_epoch (p : Nat) (s : State) : (armPart p s).tb.epoch = s.tb.epoch := by
  simp [armPart] <;> (repeat' split) <;> simp

@[simp] theorem rearm_epoch (s : State) : (rearm s).tb.epoch = s.tb.epoch := by
  simp [rearm] <;> (repeat' split) <;> simp

@[simp] theorem stopWriting_epoch (st : GlState) (s : State) : (stopWriting st s).tb.epoch = s.tb.epoch := by
  simp [stopWriting]

@[simp] theorem captureDone_epoch (s : State) : (captureDone s).tb.epoch = s.tb.epoch := by
  simp [captureDone]

@[simp] theorem captureReady_epoch (s : State) : (captureReady s).tb.epoch = s.tb.epoch := by
  simp [captureReady]

@[simp] theorem drain_epoch : ∀ (n : Nat) (s : State), (drain n s).tb.epoch = s.tb.epoch
  | 0, _ => rfl
  | n + 1, s => by
    unfold drain
    split
    · rfl
    · rw [drain_epoch n]
      split
      · rw [captureDone_epoch]
      · rw [writeOne_epoch]

@[simp] theorem endWriting_epoch (s : State) : (endWriting s).tb.epoch = s.tb.epoch := by
  simp [endWriting]

@[simp] theorem endStream_epoch (st : Status) (s : State) : (endStream st s).tb.epoch = s.tb.epoch := by
  simp [endStream] <;> (repeat' split) <;> simp

@[simp] theorem clearPartitions_epoch (s : State) : (clearPartitions s).tb.epoch = s.tb.epoch := by
  simp [clearPartitions]

@[simp] theorem selfArm_epoch (s : State) : (selfArm s).tb.epoch = s.tb.epoch := by
  simp [selfArm] <;> (repeat' split) <;> simp

@[simp] theorem autoArm_epoch (s : State) : (autoArm s).tb.epoch = s.tb.epoch := by
  simp [autoArm]

@[simp] theorem leaveRotation_epoch (c : Nat) (s : State) : (leaveRotation c s).tb.epoch = s.tb.epoch := by
  simp [leaveRotation]

@[simp] theorem retireChan_epoch (c : Nat) (s : State) : (retireChan c s).tb.epoch = s.tb.epoch := by
  simp [retireChan]

@[simp] theorem outOfService_epoch (s : State) : (outOfService s).tb.epoch = s.tb.epoch := by
  simp [outOfService]

@[simp] theorem memFault_epoch (c : Nat) (s : State) : (memFault c s).tb.epoch = s.tb.epoch := by
  simp [memFault] <;> (repeat' split) <;> simp

@[simp] theorem memoryCheck_epoch (c : Nat) (ok : Bool) (s : State) : (memoryCheck c ok s).tb.epoch = s.tb.epoch := by
  simp [memoryCheck]

@[simp] theorem mr4Read_epoch (hot : Bool) (s : State) : (mr4Read hot s).tb.epoch = s.tb.epoch := by
  simp [mr4Read]

@[simp] theorem memoryTrainingEnd_epoch (r : Training) (s : State) : (memoryTrainingEnd r s).tb.epoch = s.tb.epoch := by
  simp [memoryTrainingEnd]

@[simp] theorem padCount_epoch (s : State) : (padCount s).tb.epoch = s.tb.epoch := by
  simp [padCount] <;> (repeat' split) <;> simp

@[simp] theorem bufferFull_epoch (s : State) : (bufferFull s).tb.epoch = s.tb.epoch := by
  simp [bufferFull]

@[simp] theorem hand_epoch (r : GRec) (s : State) : (hand r s).tb.epoch = s.tb.epoch := by
  simp [hand]

@[simp] theorem galleryEdge_epoch (i : Nat) (st : Stamp) (rising : Bool) (s : State) :
    (galleryEdge i st rising s).tb.epoch = s.tb.epoch := by
  simp [galleryEdge]

@[simp] theorem galleryDwell_epoch (d : Dwell) (recs : List (Nat × List (BitVec 128))) (s : State) :
    (galleryDwell d recs s).tb.epoch = s.tb.epoch := by
  simp [galleryDwell]

@[simp] theorem evtRecordSlot_epoch (s : State) : (evtRecordSlot s).tb.epoch = s.tb.epoch := by
  simp [evtRecordSlot] <;> (repeat' split) <;> simp

@[simp] theorem galleryWrap_epoch (s : State) : (galleryWrap s).tb.epoch = s.tb.epoch := by
  simp [galleryWrap]

@[simp] theorem epochHoldRelease_epoch (s : State) : (epochHoldRelease s).tb.epoch = s.tb.epoch := by
  simp [epochHoldRelease]

@[simp] theorem trigHand_epoch (x : Trigger) (kind : Nat) (honoured : Bool) (s : State) :
    (trigHand x kind honoured s).tb.epoch = s.tb.epoch := by
  simp [trigHand]

@[simp] theorem galleryTrigger_epoch (x : Trigger) (s : State) : (galleryTrigger x s).tb.epoch = s.tb.epoch := by
  simp [galleryTrigger] <;> (repeat' split) <;> simp

@[simp] theorem armOwn_epoch (a1 : Ticket) (p : List Byte) (s : State) : (armOwn a1 p s).s.tb.epoch = s.tb.epoch := by
  simp [armOwn] <;> (repeat' split) <;> simp

@[simp] theorem disarmOwn_epoch (a1 : Ticket) (a2 : List Byte) (s : State) :
    (disarmOwn a1 a2 s).s.tb.epoch = s.tb.epoch := by
  simp [disarmOwn]

@[simp] theorem markSetOwn_epoch (a1 : Ticket) (p : List Byte) (s : State) :
    (markSetOwn a1 p s).s.tb.epoch = s.tb.epoch := by
  simp [markSetOwn] <;> (repeat' split) <;> simp

@[simp] theorem capReadRead_epoch (p : List Byte) (s : State) : (capReadRead p s).s.tb.epoch = s.tb.epoch := by
  simp [capReadRead] <;> (repeat' split) <;> simp

@[simp] theorem capReadStream_epoch (tk : Ticket) (p : List Byte) (s : State) :
    (capReadStream tk p s).s.tb.epoch = s.tb.epoch := by
  simp [capReadStream] <;> (repeat' split) <;> simp

@[simp] theorem capReadInfo_epoch (p : List Byte) (s : State) : (capReadInfo p s).s.tb.epoch = s.tb.epoch := by
  simp [capReadInfo]

@[simp] theorem capRelease_epoch (p : List Byte) (s : State) : (capRelease p s).s.tb.epoch = s.tb.epoch := by
  simp [capRelease]

@[simp] theorem capReadOwn_epoch (tk : Ticket) (p : List Byte) (s : State) :
    (capReadOwn tk p s).s.tb.epoch = s.tb.epoch := by
  simp [capReadOwn] <;> (repeat' split) <;> simp

@[simp] theorem capRow_epoch (m : Nat) (row : List Byte → Bool) (s : State) :
    (capRow m row s).tb.epoch = s.tb.epoch := by
  simp [capRow]

@[simp] theorem streamEnd_epoch (s : State) : (streamEnd s).tb.epoch = s.tb.epoch := by
  simp [streamEnd] <;> (repeat' split) <;> simp

@[simp] theorem latchWcount_epoch (s : State) : (latchWcount s).tb.epoch = s.tb.epoch := by
  simp [latchWcount]

@[simp] theorem trigSchedule_epoch (t : Coarse) (s : State) : (trigSchedule t s).tb.epoch = s.tb.epoch := by
  simp [trigSchedule] <;> (repeat' split) <;> simp

@[simp] theorem deliver_epoch (x : Trigger) (s : State) : (deliver x s).tb.epoch = s.tb.epoch := by
  simp [deliver]

@[simp] theorem triggerDelivery_epoch (s : State) : (triggerDelivery s).tb.epoch = s.tb.epoch := by
  simp [triggerDelivery] <;> (repeat' split) <;> simp

@[simp] theorem trgoutEnd_epoch (s : State) : (trgoutEnd s).tb.epoch = s.tb.epoch := by
  simp [trgoutEnd]

@[simp] theorem heardWord_epoch (u : Nat) (s : State) : (heardWord u s).tb.epoch = s.tb.epoch := by
  simp [heardWord]

@[simp] theorem heardExpiry_epoch (u : Nat) (s : State) : (heardExpiry u s).tb.epoch = s.tb.epoch := by
  simp [heardExpiry]

@[simp] theorem clnWordDiscard_epoch (w : W64) (a1 : Bool) (s : State) :
    (clnWordDiscard w a1 s).tb.epoch = s.tb.epoch := by
  simp [clnWordDiscard]

@[simp] theorem setClnCfg_epoch (v : W32) (s : State) : (setClnCfg v s).tb.epoch = s.tb.epoch := by
  simp [setClnCfg]

@[simp] theorem beginCycle_epoch (s : State) : (beginCycle s).tb.epoch = s.tb.epoch := by
  simp [beginCycle] <;> (repeat' split) <;> simp

@[simp] theorem beacon_epoch (s : State) : (beacon s).tb.epoch = s.tb.epoch := by
  simp [beacon]

@[simp] theorem yieldMaster_epoch (s : State) : (yieldMaster s).tb.epoch = s.tb.epoch := by
  simp [yieldMaster] <;> (repeat' split) <;> simp

@[simp] theorem beaconReceive_epoch (w : W64) (s : State) : (beaconReceive w s).tb.epoch = s.tb.epoch := by
  simp [beaconReceive]

@[simp] theorem beaconLoss_epoch (s : State) : (beaconLoss s).tb.epoch = s.tb.epoch := by
  simp [beaconLoss] <;> (repeat' split) <;> simp

@[simp] theorem driveWord_epoch (w : W64) (s : State) : (driveWord w s).tb.epoch = s.tb.epoch := by
  simp [driveWord]

@[simp] theorem sendTrig_epoch (t : Coarse) (cause tseq copies : Nat) (rest : List (Coarse × Nat × Nat × Nat)) (s : State) :
    (sendTrig t cause tseq copies rest s).tb.epoch = s.tb.epoch := by
  simp [sendTrig]

@[simp] theorem sendMark_epoch (m : Nat) (start : Start) (s : State) : (sendMark m start s).tb.epoch = s.tb.epoch := by
  simp [sendMark]

@[simp] theorem unitSlot_epoch (s : State) : (unitSlot s).tb.epoch = s.tb.epoch := by
  simp [unitSlot] <;> (repeat' split) <;> simp

@[simp] theorem roundStart_epoch (s : State) : (roundStart s).tb.epoch = s.tb.epoch := by
  simp [roundStart]

@[simp] theorem roundWordReceive_epoch (w : W64) (s : State) : (roundWordReceive w s).tb.epoch = s.tb.epoch := by
  simp [roundWordReceive]

@[simp] theorem clnStamp_epoch (i : Nat) (st : Stamp) (rising : Bool) (s : State) :
    (clnStamp i st rising s).tb.epoch = s.tb.epoch := by
  simp [clnStamp] <;> (repeat' split) <;> simp

@[simp] theorem roundUpdate_epoch (s : State) : (roundUpdate s).tb.epoch = s.tb.epoch := by
  simp [roundUpdate] <;> (repeat' split) <;> simp

@[simp] theorem trigWordReceive_epoch (w : W64) (s : State) : (trigWordReceive w s).tb.epoch = s.tb.epoch := by
  simp [trigWordReceive]

@[simp] theorem markWordReceive_epoch (w : W64) (s : State) : (markWordReceive w s).tb.epoch = s.tb.epoch := by
  simp [markWordReceive]

@[simp] theorem writeClnCfg_epoch (v : W32) (s : State) : (writeClnCfg v s).tb.epoch = s.tb.epoch := by
  simp [writeClnCfg]

@[simp] theorem clnWrite_epoch (p : List Byte) (s : State) : (clnWrite p s).s.tb.epoch = s.tb.epoch := by
  simp [clnWrite] <;> (repeat' split) <;> simp

@[simp] theorem clnCfgOwn_epoch (m : Nat) (tk : Ticket) (p : List Byte) (s : State) :
    (clnCfgOwn m tk p s).s.tb.epoch = s.tb.epoch := by
  simp [clnCfgOwn] <;> (repeat' split) <;> simp

@[simp] theorem clnRow_epoch (m : Nat) (row : List Byte → Bool) (mode : State → List Byte → Bool) (s : State) :
    (clnRow m row mode s).tb.epoch = s.tb.epoch := by
  simp [clnRow]

@[simp] theorem clnMeasureTimeout_epoch (s : State) : (clnMeasureTimeout s).tb.epoch = s.tb.epoch := by
  simp [clnMeasureTimeout] <;> (repeat' split) <;> simp

@[simp] theorem updAChan_epoch (i : Nat) (f : AChan → AChan) (s : State) : (updAChan i f s).tb.epoch = s.tb.epoch := by
  simp [updAChan]

@[simp] theorem updLocker_epoch (f : Nat) (g : Locker → Locker) (s : State) :
    (updLocker f g s).tb.epoch = s.tb.epoch := by
  simp [updLocker]

@[simp] theorem loseInc_epoch (i : Nat) (s : State) : (loseInc i s).tb.epoch = s.tb.epoch := by
  simp [loseInc]

@[simp] theorem pushInc_epoch (i : Nat) (x : Inc) (s : State) : (pushInc i x s).tb.epoch = s.tb.epoch := by
  simp [pushInc]

@[simp] theorem passCloses_epoch (i : Nat) : ∀ (n : Nat) (s : State), (passCloses i n s).tb.epoch = s.tb.epoch
  | 0, _ => rfl
  | n + 1, s => by
    unfold passCloses
    split
    · rw [passCloses_epoch i n]
      simp
    · rfl

@[simp] theorem markAmb_epoch (es : List (Nat × Entry)) (s : State) : (markAmb es s).tb.epoch = s.tb.epoch := by
  simp [markAmb]

@[simp] theorem judgeStamp_outside_epoch (i : Nat) (st : Stamp) (s : State) : (judgeStamp.outside i st s).tb.epoch = s.tb.epoch := by
  unfold judgeStamp.outside
  split <;> simp

@[simp] theorem judgeStamp_epoch (i : Nat) (st : Stamp) (s : State) : (judgeStamp i st s).tb.epoch = s.tb.epoch := by
  unfold judgeStamp
  split
  · split
    · split <;> simp
    · simp
  · rw [foldl_epoch]
    · split <;> simp
    · intro s b
      simp

@[simp] theorem stampAssignment_epoch (i : Nat) (s : State) : (stampAssignment i s).tb.epoch = s.tb.epoch := by
  simp [stampAssignment] <;> (repeat' split) <;> simp

@[simp] theorem tokenLate_epoch (i : Nat) (s : State) : (tokenLate i s).tb.epoch = s.tb.epoch := by
  simp [tokenLate]

@[simp] theorem dwellSat_epoch (did : Nat) (s : State) : (dwellSat did s).tb.epoch = s.tb.epoch := by
  simp [dwellSat] <;> (repeat' split) <;> simp

@[simp] theorem incrementIssue_epoch (i : Nat) (s : State) : (incrementIssue i s).tb.epoch = s.tb.epoch := by
  simp [incrementIssue] <;> (repeat' split) <;> simp

@[simp] theorem dwellEndToken_epoch (i : Nat) (s : State) : (dwellEndToken i s).tb.epoch = s.tb.epoch := by
  simp [dwellEndToken] <;> (repeat' split) <;> simp

@[simp] theorem selectSnap_epoch (d : Dwell) (s : State) : (selectSnap d s).tb.epoch = s.tb.epoch := by
  simp [selectSnap] <;> (repeat' split) <;> simp

@[simp] theorem swap_epoch (i did : Nat) (s : State) : (swap i did s).tb.epoch = s.tb.epoch := by
  simp [swap] <;> (repeat' split) <;> simp

@[simp] theorem bufferSwap_epoch (i : Nat) (s : State) : (bufferSwap i s).tb.epoch = s.tb.epoch := by
  simp [bufferSwap] <;> (repeat' split) <;> simp

@[simp] theorem snapCheck_epoch (s : State) : (snapCheck s).tb.epoch = s.tb.epoch := by
  simp [snapCheck] <;> (repeat' split) <;> simp

@[simp] theorem snapFill_epoch (i : Nat) (l : Lane) (s : State) : (snapFill i l s).tb.epoch = s.tb.epoch := by
  simp [snapFill] <;> (repeat' split) <;> simp

@[simp] theorem readoutPassEnd_epoch (i : Nat) (s : State) : (readoutPassEnd i s).tb.epoch = s.tb.epoch := by
  simp [readoutPassEnd] <;> (repeat' split) <;> simp

@[simp] theorem traceDwell_epoch (d : Dwell) (s : State) : (traceDwell d s).tb.epoch = s.tb.epoch := by
  simp [traceDwell]

@[simp] theorem flrst_epoch (f : Nat) (s : State) : (flrst f s).tb.epoch = s.tb.epoch := by
  simp [flrst]

@[simp] theorem flrstEnd_epoch (f : Nat) (s : State) : (flrstEnd f s).tb.epoch = s.tb.epoch := by
  simp [flrstEnd]

@[simp] theorem dropOpened_epoch (s : State) : (dropOpened s).tb.epoch = s.tb.epoch := by
  simp [dropOpened]

@[simp] theorem snapDrop_epoch (st : Status) (s : State) : (snapDrop st s).tb.epoch = s.tb.epoch := by
  simp [snapDrop] <;> (repeat' split) <;> simp

@[simp] theorem lockersOff_epoch (s : State) : (lockersOff s).tb.epoch = s.tb.epoch := by
  simp [lockersOff]

@[simp] theorem clearBuffers_epoch (s : State) : (clearBuffers s).tb.epoch = s.tb.epoch := by
  simp [clearBuffers]

@[simp] theorem histCfgOwn_epoch (a1 : Ticket) (p : List Byte) (s : State) :
    (histCfgOwn a1 p s).s.tb.epoch = s.tb.epoch := by
  simp [histCfgOwn] <;> (repeat' split) <;> simp

@[simp] theorem setFtcfg_epoch (f : W32) (s : State) : (setFtcfg f s).tb.epoch = s.tb.epoch := by
  simp [setFtcfg]

@[simp] theorem rejectCfgOwn_epoch (a1 : Ticket) (p : List Byte) (s : State) :
    (rejectCfgOwn a1 p s).s.tb.epoch = s.tb.epoch := by
  simp [rejectCfgOwn] <;> (repeat' split) <;> simp

@[simp] theorem snapArm_epoch (tk : Ticket) (p : List Byte) (s : State) : (snapArm tk p s).s.tb.epoch = s.tb.epoch := by
  simp [snapArm] <;> (repeat' split) <;> simp

@[simp] theorem snapRead_epoch (p : List Byte) (s : State) : (snapRead p s).s.tb.epoch = s.tb.epoch := by
  simp [snapRead] <;> (repeat' split) <;> simp

@[simp] theorem snapInfo_epoch (p : List Byte) (s : State) : (snapInfo p s).s.tb.epoch = s.tb.epoch := by
  simp [snapInfo] <;> (repeat' split) <;> simp

@[simp] theorem histSnapOwn_epoch (tk : Ticket) (p : List Byte) (s : State) :
    (histSnapOwn tk p s).s.tb.epoch = s.tb.epoch := by
  simp [histSnapOwn] <;> (repeat' split) <;> simp

@[simp] theorem snapRow_epoch (m : Nat) (row : List Byte → Bool) (s : State) :
    (snapRow m row s).tb.epoch = s.tb.epoch := by
  simp [snapRow]

@[simp] theorem snapTimeout_epoch (s : State) : (snapTimeout s).tb.epoch = s.tb.epoch := by
  simp [snapTimeout] <;> (repeat' split) <;> simp

@[simp] theorem extractionPhase1_epoch (i : Nat) (s : State) : (extractionPhase1 i s).tb.epoch = s.tb.epoch := by
  simp [extractionPhase1]

@[simp] theorem markStream_epoch (e : W16) (s : State) : (markStream e s).tb.epoch = s.tb.epoch := by
  simp [markStream]

@[simp] theorem streamStart_epoch (s : State) : (streamStart s).tb.epoch = s.tb.epoch := by
  simp [streamStart]

@[simp] theorem streamStop_epoch (s : State) : (streamStop s).tb.epoch = s.tb.epoch := by
  simp [streamStop]

@[simp] theorem settleEpoch_epoch (s : State) : (settleEpoch s).tb.epoch = s.tb.epoch := by
  simp [settleEpoch]

@[simp] theorem laneGood_epoch (d : Dwell) (f : Nat) (s : State) : (laneGood d f s).tb.epoch = s.tb.epoch := by
  simp [laneGood]

@[simp] theorem placeDwell_epoch (d : Dwell) (s : State) : (placeDwell d s).tb.epoch = s.tb.epoch := by
  simp [placeDwell]

@[simp] theorem placeDwells_epoch : ∀ (n : Nat) (s : State), (placeDwells n s).tb.epoch = s.tb.epoch
  | 0, s => by
    unfold placeDwells
    simp
  | n + 1, s => by
    unfold placeDwells
    split
    · split
      · rw [placeDwells_epoch n]
        simp
      · simp
    · simp

@[simp] theorem extractionPhase2_epoch (i : Nat) (s : State) : (extractionPhase2 i s).tb.epoch = s.tb.epoch := by
  simp [extractionPhase2] <;> (repeat' split) <;> simp

@[simp] theorem dwellJoin_epoch (s : State) : (dwellJoin s).tb.epoch = s.tb.epoch := by
  simp [dwellJoin] <;> (repeat' split) <;> simp

@[simp] theorem laneLate_epoch (f : Nat) (s : State) : (laneLate f s).tb.epoch = s.tb.epoch := by
  simp [laneLate]

@[simp] theorem setTracker_epoch (f t : Nat) (r : Tracker × List Nat) (s : State) :
    (setTracker f t r s).tb.epoch = s.tb.epoch := by
  simp [setTracker]

@[simp] theorem trackHit_epoch (f : Nat) (t : Stamp) (k : Nat) (s : State) :
    (trackHit f t k s).tb.epoch = s.tb.epoch := by
  simp [trackHit]

@[simp] theorem clusterClose_epoch (f : Nat) (outside : Bool) (s : State) :
    (clusterClose f outside s).tb.epoch = s.tb.epoch := by
  simp [clusterClose] <;> (repeat' split) <;> simp

@[simp] theorem startTracker_epoch (f p : Nat) (t : Stamp) (s : State) :
    (startTracker f p t s).tb.epoch = s.tb.epoch := by
  simp [startTracker] <;> (repeat' split) <;> simp

@[simp] theorem acquisitionEnd_epoch (f : Nat) (s : State) : (acquisitionEnd f s).tb.epoch = s.tb.epoch := by
  simp [acquisitionEnd] <;> (repeat' split) <;> simp

@[simp] theorem trackerMiss_epoch (f k : Nat) (s : State) : (trackerMiss f k s).tb.epoch = s.tb.epoch := by
  simp [trackerMiss]

@[simp] theorem traceStamp_epoch (i era : Nat) (w : QWord) (s : State) :
    (traceStamp i era w s).tb.epoch = s.tb.epoch := by
  simp [traceStamp]

@[simp] theorem tapWord_epoch (i : Nat) (e : QEntry) (s : State) : (tapWord i e s).tb.epoch = s.tb.epoch := by
  simp [tapWord] <;> (repeat' split) <;> simp

@[simp] theorem vetoed_epoch (i : Nat) (s : State) : (vetoed i s).tb.epoch = s.tb.epoch := by
  simp [vetoed]

@[simp] theorem gateStamp_epoch (i : Nat) (st : Stamp) (s : State) : (gateStamp i st s).tb.epoch = s.tb.epoch := by
  simp [gateStamp]

@[simp] theorem toLedger_epoch (i : Nat) (w : QWord) (s : State) : (toLedger i w s).tb.epoch = s.tb.epoch := by
  simp [toLedger] <;> (repeat' split) <;> simp

@[simp] theorem toFire_epoch (i : Nat) (w : QWord) (s : State) : (toFire i w s).tb.epoch = s.tb.epoch := by
  simp [toFire] <;> (repeat' split) <;> simp

@[simp] theorem consume_epoch (i : Nat) (w : QWord) (s : State) : (consume i w s).tb.epoch = s.tb.epoch := by
  simp [consume]

@[simp] theorem queuePop_epoch (i : Nat) (s : State) : (queuePop i s).tb.epoch = s.tb.epoch := by
  simp [queuePop] <;> (repeat' split) <;> simp

@[simp] theorem traceMark_epoch (e : W16) (s : State) : (traceMark e s).tb.epoch = s.tb.epoch := by
  simp [traceMark]

@[simp] theorem dropEpoch_epoch (st : Status) (s : State) : (dropEpoch st s).tb.epoch = s.tb.epoch := by
  simp [dropEpoch] <;> (repeat' split) <;> simp

@[simp] theorem epochSetTimeout_epoch (s : State) : (epochSetTimeout s).tb.epoch = s.tb.epoch := by
  simp [epochSetTimeout]

@[simp] theorem latchMarker_epoch (dly : Int) (s : State) : (latchMarker dly s).tb.epoch = s.tb.epoch := by
  simp [latchMarker] <;> (repeat' split) <;> simp

@[simp] theorem timeMarker_epoch (s : State) : (timeMarker s).tb.epoch = s.tb.epoch := by
  simp [timeMarker] <;> (repeat' split) <;> simp

@[simp] theorem refuseHost_epoch (s : State) : (refuseHost s).tb.epoch = s.tb.epoch := by
  simp [refuseHost]

@[simp] theorem badFrame_epoch (s : State) : (badFrame s).tb.epoch = s.tb.epoch := by
  simp [badFrame]

@[simp] theorem acceptCommand_epoch (m : Nat) (b : List Byte) (src : Peer) (s : State) :
    (acceptCommand m b src s).tb.epoch = s.tb.epoch := by
  simp [acceptCommand]

@[simp] theorem repeatAnswer_epoch (m : Nat) (src : Peer) (s : State) :
    (repeatAnswer m src s).tb.epoch = s.tb.epoch := by
  simp [repeatAnswer] <;> (repeat' split) <;> simp

@[simp] theorem judgeCommand_epoch (b : List Byte) (src : Peer) (s : State) :
    (judgeCommand b src s).tb.epoch = s.tb.epoch := by
  simp [judgeCommand] <;> (repeat' split) <;> simp

@[simp] theorem polcorFrame_epoch (b : List Byte) (src : Peer) (s : State) :
    (polcorFrame b src s).tb.epoch = s.tb.epoch := by
  simp [polcorFrame]

@[simp] theorem wakePort_epoch (p : Nat) (s : State) : (wakePort p s).tb.epoch = s.tb.epoch := by
  simp [wakePort]

@[simp] theorem ipFrame_epoch (p : Nat) (f : RxFrame) (ip : RxIp) (s : State) :
    (ipFrame p f ip s).tb.epoch = s.tb.epoch := by
  simp [ipFrame] <;> (repeat' split) <;> simp

@[simp] theorem frameReceive_epoch (p : Nat) (f : RxFrame) (s : State) :
    (frameReceive p f s).tb.epoch = s.tb.epoch := by
  simp [frameReceive] <;> (repeat' split) <;> simp

@[simp] theorem arpOut_epoch (p : Nat) (mac : Option (BitVec 48)) (target : W32) (s : State) :
    (arpOut p mac target s).tb.epoch = s.tb.epoch := by
  simp [arpOut]

@[simp] theorem arpReceive_epoch (p : Nat) (a : ArpMsg) (s : State) : (arpReceive p a s).tb.epoch = s.tb.epoch := by
  simp [arpReceive]

@[simp] theorem icmpEcho_epoch (p : Nat) (e : EchoMsg) (s : State) : (icmpEcho p e s).tb.epoch = s.tb.epoch := by
  simp [icmpEcho]

@[simp] theorem askArp_epoch (p : Nat) (s : State) : (askArp p s).tb.epoch = s.tb.epoch := by
  simp [askArp]

@[simp] theorem arpUnresolved_epoch (p : Nat) (s : State) : (arpUnresolved p s).tb.epoch = s.tb.epoch := by
  simp [arpUnresolved]

@[simp] theorem announce_epoch (p : Nat) (s : State) : (announce p s).tb.epoch = s.tb.epoch := by
  simp [announce]

@[simp] theorem becomeActive_epoch (q : Nat) (again : List Frame) (s : State) :
    (becomeActive q again s).tb.epoch = s.tb.epoch := by
  simp [becomeActive] <;> (repeat' split) <;> simp

@[simp] theorem applyLinkCfg_epoch (new : LinkRegs) (s : State) : (applyLinkCfg new s).tb.epoch = s.tb.epoch := by
  simp [applyLinkCfg] <;> (repeat' split) <;> simp

@[simp] theorem linkCfgGone_epoch (m : Nat) (seq : W16) (s : State) : (linkCfgGone m seq s).tb.epoch = s.tb.epoch := by
  simp [linkCfgGone] <;> (repeat' split) <;> simp

@[simp] theorem responseGone_epoch (m : Nat) (s : State) : (responseGone m s).tb.epoch = s.tb.epoch := by
  simp [responseGone] <;> (repeat' split) <;> simp

@[simp] theorem frameGone_epoch (f : Frame) (s : State) : (frameGone f s).tb.epoch = s.tb.epoch := by
  simp [frameGone]

@[simp] theorem stampEvent_epoch (p : Nat) (f : Frame) (s : State) : (stampEvent p f s).2.tb.epoch = s.tb.epoch := by
  unfold stampEvent
  repeat' split
  all_goals simp

@[simp] theorem countFrame_epoch (p : Nat) (o : Out) (s : State) : (countFrame p o s).tb.epoch = s.tb.epoch := by
  simp [countFrame] <;> (repeat' split) <;> simp

@[simp] theorem keepFrame_epoch (f : Frame) (s : State) : (keepFrame f s).tb.epoch = s.tb.epoch := by
  simp [keepFrame]

@[simp] theorem leave_epoch (p : Nat) (o : Out) (s : State) : (leave p o s).tb.epoch = s.tb.epoch := by
  unfold leave
  split <;> simp

@[simp] theorem captureFrame_epoch (x : Stream) (s : State) : (captureFrame x s).2.tb.epoch = s.tb.epoch := by
  simp [captureFrame]

@[simp] theorem sendCapture_epoch (p : Nat) (s : State) : (sendCapture p s).tb.epoch = s.tb.epoch := by
  unfold sendCapture
  split
  · split <;> simp
  · rfl

@[simp] theorem sendLow_epoch (p : Nat) (s : State) : (sendLow p s).tb.epoch = s.tb.epoch := by
  simp [sendLow] <;> (repeat' split) <;> simp

@[simp] theorem transmit_epoch (p : Nat) (s : State) : (transmit p s).tb.epoch = s.tb.epoch := by
  simp [transmit] <;> (repeat' split) <;> simp

@[simp] theorem frameTransmit_epoch (p : Nat) (s : State) : (frameTransmit p s).tb.epoch = s.tb.epoch := by
  simp [frameTransmit]

@[simp] theorem notification_epoch (s : State) : (notification s).tb.epoch = s.tb.epoch := by
  simp [notification]

@[simp] theorem phyUp_epoch (p : Nat) (s : State) : (phyUp p s).tb.epoch = s.tb.epoch := by
  simp [phyUp]

@[simp] theorem portUp_epoch (p : Nat) (s : State) : (portUp p s).tb.epoch = s.tb.epoch := by
  simp [portUp]

@[simp] theorem dropOwn_epoch (p : Nat) (s : State) : (dropOwn p s).tb.epoch = s.tb.epoch := by
  unfold dropOwn
  simp only []
  rw [foldl_epoch]
  · simp
  · intro s b
    split <;> simp

@[simp] theorem noPort_epoch (p : Nat) (s : State) : (noPort p s).tb.epoch = s.tb.epoch := by
  simp [noPort]

@[simp] theorem goDown_epoch (p : Nat) (s : State) : (goDown p s).tb.epoch = s.tb.epoch := by
  simp [goDown]

@[simp] theorem portDown_epoch (p : Nat) (s : State) : (portDown p s).tb.epoch = s.tb.epoch := by
  simp [portDown]

@[simp] theorem keepaliveExpiry_epoch (p : Nat) (s : State) : (keepaliveExpiry p s).tb.epoch = s.tb.epoch := by
  simp [keepaliveExpiry]

@[simp] theorem linkCfgOwn_epoch (tk : Ticket) (b : List Byte) (s : State) :
    (linkCfgOwn tk b s).s.tb.epoch = s.tb.epoch := by
  unfold linkCfgOwn
  simp only []
  repeat' split
  all_goals simp

@[simp] theorem linkCfg_epoch (m : Nat) (s : State) : (linkCfg m s).tb.epoch = s.tb.epoch := by
  simp [linkCfg] <;> (repeat' split) <;> simp

@[simp] theorem misoOut_epoch (st : Byte) (bs : List Byte) (s : State) : (misoOut st bs s).tb.epoch = s.tb.epoch := by
  simp [misoOut]

@[simp] theorem spiWrite_epoch (b : List Byte) (s : State) : (spiWrite b s).tb.epoch = s.tb.epoch := by
  simp [spiWrite]

@[simp] theorem spiGone_epoch (f : Frame) (s : State) : (spiGone f s).tb.epoch = s.tb.epoch := by
  simp [spiGone] <;> (repeat' split) <;> simp

@[simp] theorem spiRemove_epoch (c : Nat) (f : Frame) (s : State) : (spiRemove c f s).tb.epoch = s.tb.epoch := by
  simp [spiRemove]

theorem spiHead_epoch {s : State} {c : Nat} {f : Frame} {t : State} (h : s.spiHead = some (c, f, t)) : t.tb.epoch = s.tb.epoch := by
  unfold State.spiHead at h
  split at h
  · split at h
    · simp only [Option.some.injEq, Prod.mk.injEq] at h
      rw [← h.2.2, stampEvent_epoch]
    · cases h
  · cases h

@[simp] theorem spiRead_epoch (n : Nat) (s : State) : (spiRead n s).tb.epoch = s.tb.epoch := by
  unfold spiRead
  simp only []
  split
  · rename_i h
    split
    · simp [spiHead_epoch h]
    · simp
  · simp

@[simp] theorem spiStatus_epoch (s : State) : (spiStatus s).tb.epoch = s.tb.epoch := by
  simp [spiStatus]

@[simp] theorem spiOther_epoch (instr : Byte) (clocked : Nat) (s : State) :
    (spiOther instr clocked s).tb.epoch = s.tb.epoch := by
  simp [spiOther]

@[simp] theorem selfTest_epoch (t : SelfTest) (s : State) : (selfTest t s).tb.epoch = s.tb.epoch := by
  simp [selfTest]

@[simp] theorem clearHolds_epoch (s : State) : (clearHolds s).tb.epoch = s.tb.epoch := by
  simp [clearHolds]

@[simp] theorem stopRanging_epoch (s : State) : (stopRanging s).tb.epoch = s.tb.epoch := by
  simp [stopRanging]

@[simp] theorem stopUnits_epoch (t : Mode) (s : State) : (stopUnits t s).tb.epoch = s.tb.epoch := by
  simp [stopUnits] <;> (repeat' split) <;> simp

@[simp] theorem beginChange_epoch (tk : Ticket) (t : Mode) (s : State) :
    (beginChange tk t s).tb.epoch = s.tb.epoch := by
  simp [beginChange]

@[simp] theorem takeSource_epoch (m : Mode) (s : State) : (takeSource m s).tb.epoch = s.tb.epoch := by
  simp [takeSource] <;> (repeat' split) <;> simp

@[simp] theorem leaveLimp_epoch (m : Mode) (s : State) : (leaveLimp m s).tb.epoch = s.tb.epoch := by
  simp [leaveLimp]

@[simp] theorem limpMove_epoch (t : Mode) (s : State) : (limpMove t s).tb.epoch = s.tb.epoch := by
  simp [limpMove]

@[simp] theorem modeSetOwn_epoch (tk : Ticket) (p : List Byte) (s : State) :
    (modeSetOwn tk p s).s.tb.epoch = s.tb.epoch := by
  simp [modeSetOwn] <;> (repeat' split) <;> simp

@[simp] theorem syncsLow_epoch (s : State) : (syncsLow s).tb.epoch = s.tb.epoch := by
  simp [syncsLow]

@[simp] theorem enterRest_epoch (old t : Mode) (s : State) : (enterRest old t s).tb.epoch = s.tb.epoch := by
  simp [enterRest] <;> (repeat' split) <;> simp

@[simp] theorem enterRanging_epoch (old t : Mode) (s : State) : (enterRanging old t s).tb.epoch = s.tb.epoch := by
  simp [enterRanging]

@[simp] theorem wake_epoch (s : State) : (wake s).tb.epoch = s.tb.epoch := by
  simp [wake]

@[simp] theorem arrive_epoch (t : Mode) (s : State) : (arrive t s).tb.epoch = s.tb.epoch := by
  simp [arrive]

@[simp] theorem finishChange_epoch (tk : Ticket) (t : Mode) (test : SelfTest) (s : State) :
    (finishChange tk t test s).tb.epoch = s.tb.epoch := by
  simp [finishChange] <;> (repeat' split) <;> simp

@[simp] theorem modeSetComplete_epoch (test : SelfTest) (s : State) :
    (modeSetComplete test s).tb.epoch = s.tb.epoch := by
  simp [modeSetComplete] <;> (repeat' split) <;> simp

@[simp] theorem enterLimp_epoch (s : State) : (enterLimp s).tb.epoch = s.tb.epoch := by
  simp [enterLimp] <;> (repeat' split) <;> simp

@[simp] theorem limpEntry_epoch (s : State) : (limpEntry s).tb.epoch = s.tb.epoch := by
  unfold limpEntry ownChange
  split <;> simp

@[simp] theorem backFromLimp_epoch (s : State) : (backFromLimp s).tb.epoch = s.tb.epoch := by
  simp [backFromLimp] <;> (repeat' split) <;> simp

@[simp] theorem limpReturn_epoch (s : State) : (limpReturn s).tb.epoch = s.tb.epoch := by
  unfold limpReturn ownChange
  split <;> simp

@[simp] theorem lateChange_epoch (s : State) : (lateChange s).tb.epoch = s.tb.epoch := by
  simp [lateChange] <;> (repeat' split) <;> simp

@[simp] theorem limpPendClear_epoch (s : State) : (limpPendClear s).tb.epoch = s.tb.epoch := by
  simp [limpPendClear]

@[simp] theorem setStep_epoch (n : Nat) (s : State) : (setStep n s).tb.epoch = s.tb.epoch := by
  simp [setStep]

@[simp] theorem sensorFails_epoch (k : Nat) (s : State) : (sensorFails k s).tb.epoch = s.tb.epoch := by
  simp [sensorFails]

@[simp] theorem unbias_epoch (k : Nat) (s : State) : (unbias k s).tb.epoch = s.tb.epoch := by
  simp [unbias]

@[simp] theorem sensorRecovers_epoch (k : Nat) (s : State) : (sensorRecovers k s).tb.epoch = s.tb.epoch := by
  simp [sensorRecovers]

@[simp] theorem goodConversion_epoch (k : Nat) (t : Int) (s : State) :
    (goodConversion k t s).tb.epoch = s.tb.epoch := by
  simp [goodConversion]

@[simp] theorem badConversion_epoch (k : Nat) (s : State) : (badConversion k s).tb.epoch = s.tb.epoch := by
  simp [badConversion]

@[simp] theorem sensorConversion_epoch (k : Nat) (c : Conversion) (s : State) :
    (sensorConversion k c s).tb.epoch = s.tb.epoch := by
  simp [sensorConversion] <;> (repeat' split) <;> simp

@[simp] theorem judgeLead_epoch (k : Nat) (s : State) : (judgeLead k s).tb.epoch = s.tb.epoch := by
  simp [judgeLead] <;> (repeat' split) <;> simp

@[simp] theorem judgeLeads_epoch (s : State) : (judgeLeads s).tb.epoch = s.tb.epoch := by
  simp [judgeLeads] <;> (repeat' split) <;> simp

@[simp] theorem evaluate_epoch (s : State) : (evaluate s).tb.epoch = s.tb.epoch := by
  simp [evaluate] <;> (repeat' split) <;> simp

@[simp] theorem throttleEvaluation_epoch (s : State) : (throttleEvaluation s).tb.epoch = s.tb.epoch := by
  simp [throttleEvaluation]

@[simp] theorem thermLimits_epoch (p : List Byte) (s : State) : (thermLimits p s).s.tb.epoch = s.tb.epoch := by
  simp [thermLimits] <;> (repeat' split) <;> simp

@[simp] theorem thermSensor_epoch (p : List Byte) (s : State) : (thermSensor p s).s.tb.epoch = s.tb.epoch := by
  simp [thermSensor]

@[simp] theorem thermOwn_epoch (a1 : Ticket) (p : List Byte) (s : State) :
    (thermOwn a1 p s).s.tb.epoch = s.tb.epoch := by
  simp [thermOwn] <;> (repeat' split) <;> simp

@[simp] theorem thermRow_epoch (m : Nat) (row : List Byte → Bool) (s : State) :
    (thermRow m row s).tb.epoch = s.tb.epoch := by
  simp [thermRow]

@[simp] theorem fillTokens_epoch (s : State) : (fillTokens s).tb.epoch = s.tb.epoch := by
  simp [fillTokens]

@[simp] theorem writeLog_epoch (e : LogEntry) (s : State) : (writeLog e s).tb.epoch = s.tb.epoch := by
  simp [writeLog]

@[simp] theorem faultLogEntry_epoch (s : State) : (faultLogEntry s).tb.epoch = s.tb.epoch := by
  simp [faultLogEntry] <;> (repeat' split) <;> simp

@[simp] theorem sendRec_epoch (r : TraceRec) (s : State) : (sendRec r s).tb.epoch = s.tb.epoch := by
  simp [sendRec]

@[simp] theorem releaseTrace_epoch (s : State) : (releaseTrace s).tb.epoch = s.tb.epoch := by
  simp [releaseTrace] <;> (repeat' split) <;> simp

@[simp] theorem sendNext_epoch (s : State) : (sendNext s).tb.epoch = s.tb.epoch := by
  simp [sendNext] <;> (repeat' split) <;> simp

@[simp] theorem traceSend_epoch (s : State) : (traceSend s).tb.epoch = s.tb.epoch := by
  simp [traceSend] <;> (repeat' split) <;> simp

@[simp] theorem traceTime_epoch (s : State) : (traceTime s).tb.epoch = s.tb.epoch := by
  simp [traceTime]

@[simp] theorem traceBurst_epoch (s : State) : (traceBurst s).tb.epoch = s.tb.epoch := by
  simp [traceBurst]

@[simp] theorem latchCounters_epoch (s : State) : (latchCounters s).tb.epoch = s.tb.epoch := by
  simp [latchCounters]

@[simp] theorem dumpQueue_epoch (v : W32) (s : State) : (dumpQueue v s).tb.epoch = s.tb.epoch := by
  simp [dumpQueue]

@[simp] theorem scrubRead_epoch (r : ReadResult) (s : State) : (scrubRead r s).tb.epoch = s.tb.epoch := by
  simp [scrubRead] <;> (repeat' split) <;> simp

@[simp] theorem correctionRewrite_epoch (s : State) : (correctionRewrite s).tb.epoch = s.tb.epoch := by
  simp [correctionRewrite] <;> (repeat' split) <;> simp

@[simp] theorem tapClock_epoch (s : State) (c : Tck) : (tapClock s c).tb.epoch = s.tb.epoch := by
  simp [tapClock] <;> (repeat' split) <;> simp

@[simp] theorem jtagRun_epoch (code : BitVec 4) (clocks : List Tck) (s : State) :
    (jtagRun code clocks s).tb.epoch = s.tb.epoch := by
  simp [jtagRun] <;> (repeat' split) <;> simp

@[simp] theorem jtagSample_epoch (p : BitVec 24) (clocks : List Tck) (s : State) :
    (jtagSample p clocks s).tb.epoch = s.tb.epoch := by
  simp [jtagSample]

set_option maxRecDepth 20000 in

@[simp] theorem rcClear_epoch (a : Nat) (s : State) : (rcClear a s).tb.epoch = s.tb.epoch := by
  unfold rcClear
  repeat' split
  all_goals simp

@[simp] theorem latchRead_epoch (a : Nat) (s : State) : (latchRead a s).tb.epoch = s.tb.epoch := by
  simp [latchRead] <;> (repeat' split) <;> simp

@[simp] theorem regRead_epoch (a : Nat) (s : State) : (regRead a s).2.tb.epoch = s.tb.epoch := by
  simp [regRead]

@[simp] theorem readWords_epoch : ∀ (as : List Nat) (s : State), (readWords as s).2.tb.epoch = s.tb.epoch
  | [], _ => rfl
  | a :: as, s => by
    unfold readWords
    simp [readWords_epoch as]

@[simp] theorem regRdOwn_epoch (reads : Reads) (tk : Ticket) (p : List Byte) (s : State) :
    (regRdOwn reads tk p s).s.tb.epoch = s.tb.epoch := by
  unfold regRdOwn
  split <;> simp

theorem writeGl_epoch {g : Gallery} {s t : State} (_ : True) (h : writeGl g s = .ok t) : t.tb.epoch = s.tb.epoch := by
  unfold writeGl refuse at h
  split at h
  · cases h
  · cases h
    rfl

@[simp] theorem evTest_epoch (v : W32) (s : State) : (evTest v s).tb.epoch = s.tb.epoch := by
  simp [evTest]

set_option maxRecDepth 20000 in

theorem writeReg_epoch {a : Nat} {v : W32} {s t : State} (h : writeReg a v s = .ok t) : t.tb.epoch = s.tb.epoch := by
  unfold writeReg at h
  simp only [writeTbCfg, writeTbHold, writeChCfg, writeF32Sel, writeCaCfg, writeCaSel, writeShCfg, writeFbwin, writeServe,
    writeEmCfg, writeBlCfg, writeBlPcfg, writeGlCfg, writeTrgCfg, writeTrcfg, writeTrdump, refuse, badField] at h
  repeat' split at h
  all_goals first
    | (cases h; simp; done)
    | (cases h; rfl)
    | (exact writeGl_epoch (by first | rfl | trivial) h)
    | (cases h; done)

theorem writeTriples_epoch : ∀ (n k : Nat) (p : List Byte) {s t : State}, writeTriples p n k s = .ok t → t.tb.epoch = s.tb.epoch
  | 0, _, _, _, _, h => by cases h; rfl
  | n + 1, k, p, s, t, h => by
    unfold writeTriples at h
    split at h
    · rename_i s' hs
      rw [writeTriples_epoch n (k + 1) p h]
      unfold writeTriple refuse at hs
      simp only [] at hs
      split at hs
      · cases hs
      · split at hs
        · cases hs
        · exact writeReg_epoch hs
    · cases h

@[simp] theorem regWrOwn_epoch (a1 : Ticket) (p : List Byte) (s : State) :
    (regWrOwn a1 p s).s.tb.epoch = s.tb.epoch := by
  unfold regWrOwn
  simp only []
  split
  · simp
  · split
    · rename_i h
      simp [writeTriples_epoch _ _ _ h]
    · simp

@[simp] theorem identOwn_epoch (a1 : Ticket) (a2 : List Byte) (s : State) :
    (identOwn a1 a2 s).s.tb.epoch = s.tb.epoch := by
  simp [identOwn]

@[simp] theorem pingOwn_epoch (a1 : Ticket) (p : List Byte) (s : State) : (pingOwn a1 p s).s.tb.epoch = s.tb.epoch := by
  simp [pingOwn]

@[simp] theorem ping_epoch (m : Nat) (s : State) : (ping m s).tb.epoch = s.tb.epoch := by
  simp [ping]

@[simp] theorem takeLearn_epoch (ws : List (Nat × W32)) (s : State) : (takeLearn ws s).tb.epoch = s.tb.epoch := by
  simp [takeLearn]

@[simp] theorem pregWrOwn_epoch (a1 : Ticket) (p : List Byte) (s : State) :
    (pregWrOwn a1 p s).s.tb.epoch = s.tb.epoch := by
  unfold pregWrOwn
  split
  · simp
  · simp only []
    split <;> simp

@[simp] theorem pregWearOwn_epoch (a1 : Ticket) (p : List Byte) (s : State) :
    (pregWearOwn a1 p s).s.tb.epoch = s.tb.epoch := by
  simp [pregWearOwn]

@[simp] theorem evtMaskOwn_epoch (a1 : Ticket) (p : List Byte) (s : State) :
    (evtMaskOwn a1 p s).s.tb.epoch = s.tb.epoch := by
  simp [evtMaskOwn]

@[simp] theorem restartGroup_epoch (g : Nat) (s : State) : (restartGroup g s).tb.epoch = s.tb.epoch := by
  simp [restartGroup]

@[simp] theorem evtReadOwn_epoch (a1 : Ticket) (p : List Byte) (s : State) :
    (evtReadOwn a1 p s).s.tb.epoch = s.tb.epoch := by
  simp [evtReadOwn]

@[simp] theorem clearNext_epoch (s : State) : (clearNext s).tb.epoch = s.tb.epoch := by
  simp [clearNext] <;> (repeat' split) <;> simp

@[simp] theorem evtClearOwn_epoch (tk : Ticket) (p : List Byte) (s : State) :
    (evtClearOwn tk p s).s.tb.epoch = s.tb.epoch := by
  simp [evtClearOwn] <;> (repeat' split) <;> simp

@[simp] theorem evtClear_epoch (m : Nat) (s : State) : (evtClear m s).tb.epoch = s.tb.epoch := by
  simp [evtClear] <;> (repeat' split) <;> simp

@[simp] theorem planHost_epoch (i x : Nat) (s : State) : (planHost i x s).s.tb.epoch = s.tb.epoch := by
  simp [planHost]

@[simp] theorem swapOwn_epoch (p : List Byte) (s : State) : (swapOwn p s).s.tb.epoch = s.tb.epoch := by
  simp [swapOwn]

@[simp] theorem homeOwn_epoch (p : List Byte) (s : State) : (homeOwn p s).s.tb.epoch = s.tb.epoch := by
  simp [homeOwn]

@[simp] theorem retireOwn_epoch (p : List Byte) (s : State) : (retireOwn p s).s.tb.epoch = s.tb.epoch := by
  simp [retireOwn]

@[simp] theorem memretOwn_epoch (p : List Byte) (s : State) : (memretOwn p s).s.tb.epoch = s.tb.epoch := by
  simp [memretOwn]

@[simp] theorem memclrOwn_epoch (s : State) : (memclrOwn s).s.tb.epoch = s.tb.epoch := by
  simp [memclrOwn]

@[simp] theorem spareOwn_epoch (a1 : Ticket) (p : List Byte) (s : State) :
    (spareOwn a1 p s).s.tb.epoch = s.tb.epoch := by
  simp [spareOwn] <;> (repeat' split) <;> simp

@[simp] theorem spareRow_epoch (m : Nat) (row : List Byte → Bool) (s : State) :
    (spareRow m row s).tb.epoch = s.tb.epoch := by
  simp [spareRow]

@[simp] theorem faultLogOwn_epoch (reads : Reads) (a1 : Ticket) (p : List Byte) (s : State) :
    (faultLogOwn reads a1 p s).s.tb.epoch = s.tb.epoch := by
  unfold faultLogOwn
  dsimp only
  repeat' split
  all_goals simp

@[simp] theorem cutShort_epoch (m k : Nat) (s : State) : (cutShort m k s).tb.epoch = s.tb.epoch := by
  unfold cutShort
  simp only []
  split <;> simp

@[simp] theorem cutWords_epoch (m : Option Nat) (k : Nat) (s : State) : (cutWords m k s).tb.epoch = s.tb.epoch := by
  unfold cutWords
  repeat' split
  all_goals first | rfl | simp

@[simp] theorem cancelAdmission_epoch (s : State) : (cancelAdmission s).tb.epoch = s.tb.epoch := by
  simp [cancelAdmission] <;> (repeat' split) <;> simp

@[simp] theorem cancelEnvLoad_epoch (k : Nat) (s : State) : (cancelEnvLoad k s).tb.epoch = s.tb.epoch := by
  unfold cancelEnvLoad
  split <;> simp

@[simp] theorem haltLodge_epoch (envWords : Nat) (s : State) : (haltLodge envWords s).tb.epoch = s.tb.epoch := by
  simp [haltLodge]

@[simp] theorem restartLodge_epoch (cut : Option Nat) (envWords : Nat) (s : State) :
    (restartLodge cut envWords s).tb.epoch = s.tb.epoch := by
  simp [restartLodge]

@[simp] theorem lockstepMismatch_epoch (cut : Option Nat) (words envWords : Nat) (s : State) :
    (lockstepMismatch cut words envWords s).tb.epoch = s.tb.epoch := by
  simp [lockstepMismatch] <;> (repeat' split) <;> simp

@[simp] theorem lodgeRestartEnd_epoch (s : State) : (lodgeRestartEnd s).tb.epoch = s.tb.epoch := by
  simp [lodgeRestartEnd] <;> (repeat' split) <;> simp

@[simp] theorem resetWords_epoch (c : Cut) (s : State) : (resetWords c s).tb.epoch = s.tb.epoch := by
  unfold resetWords
  dsimp only
  repeat' split
  all_goals simp

@[simp] theorem loadTb_epoch (s : State) : (loadTb s).tb.epoch = s.tb.epoch := by
  simp [loadTb]

@[simp] theorem loadMasks_epoch (s : State) : (loadMasks s).tb.epoch = s.tb.epoch := by
  simp [loadMasks]

@[simp] theorem loadLink_epoch (s : State) : (loadLink s).tb.epoch = s.tb.epoch := by
  simp [loadLink]

@[simp] theorem loadCln_epoch (s : State) : (loadCln s).tb.epoch = s.tb.epoch := by
  simp [loadCln]

@[simp] theorem loadTherm_epoch (s : State) : (loadTherm s).tb.epoch = s.tb.epoch := by
  simp [loadTherm]

@[simp] theorem loadLines_epoch (s : State) : (loadLines s).tb.epoch = s.tb.epoch := by
  simp [loadLines]

@[simp] theorem loadCores_epoch (s : State) : (loadCores s).tb.epoch = s.tb.epoch := by
  simp [loadCores]

@[simp] theorem loadGallery_epoch (s : State) : (loadGallery s).tb.epoch = s.tb.epoch := by
  simp [loadGallery]

@[simp] theorem loadLog_epoch (s : State) : (loadLog s).tb.epoch = s.tb.epoch := by
  simp [loadLog]

@[simp] theorem loadWords_epoch (s : State) : (loadWords s).tb.epoch = s.tb.epoch := by
  simp [loadWords]

@[simp] theorem recount_epoch (s : State) : (recount s).tb.epoch = s.tb.epoch := by
  simp [recount] <;> (repeat' split) <;> simp

@[simp] theorem startUpEnd_epoch (s : State) : (startUpEnd s).tb.epoch = s.tb.epoch := by
  simp [startUpEnd]

@[simp] theorem finishSelfTest_epoch (test : SelfTest) (s : State) : (finishSelfTest test s).tb.epoch = s.tb.epoch := by
  simp [finishSelfTest]

@[simp] theorem readErrors_epoch (reads : Reads) (s : State) : (readErrors reads s).tb.epoch = s.tb.epoch := by
  simp [readErrors] <;> (repeat' split) <;> simp

end Sys2Proof.Machine
end

