-- ==== Sys2Proof/Laws/KeepsMemory.lean ====
section
/-!
SUPPORT. KeepsMemory.lean: the contents of the Gallery memory is left alone by every operation but those that store a record or a reset: one lemma per operation.
-/
set_option Elab.async false

namespace Sys2Proof.Machine

@[simp] theorem ite_mem {c : Prop} [Decidable c] (a b : State) :
    (if c then a else b).gl.mem = if c then a.gl.mem else b.gl.mem := by split <;> rfl

@[simp] theorem reply_ite_mem {c : Prop} [Decidable c] (a b : Reply) :
    (if c then a else b).s.gl.mem = if c then a.s.gl.mem else b.s.gl.mem := by split <;> rfl

/-- A loop keeps it where its body does. -/
@[simp] theorem foldl_mem {β : Type} (f : State → β → State) (h : ∀ s b, (f s b).gl.mem = s.gl.mem) :
    ∀ (l : List β) (s : State), (l.foldl f s).gl.mem = s.gl.mem
  | [], _ => rfl
  | b :: l, s => by rw [List.foldl_cons, foldl_mem f h l (f s b), h]

@[simp] theorem State.pushStamped_mem (s : State) (e : Nat) (r : TraceRec) :
    (State.pushStamped s e r).gl.mem = s.gl.mem := by
  simp [State.pushStamped] <;> (repeat' split) <;> simp

@[simp] theorem count_mem (n k : Nat) (s : State) : (count n k s).gl.mem = s.gl.mem := by
  simp [count]

@[simp] theorem raises_mem (ns : List Nat) (s : State) : (raises ns s).gl.mem = s.gl.mem := by
  have h : ∀ (l : List Nat) (ev : Events) (c : Coarse) (g : Gallery), (l.foldl (Gallery.event ev c) g).mem = g.mem := by
    intro l ev c
    induction l with
    | nil => intro g; rfl
    | cons n l ih =>
      intro g
      rw [List.foldl_cons, ih]
      unfold Gallery.event
      split <;> rfl
  unfold raises
  dsimp only
  split
  · rfl
  · exact h _ _ _ _

@[simp] theorem raise_mem (n : Nat) (s : State) : (raise n s).gl.mem = s.gl.mem := by
  simp [raise]

@[simp] theorem raiseIf_mem (b : Bool) (n : Nat) (s : State) : (raiseIf b n s).gl.mem = s.gl.mem := by
  simp [raiseIf]

@[simp] theorem updSens_mem (k : Nat) (f : Sensor → Sensor) (s : State) : (updSens k f s).gl.mem = s.gl.mem := by
  simp [updSens]

@[simp] theorem settle_mem (s : State) : (settle s).gl.mem = s.gl.mem := by
  simp [settle]

@[simp] theorem detects_mem (fs : List Found) (s : State) : (detects fs s).gl.mem = s.gl.mem := by
  simp [detects]

@[simp] theorem detect_mem (code unit action : Nat) (stays : Bool) (s : State) :
    (detect code unit action stays s).gl.mem = s.gl.mem := by
  simp [detect]

@[simp] theorem repairId_mem (id : FaultId) (action : Nat) (s : State) : (repairId id action s).gl.mem = s.gl.mem := by
  simp [repairId] <;> (repeat' split) <;> simp

@[simp] theorem repair_mem (code unit action : Nat) (s : State) : (repair code unit action s).gl.mem = s.gl.mem := by
  simp [repair]

@[simp] theorem updSlot_mem (k : Nat) (f : MSlot → MSlot) (s : State) : (updSlot k f s).gl.mem = s.gl.mem := by
  simp [updSlot]

@[simp] theorem updSync_mem (n : Nat) (f : Sync → Sync) (s : State) : (updSync n f s).gl.mem = s.gl.mem := by
  simp [updSync]

@[simp] theorem startWaiters_mem (n : Nat) (t : Coarse) (s : State) : (startWaiters n t s).gl.mem = s.gl.mem := by
  simp [startWaiters]

@[simp] theorem markSats_mem (i : Nat) (n : BitVec 48) (t : Stamp) (s : State) :
    (markSats i n t s).gl.mem = s.gl.mem := by
  simp [markSats]

@[simp] theorem findUnreadable_mem (a : Nat) (s : State) : (findUnreadable a s).gl.mem = s.gl.mem := by
  simp [findUnreadable]

@[simp] theorem checkWord_mem (a : Nat) (r : ReadResult) (s : State) : (checkWord a r s).gl.mem = s.gl.mem := by
  simp [checkWord] <;> (repeat' split) <;> simp

@[simp] theorem clearUpset_mem (a : Nat) (s : State) : (clearUpset a s).gl.mem = s.gl.mem := by
  simp [clearUpset] <;> (repeat' split) <;> simp

@[simp] theorem checkRead_mem (a : Nat) (s : State) : (checkRead a s).gl.mem = s.gl.mem := by
  simp [checkRead] <;> (repeat' split) <;> simp

@[simp] theorem checkReads_mem (as : List Nat) (s : State) : (checkReads as s).gl.mem = s.gl.mem := by
  simp [checkReads] <;> (repeat' split) <;> simp

@[simp] theorem intoSpare_mem : ∀ (n a : Nat) (v : W32) (s : State), (intoSpare n a v s).2.gl.mem = s.gl.mem
  | 0, _, _, _ => rfl
  | n + 1, a, v, s => by
    simp only [intoSpare]
    repeat' split
    all_goals simp [intoSpare_mem n]

@[simp] theorem refuseWrite_mem (a : Nat) (old : W32) (s : State) : (refuseWrite a old s).gl.mem = s.gl.mem := by
  simp [refuseWrite]

@[simp] theorem committed_mem (a : Nat) (was : Bool) (s : State) : (committed a was s).gl.mem = s.gl.mem := by
  simp [committed]

@[simp] theorem writeWord_mem (a : Nat) (v : W32) (s : State) : (writeWord a v s).2.gl.mem = s.gl.mem := by
  simp only [writeWord]
  repeat' split
  all_goals simp

@[simp] theorem commit_mem (a : Nat) (v : W32) (s : State) : (commit a v s).2.gl.mem = s.gl.mem := by
  simp only [commit]
  split <;> simp

@[simp] theorem commits_mem : ∀ (ws : List (Nat × W32)) (s : State), (commits ws s).2.2.gl.mem = s.gl.mem
  | [], _ => rfl
  | (a, v) :: ws, s => by
    have h := commit_mem a v s
    unfold commits
    split
    · rename_i s' hc
      rw [hc] at h
      simp only [commits_mem ws s']
      exact h
    · rename_i s' hc
      rw [hc] at h
      exact h

@[simp] theorem commitOwn_mem (a : Nat) (v : W32) (s : State) : (commitOwn a v s).gl.mem = s.gl.mem := by
  simp [commitOwn]

@[simp] theorem commitChanged_mem (a : Nat) (f : W32 → W32) (s : State) : (commitChanged a f s).2.gl.mem = s.gl.mem := by
  simp [commitChanged]

@[simp] theorem strike_mem (reads : Reads) (s : State) : (strike reads s).gl.mem = s.gl.mem := by
  simp [strike] <;> (repeat' split) <;> simp

@[simp] theorem updPort_mem (p : Nat) (f : Port → Port) (s : State) : (updPort p f s).gl.mem = s.gl.mem := by
  simp [updPort]

@[simp] theorem updPath_mem (p : Nat) (f : PathQ → PathQ) (s : State) : (updPath p f s).gl.mem = s.gl.mem := by
  simp [updPath]

@[simp] theorem dropOut_mem (n : Nat) (s : State) : (dropOut n s).gl.mem = s.gl.mem := by
  simp [dropOut]

@[simp] theorem enqueue_mem (p c : Nat) (o : Out) (s : State) : (enqueue p c o s).gl.mem = s.gl.mem := by
  simp [enqueue]

@[simp] theorem sendHost_mem (c : Nat) (f : Frame) (s : State) : (sendHost c f s).gl.mem = s.gl.mem := by
  simp [sendHost] <;> (repeat' split) <;> simp

@[simp] theorem sendEvent_mem (c : Nat) (f : Frame) (s : State) : (sendEvent c f s).gl.mem = s.gl.mem := by
  simp [sendEvent]

@[simp] theorem sendReturn_mem (f : Frame) (s : State) : (sendReturn f s).gl.mem = s.gl.mem := by
  simp [sendReturn] <;> (repeat' split) <;> simp

@[simp] theorem updBox_mem (m : Nat) (f : Mailbox → Mailbox) (s : State) : (updBox m f s).gl.mem = s.gl.mem := by
  simp [updBox]

@[simp] theorem sendResponse_mem (f : Frame) (dst : Peer) (s : State) : (sendResponse f dst s).gl.mem = s.gl.mem := by
  simp [sendResponse]

@[simp] theorem respond_mem (m : Nat) (a : Answer) (s : State) : (respond m a s).gl.mem = s.gl.mem := by
  simp [respond]

@[simp] theorem answer_mem (m : Nat) (a : Answer) (now : Start) (s : State) : (answer m a now s).gl.mem = s.gl.mem := by
  simp [answer]

@[simp] theorem completeNow_mem (tk : Ticket) (a : Answer) (s : State) : (completeNow tk a s).gl.mem = s.gl.mem := by
  simp [completeNow]

@[simp] theorem complete_mem (tk : Ticket) (a : Answer) (s : State) : (complete tk a s).gl.mem = s.gl.mem := by
  simp [complete]

@[simp] theorem answerBadop_mem : ∀ (n : Nat) (s : State), (answerBadop n s).gl.mem = s.gl.mem
  | 0, _ => rfl
  | n + 1, s => by
    unfold answerBadop
    split
    · split
      · rw [answerBadop_mem n, answer_mem]
      · rfl
    · rfl

@[simp] theorem reply_mem (s : State) (a : Answer) : (reply s a).s.gl.mem = s.gl.mem := by
  simp [reply]

@[simp] theorem lodge_mem (m op : Nat) (row len : List Byte → Bool) (mode : State → List Byte → Bool)
    (own : Ticket → List Byte → State → Reply) (h : ∀ tk p s, (own tk p s).s.gl.mem = s.gl.mem) (s : State) :
    (lodge m op row len mode own s).gl.mem = s.gl.mem := by
  unfold lodge
  simp only []
  split
  · rw [answerBadop_mem]
    split
    · simp
    · split
      · simp
      · split <;> (split <;> simp [h])
  · rfl

@[simp] theorem closeReturn_mem (s : State) : (closeReturn s).gl.mem = s.gl.mem := by
  simp [closeReturn]

@[simp] theorem placeItem_mem (x : BitVec 128) (service : Bool) (s : State) :
    (placeItem x service s).gl.mem = s.gl.mem := by
  simp [placeItem]

@[simp] theorem startSpan_mem (s : State) : (startSpan s).gl.mem = s.gl.mem := by
  simp [startSpan]

@[simp] theorem declareLoss_mem (s : State) : (declareLoss s).gl.mem = s.gl.mem := by
  simp [declareLoss] <;> (repeat' split) <;> simp

@[simp] theorem refinAbsence_mem (s : State) : (refinAbsence s).gl.mem = s.gl.mem := by
  simp [refinAbsence]

@[simp] theorem learnGate_mem (y : Int) (s : State) : (learnGate y s).gl.mem = s.gl.mem := by
  simp [learnGate] <;> (repeat' split) <;> simp

@[simp] theorem frequencyGate_mem (ok : Bool) (ofs : W32) (y : Int) (s : State) :
    (frequencyGate ok ofs y s).gl.mem = s.gl.mem := by
  simp [frequencyGate]

@[simp] theorem phaseLoss_mem (s : State) : (phaseLoss s).gl.mem = s.gl.mem := by
  simp [phaseLoss]

@[simp] theorem qualificationEnd_mem (s : State) : (qualificationEnd s).gl.mem = s.gl.mem := by
  simp [qualificationEnd]

@[simp] theorem endSpan_mem (s : State) : (endSpan s).gl.mem = s.gl.mem := by
  simp [endSpan]

@[simp] theorem acquireComplete_mem (s : State) : (acquireComplete s).gl.mem = s.gl.mem := by
  simp [acquireComplete]

@[simp] theorem spanStart_mem (s : State) : (spanStart s).gl.mem = s.gl.mem := by
  simp [spanStart]

@[simp] theorem xtalUpdate_mem (s : State) : (xtalUpdate s).gl.mem = s.gl.mem := by
  simp [xtalUpdate]

@[simp] theorem holdLimit_mem (s : State) : (holdLimit s).gl.mem = s.gl.mem := by
  simp [holdLimit]

@[simp] theorem learnUpdate_mem (s : State) : (learnUpdate s).gl.mem = s.gl.mem := by
  simp [learnUpdate]

@[simp] theorem reload_mem (s : State) (f : Nat) : (reload s f).gl.mem = s.gl.mem := by
  simp [reload]

@[simp] theorem replicaCompare_mem (upsets : List (Nat × Coarse)) (s : State) :
    (replicaCompare upsets s).gl.mem = s.gl.mem := by
  simp [replicaCompare]

@[simp] theorem ppsEdge_mem (rising : Bool) (s : State) : (ppsEdge rising s).gl.mem = s.gl.mem := by
  simp [ppsEdge]

@[simp] theorem ppsMissing_mem (s : State) : (ppsMissing s).gl.mem = s.gl.mem := by
  simp [ppsMissing]

@[simp] theorem latchNow_mem (s : State) : (latchNow s).gl.mem = s.gl.mem := by
  simp [latchNow]

@[simp] theorem setTbCfg_mem (new : W32) (s : State) : (setTbCfg new s).gl.mem = s.gl.mem := by
  simp [setTbCfg]

@[simp] theorem tbCfgOwn_mem (a1 : Ticket) (p : List Byte) (s : State) : (tbCfgOwn a1 p s).s.gl.mem = s.gl.mem := by
  simp [tbCfgOwn] <;> (repeat' split) <;> simp

@[simp] theorem updChan_mem (i : Nat) (f : Chan → Chan) (s : State) : (updChan i f s).gl.mem = s.gl.mem := by
  simp [updChan]

@[simp] theorem updCore_mem (x : Nat) (f : Core → Core) (s : State) : (updCore x f s).gl.mem = s.gl.mem := by
  simp [updCore]

@[simp] theorem updConv_mem (x v : Nat) (f : Conv → Conv) (s : State) : (updConv x v f s).gl.mem = s.gl.mem := by
  simp [updConv]

@[simp] theorem armNext_mem (x v : Nat) (s : State) : (armNext x v s).gl.mem = s.gl.mem := by
  simp [armNext] <;> (repeat' split) <;> simp

@[simp] theorem armFirst_mem (x : Nat) (s : State) : (armFirst x s).gl.mem = s.gl.mem := by
  simp [armFirst] <;> (repeat' split) <;> simp

@[simp] theorem takeHit_mem (i x t : Nat) (f : Nat → Chan → Chan) (s : State) : (takeHit i x t f s).gl.mem = s.gl.mem := by
  simp [takeHit] <;> (repeat' split) <;> simp

@[simp] theorem feedNew_mem (i t : Nat) (rising : Bool) (cn : Coarse) (code : Nat) (s : State) :
    (feedNew i t rising cn code s).gl.mem = s.gl.mem := by
  simp [feedNew] <;> (repeat' split) <;> simp

@[simp] theorem stampEdge_mem (i t : Nat) (rising : Bool) (cn : Coarse) (code : Nat) (s : State) :
    (stampEdge i t rising cn code s).gl.mem = s.gl.mem := by
  simp [stampEdge]

@[simp] theorem checkRate_mem (i t : Nat) (s : State) : (checkRate i t s).gl.mem = s.gl.mem := by
  simp [checkRate]

@[simp] theorem chanEdge_mem (i t : Nat) (rising : Bool) (cn : Coarse) (code : Nat) (s : State) :
    (chanEdge i t rising cn code s).gl.mem = s.gl.mem := by
  simp [chanEdge] <;> (repeat' split) <;> simp

@[simp] theorem edgeArrival_mem (n t : Nat) (rising : Bool) (cn : Coarse) (code : Nat) (s : State) :
    (edgeArrival n t rising cn code s).gl.mem = s.gl.mem := by
  simp [edgeArrival] <;> (repeat' split) <;> simp

@[simp] theorem retire_mem (x : Nat) (s : State) : (retire x s).gl.mem = s.gl.mem := by
  simp [retire]

@[simp] theorem planSwitch_mem (i x : Nat) (tsw : Coarse) (fault : Option Nat) (s : State) :
    (planSwitch i x tsw fault s).gl.mem = s.gl.mem := by
  simp [planSwitch]

@[simp] theorem planRepair_mem (i : Nat) (code : Nat) (s : State) : (planRepair i code s).gl.mem = s.gl.mem := by
  simp [planRepair] <;> (repeat' split) <;> simp

@[simp] theorem coreFault_mem (code x : Nat) (s : State) : (coreFault code x s).gl.mem = s.gl.mem := by
  unfold coreFault
  simp only []
  split
  · rfl
  · split
    · simp
    · rw [foldl_mem]
      · simp
      · intro s b
        split <;> simp

@[simp] theorem endFreed_mem (s : State) : (endFreed s).gl.mem = s.gl.mem := by
  simp [endFreed] <;> (repeat' split) <;> simp

@[simp] theorem replanCores_mem (s : State) : (replanCores s).gl.mem = s.gl.mem := by
  unfold replanCores
  rw [foldl_mem]
  intro s b
  split
  · split
    · rfl
    · split <;> simp
  · rfl

@[simp] theorem convFault_mem (x v : Nat) (s : State) : (convFault x v s).gl.mem = s.gl.mem := by
  simp [convFault]

@[simp] theorem coreSwitch_mem (i : Nat) (s : State) : (coreSwitch i s).gl.mem = s.gl.mem := by
  simp [coreSwitch] <;> (repeat' split) <;> simp

@[simp] theorem release_mem (x v : Nat) (s : State) : (release x v s).gl.mem = s.gl.mem := by
  simp [release]

@[simp] theorem releaseHit_mem (i x v : Nat) (s : State) : (releaseHit i x v s).gl.mem = s.gl.mem := by
  simp [releaseHit] <;> (repeat' split) <;> simp

@[simp] theorem conversionDone_mem (x v : Nat) (s : State) : (conversionDone x v s).gl.mem = s.gl.mem := by
  simp [conversionDone] <;> (repeat' split) <;> simp

@[simp] theorem armedHandover_mem (x : Nat) (s : State) : (armedHandover x s).gl.mem = s.gl.mem := by
  simp [armedHandover] <;> (repeat' split) <;> simp

@[simp] theorem calibrationEdge_mem (x code : Nat) (s : State) : (calibrationEdge x code s).gl.mem = s.gl.mem := by
  simp [calibrationEdge] <;> (repeat' split) <;> simp

@[simp] theorem acceptLatch_mem (i : Nat) (s : State) : (acceptLatch i s).gl.mem = s.gl.mem := by
  simp [acceptLatch] <;> (repeat' split) <;> simp

@[simp] theorem checkFull_mem (n : Nat) (s : State) : (checkFull n s).gl.mem = s.gl.mem := by
  simp [checkFull]

@[simp] theorem pushStamp_mem (i : Nat) (r : Flying) (s : State) : (pushStamp i r s).gl.mem = s.gl.mem := by
  simp [pushStamp]

@[simp] theorem stampPush_mem (i : Nat) (s : State) : (stampPush i s).gl.mem = s.gl.mem := by
  simp [stampPush] <;> (repeat' split) <;> simp

@[simp] theorem closeWordRetry_mem (i : Nat) (s : State) : (closeWordRetry i s).gl.mem = s.gl.mem := by
  simp [closeWordRetry] <;> (repeat' split) <;> simp

@[simp] theorem presentClose_mem (gen tag i : Nat) (s : State) : (presentClose gen tag i s).gl.mem = s.gl.mem := by
  simp [presentClose] <;> (repeat' split) <;> simp

@[simp] theorem popHead_mem (i : Nat) (s : State) : (popHead i s).gl.mem = s.gl.mem := by
  simp [popHead]

@[simp] theorem latchCounts_mem (i : Nat) (s : State) : (latchCounts i s).gl.mem = s.gl.mem := by
  simp [latchCounts]

@[simp] theorem calibrationPeriodEnd_mem (trims : List (Nat × Byte)) (s : State) :
    (calibrationPeriodEnd trims s).gl.mem = s.gl.mem := by
  simp [calibrationPeriodEnd]

@[simp] theorem tableSwitch_mem (f : Nat) (s : State) : (tableSwitch f s).gl.mem = s.gl.mem := by
  simp [tableSwitch]

@[simp] theorem startFill_mem (tk : Option Ticket) (s : State) : (startFill tk s).gl.mem = s.gl.mem := by
  simp [startFill]

@[simp] theorem calFillEnd_mem (r : FillResult) (s : State) : (calFillEnd r s).gl.mem = s.gl.mem := by
  simp [calFillEnd] <;> (repeat' split) <;> simp

@[simp] theorem cancelFill_mem (s : State) : (cancelFill s).gl.mem = s.gl.mem := by
  simp [cancelFill] <;> (repeat' split) <;> simp

@[simp] theorem calRunOwn_mem (tk : Ticket) (a1 : List Byte) (s : State) : (calRunOwn tk a1 s).s.gl.mem = s.gl.mem := by
  simp [calRunOwn]

@[simp] theorem skewSetOwn_mem (a1 : Ticket) (p : List Byte) (s : State) : (skewSetOwn a1 p s).s.gl.mem = s.gl.mem := by
  unfold skewSetOwn
  simp only []
  split
  · simp
  · split <;> simp

@[simp] theorem caSelWrite_mem (v : W32) (s : State) : (caSelWrite v s).gl.mem = s.gl.mem := by
  simp [caSelWrite]

@[simp] theorem updLine_mem (x : Nat) (f : Line → Line) (s : State) : (updLine x f s).gl.mem = s.gl.mem := by
  simp [updLine]

@[simp] theorem updDriver_mem (d : Nat) (f : Driver → Driver) (s : State) : (updDriver d f s).gl.mem = s.gl.mem := by
  simp [updDriver]

@[simp] theorem driveFire_mem (d : Nat) (o : FireOut) (s : State) : (driveFire d o s).gl.mem = s.gl.mem := by
  simp [driveFire]

@[simp] theorem selectOff_mem (s : State) : (selectOff s).gl.mem = s.gl.mem := by
  simp [selectOff]

@[simp] theorem charge_mem (x amp width : Nat) (s : State) : (charge x amp width s).gl.mem = s.gl.mem := by
  simp [charge]

@[simp] theorem queueCmd_mem (d op arg : Nat) (s : State) : (queueCmd d op arg s).gl.mem = s.gl.mem := by
  simp [queueCmd]

@[simp] theorem broadcast_mem (arg : Nat) (s : State) : (broadcast arg s).gl.mem = s.gl.mem := by
  simp [broadcast]

@[simp] theorem readDiag_mem (x : Nat) (s : State) : (readDiag x s).gl.mem = s.gl.mem := by
  simp [readDiag]

@[simp] theorem exchangeFails_mem (crc : Bool) (s : State) : (exchangeFails crc s).gl.mem = s.gl.mem := by
  simp [exchangeFails] <;> (repeat' split) <;> simp

@[simp] theorem sendTo_mem (d : Nat) (c : EmCmd) (queued : Bool) (again : Option Nat) (s : State) :
    (sendTo d c queued again s).gl.mem = s.gl.mem := by
  simp [sendTo]

@[simp] theorem linkCycle_mem (s : State) : (linkCycle s).gl.mem = s.gl.mem := by
  simp [linkCycle] <;> (repeat' split) <;> simp

@[simp] theorem takeSpare_mem (x l y : Nat) (s : State) : (takeSpare x l y s).gl.mem = s.gl.mem := by
  simp [takeSpare]

@[simp] theorem lineFault_mem (x kind : Nat) (s : State) : (lineFault x kind s).gl.mem = s.gl.mem := by
  simp [lineFault] <;> (repeat' split) <;> simp

@[simp] theorem setSynthetic_mem (d : Nat) (s : State) : (setSynthetic d s).gl.mem = s.gl.mem := by
  simp [setSynthetic]

@[simp] theorem fbFault_mem (d : Nat) (s : State) : (fbFault d s).gl.mem = s.gl.mem := by
  simp [fbFault] <;> (repeat' split) <;> simp

@[simp] theorem fbPathCheck_mem (d : Nat) (s : State) : (fbPathCheck d s).gl.mem = s.gl.mem := by
  simp [fbPathCheck]

@[simp] theorem switchCore_mem (i : Nat) (s : State) : (switchCore i s).gl.mem = s.gl.mem := by
  simp [switchCore] <;> (repeat' split) <;> simp

@[simp] theorem voidRun_mem (x : Nat) (s : State) : (voidRun x s).gl.mem = s.gl.mem := by
  simp [voidRun]

@[simp] theorem driverState_mem (d : Nat) (poll flt : Bool) (st : Nat) (s : State) :
    (driverState d poll flt st s).gl.mem = s.gl.mem := by
  simp [driverState]

@[simp] theorem lineReady_mem (d : Nat) (s : State) : (lineReady d s).gl.mem = s.gl.mem := by
  unfold lineReady
  rw [foldl_mem]
  intro s b
  split <;> simp

@[simp] theorem judgeLine_mem (d x : Nat) (s : State) : (judgeLine d x s).gl.mem = s.gl.mem := by
  simp [judgeLine]

@[simp] theorem endBlind_mem (d : Nat) (s : State) : (endBlind d s).gl.mem = s.gl.mem := by
  simp [endBlind] <;> (repeat' split) <;> simp

@[simp] theorem diagLine_mem (d x kind : Nat) (asked advanced : Bool) (s : State) :
    (diagLine d x kind asked advanced s).gl.mem = s.gl.mem := by
  simp [diagLine] <;> (repeat' split) <;> simp

@[simp] theorem diagBlind_mem (d x kind : Nat) (advanced : Bool) (b : Bool × List (Nat × Nat)) (s : State) :
    (diagBlind d x kind advanced b s).gl.mem = s.gl.mem := by
  simp [diagBlind] <;> (repeat' split) <;> simp

@[simp] theorem diagAnswer_mem (d n data : Nat) (s : State) : (diagAnswer d n data s).gl.mem = s.gl.mem := by
  simp [diagAnswer] <;> (repeat' split) <;> simp

@[simp] theorem answered_mem (e : Exchange) (flt : Bool) (data : Nat) (s : State) :
    (answered e flt data s).gl.mem = s.gl.mem := by
  simp [answered] <;> (repeat' split) <;> simp

@[simp] theorem statusWord_mem (inTime : Bool) (w : BitVec 40) (s : State) :
    (statusWord inTime w s).gl.mem = s.gl.mem := by
  simp [statusWord] <;> (repeat' split) <;> simp

@[simp] theorem eyeBudgetInterval_mem (s : State) : (eyeBudgetInterval s).gl.mem = s.gl.mem := by
  simp [eyeBudgetInterval]

@[simp] theorem diagDue_mem (x : Nat) (s : State) : (diagDue x s).gl.mem = s.gl.mem := by
  simp [diagDue]

@[simp] theorem latchDrivers_mem (s : State) : (latchDrivers s).gl.mem = s.gl.mem := by
  simp [latchDrivers]

@[simp] theorem surveyStart_mem (s : State) : (surveyStart s).gl.mem = s.gl.mem := by
  simp [surveyStart]

@[simp] theorem startDrivers_mem (s : State) : (startDrivers s).gl.mem = s.gl.mem := by
  simp [startDrivers]

@[simp] theorem testDriver_mem (d : Nat) (s : State) : (testDriver d s).gl.mem = s.gl.mem := by
  simp [testDriver]

@[simp] theorem testPass_mem (s : State) : (testPass s).gl.mem = s.gl.mem := by
  simp [testPass]

@[simp] theorem testPassReport_mem (d : Nat) (s : State) : (testPassReport d s).gl.mem = s.gl.mem := by
  simp [testPassReport]

@[simp] theorem endTests_mem (s : State) : (endTests s).gl.mem = s.gl.mem := by
  simp [endTests]

@[simp] theorem emitDisable_mem (s : State) : (emitDisable s).gl.mem = s.gl.mem := by
  simp [emitDisable]

@[simp] theorem emitEnable_mem (s : State) : (emitEnable s).gl.mem = s.gl.mem := by
  simp [emitEnable]

@[simp] theorem emitLimitOwn_mem (a1 : Ticket) (p : List Byte) (s : State) :
    (emitLimitOwn a1 p s).s.gl.mem = s.gl.mem := by
  simp [emitLimitOwn]

@[simp] theorem settleLines_mem (s : State) : (settleLines s).gl.mem = s.gl.mem := by
  simp [settleLines]

@[simp] theorem lineMapOwn_mem (a1 : Ticket) (p : List Byte) (s : State) : (lineMapOwn a1 p s).s.gl.mem = s.gl.mem := by
  unfold lineMapOwn
  simp only []
  repeat' split
  all_goals simp

@[simp] theorem clearfailOwn_mem (a1 : Ticket) (p : List Byte) (s : State) :
    (clearfailOwn a1 p s).s.gl.mem = s.gl.mem := by
  simp [clearfailOwn]

@[simp] theorem switchBank_mem (s : State) : (switchBank s).gl.mem = s.gl.mem := by
  simp [switchBank]

@[simp] theorem announceFrame_mem (n bank : Nat) (t : Nominal) (s : State) :
    (announceFrame n bank t s).gl.mem = s.gl.mem := by
  simp [announceFrame]

@[simp] theorem startSchedule_mem (t : Coarse) (s : State) : (startSchedule t s).gl.mem = s.gl.mem := by
  simp [startSchedule]

@[simp] theorem dropFrames_mem (s : State) : (dropFrames s).gl.mem = s.gl.mem := by
  simp [dropFrames]

@[simp] theorem stopSchedule_mem (s : State) : (stopSchedule s).gl.mem = s.gl.mem := by
  simp [stopSchedule]

@[simp] theorem beginSchedule_mem (t : Coarse) (s : State) : (beginSchedule t s).gl.mem = s.gl.mem := by
  simp [beginSchedule] <;> (repeat' split) <;> simp

@[simp] theorem dropTrigStart_mem (st : Status) (s : State) : (dropTrigStart st s).gl.mem = s.gl.mem := by
  simp [dropTrigStart] <;> (repeat' split) <;> simp

@[simp] theorem stopAtFrameEnd_mem (s : State) : (stopAtFrameEnd s).gl.mem = s.gl.mem := by
  simp [stopAtFrameEnd] <;> (repeat' split) <;> simp

@[simp] theorem setStandby_mem (f : Tab W64 → Tab W64) (s : State) : (setStandby f s).gl.mem = s.gl.mem := by
  simp [setStandby]

@[simp] theorem withdrawNext_mem (s : State) : (withdrawNext s).gl.mem = s.gl.mem := by
  simp [withdrawNext] <;> (repeat' split) <;> simp

@[simp] theorem schedLoadOwn_mem (tk : Ticket) (p : List Byte) (s : State) :
    (schedLoadOwn tk p s).s.gl.mem = s.gl.mem := by
  simp [schedLoadOwn]

@[simp] theorem admissionComplete_mem (s : State) : (admissionComplete s).gl.mem = s.gl.mem := by
  simp [admissionComplete] <;> (repeat' split) <;> simp

@[simp] theorem schedStartOwn_mem (tk : Ticket) (p : List Byte) (s : State) :
    (schedStartOwn tk p s).s.gl.mem = s.gl.mem := by
  simp [schedStartOwn]

@[simp] theorem schedStopOwn_mem (a1 : Ticket) (p : List Byte) (s : State) :
    (schedStopOwn a1 p s).s.gl.mem = s.gl.mem := by
  simp [schedStopOwn]

@[simp] theorem autostart_mem (s : State) : (autostart s).gl.mem = s.gl.mem := by
  simp [autostart]

@[simp] theorem updDwell_mem (did : Nat) (f : Dwell → Dwell) (s : State) : (updDwell did f s).gl.mem = s.gl.mem := by
  simp [updDwell]

@[simp] theorem formDwell_mem (s : State) : (formDwell s).gl.mem = s.gl.mem := by
  simp [formDwell] <;> (repeat' split) <;> simp

@[simp] theorem notePeak_mem (s : State) : (notePeak s).gl.mem = s.gl.mem := by
  simp [notePeak]

@[simp] theorem updEntry_mem (tag : Nat) (f : Entry → Entry) (s : State) : (updEntry tag f s).gl.mem = s.gl.mem := by
  simp [updEntry]

@[simp] theorem advance_mem (last frameLast : Bool) (b : StepWord) (r : Sched) (s : State) :
    (advance last frameLast b r s).gl.mem = s.gl.mem := by
  simp [advance]

@[simp] theorem entryAllocate_mem (s : State) : (entryAllocate s).gl.mem = s.gl.mem := by
  simp [entryAllocate] <;> (repeat' split) <;> simp

@[simp] theorem selectNext_mem (s : State) : (selectNext s).gl.mem = s.gl.mem := by
  simp [selectNext] <;> (repeat' split) <;> simp

@[simp] theorem traceShot_mem (e : Entry) (s : State) : (traceShot e s).gl.mem = s.gl.mem := by
  simp [traceShot]

@[simp] theorem shotFired_mem (tag : Nat) (st : Stamp) (s : State) : (shotFired tag st s).gl.mem = s.gl.mem := by
  simp [shotFired] <;> (repeat' split) <;> simp

@[simp] theorem fireShot_mem (p : Position) (d : Dwell) (w : Nat) (s : State) :
    (fireShot p d w s).gl.mem = s.gl.mem := by
  simp [fireShot]

@[simp] theorem withhold_mem (p : Position) (s : State) : (withhold p s).gl.mem = s.gl.mem := by
  simp [withhold]

@[simp] theorem judgePosition_mem (p : Position) (d : Dwell) (s : State) : (judgePosition p d s).gl.mem = s.gl.mem := by
  simp [judgePosition]

@[simp] theorem beginFrame_mem (p : Position) (s : State) : (beginFrame p s).gl.mem = s.gl.mem := by
  simp [beginFrame]

@[simp] theorem shotPosition_mem (s : State) : (shotPosition s).gl.mem = s.gl.mem := by
  simp [shotPosition] <;> (repeat' split) <;> simp

@[simp] theorem shotVoid_mem (tag : Nat) (e : Entry) (s : State) : (shotVoid tag e s).gl.mem = s.gl.mem := by
  simp [shotVoid]

@[simp] theorem voidDecision_mem (tag : Nat) (s : State) : (voidDecision tag s).gl.mem = s.gl.mem := by
  simp [voidDecision] <;> (repeat' split) <;> simp

@[simp] theorem noteFire_mem (e : Entry) (st : Stamp) (s : State) : (noteFire e st s).gl.mem = s.gl.mem := by
  simp [noteFire]

@[simp] theorem useReal_mem (d : Nat) (s : State) : (useReal d s).gl.mem = s.gl.mem := by
  simp [useReal] <;> (repeat' split) <;> simp

@[simp] theorem clearSynthetic_mem (d : Nat) (s : State) : (clearSynthetic d s).gl.mem = s.gl.mem := by
  simp [clearSynthetic]

@[simp] theorem strayFb_mem (lone : Bool) (s : State) : (strayFb lone s).gl.mem = s.gl.mem := by
  simp [strayFb]

@[simp] theorem fbStamp_mem (d : Nat) (st : Stamp) (s : State) : (fbStamp d st s).gl.mem = s.gl.mem := by
  simp [fbStamp] <;> (repeat' split) <;> simp

@[simp] theorem fbTest_mem (d : Nat) (st : Stamp) (s : State) : (fbTest d st s).gl.mem = s.gl.mem := by
  simp [fbTest] <;> (repeat' split) <;> simp

@[simp] theorem closeWordPresent_mem (tag : Nat) (s : State) : (closeWordPresent tag s).gl.mem = s.gl.mem := by
  simp [closeWordPresent] <;> (repeat' split) <;> simp

@[simp] theorem closeShots_mem (i gen tag : Nat) (drop : Bool) (s : State) :
    (closeShots i gen tag drop s).gl.mem = s.gl.mem := by
  simp [closeShots]

@[simp] theorem latchShotnum_mem (s : State) : (latchShotnum s).gl.mem = s.gl.mem := by
  simp [latchShotnum]

@[simp] theorem lselWrite_mem (v : W32) (s : State) : (lselWrite v s).gl.mem = s.gl.mem := by
  simp [lselWrite]

@[simp] theorem tapMeas_mem (i : Nat) (st : Stamp) (rising : Bool) (e : QEntry) (s : State) :
    (tapMeas i st rising e s).gl.mem = s.gl.mem := by
  simp [tapMeas]

@[simp] theorem slotRunStart_mem (k : Nat) (s : State) : (slotRunStart k s).gl.mem = s.gl.mem := by
  simp [slotRunStart]

@[simp] theorem gateBoundary_mem (k : Nat) (s : State) : (gateBoundary k s).gl.mem = s.gl.mem := by
  simp [gateBoundary]

@[simp] theorem gateResult_mem (k : Nat) (s : State) : (gateResult k s).gl.mem = s.gl.mem := by
  simp [gateResult]

@[simp] theorem intervalJudge_mem (k : Nat) (s : State) : (intervalJudge k s).gl.mem = s.gl.mem := by
  simp [intervalJudge] <;> (repeat' split) <;> simp

@[simp] theorem latchSlot_mem (k : Nat) (s : State) : (latchSlot k s).gl.mem = s.gl.mem := by
  simp [latchSlot]

@[simp] theorem slotsStop_mem (s : State) : (slotsStop s).gl.mem = s.gl.mem := by
  simp [slotsStop]

@[simp] theorem slotsEnter_mem (s : State) : (slotsEnter s).gl.mem = s.gl.mem := by
  simp [slotsEnter]

@[simp] theorem syncPulse_mem (n : Nat) (s : State) : (syncPulse n s).gl.mem = s.gl.mem := by
  simp [syncPulse]

@[simp] theorem cameraLoopUpdate_mem (n : Nat) (s : State) : (cameraLoopUpdate n s).gl.mem = s.gl.mem := by
  simp [cameraLoopUpdate] <;> (repeat' split) <;> simp

@[simp] theorem measCfgSlot_mem (p : List Byte) (s : State) : (measCfgSlot p s).s.gl.mem = s.gl.mem := by
  simp [measCfgSlot] <;> (repeat' split) <;> simp

@[simp] theorem measCfgSyncOut_mem (p : List Byte) (s : State) : (measCfgSyncOut p s).s.gl.mem = s.gl.mem := by
  simp [measCfgSyncOut] <;> (repeat' split) <;> simp

@[simp] theorem measCfgOwn_mem (a1 : Ticket) (p : List Byte) (s : State) : (measCfgOwn a1 p s).s.gl.mem = s.gl.mem := by
  simp [measCfgOwn] <;> (repeat' split) <;> simp

@[simp] theorem measReadOwn_mem (a1 : Ticket) (p : List Byte) (s : State) :
    (measReadOwn a1 p s).s.gl.mem = s.gl.mem := by
  simp [measReadOwn]

@[simp] theorem formTrigger_mem (cfg : W32) (cause : Nat) (t : Coarse) (s : State) :
    (formTrigger cfg cause t s).gl.mem = s.gl.mem := by
  simp [formTrigger]

@[simp] theorem trginTrigger_mem (high : Bool) (t : Coarse) (s : State) :
    (trginTrigger high t s).gl.mem = s.gl.mem := by
  simp [trginTrigger]

@[simp] theorem setTrgCfg_mem (v : W32) (s : State) : (setTrgCfg v s).gl.mem = s.gl.mem := by
  simp [setTrgCfg]

@[simp] theorem trigCfgOwn_mem (a1 : Ticket) (p : List Byte) (s : State) : (trigCfgOwn a1 p s).s.gl.mem = s.gl.mem := by
  simp [trigCfgOwn] <;> (repeat' split) <;> simp

@[simp] theorem envsumDone_mem (s : State) : (envsumDone s).gl.mem = s.gl.mem := by
  simp [envsumDone]

@[simp] theorem envLoadOwn_mem (tk : Ticket) (p : List Byte) (s : State) : (envLoadOwn tk p s).s.gl.mem = s.gl.mem := by
  simp [envLoadOwn]

@[simp] theorem envLoadComplete_mem (s : State) : (envLoadComplete s).gl.mem = s.gl.mem := by
  unfold envLoadComplete
  split
  · rfl
  · simp

@[simp] theorem mapUpdate_mem (d : Dwell) (c : Nat) (bins : Tab Nat) (span : Option Nat) (nout : Nat) (s : State) :
    (mapUpdate d c bins span nout s).gl.mem = s.gl.mem := by
  simp [mapUpdate]

@[simp] theorem clearMap_mem (s : State) : (clearMap s).gl.mem = s.gl.mem := by
  simp [clearMap]

@[simp] theorem violation_mem (d : Dwell) (recs : List (BitVec 128)) (maps v : List Nat) (s : State) :
    (violation d recs maps v s).gl.mem = s.gl.mem := by
  simp [violation]

@[simp] theorem judgeDwell_mem (d : Dwell) (s : State) : (judgeDwell d s).gl.mem = s.gl.mem := by
  simp [judgeDwell]

@[simp] theorem surveyNext_mem (s : State) : (surveyNext s).gl.mem = s.gl.mem := by
  simp [surveyNext]

@[simp] theorem dwellDecision_mem (s : State) : (dwellDecision s).gl.mem = s.gl.mem := by
  simp [dwellDecision] <;> (repeat' split) <;> simp

@[simp] theorem updPart_mem (p : Nat) (f : Part → Part) (s : State) : (updPart p f s).gl.mem = s.gl.mem := by
  simp [updPart]

@[simp] theorem dropMarks_mem (lost : Nat × Nat → Bool) (s : State) : (dropMarks lost s).gl.mem = s.gl.mem := by
  simp [dropMarks]

@[simp] theorem streamAt_mem (p k : Nat) (s : State) : (streamAt p k s).gl.mem = s.gl.mem := by
  simp [streamAt] <;> (repeat' split) <;> simp

@[simp] theorem noteWritten_mem (r : GRec) (k : Nat) (s : State) : (noteWritten r k s).gl.mem = s.gl.mem := by
  simp [noteWritten] <;> (repeat' split) <;> simp

@[simp] theorem takePart_mem (p : Nat) (st : GlState) (s : State) : (takePart p st s).gl.mem = s.gl.mem := by
  simp [takePart]

@[simp] theorem armPart_mem (p : Nat) (s : State) : (armPart p s).gl.mem = s.gl.mem := by
  simp [armPart] <;> (repeat' split) <;> simp

@[simp] theorem rearm_mem (s : State) : (rearm s).gl.mem = s.gl.mem := by
  simp [rearm] <;> (repeat' split) <;> simp

@[simp] theorem stopWriting_mem (st : GlState) (s : State) : (stopWriting st s).gl.mem = s.gl.mem := by
  simp [stopWriting]

@[simp] theorem captureReady_mem (s : State) : (captureReady s).gl.mem = s.gl.mem := by
  simp [captureReady]

@[simp] theorem endStream_mem (st : Status) (s : State) : (endStream st s).gl.mem = s.gl.mem := by
  simp [endStream] <;> (repeat' split) <;> simp

@[simp] theorem clearPartitions_mem (s : State) : (clearPartitions s).gl.mem = s.gl.mem := by
  simp [clearPartitions]

@[simp] theorem selfArm_mem (s : State) : (selfArm s).gl.mem = s.gl.mem := by
  simp [selfArm] <;> (repeat' split) <;> simp

@[simp] theorem autoArm_mem (s : State) : (autoArm s).gl.mem = s.gl.mem := by
  simp [autoArm]

@[simp] theorem leaveRotation_mem (c : Nat) (s : State) : (leaveRotation c s).gl.mem = s.gl.mem := by
  simp [leaveRotation]

@[simp] theorem retireChan_mem (c : Nat) (s : State) : (retireChan c s).gl.mem = s.gl.mem := by
  simp [retireChan]

@[simp] theorem outOfService_mem (s : State) : (outOfService s).gl.mem = s.gl.mem := by
  simp [outOfService]

@[simp] theorem memFault_mem (c : Nat) (s : State) : (memFault c s).gl.mem = s.gl.mem := by
  simp [memFault] <;> (repeat' split) <;> simp

@[simp] theorem memoryCheck_mem (c : Nat) (ok : Bool) (s : State) : (memoryCheck c ok s).gl.mem = s.gl.mem := by
  simp [memoryCheck]

@[simp] theorem mr4Read_mem (hot : Bool) (s : State) : (mr4Read hot s).gl.mem = s.gl.mem := by
  simp [mr4Read]

@[simp] theorem memoryTrainingEnd_mem (r : Training) (s : State) : (memoryTrainingEnd r s).gl.mem = s.gl.mem := by
  simp [memoryTrainingEnd]

@[simp] theorem padCount_mem (s : State) : (padCount s).gl.mem = s.gl.mem := by
  simp [padCount] <;> (repeat' split) <;> simp

@[simp] theorem bufferFull_mem (s : State) : (bufferFull s).gl.mem = s.gl.mem := by
  simp [bufferFull]

@[simp] theorem hand_mem (r : GRec) (s : State) : (hand r s).gl.mem = s.gl.mem := by
  simp [hand]

@[simp] theorem galleryEdge_mem (i : Nat) (st : Stamp) (rising : Bool) (s : State) :
    (galleryEdge i st rising s).gl.mem = s.gl.mem := by
  simp [galleryEdge]

@[simp] theorem galleryDwell_mem (d : Dwell) (recs : List (Nat × List (BitVec 128))) (s : State) :
    (galleryDwell d recs s).gl.mem = s.gl.mem := by
  simp [galleryDwell]

@[simp] theorem evtRecordSlot_mem (s : State) : (evtRecordSlot s).gl.mem = s.gl.mem := by
  simp [evtRecordSlot] <;> (repeat' split) <;> simp

@[simp] theorem galleryWrap_mem (s : State) : (galleryWrap s).gl.mem = s.gl.mem := by
  simp [galleryWrap]

@[simp] theorem epochHoldRelease_mem (s : State) : (epochHoldRelease s).gl.mem = s.gl.mem := by
  simp [epochHoldRelease]

@[simp] theorem trigHand_mem (x : Trigger) (kind : Nat) (honoured : Bool) (s : State) :
    (trigHand x kind honoured s).gl.mem = s.gl.mem := by
  simp [trigHand]

@[simp] theorem armOwn_mem (a1 : Ticket) (p : List Byte) (s : State) : (armOwn a1 p s).s.gl.mem = s.gl.mem := by
  simp [armOwn] <;> (repeat' split) <;> simp

@[simp] theorem capReadRead_mem (p : List Byte) (s : State) : (capReadRead p s).s.gl.mem = s.gl.mem := by
  simp [capReadRead] <;> (repeat' split) <;> simp

@[simp] theorem capReadStream_mem (tk : Ticket) (p : List Byte) (s : State) :
    (capReadStream tk p s).s.gl.mem = s.gl.mem := by
  simp [capReadStream] <;> (repeat' split) <;> simp

@[simp] theorem capReadInfo_mem (p : List Byte) (s : State) : (capReadInfo p s).s.gl.mem = s.gl.mem := by
  simp [capReadInfo]

@[simp] theorem capRelease_mem (p : List Byte) (s : State) : (capRelease p s).s.gl.mem = s.gl.mem := by
  simp [capRelease]

@[simp] theorem capReadOwn_mem (tk : Ticket) (p : List Byte) (s : State) : (capReadOwn tk p s).s.gl.mem = s.gl.mem := by
  simp [capReadOwn] <;> (repeat' split) <;> simp

@[simp] theorem capRow_mem (m : Nat) (row : List Byte → Bool) (s : State) : (capRow m row s).gl.mem = s.gl.mem := by
  simp [capRow]

@[simp] theorem streamEnd_mem (s : State) : (streamEnd s).gl.mem = s.gl.mem := by
  simp [streamEnd] <;> (repeat' split) <;> simp

@[simp] theorem latchWcount_mem (s : State) : (latchWcount s).gl.mem = s.gl.mem := by
  simp [latchWcount]

@[simp] theorem trigSchedule_mem (t : Coarse) (s : State) : (trigSchedule t s).gl.mem = s.gl.mem := by
  simp [trigSchedule] <;> (repeat' split) <;> simp

@[simp] theorem trgoutEnd_mem (s : State) : (trgoutEnd s).gl.mem = s.gl.mem := by
  simp [trgoutEnd]

@[simp] theorem heardWord_mem (u : Nat) (s : State) : (heardWord u s).gl.mem = s.gl.mem := by
  simp [heardWord]

@[simp] theorem heardExpiry_mem (u : Nat) (s : State) : (heardExpiry u s).gl.mem = s.gl.mem := by
  simp [heardExpiry]

@[simp] theorem clnWordDiscard_mem (w : W64) (a1 : Bool) (s : State) : (clnWordDiscard w a1 s).gl.mem = s.gl.mem := by
  simp [clnWordDiscard]

@[simp] theorem setClnCfg_mem (v : W32) (s : State) : (setClnCfg v s).gl.mem = s.gl.mem := by
  simp [setClnCfg]

@[simp] theorem beginCycle_mem (s : State) : (beginCycle s).gl.mem = s.gl.mem := by
  simp [beginCycle] <;> (repeat' split) <;> simp

@[simp] theorem beacon_mem (s : State) : (beacon s).gl.mem = s.gl.mem := by
  simp [beacon]

@[simp] theorem yieldMaster_mem (s : State) : (yieldMaster s).gl.mem = s.gl.mem := by
  simp [yieldMaster] <;> (repeat' split) <;> simp

@[simp] theorem beaconReceive_mem (w : W64) (s : State) : (beaconReceive w s).gl.mem = s.gl.mem := by
  simp [beaconReceive]

@[simp] theorem beaconLoss_mem (s : State) : (beaconLoss s).gl.mem = s.gl.mem := by
  simp [beaconLoss] <;> (repeat' split) <;> simp

@[simp] theorem driveWord_mem (w : W64) (s : State) : (driveWord w s).gl.mem = s.gl.mem := by
  simp [driveWord]

@[simp] theorem sendTrig_mem (t : Coarse) (cause tseq copies : Nat) (rest : List (Coarse × Nat × Nat × Nat)) (s : State) :
    (sendTrig t cause tseq copies rest s).gl.mem = s.gl.mem := by
  simp [sendTrig]

@[simp] theorem sendMark_mem (m : Nat) (start : Start) (s : State) : (sendMark m start s).gl.mem = s.gl.mem := by
  simp [sendMark]

@[simp] theorem unitSlot_mem (s : State) : (unitSlot s).gl.mem = s.gl.mem := by
  simp [unitSlot] <;> (repeat' split) <;> simp

@[simp] theorem roundStart_mem (s : State) : (roundStart s).gl.mem = s.gl.mem := by
  simp [roundStart]

@[simp] theorem roundWordReceive_mem (w : W64) (s : State) : (roundWordReceive w s).gl.mem = s.gl.mem := by
  simp [roundWordReceive]

@[simp] theorem clnStamp_mem (i : Nat) (st : Stamp) (rising : Bool) (s : State) :
    (clnStamp i st rising s).gl.mem = s.gl.mem := by
  simp [clnStamp] <;> (repeat' split) <;> simp

@[simp] theorem roundUpdate_mem (s : State) : (roundUpdate s).gl.mem = s.gl.mem := by
  simp [roundUpdate] <;> (repeat' split) <;> simp

@[simp] theorem trigWordReceive_mem (w : W64) (s : State) : (trigWordReceive w s).gl.mem = s.gl.mem := by
  simp [trigWordReceive]

@[simp] theorem markWordReceive_mem (w : W64) (s : State) : (markWordReceive w s).gl.mem = s.gl.mem := by
  simp [markWordReceive]

@[simp] theorem writeClnCfg_mem (v : W32) (s : State) : (writeClnCfg v s).gl.mem = s.gl.mem := by
  simp [writeClnCfg]

@[simp] theorem clnWrite_mem (p : List Byte) (s : State) : (clnWrite p s).s.gl.mem = s.gl.mem := by
  simp [clnWrite] <;> (repeat' split) <;> simp

@[simp] theorem clnCfgOwn_mem (m : Nat) (tk : Ticket) (p : List Byte) (s : State) :
    (clnCfgOwn m tk p s).s.gl.mem = s.gl.mem := by
  simp [clnCfgOwn] <;> (repeat' split) <;> simp

@[simp] theorem clnRow_mem (m : Nat) (row : List Byte → Bool) (mode : State → List Byte → Bool) (s : State) :
    (clnRow m row mode s).gl.mem = s.gl.mem := by
  simp [clnRow]

@[simp] theorem clnMeasureTimeout_mem (s : State) : (clnMeasureTimeout s).gl.mem = s.gl.mem := by
  simp [clnMeasureTimeout] <;> (repeat' split) <;> simp

@[simp] theorem updAChan_mem (i : Nat) (f : AChan → AChan) (s : State) : (updAChan i f s).gl.mem = s.gl.mem := by
  simp [updAChan]

@[simp] theorem updLocker_mem (f : Nat) (g : Locker → Locker) (s : State) : (updLocker f g s).gl.mem = s.gl.mem := by
  simp [updLocker]

@[simp] theorem loseInc_mem (i : Nat) (s : State) : (loseInc i s).gl.mem = s.gl.mem := by
  simp [loseInc]

@[simp] theorem pushInc_mem (i : Nat) (x : Inc) (s : State) : (pushInc i x s).gl.mem = s.gl.mem := by
  simp [pushInc]

@[simp] theorem passCloses_mem (i : Nat) : ∀ (n : Nat) (s : State), (passCloses i n s).gl.mem = s.gl.mem
  | 0, _ => rfl
  | n + 1, s => by
    unfold passCloses
    split
    · rw [passCloses_mem i n]
      simp
    · rfl

@[simp] theorem markAmb_mem (es : List (Nat × Entry)) (s : State) : (markAmb es s).gl.mem = s.gl.mem := by
  simp [markAmb]

@[simp] theorem judgeStamp_outside_mem (i : Nat) (st : Stamp) (s : State) : (judgeStamp.outside i st s).gl.mem = s.gl.mem := by
  unfold judgeStamp.outside
  split <;> simp

@[simp] theorem judgeStamp_mem (i : Nat) (st : Stamp) (s : State) : (judgeStamp i st s).gl.mem = s.gl.mem := by
  unfold judgeStamp
  split
  · split
    · split <;> simp
    · simp
  · rw [foldl_mem]
    · split <;> simp
    · intro s b
      simp

@[simp] theorem stampAssignment_mem (i : Nat) (s : State) : (stampAssignment i s).gl.mem = s.gl.mem := by
  simp [stampAssignment] <;> (repeat' split) <;> simp

@[simp] theorem tokenLate_mem (i : Nat) (s : State) : (tokenLate i s).gl.mem = s.gl.mem := by
  simp [tokenLate]

@[simp] theorem dwellSat_mem (did : Nat) (s : State) : (dwellSat did s).gl.mem = s.gl.mem := by
  simp [dwellSat] <;> (repeat' split) <;> simp

@[simp] theorem incrementIssue_mem (i : Nat) (s : State) : (incrementIssue i s).gl.mem = s.gl.mem := by
  simp [incrementIssue] <;> (repeat' split) <;> simp

@[simp] theorem dwellEndToken_mem (i : Nat) (s : State) : (dwellEndToken i s).gl.mem = s.gl.mem := by
  simp [dwellEndToken] <;> (repeat' split) <;> simp

@[simp] theorem selectSnap_mem (d : Dwell) (s : State) : (selectSnap d s).gl.mem = s.gl.mem := by
  simp [selectSnap] <;> (repeat' split) <;> simp

@[simp] theorem swap_mem (i did : Nat) (s : State) : (swap i did s).gl.mem = s.gl.mem := by
  simp [swap] <;> (repeat' split) <;> simp

@[simp] theorem bufferSwap_mem (i : Nat) (s : State) : (bufferSwap i s).gl.mem = s.gl.mem := by
  simp [bufferSwap] <;> (repeat' split) <;> simp

@[simp] theorem snapCheck_mem (s : State) : (snapCheck s).gl.mem = s.gl.mem := by
  simp [snapCheck] <;> (repeat' split) <;> simp

@[simp] theorem snapFill_mem (i : Nat) (l : Lane) (s : State) : (snapFill i l s).gl.mem = s.gl.mem := by
  simp [snapFill] <;> (repeat' split) <;> simp

@[simp] theorem readoutPassEnd_mem (i : Nat) (s : State) : (readoutPassEnd i s).gl.mem = s.gl.mem := by
  simp [readoutPassEnd] <;> (repeat' split) <;> simp

@[simp] theorem traceDwell_mem (d : Dwell) (s : State) : (traceDwell d s).gl.mem = s.gl.mem := by
  simp [traceDwell]

@[simp] theorem flrst_mem (f : Nat) (s : State) : (flrst f s).gl.mem = s.gl.mem := by
  simp [flrst]

@[simp] theorem flrstEnd_mem (f : Nat) (s : State) : (flrstEnd f s).gl.mem = s.gl.mem := by
  simp [flrstEnd]

@[simp] theorem dropOpened_mem (s : State) : (dropOpened s).gl.mem = s.gl.mem := by
  simp [dropOpened]

@[simp] theorem snapDrop_mem (st : Status) (s : State) : (snapDrop st s).gl.mem = s.gl.mem := by
  simp [snapDrop] <;> (repeat' split) <;> simp

@[simp] theorem lockersOff_mem (s : State) : (lockersOff s).gl.mem = s.gl.mem := by
  simp [lockersOff]

@[simp] theorem clearBuffers_mem (s : State) : (clearBuffers s).gl.mem = s.gl.mem := by
  simp [clearBuffers]

@[simp] theorem histCfgOwn_mem (a1 : Ticket) (p : List Byte) (s : State) : (histCfgOwn a1 p s).s.gl.mem = s.gl.mem := by
  simp [histCfgOwn] <;> (repeat' split) <;> simp

@[simp] theorem setFtcfg_mem (f : W32) (s : State) : (setFtcfg f s).gl.mem = s.gl.mem := by
  simp [setFtcfg]

@[simp] theorem rejectCfgOwn_mem (a1 : Ticket) (p : List Byte) (s : State) :
    (rejectCfgOwn a1 p s).s.gl.mem = s.gl.mem := by
  simp [rejectCfgOwn] <;> (repeat' split) <;> simp

@[simp] theorem snapArm_mem (tk : Ticket) (p : List Byte) (s : State) : (snapArm tk p s).s.gl.mem = s.gl.mem := by
  simp [snapArm] <;> (repeat' split) <;> simp

@[simp] theorem snapRead_mem (p : List Byte) (s : State) : (snapRead p s).s.gl.mem = s.gl.mem := by
  simp [snapRead] <;> (repeat' split) <;> simp

@[simp] theorem snapInfo_mem (p : List Byte) (s : State) : (snapInfo p s).s.gl.mem = s.gl.mem := by
  simp [snapInfo] <;> (repeat' split) <;> simp

@[simp] theorem histSnapOwn_mem (tk : Ticket) (p : List Byte) (s : State) :
    (histSnapOwn tk p s).s.gl.mem = s.gl.mem := by
  simp [histSnapOwn] <;> (repeat' split) <;> simp

@[simp] theorem snapRow_mem (m : Nat) (row : List Byte → Bool) (s : State) : (snapRow m row s).gl.mem = s.gl.mem := by
  simp [snapRow]

@[simp] theorem snapTimeout_mem (s : State) : (snapTimeout s).gl.mem = s.gl.mem := by
  simp [snapTimeout] <;> (repeat' split) <;> simp

@[simp] theorem extractionPhase1_mem (i : Nat) (s : State) : (extractionPhase1 i s).gl.mem = s.gl.mem := by
  simp [extractionPhase1]

@[simp] theorem markStream_mem (e : W16) (s : State) : (markStream e s).gl.mem = s.gl.mem := by
  simp [markStream]

@[simp] theorem streamStart_mem (s : State) : (streamStart s).gl.mem = s.gl.mem := by
  simp [streamStart]

@[simp] theorem streamStop_mem (s : State) : (streamStop s).gl.mem = s.gl.mem := by
  simp [streamStop]

@[simp] theorem settleEpoch_mem (s : State) : (settleEpoch s).gl.mem = s.gl.mem := by
  simp [settleEpoch]

@[simp] theorem laneGood_mem (d : Dwell) (f : Nat) (s : State) : (laneGood d f s).gl.mem = s.gl.mem := by
  simp [laneGood]

@[simp] theorem placeDwell_mem (d : Dwell) (s : State) : (placeDwell d s).gl.mem = s.gl.mem := by
  simp [placeDwell]

@[simp] theorem placeDwells_mem : ∀ (n : Nat) (s : State), (placeDwells n s).gl.mem = s.gl.mem
  | 0, s => by
    unfold placeDwells
    simp
  | n + 1, s => by
    unfold placeDwells
    split
    · split
      · rw [placeDwells_mem n]
        simp
      · simp
    · simp

@[simp] theorem extractionPhase2_mem (i : Nat) (s : State) : (extractionPhase2 i s).gl.mem = s.gl.mem := by
  simp [extractionPhase2] <;> (repeat' split) <;> simp

@[simp] theorem dwellJoin_mem (s : State) : (dwellJoin s).gl.mem = s.gl.mem := by
  simp [dwellJoin] <;> (repeat' split) <;> simp

@[simp] theorem laneLate_mem (f : Nat) (s : State) : (laneLate f s).gl.mem = s.gl.mem := by
  simp [laneLate]

@[simp] theorem setTracker_mem (f t : Nat) (r : Tracker × List Nat) (s : State) :
    (setTracker f t r s).gl.mem = s.gl.mem := by
  simp [setTracker]

@[simp] theorem trackHit_mem (f : Nat) (t : Stamp) (k : Nat) (s : State) : (trackHit f t k s).gl.mem = s.gl.mem := by
  simp [trackHit]

@[simp] theorem clusterClose_mem (f : Nat) (outside : Bool) (s : State) :
    (clusterClose f outside s).gl.mem = s.gl.mem := by
  simp [clusterClose] <;> (repeat' split) <;> simp

@[simp] theorem startTracker_mem (f p : Nat) (t : Stamp) (s : State) : (startTracker f p t s).gl.mem = s.gl.mem := by
  simp [startTracker] <;> (repeat' split) <;> simp

@[simp] theorem acquisitionEnd_mem (f : Nat) (s : State) : (acquisitionEnd f s).gl.mem = s.gl.mem := by
  simp [acquisitionEnd] <;> (repeat' split) <;> simp

@[simp] theorem trackerMiss_mem (f k : Nat) (s : State) : (trackerMiss f k s).gl.mem = s.gl.mem := by
  simp [trackerMiss]

@[simp] theorem traceStamp_mem (i era : Nat) (w : QWord) (s : State) : (traceStamp i era w s).gl.mem = s.gl.mem := by
  simp [traceStamp]

@[simp] theorem tapWord_mem (i : Nat) (e : QEntry) (s : State) : (tapWord i e s).gl.mem = s.gl.mem := by
  simp [tapWord] <;> (repeat' split) <;> simp

@[simp] theorem vetoed_mem (i : Nat) (s : State) : (vetoed i s).gl.mem = s.gl.mem := by
  simp [vetoed]

@[simp] theorem gateStamp_mem (i : Nat) (st : Stamp) (s : State) : (gateStamp i st s).gl.mem = s.gl.mem := by
  simp [gateStamp]

@[simp] theorem toLedger_mem (i : Nat) (w : QWord) (s : State) : (toLedger i w s).gl.mem = s.gl.mem := by
  simp [toLedger] <;> (repeat' split) <;> simp

@[simp] theorem toFire_mem (i : Nat) (w : QWord) (s : State) : (toFire i w s).gl.mem = s.gl.mem := by
  simp [toFire] <;> (repeat' split) <;> simp

@[simp] theorem consume_mem (i : Nat) (w : QWord) (s : State) : (consume i w s).gl.mem = s.gl.mem := by
  simp [consume]

@[simp] theorem queuePop_mem (i : Nat) (s : State) : (queuePop i s).gl.mem = s.gl.mem := by
  simp [queuePop] <;> (repeat' split) <;> simp

@[simp] theorem traceMark_mem (e : W16) (s : State) : (traceMark e s).gl.mem = s.gl.mem := by
  simp [traceMark]

@[simp] theorem epochAdvance_mem (s : State) : (epochAdvance s).gl.mem = s.gl.mem := by
  simp [epochAdvance]

@[simp] theorem tbCycle_mem (s : State) : (tbCycle s).gl.mem = s.gl.mem := by
  simp [tbCycle]

@[simp] theorem coarseWrap_mem (s : State) : (coarseWrap s).gl.mem = s.gl.mem := by
  simp [coarseWrap]

@[simp] theorem loadTime_mem (k : Coarse) (e : W16) (s : State) : (loadTime k e s).gl.mem = s.gl.mem := by
  simp [loadTime]

@[simp] theorem epochSetOwn_mem (tk : Ticket) (p : List Byte) (s : State) :
    (epochSetOwn tk p s).s.gl.mem = s.gl.mem := by
  simp [epochSetOwn]

@[simp] theorem epochSetApply_mem (s : State) : (epochSetApply s).gl.mem = s.gl.mem := by
  simp [epochSetApply] <;> (repeat' split) <;> simp

@[simp] theorem dropEpoch_mem (st : Status) (s : State) : (dropEpoch st s).gl.mem = s.gl.mem := by
  simp [dropEpoch] <;> (repeat' split) <;> simp

@[simp] theorem epochSetTimeout_mem (s : State) : (epochSetTimeout s).gl.mem = s.gl.mem := by
  simp [epochSetTimeout]

@[simp] theorem latchMarker_mem (dly : Int) (s : State) : (latchMarker dly s).gl.mem = s.gl.mem := by
  simp [latchMarker] <;> (repeat' split) <;> simp

@[simp] theorem timeMarker_mem (s : State) : (timeMarker s).gl.mem = s.gl.mem := by
  simp [timeMarker] <;> (repeat' split) <;> simp

@[simp] theorem refuseHost_mem (s : State) : (refuseHost s).gl.mem = s.gl.mem := by
  simp [refuseHost]

@[simp] theorem badFrame_mem (s : State) : (badFrame s).gl.mem = s.gl.mem := by
  simp [badFrame]

@[simp] theorem acceptCommand_mem (m : Nat) (b : List Byte) (src : Peer) (s : State) :
    (acceptCommand m b src s).gl.mem = s.gl.mem := by
  simp [acceptCommand]

@[simp] theorem repeatAnswer_mem (m : Nat) (src : Peer) (s : State) : (repeatAnswer m src s).gl.mem = s.gl.mem := by
  simp [repeatAnswer] <;> (repeat' split) <;> simp

@[simp] theorem judgeCommand_mem (b : List Byte) (src : Peer) (s : State) :
    (judgeCommand b src s).gl.mem = s.gl.mem := by
  simp [judgeCommand] <;> (repeat' split) <;> simp

@[simp] theorem polcorFrame_mem (b : List Byte) (src : Peer) (s : State) : (polcorFrame b src s).gl.mem = s.gl.mem := by
  simp [polcorFrame]

@[simp] theorem wakePort_mem (p : Nat) (s : State) : (wakePort p s).gl.mem = s.gl.mem := by
  simp [wakePort]

@[simp] theorem ipFrame_mem (p : Nat) (f : RxFrame) (ip : RxIp) (s : State) : (ipFrame p f ip s).gl.mem = s.gl.mem := by
  simp [ipFrame] <;> (repeat' split) <;> simp

@[simp] theorem frameReceive_mem (p : Nat) (f : RxFrame) (s : State) : (frameReceive p f s).gl.mem = s.gl.mem := by
  simp [frameReceive] <;> (repeat' split) <;> simp

@[simp] theorem arpOut_mem (p : Nat) (mac : Option (BitVec 48)) (target : W32) (s : State) :
    (arpOut p mac target s).gl.mem = s.gl.mem := by
  simp [arpOut]

@[simp] theorem arpReceive_mem (p : Nat) (a : ArpMsg) (s : State) : (arpReceive p a s).gl.mem = s.gl.mem := by
  simp [arpReceive]

@[simp] theorem icmpEcho_mem (p : Nat) (e : EchoMsg) (s : State) : (icmpEcho p e s).gl.mem = s.gl.mem := by
  simp [icmpEcho]

@[simp] theorem askArp_mem (p : Nat) (s : State) : (askArp p s).gl.mem = s.gl.mem := by
  simp [askArp]

@[simp] theorem arpUnresolved_mem (p : Nat) (s : State) : (arpUnresolved p s).gl.mem = s.gl.mem := by
  simp [arpUnresolved]

@[simp] theorem announce_mem (p : Nat) (s : State) : (announce p s).gl.mem = s.gl.mem := by
  simp [announce]

@[simp] theorem becomeActive_mem (q : Nat) (again : List Frame) (s : State) :
    (becomeActive q again s).gl.mem = s.gl.mem := by
  simp [becomeActive] <;> (repeat' split) <;> simp

@[simp] theorem applyLinkCfg_mem (new : LinkRegs) (s : State) : (applyLinkCfg new s).gl.mem = s.gl.mem := by
  simp [applyLinkCfg] <;> (repeat' split) <;> simp

@[simp] theorem linkCfgGone_mem (m : Nat) (seq : W16) (s : State) : (linkCfgGone m seq s).gl.mem = s.gl.mem := by
  simp [linkCfgGone] <;> (repeat' split) <;> simp

@[simp] theorem responseGone_mem (m : Nat) (s : State) : (responseGone m s).gl.mem = s.gl.mem := by
  simp [responseGone] <;> (repeat' split) <;> simp

@[simp] theorem frameGone_mem (f : Frame) (s : State) : (frameGone f s).gl.mem = s.gl.mem := by
  simp [frameGone]

@[simp] theorem stampEvent_mem (p : Nat) (f : Frame) (s : State) : (stampEvent p f s).2.gl.mem = s.gl.mem := by
  unfold stampEvent
  repeat' split
  all_goals simp

@[simp] theorem countFrame_mem (p : Nat) (o : Out) (s : State) : (countFrame p o s).gl.mem = s.gl.mem := by
  simp [countFrame] <;> (repeat' split) <;> simp

@[simp] theorem keepFrame_mem (f : Frame) (s : State) : (keepFrame f s).gl.mem = s.gl.mem := by
  simp [keepFrame]

@[simp] theorem leave_mem (p : Nat) (o : Out) (s : State) : (leave p o s).gl.mem = s.gl.mem := by
  unfold leave
  split <;> simp

@[simp] theorem captureFrame_mem (x : Stream) (s : State) : (captureFrame x s).2.gl.mem = s.gl.mem := by
  simp [captureFrame]

@[simp] theorem sendCapture_mem (p : Nat) (s : State) : (sendCapture p s).gl.mem = s.gl.mem := by
  unfold sendCapture
  split
  · split <;> simp
  · rfl

@[simp] theorem sendLow_mem (p : Nat) (s : State) : (sendLow p s).gl.mem = s.gl.mem := by
  simp [sendLow] <;> (repeat' split) <;> simp

@[simp] theorem transmit_mem (p : Nat) (s : State) : (transmit p s).gl.mem = s.gl.mem := by
  simp [transmit] <;> (repeat' split) <;> simp

@[simp] theorem frameTransmit_mem (p : Nat) (s : State) : (frameTransmit p s).gl.mem = s.gl.mem := by
  simp [frameTransmit]

@[simp] theorem notification_mem (s : State) : (notification s).gl.mem = s.gl.mem := by
  simp [notification]

@[simp] theorem phyUp_mem (p : Nat) (s : State) : (phyUp p s).gl.mem = s.gl.mem := by
  simp [phyUp]

@[simp] theorem portUp_mem (p : Nat) (s : State) : (portUp p s).gl.mem = s.gl.mem := by
  simp [portUp]

@[simp] theorem dropOwn_mem (p : Nat) (s : State) : (dropOwn p s).gl.mem = s.gl.mem := by
  unfold dropOwn
  simp only []
  rw [foldl_mem]
  · simp
  · intro s b
    split <;> simp

@[simp] theorem noPort_mem (p : Nat) (s : State) : (noPort p s).gl.mem = s.gl.mem := by
  simp [noPort]

@[simp] theorem goDown_mem (p : Nat) (s : State) : (goDown p s).gl.mem = s.gl.mem := by
  simp [goDown]

@[simp] theorem portDown_mem (p : Nat) (s : State) : (portDown p s).gl.mem = s.gl.mem := by
  simp [portDown]

@[simp] theorem keepaliveExpiry_mem (p : Nat) (s : State) : (keepaliveExpiry p s).gl.mem = s.gl.mem := by
  simp [keepaliveExpiry]

@[simp] theorem linkCfgOwn_mem (tk : Ticket) (b : List Byte) (s : State) : (linkCfgOwn tk b s).s.gl.mem = s.gl.mem := by
  unfold linkCfgOwn
  simp only []
  repeat' split
  all_goals simp

@[simp] theorem linkCfg_mem (m : Nat) (s : State) : (linkCfg m s).gl.mem = s.gl.mem := by
  simp [linkCfg] <;> (repeat' split) <;> simp

@[simp] theorem misoOut_mem (st : Byte) (bs : List Byte) (s : State) : (misoOut st bs s).gl.mem = s.gl.mem := by
  simp [misoOut]

@[simp] theorem spiWrite_mem (b : List Byte) (s : State) : (spiWrite b s).gl.mem = s.gl.mem := by
  simp [spiWrite]

@[simp] theorem spiGone_mem (f : Frame) (s : State) : (spiGone f s).gl.mem = s.gl.mem := by
  simp [spiGone] <;> (repeat' split) <;> simp

@[simp] theorem spiRemove_mem (c : Nat) (f : Frame) (s : State) : (spiRemove c f s).gl.mem = s.gl.mem := by
  simp [spiRemove]

theorem spiHead_mem {s : State} {c : Nat} {f : Frame} {t : State} (h : s.spiHead = some (c, f, t)) : t.gl.mem = s.gl.mem := by
  unfold State.spiHead at h
  split at h
  · split at h
    · simp only [Option.some.injEq, Prod.mk.injEq] at h
      rw [← h.2.2, stampEvent_mem]
    · cases h
  · cases h

@[simp] theorem spiRead_mem (n : Nat) (s : State) : (spiRead n s).gl.mem = s.gl.mem := by
  unfold spiRead
  simp only []
  split
  · rename_i h
    split
    · simp [spiHead_mem h]
    · simp
  · simp

@[simp] theorem spiStatus_mem (s : State) : (spiStatus s).gl.mem = s.gl.mem := by
  simp [spiStatus]

@[simp] theorem spiOther_mem (instr : Byte) (clocked : Nat) (s : State) :
    (spiOther instr clocked s).gl.mem = s.gl.mem := by
  simp [spiOther]

@[simp] theorem selfTest_mem (t : SelfTest) (s : State) : (selfTest t s).gl.mem = s.gl.mem := by
  simp [selfTest]

@[simp] theorem clearHolds_mem (s : State) : (clearHolds s).gl.mem = s.gl.mem := by
  simp [clearHolds]

@[simp] theorem stopRanging_mem (s : State) : (stopRanging s).gl.mem = s.gl.mem := by
  simp [stopRanging]

@[simp] theorem takeSource_mem (m : Mode) (s : State) : (takeSource m s).gl.mem = s.gl.mem := by
  simp [takeSource] <;> (repeat' split) <;> simp

@[simp] theorem leaveLimp_mem (m : Mode) (s : State) : (leaveLimp m s).gl.mem = s.gl.mem := by
  simp [leaveLimp]

@[simp] theorem syncsLow_mem (s : State) : (syncsLow s).gl.mem = s.gl.mem := by
  simp [syncsLow]

@[simp] theorem enterRest_mem (old t : Mode) (s : State) : (enterRest old t s).gl.mem = s.gl.mem := by
  simp [enterRest] <;> (repeat' split) <;> simp

@[simp] theorem enterRanging_mem (old t : Mode) (s : State) : (enterRanging old t s).gl.mem = s.gl.mem := by
  simp [enterRanging]

@[simp] theorem wake_mem (s : State) : (wake s).gl.mem = s.gl.mem := by
  simp [wake]

@[simp] theorem arrive_mem (t : Mode) (s : State) : (arrive t s).gl.mem = s.gl.mem := by
  simp [arrive]

@[simp] theorem enterLimp_mem (s : State) : (enterLimp s).gl.mem = s.gl.mem := by
  simp [enterLimp] <;> (repeat' split) <;> simp

@[simp] theorem limpEntry_mem (s : State) : (limpEntry s).gl.mem = s.gl.mem := by
  unfold limpEntry ownChange
  split <;> simp

@[simp] theorem backFromLimp_mem (s : State) : (backFromLimp s).gl.mem = s.gl.mem := by
  simp [backFromLimp] <;> (repeat' split) <;> simp

@[simp] theorem limpReturn_mem (s : State) : (limpReturn s).gl.mem = s.gl.mem := by
  unfold limpReturn ownChange
  split <;> simp

@[simp] theorem lateChange_mem (s : State) : (lateChange s).gl.mem = s.gl.mem := by
  simp [lateChange] <;> (repeat' split) <;> simp

@[simp] theorem limpPendClear_mem (s : State) : (limpPendClear s).gl.mem = s.gl.mem := by
  simp [limpPendClear]

@[simp] theorem setStep_mem (n : Nat) (s : State) : (setStep n s).gl.mem = s.gl.mem := by
  simp [setStep]

@[simp] theorem sensorFails_mem (k : Nat) (s : State) : (sensorFails k s).gl.mem = s.gl.mem := by
  simp [sensorFails]

@[simp] theorem unbias_mem (k : Nat) (s : State) : (unbias k s).gl.mem = s.gl.mem := by
  simp [unbias]

@[simp] theorem sensorRecovers_mem (k : Nat) (s : State) : (sensorRecovers k s).gl.mem = s.gl.mem := by
  simp [sensorRecovers]

@[simp] theorem goodConversion_mem (k : Nat) (t : Int) (s : State) : (goodConversion k t s).gl.mem = s.gl.mem := by
  simp [goodConversion]

@[simp] theorem badConversion_mem (k : Nat) (s : State) : (badConversion k s).gl.mem = s.gl.mem := by
  simp [badConversion]

@[simp] theorem sensorConversion_mem (k : Nat) (c : Conversion) (s : State) :
    (sensorConversion k c s).gl.mem = s.gl.mem := by
  simp [sensorConversion] <;> (repeat' split) <;> simp

@[simp] theorem judgeLead_mem (k : Nat) (s : State) : (judgeLead k s).gl.mem = s.gl.mem := by
  simp [judgeLead] <;> (repeat' split) <;> simp

@[simp] theorem judgeLeads_mem (s : State) : (judgeLeads s).gl.mem = s.gl.mem := by
  simp [judgeLeads] <;> (repeat' split) <;> simp

@[simp] theorem evaluate_mem (s : State) : (evaluate s).gl.mem = s.gl.mem := by
  simp [evaluate] <;> (repeat' split) <;> simp

@[simp] theorem throttleEvaluation_mem (s : State) : (throttleEvaluation s).gl.mem = s.gl.mem := by
  simp [throttleEvaluation]

@[simp] theorem thermLimits_mem (p : List Byte) (s : State) : (thermLimits p s).s.gl.mem = s.gl.mem := by
  simp [thermLimits] <;> (repeat' split) <;> simp

@[simp] theorem thermSensor_mem (p : List Byte) (s : State) : (thermSensor p s).s.gl.mem = s.gl.mem := by
  simp [thermSensor]

@[simp] theorem thermOwn_mem (a1 : Ticket) (p : List Byte) (s : State) : (thermOwn a1 p s).s.gl.mem = s.gl.mem := by
  simp [thermOwn] <;> (repeat' split) <;> simp

@[simp] theorem thermRow_mem (m : Nat) (row : List Byte → Bool) (s : State) : (thermRow m row s).gl.mem = s.gl.mem := by
  simp [thermRow]

@[simp] theorem fillTokens_mem (s : State) : (fillTokens s).gl.mem = s.gl.mem := by
  simp [fillTokens]

@[simp] theorem writeLog_mem (e : LogEntry) (s : State) : (writeLog e s).gl.mem = s.gl.mem := by
  simp [writeLog]

@[simp] theorem faultLogEntry_mem (s : State) : (faultLogEntry s).gl.mem = s.gl.mem := by
  simp [faultLogEntry] <;> (repeat' split) <;> simp

@[simp] theorem sendRec_mem (r : TraceRec) (s : State) : (sendRec r s).gl.mem = s.gl.mem := by
  simp [sendRec]

@[simp] theorem releaseTrace_mem (s : State) : (releaseTrace s).gl.mem = s.gl.mem := by
  simp [releaseTrace] <;> (repeat' split) <;> simp

@[simp] theorem sendNext_mem (s : State) : (sendNext s).gl.mem = s.gl.mem := by
  simp [sendNext] <;> (repeat' split) <;> simp

@[simp] theorem traceSend_mem (s : State) : (traceSend s).gl.mem = s.gl.mem := by
  simp [traceSend] <;> (repeat' split) <;> simp

@[simp] theorem traceTime_mem (s : State) : (traceTime s).gl.mem = s.gl.mem := by
  simp [traceTime]

@[simp] theorem traceBurst_mem (s : State) : (traceBurst s).gl.mem = s.gl.mem := by
  simp [traceBurst]

@[simp] theorem latchCounters_mem (s : State) : (latchCounters s).gl.mem = s.gl.mem := by
  simp [latchCounters]

@[simp] theorem dumpQueue_mem (v : W32) (s : State) : (dumpQueue v s).gl.mem = s.gl.mem := by
  simp [dumpQueue]

@[simp] theorem scrubRead_mem (r : ReadResult) (s : State) : (scrubRead r s).gl.mem = s.gl.mem := by
  simp [scrubRead] <;> (repeat' split) <;> simp

@[simp] theorem correctionRewrite_mem (s : State) : (correctionRewrite s).gl.mem = s.gl.mem := by
  simp [correctionRewrite] <;> (repeat' split) <;> simp

@[simp] theorem tapClock_mem (s : State) (c : Tck) : (tapClock s c).gl.mem = s.gl.mem := by
  simp [tapClock] <;> (repeat' split) <;> simp

@[simp] theorem jtagRun_mem (code : BitVec 4) (clocks : List Tck) (s : State) :
    (jtagRun code clocks s).gl.mem = s.gl.mem := by
  simp [jtagRun] <;> (repeat' split) <;> simp

@[simp] theorem jtagSample_mem (p : BitVec 24) (clocks : List Tck) (s : State) :
    (jtagSample p clocks s).gl.mem = s.gl.mem := by
  simp [jtagSample]

set_option maxRecDepth 20000 in

@[simp] theorem rcClear_mem (a : Nat) (s : State) : (rcClear a s).gl.mem = s.gl.mem := by
  unfold rcClear
  repeat' split
  all_goals simp

@[simp] theorem latchRead_mem (a : Nat) (s : State) : (latchRead a s).gl.mem = s.gl.mem := by
  simp [latchRead] <;> (repeat' split) <;> simp

@[simp] theorem regRead_mem (a : Nat) (s : State) : (regRead a s).2.gl.mem = s.gl.mem := by
  simp [regRead]

@[simp] theorem readWords_mem : ∀ (as : List Nat) (s : State), (readWords as s).2.gl.mem = s.gl.mem
  | [], _ => rfl
  | a :: as, s => by
    unfold readWords
    simp [readWords_mem as]

@[simp] theorem regRdOwn_mem (reads : Reads) (tk : Ticket) (p : List Byte) (s : State) :
    (regRdOwn reads tk p s).s.gl.mem = s.gl.mem := by
  unfold regRdOwn
  split <;> simp

theorem writeGl_mem {g : Gallery} {s t : State} (hg : g.mem = s.gl.mem) (h : writeGl g s = .ok t) : t.gl.mem = s.gl.mem := by
  unfold writeGl refuse at h
  split at h
  · cases h
  · cases h
    exact hg

@[simp] theorem evTest_mem (v : W32) (s : State) : (evTest v s).gl.mem = s.gl.mem := by
  simp [evTest]

set_option maxRecDepth 20000 in

theorem writeReg_mem {a : Nat} {v : W32} {s t : State} (h : writeReg a v s = .ok t) : t.gl.mem = s.gl.mem := by
  unfold writeReg at h
  simp only [writeTbCfg, writeTbHold, writeChCfg, writeF32Sel, writeCaCfg, writeCaSel, writeShCfg, writeFbwin, writeServe,
    writeEmCfg, writeBlCfg, writeBlPcfg, writeGlCfg, writeTrgCfg, writeTrcfg, writeTrdump, refuse, badField] at h
  repeat' split at h
  all_goals first
    | (cases h; simp; done)
    | (cases h; rfl)
    | (exact writeGl_mem (by first | rfl | trivial) h)
    | (cases h; done)

theorem writeTriples_mem : ∀ (n k : Nat) (p : List Byte) {s t : State}, writeTriples p n k s = .ok t → t.gl.mem = s.gl.mem
  | 0, _, _, _, _, h => by cases h; rfl
  | n + 1, k, p, s, t, h => by
    unfold writeTriples at h
    split at h
    · rename_i s' hs
      rw [writeTriples_mem n (k + 1) p h]
      unfold writeTriple refuse at hs
      simp only [] at hs
      split at hs
      · cases hs
      · split at hs
        · cases hs
        · exact writeReg_mem hs
    · cases h

@[simp] theorem regWrOwn_mem (a1 : Ticket) (p : List Byte) (s : State) : (regWrOwn a1 p s).s.gl.mem = s.gl.mem := by
  unfold regWrOwn
  simp only []
  split
  · simp
  · split
    · rename_i h
      simp [writeTriples_mem _ _ _ h]
    · simp

@[simp] theorem identOwn_mem (a1 : Ticket) (a2 : List Byte) (s : State) : (identOwn a1 a2 s).s.gl.mem = s.gl.mem := by
  simp [identOwn]

@[simp] theorem pingOwn_mem (a1 : Ticket) (p : List Byte) (s : State) : (pingOwn a1 p s).s.gl.mem = s.gl.mem := by
  simp [pingOwn]

@[simp] theorem ping_mem (m : Nat) (s : State) : (ping m s).gl.mem = s.gl.mem := by
  simp [ping]

@[simp] theorem takeLearn_mem (ws : List (Nat × W32)) (s : State) : (takeLearn ws s).gl.mem = s.gl.mem := by
  simp [takeLearn]

@[simp] theorem pregWrOwn_mem (a1 : Ticket) (p : List Byte) (s : State) : (pregWrOwn a1 p s).s.gl.mem = s.gl.mem := by
  unfold pregWrOwn
  split
  · simp
  · simp only []
    split <;> simp

@[simp] theorem pregWearOwn_mem (a1 : Ticket) (p : List Byte) (s : State) :
    (pregWearOwn a1 p s).s.gl.mem = s.gl.mem := by
  simp [pregWearOwn]

@[simp] theorem evtMaskOwn_mem (a1 : Ticket) (p : List Byte) (s : State) : (evtMaskOwn a1 p s).s.gl.mem = s.gl.mem := by
  simp [evtMaskOwn]

@[simp] theorem restartGroup_mem (g : Nat) (s : State) : (restartGroup g s).gl.mem = s.gl.mem := by
  simp [restartGroup]

@[simp] theorem evtReadOwn_mem (a1 : Ticket) (p : List Byte) (s : State) : (evtReadOwn a1 p s).s.gl.mem = s.gl.mem := by
  simp [evtReadOwn]

@[simp] theorem clearNext_mem (s : State) : (clearNext s).gl.mem = s.gl.mem := by
  simp [clearNext] <;> (repeat' split) <;> simp

@[simp] theorem evtClearOwn_mem (tk : Ticket) (p : List Byte) (s : State) :
    (evtClearOwn tk p s).s.gl.mem = s.gl.mem := by
  simp [evtClearOwn] <;> (repeat' split) <;> simp

@[simp] theorem evtClear_mem (m : Nat) (s : State) : (evtClear m s).gl.mem = s.gl.mem := by
  simp [evtClear] <;> (repeat' split) <;> simp

@[simp] theorem planHost_mem (i x : Nat) (s : State) : (planHost i x s).s.gl.mem = s.gl.mem := by
  simp [planHost]

@[simp] theorem swapOwn_mem (p : List Byte) (s : State) : (swapOwn p s).s.gl.mem = s.gl.mem := by
  simp [swapOwn]

@[simp] theorem homeOwn_mem (p : List Byte) (s : State) : (homeOwn p s).s.gl.mem = s.gl.mem := by
  simp [homeOwn]

@[simp] theorem retireOwn_mem (p : List Byte) (s : State) : (retireOwn p s).s.gl.mem = s.gl.mem := by
  simp [retireOwn]

@[simp] theorem memretOwn_mem (p : List Byte) (s : State) : (memretOwn p s).s.gl.mem = s.gl.mem := by
  simp [memretOwn]

@[simp] theorem memclrOwn_mem (s : State) : (memclrOwn s).s.gl.mem = s.gl.mem := by
  simp [memclrOwn]

@[simp] theorem spareOwn_mem (a1 : Ticket) (p : List Byte) (s : State) : (spareOwn a1 p s).s.gl.mem = s.gl.mem := by
  simp [spareOwn] <;> (repeat' split) <;> simp

@[simp] theorem spareRow_mem (m : Nat) (row : List Byte → Bool) (s : State) : (spareRow m row s).gl.mem = s.gl.mem := by
  simp [spareRow]

@[simp] theorem faultLogOwn_mem (reads : Reads) (a1 : Ticket) (p : List Byte) (s : State) :
    (faultLogOwn reads a1 p s).s.gl.mem = s.gl.mem := by
  unfold faultLogOwn
  dsimp only
  repeat' split
  all_goals simp

@[simp] theorem cutShort_mem (m k : Nat) (s : State) : (cutShort m k s).gl.mem = s.gl.mem := by
  unfold cutShort
  simp only []
  split <;> simp

@[simp] theorem cutWords_mem (m : Option Nat) (k : Nat) (s : State) : (cutWords m k s).gl.mem = s.gl.mem := by
  unfold cutWords
  repeat' split
  all_goals first | rfl | simp

@[simp] theorem cancelAdmission_mem (s : State) : (cancelAdmission s).gl.mem = s.gl.mem := by
  simp [cancelAdmission] <;> (repeat' split) <;> simp

@[simp] theorem cancelEnvLoad_mem (k : Nat) (s : State) : (cancelEnvLoad k s).gl.mem = s.gl.mem := by
  unfold cancelEnvLoad
  split <;> simp

@[simp] theorem haltLodge_mem (envWords : Nat) (s : State) : (haltLodge envWords s).gl.mem = s.gl.mem := by
  simp [haltLodge]

@[simp] theorem restartLodge_mem (cut : Option Nat) (envWords : Nat) (s : State) :
    (restartLodge cut envWords s).gl.mem = s.gl.mem := by
  simp [restartLodge]

@[simp] theorem lockstepMismatch_mem (cut : Option Nat) (words envWords : Nat) (s : State) :
    (lockstepMismatch cut words envWords s).gl.mem = s.gl.mem := by
  simp [lockstepMismatch] <;> (repeat' split) <;> simp

@[simp] theorem lodgeRestartEnd_mem (s : State) : (lodgeRestartEnd s).gl.mem = s.gl.mem := by
  simp [lodgeRestartEnd] <;> (repeat' split) <;> simp

@[simp] theorem resetWords_mem (c : Cut) (s : State) : (resetWords c s).gl.mem = s.gl.mem := by
  unfold resetWords
  dsimp only
  repeat' split
  all_goals simp

@[simp] theorem loadTb_mem (s : State) : (loadTb s).gl.mem = s.gl.mem := by
  simp [loadTb]

@[simp] theorem loadMasks_mem (s : State) : (loadMasks s).gl.mem = s.gl.mem := by
  simp [loadMasks]

@[simp] theorem loadLink_mem (s : State) : (loadLink s).gl.mem = s.gl.mem := by
  simp [loadLink]

@[simp] theorem loadCln_mem (s : State) : (loadCln s).gl.mem = s.gl.mem := by
  simp [loadCln]

@[simp] theorem loadTherm_mem (s : State) : (loadTherm s).gl.mem = s.gl.mem := by
  simp [loadTherm]

@[simp] theorem loadLines_mem (s : State) : (loadLines s).gl.mem = s.gl.mem := by
  simp [loadLines]

@[simp] theorem loadCores_mem (s : State) : (loadCores s).gl.mem = s.gl.mem := by
  simp [loadCores]

@[simp] theorem loadGallery_mem (s : State) : (loadGallery s).gl.mem = s.gl.mem := by
  simp [loadGallery]

@[simp] theorem loadLog_mem (s : State) : (loadLog s).gl.mem = s.gl.mem := by
  simp [loadLog]

@[simp] theorem loadWords_mem (s : State) : (loadWords s).gl.mem = s.gl.mem := by
  simp [loadWords]

@[simp] theorem factoryCheck_mem (s : State) : (factoryCheck s).gl.mem = s.gl.mem := by
  simp [factoryCheck]

@[simp] theorem recount_mem (s : State) : (recount s).gl.mem = s.gl.mem := by
  simp [recount] <;> (repeat' split) <;> simp

@[simp] theorem startUpEnd_mem (s : State) : (startUpEnd s).gl.mem = s.gl.mem := by
  simp [startUpEnd]

@[simp] theorem finishSelfTest_mem (test : SelfTest) (s : State) : (finishSelfTest test s).gl.mem = s.gl.mem := by
  simp [finishSelfTest]

@[simp] theorem readErrors_mem (reads : Reads) (s : State) : (readErrors reads s).gl.mem = s.gl.mem := by
  simp [readErrors] <;> (repeat' split) <;> simp

@[simp] theorem tick_mem (s : State) : (tick s).gl.mem = s.gl.mem := by
  simp [tick]

@[simp] theorem idle_mem (s : State) : (idle s).gl.mem = s.gl.mem := by
  simp [idle]

end Sys2Proof.Machine
end

