-- ==== Sys2Proof/Laws/KeepsMode.lean ====
section
/-!
SUPPORT. KeepsMode.lean: the mode in force is left alone by every operation but those of a mode change, of LIMP and of a reset: one lemma per operation.
-/
set_option Elab.async false

namespace Sys2Proof.Machine

@[simp] theorem ite_mode {c : Prop} [Decidable c] (a b : State) :
    (if c then a else b).th.mode = if c then a.th.mode else b.th.mode := by split <;> rfl

@[simp] theorem reply_ite_mode {c : Prop} [Decidable c] (a b : Reply) :
    (if c then a else b).s.th.mode = if c then a.s.th.mode else b.s.th.mode := by split <;> rfl

/-- A loop keeps it where its body does. -/
@[simp] theorem foldl_mode {β : Type} (f : State → β → State) (h : ∀ s b, (f s b).th.mode = s.th.mode) :
    ∀ (l : List β) (s : State), (l.foldl f s).th.mode = s.th.mode
  | [], _ => rfl
  | b :: l, s => by rw [List.foldl_cons, foldl_mode f h l (f s b), h]

@[simp] theorem State.pushStamped_mode (s : State) (e : Nat) (r : TraceRec) :
    (State.pushStamped s e r).th.mode = s.th.mode := by
  simp [State.pushStamped] <;> (repeat' split) <;> simp

@[simp] theorem count_mode (n k : Nat) (s : State) : (count n k s).th.mode = s.th.mode := by
  simp [count]

@[simp] theorem raises_mode (ns : List Nat) (s : State) : (raises ns s).th.mode = s.th.mode := by
  unfold raises
  dsimp only
  split <;> rfl

@[simp] theorem raise_mode (n : Nat) (s : State) : (raise n s).th.mode = s.th.mode := by
  simp [raise]

@[simp] theorem raiseIf_mode (b : Bool) (n : Nat) (s : State) : (raiseIf b n s).th.mode = s.th.mode := by
  simp [raiseIf]

@[simp] theorem updSens_mode (k : Nat) (f : Sensor → Sensor) (s : State) : (updSens k f s).th.mode = s.th.mode := by
  simp [updSens]

@[simp] theorem settle_mode (s : State) : (settle s).th.mode = s.th.mode := by
  simp [settle]

@[simp] theorem detects_mode (fs : List Found) (s : State) : (detects fs s).th.mode = s.th.mode := by
  simp [detects]

@[simp] theorem detect_mode (code unit action : Nat) (stays : Bool) (s : State) :
    (detect code unit action stays s).th.mode = s.th.mode := by
  simp [detect]

@[simp] theorem repairId_mode (id : FaultId) (action : Nat) (s : State) :
    (repairId id action s).th.mode = s.th.mode := by
  simp [repairId] <;> (repeat' split) <;> simp

@[simp] theorem repair_mode (code unit action : Nat) (s : State) : (repair code unit action s).th.mode = s.th.mode := by
  simp [repair]

@[simp] theorem updSlot_mode (k : Nat) (f : MSlot → MSlot) (s : State) : (updSlot k f s).th.mode = s.th.mode := by
  simp [updSlot]

@[simp] theorem updSync_mode (n : Nat) (f : Sync → Sync) (s : State) : (updSync n f s).th.mode = s.th.mode := by
  simp [updSync]

@[simp] theorem startWaiters_mode (n : Nat) (t : Coarse) (s : State) : (startWaiters n t s).th.mode = s.th.mode := by
  simp [startWaiters]

@[simp] theorem markSats_mode (i : Nat) (n : BitVec 48) (t : Stamp) (s : State) :
    (markSats i n t s).th.mode = s.th.mode := by
  simp [markSats]

@[simp] theorem findUnreadable_mode (a : Nat) (s : State) : (findUnreadable a s).th.mode = s.th.mode := by
  simp [findUnreadable]

@[simp] theorem checkWord_mode (a : Nat) (r : ReadResult) (s : State) : (checkWord a r s).th.mode = s.th.mode := by
  simp [checkWord] <;> (repeat' split) <;> simp

@[simp] theorem clearUpset_mode (a : Nat) (s : State) : (clearUpset a s).th.mode = s.th.mode := by
  simp [clearUpset] <;> (repeat' split) <;> simp

@[simp] theorem checkRead_mode (a : Nat) (s : State) : (checkRead a s).th.mode = s.th.mode := by
  simp [checkRead] <;> (repeat' split) <;> simp

@[simp] theorem checkReads_mode (as : List Nat) (s : State) : (checkReads as s).th.mode = s.th.mode := by
  simp [checkReads] <;> (repeat' split) <;> simp

@[simp] theorem intoSpare_mode : ∀ (n a : Nat) (v : W32) (s : State), (intoSpare n a v s).2.th.mode = s.th.mode
  | 0, _, _, _ => rfl
  | n + 1, a, v, s => by
    simp only [intoSpare]
    repeat' split
    all_goals simp [intoSpare_mode n]

@[simp] theorem refuseWrite_mode (a : Nat) (old : W32) (s : State) : (refuseWrite a old s).th.mode = s.th.mode := by
  simp [refuseWrite]

@[simp] theorem committed_mode (a : Nat) (was : Bool) (s : State) : (committed a was s).th.mode = s.th.mode := by
  simp [committed]

@[simp] theorem writeWord_mode (a : Nat) (v : W32) (s : State) : (writeWord a v s).2.th.mode = s.th.mode := by
  simp only [writeWord]
  repeat' split
  all_goals simp

@[simp] theorem commit_mode (a : Nat) (v : W32) (s : State) : (commit a v s).2.th.mode = s.th.mode := by
  simp only [commit]
  split <;> simp

@[simp] theorem commits_mode : ∀ (ws : List (Nat × W32)) (s : State), (commits ws s).2.2.th.mode = s.th.mode
  | [], _ => rfl
  | (a, v) :: ws, s => by
    have h := commit_mode a v s
    unfold commits
    split
    · rename_i s' hc
      rw [hc] at h
      simp only [commits_mode ws s']
      exact h
    · rename_i s' hc
      rw [hc] at h
      exact h

@[simp] theorem commitOwn_mode (a : Nat) (v : W32) (s : State) : (commitOwn a v s).th.mode = s.th.mode := by
  simp [commitOwn]

@[simp] theorem commitChanged_mode (a : Nat) (f : W32 → W32) (s : State) : (commitChanged a f s).2.th.mode = s.th.mode := by
  simp [commitChanged]

@[simp] theorem strike_mode (reads : Reads) (s : State) : (strike reads s).th.mode = s.th.mode := by
  simp [strike] <;> (repeat' split) <;> simp

@[simp] theorem updPort_mode (p : Nat) (f : Port → Port) (s : State) : (updPort p f s).th.mode = s.th.mode := by
  simp [updPort]

@[simp] theorem updPath_mode (p : Nat) (f : PathQ → PathQ) (s : State) : (updPath p f s).th.mode = s.th.mode := by
  simp [updPath]

@[simp] theorem dropOut_mode (n : Nat) (s : State) : (dropOut n s).th.mode = s.th.mode := by
  simp [dropOut]

@[simp] theorem enqueue_mode (p c : Nat) (o : Out) (s : State) : (enqueue p c o s).th.mode = s.th.mode := by
  simp [enqueue]

@[simp] theorem sendHost_mode (c : Nat) (f : Frame) (s : State) : (sendHost c f s).th.mode = s.th.mode := by
  simp [sendHost] <;> (repeat' split) <;> simp

@[simp] theorem sendEvent_mode (c : Nat) (f : Frame) (s : State) : (sendEvent c f s).th.mode = s.th.mode := by
  simp [sendEvent]

@[simp] theorem sendReturn_mode (f : Frame) (s : State) : (sendReturn f s).th.mode = s.th.mode := by
  simp [sendReturn] <;> (repeat' split) <;> simp

@[simp] theorem updBox_mode (m : Nat) (f : Mailbox → Mailbox) (s : State) : (updBox m f s).th.mode = s.th.mode := by
  simp [updBox]

@[simp] theorem sendResponse_mode (f : Frame) (dst : Peer) (s : State) :
    (sendResponse f dst s).th.mode = s.th.mode := by
  simp [sendResponse]

@[simp] theorem respond_mode (m : Nat) (a : Answer) (s : State) : (respond m a s).th.mode = s.th.mode := by
  simp [respond]

@[simp] theorem answer_mode (m : Nat) (a : Answer) (now : Start) (s : State) :
    (answer m a now s).th.mode = s.th.mode := by
  simp [answer]

@[simp] theorem completeNow_mode (tk : Ticket) (a : Answer) (s : State) : (completeNow tk a s).th.mode = s.th.mode := by
  simp [completeNow]

@[simp] theorem complete_mode (tk : Ticket) (a : Answer) (s : State) : (complete tk a s).th.mode = s.th.mode := by
  simp [complete]

@[simp] theorem answerBadop_mode : ∀ (n : Nat) (s : State), (answerBadop n s).th.mode = s.th.mode
  | 0, _ => rfl
  | n + 1, s => by
    unfold answerBadop
    split
    · split
      · rw [answerBadop_mode n, answer_mode]
      · rfl
    · rfl

@[simp] theorem reply_mode (s : State) (a : Answer) : (reply s a).s.th.mode = s.th.mode := by
  simp [reply]

@[simp] theorem lodge_mode (m op : Nat) (row len : List Byte → Bool) (mode : State → List Byte → Bool)
    (own : Ticket → List Byte → State → Reply) (h : ∀ tk p s, (own tk p s).s.th.mode = s.th.mode) (s : State) :
    (lodge m op row len mode own s).th.mode = s.th.mode := by
  unfold lodge
  simp only []
  split
  · rw [answerBadop_mode]
    split
    · simp
    · split
      · simp
      · split <;> (split <;> simp [h])
  · rfl

@[simp] theorem closeReturn_mode (s : State) : (closeReturn s).th.mode = s.th.mode := by
  simp [closeReturn]

@[simp] theorem placeItem_mode (x : BitVec 128) (service : Bool) (s : State) :
    (placeItem x service s).th.mode = s.th.mode := by
  simp [placeItem]

@[simp] theorem startSpan_mode (s : State) : (startSpan s).th.mode = s.th.mode := by
  simp [startSpan]

@[simp] theorem declareLoss_mode (s : State) : (declareLoss s).th.mode = s.th.mode := by
  simp [declareLoss] <;> (repeat' split) <;> simp

@[simp] theorem refinAbsence_mode (s : State) : (refinAbsence s).th.mode = s.th.mode := by
  simp [refinAbsence]

@[simp] theorem learnGate_mode (y : Int) (s : State) : (learnGate y s).th.mode = s.th.mode := by
  simp [learnGate] <;> (repeat' split) <;> simp

@[simp] theorem frequencyGate_mode (ok : Bool) (ofs : W32) (y : Int) (s : State) :
    (frequencyGate ok ofs y s).th.mode = s.th.mode := by
  simp [frequencyGate]

@[simp] theorem phaseLoss_mode (s : State) : (phaseLoss s).th.mode = s.th.mode := by
  simp [phaseLoss]

@[simp] theorem qualificationEnd_mode (s : State) : (qualificationEnd s).th.mode = s.th.mode := by
  simp [qualificationEnd]

@[simp] theorem endSpan_mode (s : State) : (endSpan s).th.mode = s.th.mode := by
  simp [endSpan]

@[simp] theorem acquireComplete_mode (s : State) : (acquireComplete s).th.mode = s.th.mode := by
  simp [acquireComplete]

@[simp] theorem spanStart_mode (s : State) : (spanStart s).th.mode = s.th.mode := by
  simp [spanStart]

@[simp] theorem xtalUpdate_mode (s : State) : (xtalUpdate s).th.mode = s.th.mode := by
  simp [xtalUpdate]

@[simp] theorem holdLimit_mode (s : State) : (holdLimit s).th.mode = s.th.mode := by
  simp [holdLimit]

@[simp] theorem learnUpdate_mode (s : State) : (learnUpdate s).th.mode = s.th.mode := by
  simp [learnUpdate]

@[simp] theorem reload_mode (s : State) (f : Nat) : (reload s f).th.mode = s.th.mode := by
  simp [reload]

@[simp] theorem replicaCompare_mode (upsets : List (Nat × Coarse)) (s : State) :
    (replicaCompare upsets s).th.mode = s.th.mode := by
  simp [replicaCompare]

@[simp] theorem ppsEdge_mode (rising : Bool) (s : State) : (ppsEdge rising s).th.mode = s.th.mode := by
  simp [ppsEdge]

@[simp] theorem ppsMissing_mode (s : State) : (ppsMissing s).th.mode = s.th.mode := by
  simp [ppsMissing]

@[simp] theorem latchNow_mode (s : State) : (latchNow s).th.mode = s.th.mode := by
  simp [latchNow]

@[simp] theorem setTbCfg_mode (new : W32) (s : State) : (setTbCfg new s).th.mode = s.th.mode := by
  simp [setTbCfg]

@[simp] theorem tbCfgOwn_mode (a1 : Ticket) (p : List Byte) (s : State) : (tbCfgOwn a1 p s).s.th.mode = s.th.mode := by
  simp [tbCfgOwn] <;> (repeat' split) <;> simp

@[simp] theorem updChan_mode (i : Nat) (f : Chan → Chan) (s : State) : (updChan i f s).th.mode = s.th.mode := by
  simp [updChan]

@[simp] theorem updCore_mode (x : Nat) (f : Core → Core) (s : State) : (updCore x f s).th.mode = s.th.mode := by
  simp [updCore]

@[simp] theorem updConv_mode (x v : Nat) (f : Conv → Conv) (s : State) : (updConv x v f s).th.mode = s.th.mode := by
  simp [updConv]

@[simp] theorem armNext_mode (x v : Nat) (s : State) : (armNext x v s).th.mode = s.th.mode := by
  simp [armNext] <;> (repeat' split) <;> simp

@[simp] theorem armFirst_mode (x : Nat) (s : State) : (armFirst x s).th.mode = s.th.mode := by
  simp [armFirst] <;> (repeat' split) <;> simp

@[simp] theorem takeHit_mode (i x t : Nat) (f : Nat → Chan → Chan) (s : State) : (takeHit i x t f s).th.mode = s.th.mode := by
  simp [takeHit] <;> (repeat' split) <;> simp

@[simp] theorem feedNew_mode (i t : Nat) (rising : Bool) (cn : Coarse) (code : Nat) (s : State) :
    (feedNew i t rising cn code s).th.mode = s.th.mode := by
  simp [feedNew] <;> (repeat' split) <;> simp

@[simp] theorem stampEdge_mode (i t : Nat) (rising : Bool) (cn : Coarse) (code : Nat) (s : State) :
    (stampEdge i t rising cn code s).th.mode = s.th.mode := by
  simp [stampEdge]

@[simp] theorem checkRate_mode (i t : Nat) (s : State) : (checkRate i t s).th.mode = s.th.mode := by
  simp [checkRate]

@[simp] theorem chanEdge_mode (i t : Nat) (rising : Bool) (cn : Coarse) (code : Nat) (s : State) :
    (chanEdge i t rising cn code s).th.mode = s.th.mode := by
  simp [chanEdge] <;> (repeat' split) <;> simp

@[simp] theorem edgeArrival_mode (n t : Nat) (rising : Bool) (cn : Coarse) (code : Nat) (s : State) :
    (edgeArrival n t rising cn code s).th.mode = s.th.mode := by
  simp [edgeArrival] <;> (repeat' split) <;> simp

@[simp] theorem retire_mode (x : Nat) (s : State) : (retire x s).th.mode = s.th.mode := by
  simp [retire]

@[simp] theorem planSwitch_mode (i x : Nat) (tsw : Coarse) (fault : Option Nat) (s : State) :
    (planSwitch i x tsw fault s).th.mode = s.th.mode := by
  simp [planSwitch]

@[simp] theorem planRepair_mode (i : Nat) (code : Nat) (s : State) : (planRepair i code s).th.mode = s.th.mode := by
  simp [planRepair] <;> (repeat' split) <;> simp

@[simp] theorem coreFault_mode (code x : Nat) (s : State) : (coreFault code x s).th.mode = s.th.mode := by
  unfold coreFault
  simp only []
  split
  · rfl
  · split
    · simp
    · rw [foldl_mode]
      · simp
      · intro s b
        split <;> simp

@[simp] theorem endFreed_mode (s : State) : (endFreed s).th.mode = s.th.mode := by
  simp [endFreed] <;> (repeat' split) <;> simp

@[simp] theorem replanCores_mode (s : State) : (replanCores s).th.mode = s.th.mode := by
  unfold replanCores
  rw [foldl_mode]
  intro s b
  split
  · split
    · rfl
    · split <;> simp
  · rfl

@[simp] theorem convFault_mode (x v : Nat) (s : State) : (convFault x v s).th.mode = s.th.mode := by
  simp [convFault]

@[simp] theorem coreSwitch_mode (i : Nat) (s : State) : (coreSwitch i s).th.mode = s.th.mode := by
  simp [coreSwitch] <;> (repeat' split) <;> simp

@[simp] theorem release_mode (x v : Nat) (s : State) : (release x v s).th.mode = s.th.mode := by
  simp [release]

@[simp] theorem releaseHit_mode (i x v : Nat) (s : State) : (releaseHit i x v s).th.mode = s.th.mode := by
  simp [releaseHit] <;> (repeat' split) <;> simp

@[simp] theorem conversionDone_mode (x v : Nat) (s : State) : (conversionDone x v s).th.mode = s.th.mode := by
  simp [conversionDone] <;> (repeat' split) <;> simp

@[simp] theorem armedHandover_mode (x : Nat) (s : State) : (armedHandover x s).th.mode = s.th.mode := by
  simp [armedHandover] <;> (repeat' split) <;> simp

@[simp] theorem calibrationEdge_mode (x code : Nat) (s : State) : (calibrationEdge x code s).th.mode = s.th.mode := by
  simp [calibrationEdge] <;> (repeat' split) <;> simp

@[simp] theorem acceptLatch_mode (i : Nat) (s : State) : (acceptLatch i s).th.mode = s.th.mode := by
  simp [acceptLatch] <;> (repeat' split) <;> simp

@[simp] theorem checkFull_mode (n : Nat) (s : State) : (checkFull n s).th.mode = s.th.mode := by
  simp [checkFull]

@[simp] theorem pushStamp_mode (i : Nat) (r : Flying) (s : State) : (pushStamp i r s).th.mode = s.th.mode := by
  simp [pushStamp]

@[simp] theorem stampPush_mode (i : Nat) (s : State) : (stampPush i s).th.mode = s.th.mode := by
  simp [stampPush] <;> (repeat' split) <;> simp

@[simp] theorem closeWordRetry_mode (i : Nat) (s : State) : (closeWordRetry i s).th.mode = s.th.mode := by
  simp [closeWordRetry] <;> (repeat' split) <;> simp

@[simp] theorem presentClose_mode (gen tag i : Nat) (s : State) : (presentClose gen tag i s).th.mode = s.th.mode := by
  simp [presentClose] <;> (repeat' split) <;> simp

@[simp] theorem popHead_mode (i : Nat) (s : State) : (popHead i s).th.mode = s.th.mode := by
  simp [popHead]

@[simp] theorem latchCounts_mode (i : Nat) (s : State) : (latchCounts i s).th.mode = s.th.mode := by
  simp [latchCounts]

@[simp] theorem calibrationPeriodEnd_mode (trims : List (Nat × Byte)) (s : State) :
    (calibrationPeriodEnd trims s).th.mode = s.th.mode := by
  simp [calibrationPeriodEnd]

@[simp] theorem tableSwitch_mode (f : Nat) (s : State) : (tableSwitch f s).th.mode = s.th.mode := by
  simp [tableSwitch]

@[simp] theorem startFill_mode (tk : Option Ticket) (s : State) : (startFill tk s).th.mode = s.th.mode := by
  simp [startFill]

@[simp] theorem calFillEnd_mode (r : FillResult) (s : State) : (calFillEnd r s).th.mode = s.th.mode := by
  simp [calFillEnd] <;> (repeat' split) <;> simp

@[simp] theorem cancelFill_mode (s : State) : (cancelFill s).th.mode = s.th.mode := by
  simp [cancelFill] <;> (repeat' split) <;> simp

@[simp] theorem calRunOwn_mode (tk : Ticket) (a1 : List Byte) (s : State) :
    (calRunOwn tk a1 s).s.th.mode = s.th.mode := by
  simp [calRunOwn]

@[simp] theorem skewSetOwn_mode (a1 : Ticket) (p : List Byte) (s : State) :
    (skewSetOwn a1 p s).s.th.mode = s.th.mode := by
  unfold skewSetOwn
  simp only []
  split
  · simp
  · split <;> simp

@[simp] theorem caSelWrite_mode (v : W32) (s : State) : (caSelWrite v s).th.mode = s.th.mode := by
  simp [caSelWrite]

@[simp] theorem updLine_mode (x : Nat) (f : Line → Line) (s : State) : (updLine x f s).th.mode = s.th.mode := by
  simp [updLine]

@[simp] theorem updDriver_mode (d : Nat) (f : Driver → Driver) (s : State) : (updDriver d f s).th.mode = s.th.mode := by
  simp [updDriver]

@[simp] theorem driveFire_mode (d : Nat) (o : FireOut) (s : State) : (driveFire d o s).th.mode = s.th.mode := by
  simp [driveFire]

@[simp] theorem selectOff_mode (s : State) : (selectOff s).th.mode = s.th.mode := by
  simp [selectOff]

@[simp] theorem charge_mode (x amp width : Nat) (s : State) : (charge x amp width s).th.mode = s.th.mode := by
  simp [charge]

@[simp] theorem queueCmd_mode (d op arg : Nat) (s : State) : (queueCmd d op arg s).th.mode = s.th.mode := by
  simp [queueCmd]

@[simp] theorem broadcast_mode (arg : Nat) (s : State) : (broadcast arg s).th.mode = s.th.mode := by
  simp [broadcast]

@[simp] theorem readDiag_mode (x : Nat) (s : State) : (readDiag x s).th.mode = s.th.mode := by
  simp [readDiag]

@[simp] theorem exchangeFails_mode (crc : Bool) (s : State) : (exchangeFails crc s).th.mode = s.th.mode := by
  simp [exchangeFails] <;> (repeat' split) <;> simp

@[simp] theorem sendTo_mode (d : Nat) (c : EmCmd) (queued : Bool) (again : Option Nat) (s : State) :
    (sendTo d c queued again s).th.mode = s.th.mode := by
  simp [sendTo]

@[simp] theorem linkCycle_mode (s : State) : (linkCycle s).th.mode = s.th.mode := by
  simp [linkCycle] <;> (repeat' split) <;> simp

@[simp] theorem takeSpare_mode (x l y : Nat) (s : State) : (takeSpare x l y s).th.mode = s.th.mode := by
  simp [takeSpare]

@[simp] theorem lineFault_mode (x kind : Nat) (s : State) : (lineFault x kind s).th.mode = s.th.mode := by
  simp [lineFault] <;> (repeat' split) <;> simp

@[simp] theorem setSynthetic_mode (d : Nat) (s : State) : (setSynthetic d s).th.mode = s.th.mode := by
  simp [setSynthetic]

@[simp] theorem fbFault_mode (d : Nat) (s : State) : (fbFault d s).th.mode = s.th.mode := by
  simp [fbFault] <;> (repeat' split) <;> simp

@[simp] theorem fbPathCheck_mode (d : Nat) (s : State) : (fbPathCheck d s).th.mode = s.th.mode := by
  simp [fbPathCheck]

@[simp] theorem switchCore_mode (i : Nat) (s : State) : (switchCore i s).th.mode = s.th.mode := by
  simp [switchCore] <;> (repeat' split) <;> simp

@[simp] theorem voidRun_mode (x : Nat) (s : State) : (voidRun x s).th.mode = s.th.mode := by
  simp [voidRun]

@[simp] theorem driverState_mode (d : Nat) (poll flt : Bool) (st : Nat) (s : State) :
    (driverState d poll flt st s).th.mode = s.th.mode := by
  simp [driverState]

@[simp] theorem lineReady_mode (d : Nat) (s : State) : (lineReady d s).th.mode = s.th.mode := by
  unfold lineReady
  rw [foldl_mode]
  intro s b
  split <;> simp

@[simp] theorem judgeLine_mode (d x : Nat) (s : State) : (judgeLine d x s).th.mode = s.th.mode := by
  simp [judgeLine]

@[simp] theorem endBlind_mode (d : Nat) (s : State) : (endBlind d s).th.mode = s.th.mode := by
  simp [endBlind] <;> (repeat' split) <;> simp

@[simp] theorem diagLine_mode (d x kind : Nat) (asked advanced : Bool) (s : State) :
    (diagLine d x kind asked advanced s).th.mode = s.th.mode := by
  simp [diagLine] <;> (repeat' split) <;> simp

@[simp] theorem diagBlind_mode (d x kind : Nat) (advanced : Bool) (b : Bool × List (Nat × Nat)) (s : State) :
    (diagBlind d x kind advanced b s).th.mode = s.th.mode := by
  simp [diagBlind] <;> (repeat' split) <;> simp

@[simp] theorem diagAnswer_mode (d n data : Nat) (s : State) : (diagAnswer d n data s).th.mode = s.th.mode := by
  simp [diagAnswer] <;> (repeat' split) <;> simp

@[simp] theorem answered_mode (e : Exchange) (flt : Bool) (data : Nat) (s : State) :
    (answered e flt data s).th.mode = s.th.mode := by
  simp [answered] <;> (repeat' split) <;> simp

@[simp] theorem statusWord_mode (inTime : Bool) (w : BitVec 40) (s : State) :
    (statusWord inTime w s).th.mode = s.th.mode := by
  simp [statusWord] <;> (repeat' split) <;> simp

@[simp] theorem eyeBudgetInterval_mode (s : State) : (eyeBudgetInterval s).th.mode = s.th.mode := by
  simp [eyeBudgetInterval]

@[simp] theorem diagDue_mode (x : Nat) (s : State) : (diagDue x s).th.mode = s.th.mode := by
  simp [diagDue]

@[simp] theorem latchDrivers_mode (s : State) : (latchDrivers s).th.mode = s.th.mode := by
  simp [latchDrivers]

@[simp] theorem surveyStart_mode (s : State) : (surveyStart s).th.mode = s.th.mode := by
  simp [surveyStart]

@[simp] theorem startDrivers_mode (s : State) : (startDrivers s).th.mode = s.th.mode := by
  simp [startDrivers]

@[simp] theorem testDriver_mode (d : Nat) (s : State) : (testDriver d s).th.mode = s.th.mode := by
  simp [testDriver]

@[simp] theorem testPass_mode (s : State) : (testPass s).th.mode = s.th.mode := by
  simp [testPass]

@[simp] theorem testPassReport_mode (d : Nat) (s : State) : (testPassReport d s).th.mode = s.th.mode := by
  simp [testPassReport]

@[simp] theorem endTests_mode (s : State) : (endTests s).th.mode = s.th.mode := by
  simp [endTests]

@[simp] theorem emitDisable_mode (s : State) : (emitDisable s).th.mode = s.th.mode := by
  simp [emitDisable]

@[simp] theorem emitEnable_mode (s : State) : (emitEnable s).th.mode = s.th.mode := by
  simp [emitEnable]

@[simp] theorem emitLimitOwn_mode (a1 : Ticket) (p : List Byte) (s : State) :
    (emitLimitOwn a1 p s).s.th.mode = s.th.mode := by
  simp [emitLimitOwn]

@[simp] theorem settleLines_mode (s : State) : (settleLines s).th.mode = s.th.mode := by
  simp [settleLines]

@[simp] theorem lineMapOwn_mode (a1 : Ticket) (p : List Byte) (s : State) :
    (lineMapOwn a1 p s).s.th.mode = s.th.mode := by
  unfold lineMapOwn
  simp only []
  repeat' split
  all_goals simp

@[simp] theorem clearfailOwn_mode (a1 : Ticket) (p : List Byte) (s : State) :
    (clearfailOwn a1 p s).s.th.mode = s.th.mode := by
  simp [clearfailOwn]

@[simp] theorem switchBank_mode (s : State) : (switchBank s).th.mode = s.th.mode := by
  simp [switchBank]

@[simp] theorem announceFrame_mode (n bank : Nat) (t : Nominal) (s : State) :
    (announceFrame n bank t s).th.mode = s.th.mode := by
  simp [announceFrame]

@[simp] theorem startSchedule_mode (t : Coarse) (s : State) : (startSchedule t s).th.mode = s.th.mode := by
  simp [startSchedule]

@[simp] theorem dropFrames_mode (s : State) : (dropFrames s).th.mode = s.th.mode := by
  simp [dropFrames]

@[simp] theorem stopSchedule_mode (s : State) : (stopSchedule s).th.mode = s.th.mode := by
  simp [stopSchedule]

@[simp] theorem beginSchedule_mode (t : Coarse) (s : State) : (beginSchedule t s).th.mode = s.th.mode := by
  simp [beginSchedule] <;> (repeat' split) <;> simp

@[simp] theorem dropTrigStart_mode (st : Status) (s : State) : (dropTrigStart st s).th.mode = s.th.mode := by
  simp [dropTrigStart] <;> (repeat' split) <;> simp

@[simp] theorem stopAtFrameEnd_mode (s : State) : (stopAtFrameEnd s).th.mode = s.th.mode := by
  simp [stopAtFrameEnd] <;> (repeat' split) <;> simp

@[simp] theorem setStandby_mode (f : Tab W64 → Tab W64) (s : State) : (setStandby f s).th.mode = s.th.mode := by
  simp [setStandby]

@[simp] theorem withdrawNext_mode (s : State) : (withdrawNext s).th.mode = s.th.mode := by
  simp [withdrawNext] <;> (repeat' split) <;> simp

@[simp] theorem schedLoadOwn_mode (tk : Ticket) (p : List Byte) (s : State) :
    (schedLoadOwn tk p s).s.th.mode = s.th.mode := by
  simp [schedLoadOwn]

@[simp] theorem admissionComplete_mode (s : State) : (admissionComplete s).th.mode = s.th.mode := by
  simp [admissionComplete] <;> (repeat' split) <;> simp

@[simp] theorem schedStartOwn_mode (tk : Ticket) (p : List Byte) (s : State) :
    (schedStartOwn tk p s).s.th.mode = s.th.mode := by
  simp [schedStartOwn]

@[simp] theorem schedStopOwn_mode (a1 : Ticket) (p : List Byte) (s : State) :
    (schedStopOwn a1 p s).s.th.mode = s.th.mode := by
  simp [schedStopOwn]

@[simp] theorem autostart_mode (s : State) : (autostart s).th.mode = s.th.mode := by
  simp [autostart]

@[simp] theorem updDwell_mode (did : Nat) (f : Dwell → Dwell) (s : State) : (updDwell did f s).th.mode = s.th.mode := by
  simp [updDwell]

@[simp] theorem formDwell_mode (s : State) : (formDwell s).th.mode = s.th.mode := by
  simp [formDwell] <;> (repeat' split) <;> simp

@[simp] theorem notePeak_mode (s : State) : (notePeak s).th.mode = s.th.mode := by
  simp [notePeak]

@[simp] theorem updEntry_mode (tag : Nat) (f : Entry → Entry) (s : State) : (updEntry tag f s).th.mode = s.th.mode := by
  simp [updEntry]

@[simp] theorem advance_mode (last frameLast : Bool) (b : StepWord) (r : Sched) (s : State) :
    (advance last frameLast b r s).th.mode = s.th.mode := by
  simp [advance]

@[simp] theorem entryAllocate_mode (s : State) : (entryAllocate s).th.mode = s.th.mode := by
  simp [entryAllocate] <;> (repeat' split) <;> simp

@[simp] theorem selectNext_mode (s : State) : (selectNext s).th.mode = s.th.mode := by
  simp [selectNext] <;> (repeat' split) <;> simp

@[simp] theorem traceShot_mode (e : Entry) (s : State) : (traceShot e s).th.mode = s.th.mode := by
  simp [traceShot]

@[simp] theorem shotFired_mode (tag : Nat) (st : Stamp) (s : State) : (shotFired tag st s).th.mode = s.th.mode := by
  simp [shotFired] <;> (repeat' split) <;> simp

@[simp] theorem fireShot_mode (p : Position) (d : Dwell) (w : Nat) (s : State) :
    (fireShot p d w s).th.mode = s.th.mode := by
  simp [fireShot]

@[simp] theorem withhold_mode (p : Position) (s : State) : (withhold p s).th.mode = s.th.mode := by
  simp [withhold]

@[simp] theorem judgePosition_mode (p : Position) (d : Dwell) (s : State) :
    (judgePosition p d s).th.mode = s.th.mode := by
  simp [judgePosition]

@[simp] theorem beginFrame_mode (p : Position) (s : State) : (beginFrame p s).th.mode = s.th.mode := by
  simp [beginFrame]

@[simp] theorem shotPosition_mode (s : State) : (shotPosition s).th.mode = s.th.mode := by
  simp [shotPosition] <;> (repeat' split) <;> simp

@[simp] theorem shotVoid_mode (tag : Nat) (e : Entry) (s : State) : (shotVoid tag e s).th.mode = s.th.mode := by
  simp [shotVoid]

@[simp] theorem voidDecision_mode (tag : Nat) (s : State) : (voidDecision tag s).th.mode = s.th.mode := by
  simp [voidDecision] <;> (repeat' split) <;> simp

@[simp] theorem noteFire_mode (e : Entry) (st : Stamp) (s : State) : (noteFire e st s).th.mode = s.th.mode := by
  simp [noteFire]

@[simp] theorem useReal_mode (d : Nat) (s : State) : (useReal d s).th.mode = s.th.mode := by
  simp [useReal] <;> (repeat' split) <;> simp

@[simp] theorem clearSynthetic_mode (d : Nat) (s : State) : (clearSynthetic d s).th.mode = s.th.mode := by
  simp [clearSynthetic]

@[simp] theorem strayFb_mode (lone : Bool) (s : State) : (strayFb lone s).th.mode = s.th.mode := by
  simp [strayFb]

@[simp] theorem fbStamp_mode (d : Nat) (st : Stamp) (s : State) : (fbStamp d st s).th.mode = s.th.mode := by
  simp [fbStamp] <;> (repeat' split) <;> simp

@[simp] theorem fbTest_mode (d : Nat) (st : Stamp) (s : State) : (fbTest d st s).th.mode = s.th.mode := by
  simp [fbTest] <;> (repeat' split) <;> simp

@[simp] theorem closeWordPresent_mode (tag : Nat) (s : State) : (closeWordPresent tag s).th.mode = s.th.mode := by
  simp [closeWordPresent] <;> (repeat' split) <;> simp

@[simp] theorem closeShots_mode (i gen tag : Nat) (drop : Bool) (s : State) :
    (closeShots i gen tag drop s).th.mode = s.th.mode := by
  simp [closeShots]

@[simp] theorem latchShotnum_mode (s : State) : (latchShotnum s).th.mode = s.th.mode := by
  simp [latchShotnum]

@[simp] theorem lselWrite_mode (v : W32) (s : State) : (lselWrite v s).th.mode = s.th.mode := by
  simp [lselWrite]

@[simp] theorem tapMeas_mode (i : Nat) (st : Stamp) (rising : Bool) (e : QEntry) (s : State) :
    (tapMeas i st rising e s).th.mode = s.th.mode := by
  simp [tapMeas]

@[simp] theorem slotRunStart_mode (k : Nat) (s : State) : (slotRunStart k s).th.mode = s.th.mode := by
  simp [slotRunStart]

@[simp] theorem gateBoundary_mode (k : Nat) (s : State) : (gateBoundary k s).th.mode = s.th.mode := by
  simp [gateBoundary]

@[simp] theorem gateResult_mode (k : Nat) (s : State) : (gateResult k s).th.mode = s.th.mode := by
  simp [gateResult]

@[simp] theorem intervalJudge_mode (k : Nat) (s : State) : (intervalJudge k s).th.mode = s.th.mode := by
  simp [intervalJudge] <;> (repeat' split) <;> simp

@[simp] theorem latchSlot_mode (k : Nat) (s : State) : (latchSlot k s).th.mode = s.th.mode := by
  simp [latchSlot]

@[simp] theorem slotsStop_mode (s : State) : (slotsStop s).th.mode = s.th.mode := by
  simp [slotsStop]

@[simp] theorem slotsEnter_mode (s : State) : (slotsEnter s).th.mode = s.th.mode := by
  simp [slotsEnter]

@[simp] theorem syncPulse_mode (n : Nat) (s : State) : (syncPulse n s).th.mode = s.th.mode := by
  simp [syncPulse]

@[simp] theorem cameraLoopUpdate_mode (n : Nat) (s : State) : (cameraLoopUpdate n s).th.mode = s.th.mode := by
  simp [cameraLoopUpdate] <;> (repeat' split) <;> simp

@[simp] theorem measCfgSlot_mode (p : List Byte) (s : State) : (measCfgSlot p s).s.th.mode = s.th.mode := by
  simp [measCfgSlot] <;> (repeat' split) <;> simp

@[simp] theorem measCfgSyncOut_mode (p : List Byte) (s : State) : (measCfgSyncOut p s).s.th.mode = s.th.mode := by
  simp [measCfgSyncOut] <;> (repeat' split) <;> simp

@[simp] theorem measCfgOwn_mode (a1 : Ticket) (p : List Byte) (s : State) :
    (measCfgOwn a1 p s).s.th.mode = s.th.mode := by
  simp [measCfgOwn] <;> (repeat' split) <;> simp

@[simp] theorem measReadOwn_mode (a1 : Ticket) (p : List Byte) (s : State) :
    (measReadOwn a1 p s).s.th.mode = s.th.mode := by
  simp [measReadOwn]

@[simp] theorem formTrigger_mode (cfg : W32) (cause : Nat) (t : Coarse) (s : State) :
    (formTrigger cfg cause t s).th.mode = s.th.mode := by
  simp [formTrigger]

@[simp] theorem trginTrigger_mode (high : Bool) (t : Coarse) (s : State) :
    (trginTrigger high t s).th.mode = s.th.mode := by
  simp [trginTrigger]

@[simp] theorem setTrgCfg_mode (v : W32) (s : State) : (setTrgCfg v s).th.mode = s.th.mode := by
  simp [setTrgCfg]

@[simp] theorem trigCfgOwn_mode (a1 : Ticket) (p : List Byte) (s : State) :
    (trigCfgOwn a1 p s).s.th.mode = s.th.mode := by
  simp [trigCfgOwn] <;> (repeat' split) <;> simp

@[simp] theorem envsumDone_mode (s : State) : (envsumDone s).th.mode = s.th.mode := by
  simp [envsumDone]

@[simp] theorem envLoadOwn_mode (tk : Ticket) (p : List Byte) (s : State) :
    (envLoadOwn tk p s).s.th.mode = s.th.mode := by
  simp [envLoadOwn]

@[simp] theorem envLoadComplete_mode (s : State) : (envLoadComplete s).th.mode = s.th.mode := by
  unfold envLoadComplete
  split
  · rfl
  · simp

@[simp] theorem mapUpdate_mode (d : Dwell) (c : Nat) (bins : Tab Nat) (span : Option Nat) (nout : Nat) (s : State) :
    (mapUpdate d c bins span nout s).th.mode = s.th.mode := by
  simp [mapUpdate]

@[simp] theorem clearMap_mode (s : State) : (clearMap s).th.mode = s.th.mode := by
  simp [clearMap]

@[simp] theorem violation_mode (d : Dwell) (recs : List (BitVec 128)) (maps v : List Nat) (s : State) :
    (violation d recs maps v s).th.mode = s.th.mode := by
  simp [violation]

@[simp] theorem judgeDwell_mode (d : Dwell) (s : State) : (judgeDwell d s).th.mode = s.th.mode := by
  simp [judgeDwell]

@[simp] theorem surveyNext_mode (s : State) : (surveyNext s).th.mode = s.th.mode := by
  simp [surveyNext]

@[simp] theorem dwellDecision_mode (s : State) : (dwellDecision s).th.mode = s.th.mode := by
  simp [dwellDecision] <;> (repeat' split) <;> simp

@[simp] theorem updPart_mode (p : Nat) (f : Part → Part) (s : State) : (updPart p f s).th.mode = s.th.mode := by
  simp [updPart]

@[simp] theorem dropMarks_mode (lost : Nat × Nat → Bool) (s : State) : (dropMarks lost s).th.mode = s.th.mode := by
  simp [dropMarks]

@[simp] theorem streamAt_mode (p k : Nat) (s : State) : (streamAt p k s).th.mode = s.th.mode := by
  simp [streamAt] <;> (repeat' split) <;> simp

@[simp] theorem putRecord_mode (w : W64) (s : State) : (putRecord w s).th.mode = s.th.mode := by
  simp [putRecord]

@[simp] theorem noteWritten_mode (r : GRec) (k : Nat) (s : State) : (noteWritten r k s).th.mode = s.th.mode := by
  simp [noteWritten] <;> (repeat' split) <;> simp

@[simp] theorem writeOne_mode (s : State) : (writeOne s).th.mode = s.th.mode := by
  simp [writeOne] <;> (repeat' split) <;> simp

@[simp] theorem padBlock_mode : ∀ (n : Nat) (s : State), (padBlock n s).th.mode = s.th.mode
  | 0, _ => rfl
  | n + 1, s => by
    unfold padBlock
    split
    · rfl
    · rw [padBlock_mode n, putRecord_mode]

@[simp] theorem takePart_mode (p : Nat) (st : GlState) (s : State) : (takePart p st s).th.mode = s.th.mode := by
  simp [takePart]

@[simp] theorem armPart_mode (p : Nat) (s : State) : (armPart p s).th.mode = s.th.mode := by
  simp [armPart] <;> (repeat' split) <;> simp

@[simp] theorem rearm_mode (s : State) : (rearm s).th.mode = s.th.mode := by
  simp [rearm] <;> (repeat' split) <;> simp

@[simp] theorem stopWriting_mode (st : GlState) (s : State) : (stopWriting st s).th.mode = s.th.mode := by
  simp [stopWriting]

@[simp] theorem captureDone_mode (s : State) : (captureDone s).th.mode = s.th.mode := by
  simp [captureDone]

@[simp] theorem captureReady_mode (s : State) : (captureReady s).th.mode = s.th.mode := by
  simp [captureReady]

@[simp] theorem drain_mode : ∀ (n : Nat) (s : State), (drain n s).th.mode = s.th.mode
  | 0, _ => rfl
  | n + 1, s => by
    unfold drain
    split
    · rfl
    · rw [drain_mode n]
      split
      · rw [captureDone_mode]
      · rw [writeOne_mode]

@[simp] theorem endWriting_mode (s : State) : (endWriting s).th.mode = s.th.mode := by
  simp [endWriting]

@[simp] theorem endStream_mode (st : Status) (s : State) : (endStream st s).th.mode = s.th.mode := by
  simp [endStream] <;> (repeat' split) <;> simp

@[simp] theorem clearPartitions_mode (s : State) : (clearPartitions s).th.mode = s.th.mode := by
  simp [clearPartitions]

@[simp] theorem selfArm_mode (s : State) : (selfArm s).th.mode = s.th.mode := by
  simp [selfArm] <;> (repeat' split) <;> simp

@[simp] theorem autoArm_mode (s : State) : (autoArm s).th.mode = s.th.mode := by
  simp [autoArm]

@[simp] theorem leaveRotation_mode (c : Nat) (s : State) : (leaveRotation c s).th.mode = s.th.mode := by
  simp [leaveRotation]

@[simp] theorem retireChan_mode (c : Nat) (s : State) : (retireChan c s).th.mode = s.th.mode := by
  simp [retireChan]

@[simp] theorem outOfService_mode (s : State) : (outOfService s).th.mode = s.th.mode := by
  simp [outOfService]

@[simp] theorem memFault_mode (c : Nat) (s : State) : (memFault c s).th.mode = s.th.mode := by
  simp [memFault] <;> (repeat' split) <;> simp

@[simp] theorem memoryCheck_mode (c : Nat) (ok : Bool) (s : State) : (memoryCheck c ok s).th.mode = s.th.mode := by
  simp [memoryCheck]

@[simp] theorem mr4Read_mode (hot : Bool) (s : State) : (mr4Read hot s).th.mode = s.th.mode := by
  simp [mr4Read]

@[simp] theorem memoryTrainingEnd_mode (r : Training) (s : State) : (memoryTrainingEnd r s).th.mode = s.th.mode := by
  simp [memoryTrainingEnd]

@[simp] theorem padCount_mode (s : State) : (padCount s).th.mode = s.th.mode := by
  simp [padCount] <;> (repeat' split) <;> simp

@[simp] theorem bufferFull_mode (s : State) : (bufferFull s).th.mode = s.th.mode := by
  simp [bufferFull]

@[simp] theorem hand_mode (r : GRec) (s : State) : (hand r s).th.mode = s.th.mode := by
  simp [hand]

@[simp] theorem galleryEdge_mode (i : Nat) (st : Stamp) (rising : Bool) (s : State) :
    (galleryEdge i st rising s).th.mode = s.th.mode := by
  simp [galleryEdge]

@[simp] theorem galleryDwell_mode (d : Dwell) (recs : List (Nat × List (BitVec 128))) (s : State) :
    (galleryDwell d recs s).th.mode = s.th.mode := by
  simp [galleryDwell]

@[simp] theorem evtRecordSlot_mode (s : State) : (evtRecordSlot s).th.mode = s.th.mode := by
  simp [evtRecordSlot] <;> (repeat' split) <;> simp

@[simp] theorem galleryWrap_mode (s : State) : (galleryWrap s).th.mode = s.th.mode := by
  simp [galleryWrap]

@[simp] theorem epochHoldRelease_mode (s : State) : (epochHoldRelease s).th.mode = s.th.mode := by
  simp [epochHoldRelease]

@[simp] theorem trigHand_mode (x : Trigger) (kind : Nat) (honoured : Bool) (s : State) :
    (trigHand x kind honoured s).th.mode = s.th.mode := by
  simp [trigHand]

@[simp] theorem galleryTrigger_mode (x : Trigger) (s : State) : (galleryTrigger x s).th.mode = s.th.mode := by
  simp [galleryTrigger] <;> (repeat' split) <;> simp

@[simp] theorem armOwn_mode (a1 : Ticket) (p : List Byte) (s : State) : (armOwn a1 p s).s.th.mode = s.th.mode := by
  simp [armOwn] <;> (repeat' split) <;> simp

@[simp] theorem disarmOwn_mode (a1 : Ticket) (a2 : List Byte) (s : State) :
    (disarmOwn a1 a2 s).s.th.mode = s.th.mode := by
  simp [disarmOwn]

@[simp] theorem markSetOwn_mode (a1 : Ticket) (p : List Byte) (s : State) :
    (markSetOwn a1 p s).s.th.mode = s.th.mode := by
  simp [markSetOwn] <;> (repeat' split) <;> simp

@[simp] theorem capReadRead_mode (p : List Byte) (s : State) : (capReadRead p s).s.th.mode = s.th.mode := by
  simp [capReadRead] <;> (repeat' split) <;> simp

@[simp] theorem capReadStream_mode (tk : Ticket) (p : List Byte) (s : State) :
    (capReadStream tk p s).s.th.mode = s.th.mode := by
  simp [capReadStream] <;> (repeat' split) <;> simp

@[simp] theorem capReadInfo_mode (p : List Byte) (s : State) : (capReadInfo p s).s.th.mode = s.th.mode := by
  simp [capReadInfo]

@[simp] theorem capRelease_mode (p : List Byte) (s : State) : (capRelease p s).s.th.mode = s.th.mode := by
  simp [capRelease]

@[simp] theorem capReadOwn_mode (tk : Ticket) (p : List Byte) (s : State) :
    (capReadOwn tk p s).s.th.mode = s.th.mode := by
  simp [capReadOwn] <;> (repeat' split) <;> simp

@[simp] theorem capRow_mode (m : Nat) (row : List Byte → Bool) (s : State) : (capRow m row s).th.mode = s.th.mode := by
  simp [capRow]

@[simp] theorem streamEnd_mode (s : State) : (streamEnd s).th.mode = s.th.mode := by
  simp [streamEnd] <;> (repeat' split) <;> simp

@[simp] theorem latchWcount_mode (s : State) : (latchWcount s).th.mode = s.th.mode := by
  simp [latchWcount]

@[simp] theorem trigSchedule_mode (t : Coarse) (s : State) : (trigSchedule t s).th.mode = s.th.mode := by
  simp [trigSchedule] <;> (repeat' split) <;> simp

@[simp] theorem deliver_mode (x : Trigger) (s : State) : (deliver x s).th.mode = s.th.mode := by
  simp [deliver]

@[simp] theorem triggerDelivery_mode (s : State) : (triggerDelivery s).th.mode = s.th.mode := by
  simp [triggerDelivery] <;> (repeat' split) <;> simp

@[simp] theorem trgoutEnd_mode (s : State) : (trgoutEnd s).th.mode = s.th.mode := by
  simp [trgoutEnd]

@[simp] theorem heardWord_mode (u : Nat) (s : State) : (heardWord u s).th.mode = s.th.mode := by
  simp [heardWord]

@[simp] theorem heardExpiry_mode (u : Nat) (s : State) : (heardExpiry u s).th.mode = s.th.mode := by
  simp [heardExpiry]

@[simp] theorem clnWordDiscard_mode (w : W64) (a1 : Bool) (s : State) :
    (clnWordDiscard w a1 s).th.mode = s.th.mode := by
  simp [clnWordDiscard]

@[simp] theorem setClnCfg_mode (v : W32) (s : State) : (setClnCfg v s).th.mode = s.th.mode := by
  simp [setClnCfg]

@[simp] theorem beginCycle_mode (s : State) : (beginCycle s).th.mode = s.th.mode := by
  simp [beginCycle] <;> (repeat' split) <;> simp

@[simp] theorem beacon_mode (s : State) : (beacon s).th.mode = s.th.mode := by
  simp [beacon]

@[simp] theorem yieldMaster_mode (s : State) : (yieldMaster s).th.mode = s.th.mode := by
  simp [yieldMaster] <;> (repeat' split) <;> simp

@[simp] theorem beaconReceive_mode (w : W64) (s : State) : (beaconReceive w s).th.mode = s.th.mode := by
  simp [beaconReceive]

@[simp] theorem beaconLoss_mode (s : State) : (beaconLoss s).th.mode = s.th.mode := by
  simp [beaconLoss] <;> (repeat' split) <;> simp

@[simp] theorem driveWord_mode (w : W64) (s : State) : (driveWord w s).th.mode = s.th.mode := by
  simp [driveWord]

@[simp] theorem sendTrig_mode (t : Coarse) (cause tseq copies : Nat) (rest : List (Coarse × Nat × Nat × Nat)) (s : State) :
    (sendTrig t cause tseq copies rest s).th.mode = s.th.mode := by
  simp [sendTrig]

@[simp] theorem sendMark_mode (m : Nat) (start : Start) (s : State) : (sendMark m start s).th.mode = s.th.mode := by
  simp [sendMark]

@[simp] theorem unitSlot_mode (s : State) : (unitSlot s).th.mode = s.th.mode := by
  simp [unitSlot] <;> (repeat' split) <;> simp

@[simp] theorem roundStart_mode (s : State) : (roundStart s).th.mode = s.th.mode := by
  simp [roundStart]

@[simp] theorem roundWordReceive_mode (w : W64) (s : State) : (roundWordReceive w s).th.mode = s.th.mode := by
  simp [roundWordReceive]

@[simp] theorem clnStamp_mode (i : Nat) (st : Stamp) (rising : Bool) (s : State) :
    (clnStamp i st rising s).th.mode = s.th.mode := by
  simp [clnStamp] <;> (repeat' split) <;> simp

@[simp] theorem roundUpdate_mode (s : State) : (roundUpdate s).th.mode = s.th.mode := by
  simp [roundUpdate] <;> (repeat' split) <;> simp

@[simp] theorem trigWordReceive_mode (w : W64) (s : State) : (trigWordReceive w s).th.mode = s.th.mode := by
  simp [trigWordReceive]

@[simp] theorem markWordReceive_mode (w : W64) (s : State) : (markWordReceive w s).th.mode = s.th.mode := by
  simp [markWordReceive]

@[simp] theorem writeClnCfg_mode (v : W32) (s : State) : (writeClnCfg v s).th.mode = s.th.mode := by
  simp [writeClnCfg]

@[simp] theorem clnWrite_mode (p : List Byte) (s : State) : (clnWrite p s).s.th.mode = s.th.mode := by
  simp [clnWrite] <;> (repeat' split) <;> simp

@[simp] theorem clnCfgOwn_mode (m : Nat) (tk : Ticket) (p : List Byte) (s : State) :
    (clnCfgOwn m tk p s).s.th.mode = s.th.mode := by
  simp [clnCfgOwn] <;> (repeat' split) <;> simp

@[simp] theorem clnRow_mode (m : Nat) (row : List Byte → Bool) (mode : State → List Byte → Bool) (s : State) :
    (clnRow m row mode s).th.mode = s.th.mode := by
  simp [clnRow]

@[simp] theorem clnMeasureTimeout_mode (s : State) : (clnMeasureTimeout s).th.mode = s.th.mode := by
  simp [clnMeasureTimeout] <;> (repeat' split) <;> simp

@[simp] theorem updAChan_mode (i : Nat) (f : AChan → AChan) (s : State) : (updAChan i f s).th.mode = s.th.mode := by
  simp [updAChan]

@[simp] theorem updLocker_mode (f : Nat) (g : Locker → Locker) (s : State) : (updLocker f g s).th.mode = s.th.mode := by
  simp [updLocker]

@[simp] theorem loseInc_mode (i : Nat) (s : State) : (loseInc i s).th.mode = s.th.mode := by
  simp [loseInc]

@[simp] theorem pushInc_mode (i : Nat) (x : Inc) (s : State) : (pushInc i x s).th.mode = s.th.mode := by
  simp [pushInc]

@[simp] theorem passCloses_mode (i : Nat) : ∀ (n : Nat) (s : State), (passCloses i n s).th.mode = s.th.mode
  | 0, _ => rfl
  | n + 1, s => by
    unfold passCloses
    split
    · rw [passCloses_mode i n]
      simp
    · rfl

@[simp] theorem markAmb_mode (es : List (Nat × Entry)) (s : State) : (markAmb es s).th.mode = s.th.mode := by
  simp [markAmb]

@[simp] theorem judgeStamp_outside_mode (i : Nat) (st : Stamp) (s : State) : (judgeStamp.outside i st s).th.mode = s.th.mode := by
  unfold judgeStamp.outside
  split <;> simp

@[simp] theorem judgeStamp_mode (i : Nat) (st : Stamp) (s : State) : (judgeStamp i st s).th.mode = s.th.mode := by
  unfold judgeStamp
  split
  · split
    · split <;> simp
    · simp
  · rw [foldl_mode]
    · split <;> simp
    · intro s b
      simp

@[simp] theorem stampAssignment_mode (i : Nat) (s : State) : (stampAssignment i s).th.mode = s.th.mode := by
  simp [stampAssignment] <;> (repeat' split) <;> simp

@[simp] theorem tokenLate_mode (i : Nat) (s : State) : (tokenLate i s).th.mode = s.th.mode := by
  simp [tokenLate]

@[simp] theorem dwellSat_mode (did : Nat) (s : State) : (dwellSat did s).th.mode = s.th.mode := by
  simp [dwellSat] <;> (repeat' split) <;> simp

@[simp] theorem incrementIssue_mode (i : Nat) (s : State) : (incrementIssue i s).th.mode = s.th.mode := by
  simp [incrementIssue] <;> (repeat' split) <;> simp

@[simp] theorem dwellEndToken_mode (i : Nat) (s : State) : (dwellEndToken i s).th.mode = s.th.mode := by
  simp [dwellEndToken] <;> (repeat' split) <;> simp

@[simp] theorem selectSnap_mode (d : Dwell) (s : State) : (selectSnap d s).th.mode = s.th.mode := by
  simp [selectSnap] <;> (repeat' split) <;> simp

@[simp] theorem swap_mode (i did : Nat) (s : State) : (swap i did s).th.mode = s.th.mode := by
  simp [swap] <;> (repeat' split) <;> simp

@[simp] theorem bufferSwap_mode (i : Nat) (s : State) : (bufferSwap i s).th.mode = s.th.mode := by
  simp [bufferSwap] <;> (repeat' split) <;> simp

@[simp] theorem snapCheck_mode (s : State) : (snapCheck s).th.mode = s.th.mode := by
  simp [snapCheck] <;> (repeat' split) <;> simp

@[simp] theorem snapFill_mode (i : Nat) (l : Lane) (s : State) : (snapFill i l s).th.mode = s.th.mode := by
  simp [snapFill] <;> (repeat' split) <;> simp

@[simp] theorem readoutPassEnd_mode (i : Nat) (s : State) : (readoutPassEnd i s).th.mode = s.th.mode := by
  simp [readoutPassEnd] <;> (repeat' split) <;> simp

@[simp] theorem traceDwell_mode (d : Dwell) (s : State) : (traceDwell d s).th.mode = s.th.mode := by
  simp [traceDwell]

@[simp] theorem flrst_mode (f : Nat) (s : State) : (flrst f s).th.mode = s.th.mode := by
  simp [flrst]

@[simp] theorem flrstEnd_mode (f : Nat) (s : State) : (flrstEnd f s).th.mode = s.th.mode := by
  simp [flrstEnd]

@[simp] theorem dropOpened_mode (s : State) : (dropOpened s).th.mode = s.th.mode := by
  simp [dropOpened]

@[simp] theorem snapDrop_mode (st : Status) (s : State) : (snapDrop st s).th.mode = s.th.mode := by
  simp [snapDrop] <;> (repeat' split) <;> simp

@[simp] theorem lockersOff_mode (s : State) : (lockersOff s).th.mode = s.th.mode := by
  simp [lockersOff]

@[simp] theorem clearBuffers_mode (s : State) : (clearBuffers s).th.mode = s.th.mode := by
  simp [clearBuffers]

@[simp] theorem histCfgOwn_mode (a1 : Ticket) (p : List Byte) (s : State) :
    (histCfgOwn a1 p s).s.th.mode = s.th.mode := by
  simp [histCfgOwn] <;> (repeat' split) <;> simp

@[simp] theorem setFtcfg_mode (f : W32) (s : State) : (setFtcfg f s).th.mode = s.th.mode := by
  simp [setFtcfg]

@[simp] theorem rejectCfgOwn_mode (a1 : Ticket) (p : List Byte) (s : State) :
    (rejectCfgOwn a1 p s).s.th.mode = s.th.mode := by
  simp [rejectCfgOwn] <;> (repeat' split) <;> simp

@[simp] theorem snapArm_mode (tk : Ticket) (p : List Byte) (s : State) : (snapArm tk p s).s.th.mode = s.th.mode := by
  simp [snapArm] <;> (repeat' split) <;> simp

@[simp] theorem snapRead_mode (p : List Byte) (s : State) : (snapRead p s).s.th.mode = s.th.mode := by
  simp [snapRead] <;> (repeat' split) <;> simp

@[simp] theorem snapInfo_mode (p : List Byte) (s : State) : (snapInfo p s).s.th.mode = s.th.mode := by
  simp [snapInfo] <;> (repeat' split) <;> simp

@[simp] theorem histSnapOwn_mode (tk : Ticket) (p : List Byte) (s : State) :
    (histSnapOwn tk p s).s.th.mode = s.th.mode := by
  simp [histSnapOwn] <;> (repeat' split) <;> simp

@[simp] theorem snapRow_mode (m : Nat) (row : List Byte → Bool) (s : State) :
    (snapRow m row s).th.mode = s.th.mode := by
  simp [snapRow]

@[simp] theorem snapTimeout_mode (s : State) : (snapTimeout s).th.mode = s.th.mode := by
  simp [snapTimeout] <;> (repeat' split) <;> simp

@[simp] theorem extractionPhase1_mode (i : Nat) (s : State) : (extractionPhase1 i s).th.mode = s.th.mode := by
  simp [extractionPhase1]

@[simp] theorem markStream_mode (e : W16) (s : State) : (markStream e s).th.mode = s.th.mode := by
  simp [markStream]

@[simp] theorem streamStart_mode (s : State) : (streamStart s).th.mode = s.th.mode := by
  simp [streamStart]

@[simp] theorem streamStop_mode (s : State) : (streamStop s).th.mode = s.th.mode := by
  simp [streamStop]

@[simp] theorem settleEpoch_mode (s : State) : (settleEpoch s).th.mode = s.th.mode := by
  simp [settleEpoch]

@[simp] theorem laneGood_mode (d : Dwell) (f : Nat) (s : State) : (laneGood d f s).th.mode = s.th.mode := by
  simp [laneGood]

@[simp] theorem placeDwell_mode (d : Dwell) (s : State) : (placeDwell d s).th.mode = s.th.mode := by
  simp [placeDwell]

@[simp] theorem placeDwells_mode : ∀ (n : Nat) (s : State), (placeDwells n s).th.mode = s.th.mode
  | 0, s => by
    unfold placeDwells
    simp
  | n + 1, s => by
    unfold placeDwells
    split
    · split
      · rw [placeDwells_mode n]
        simp
      · simp
    · simp

@[simp] theorem extractionPhase2_mode (i : Nat) (s : State) : (extractionPhase2 i s).th.mode = s.th.mode := by
  simp [extractionPhase2] <;> (repeat' split) <;> simp

@[simp] theorem dwellJoin_mode (s : State) : (dwellJoin s).th.mode = s.th.mode := by
  simp [dwellJoin] <;> (repeat' split) <;> simp

@[simp] theorem laneLate_mode (f : Nat) (s : State) : (laneLate f s).th.mode = s.th.mode := by
  simp [laneLate]

@[simp] theorem setTracker_mode (f t : Nat) (r : Tracker × List Nat) (s : State) :
    (setTracker f t r s).th.mode = s.th.mode := by
  simp [setTracker]

@[simp] theorem trackHit_mode (f : Nat) (t : Stamp) (k : Nat) (s : State) : (trackHit f t k s).th.mode = s.th.mode := by
  simp [trackHit]

@[simp] theorem clusterClose_mode (f : Nat) (outside : Bool) (s : State) :
    (clusterClose f outside s).th.mode = s.th.mode := by
  simp [clusterClose] <;> (repeat' split) <;> simp

@[simp] theorem startTracker_mode (f p : Nat) (t : Stamp) (s : State) : (startTracker f p t s).th.mode = s.th.mode := by
  simp [startTracker] <;> (repeat' split) <;> simp

@[simp] theorem acquisitionEnd_mode (f : Nat) (s : State) : (acquisitionEnd f s).th.mode = s.th.mode := by
  simp [acquisitionEnd] <;> (repeat' split) <;> simp

@[simp] theorem trackerMiss_mode (f k : Nat) (s : State) : (trackerMiss f k s).th.mode = s.th.mode := by
  simp [trackerMiss]

@[simp] theorem traceStamp_mode (i era : Nat) (w : QWord) (s : State) : (traceStamp i era w s).th.mode = s.th.mode := by
  simp [traceStamp]

@[simp] theorem tapWord_mode (i : Nat) (e : QEntry) (s : State) : (tapWord i e s).th.mode = s.th.mode := by
  simp [tapWord] <;> (repeat' split) <;> simp

@[simp] theorem vetoed_mode (i : Nat) (s : State) : (vetoed i s).th.mode = s.th.mode := by
  simp [vetoed]

@[simp] theorem gateStamp_mode (i : Nat) (st : Stamp) (s : State) : (gateStamp i st s).th.mode = s.th.mode := by
  simp [gateStamp]

@[simp] theorem toLedger_mode (i : Nat) (w : QWord) (s : State) : (toLedger i w s).th.mode = s.th.mode := by
  simp [toLedger] <;> (repeat' split) <;> simp

@[simp] theorem toFire_mode (i : Nat) (w : QWord) (s : State) : (toFire i w s).th.mode = s.th.mode := by
  simp [toFire] <;> (repeat' split) <;> simp

@[simp] theorem consume_mode (i : Nat) (w : QWord) (s : State) : (consume i w s).th.mode = s.th.mode := by
  simp [consume]

@[simp] theorem queuePop_mode (i : Nat) (s : State) : (queuePop i s).th.mode = s.th.mode := by
  simp [queuePop] <;> (repeat' split) <;> simp

@[simp] theorem traceMark_mode (e : W16) (s : State) : (traceMark e s).th.mode = s.th.mode := by
  simp [traceMark]

@[simp] theorem epochAdvance_mode (s : State) : (epochAdvance s).th.mode = s.th.mode := by
  simp [epochAdvance]

@[simp] theorem tbCycle_mode (s : State) : (tbCycle s).th.mode = s.th.mode := by
  simp [tbCycle]

@[simp] theorem coarseWrap_mode (s : State) : (coarseWrap s).th.mode = s.th.mode := by
  simp [coarseWrap]

@[simp] theorem loadTime_mode (k : Coarse) (e : W16) (s : State) : (loadTime k e s).th.mode = s.th.mode := by
  simp [loadTime]

@[simp] theorem epochSetOwn_mode (tk : Ticket) (p : List Byte) (s : State) :
    (epochSetOwn tk p s).s.th.mode = s.th.mode := by
  simp [epochSetOwn]

@[simp] theorem epochSetApply_mode (s : State) : (epochSetApply s).th.mode = s.th.mode := by
  simp [epochSetApply] <;> (repeat' split) <;> simp

@[simp] theorem dropEpoch_mode (st : Status) (s : State) : (dropEpoch st s).th.mode = s.th.mode := by
  simp [dropEpoch] <;> (repeat' split) <;> simp

@[simp] theorem epochSetTimeout_mode (s : State) : (epochSetTimeout s).th.mode = s.th.mode := by
  simp [epochSetTimeout]

@[simp] theorem latchMarker_mode (dly : Int) (s : State) : (latchMarker dly s).th.mode = s.th.mode := by
  simp [latchMarker] <;> (repeat' split) <;> simp

@[simp] theorem timeMarker_mode (s : State) : (timeMarker s).th.mode = s.th.mode := by
  simp [timeMarker] <;> (repeat' split) <;> simp

@[simp] theorem refuseHost_mode (s : State) : (refuseHost s).th.mode = s.th.mode := by
  simp [refuseHost]

@[simp] theorem badFrame_mode (s : State) : (badFrame s).th.mode = s.th.mode := by
  simp [badFrame]

@[simp] theorem acceptCommand_mode (m : Nat) (b : List Byte) (src : Peer) (s : State) :
    (acceptCommand m b src s).th.mode = s.th.mode := by
  simp [acceptCommand]

@[simp] theorem repeatAnswer_mode (m : Nat) (src : Peer) (s : State) : (repeatAnswer m src s).th.mode = s.th.mode := by
  simp [repeatAnswer] <;> (repeat' split) <;> simp

@[simp] theorem judgeCommand_mode (b : List Byte) (src : Peer) (s : State) :
    (judgeCommand b src s).th.mode = s.th.mode := by
  simp [judgeCommand] <;> (repeat' split) <;> simp

@[simp] theorem polcorFrame_mode (b : List Byte) (src : Peer) (s : State) :
    (polcorFrame b src s).th.mode = s.th.mode := by
  simp [polcorFrame]

@[simp] theorem wakePort_mode (p : Nat) (s : State) : (wakePort p s).th.mode = s.th.mode := by
  simp [wakePort]

@[simp] theorem ipFrame_mode (p : Nat) (f : RxFrame) (ip : RxIp) (s : State) :
    (ipFrame p f ip s).th.mode = s.th.mode := by
  simp [ipFrame] <;> (repeat' split) <;> simp

@[simp] theorem frameReceive_mode (p : Nat) (f : RxFrame) (s : State) : (frameReceive p f s).th.mode = s.th.mode := by
  simp [frameReceive] <;> (repeat' split) <;> simp

@[simp] theorem arpOut_mode (p : Nat) (mac : Option (BitVec 48)) (target : W32) (s : State) :
    (arpOut p mac target s).th.mode = s.th.mode := by
  simp [arpOut]

@[simp] theorem arpReceive_mode (p : Nat) (a : ArpMsg) (s : State) : (arpReceive p a s).th.mode = s.th.mode := by
  simp [arpReceive]

@[simp] theorem icmpEcho_mode (p : Nat) (e : EchoMsg) (s : State) : (icmpEcho p e s).th.mode = s.th.mode := by
  simp [icmpEcho]

@[simp] theorem askArp_mode (p : Nat) (s : State) : (askArp p s).th.mode = s.th.mode := by
  simp [askArp]

@[simp] theorem arpUnresolved_mode (p : Nat) (s : State) : (arpUnresolved p s).th.mode = s.th.mode := by
  simp [arpUnresolved]

@[simp] theorem announce_mode (p : Nat) (s : State) : (announce p s).th.mode = s.th.mode := by
  simp [announce]

@[simp] theorem becomeActive_mode (q : Nat) (again : List Frame) (s : State) :
    (becomeActive q again s).th.mode = s.th.mode := by
  simp [becomeActive] <;> (repeat' split) <;> simp

@[simp] theorem applyLinkCfg_mode (new : LinkRegs) (s : State) : (applyLinkCfg new s).th.mode = s.th.mode := by
  simp [applyLinkCfg] <;> (repeat' split) <;> simp

@[simp] theorem linkCfgGone_mode (m : Nat) (seq : W16) (s : State) : (linkCfgGone m seq s).th.mode = s.th.mode := by
  simp [linkCfgGone] <;> (repeat' split) <;> simp

@[simp] theorem responseGone_mode (m : Nat) (s : State) : (responseGone m s).th.mode = s.th.mode := by
  simp [responseGone] <;> (repeat' split) <;> simp

@[simp] theorem frameGone_mode (f : Frame) (s : State) : (frameGone f s).th.mode = s.th.mode := by
  simp [frameGone]

@[simp] theorem stampEvent_mode (p : Nat) (f : Frame) (s : State) : (stampEvent p f s).2.th.mode = s.th.mode := by
  unfold stampEvent
  repeat' split
  all_goals simp

@[simp] theorem countFrame_mode (p : Nat) (o : Out) (s : State) : (countFrame p o s).th.mode = s.th.mode := by
  simp [countFrame] <;> (repeat' split) <;> simp

@[simp] theorem keepFrame_mode (f : Frame) (s : State) : (keepFrame f s).th.mode = s.th.mode := by
  simp [keepFrame]

@[simp] theorem leave_mode (p : Nat) (o : Out) (s : State) : (leave p o s).th.mode = s.th.mode := by
  unfold leave
  split <;> simp

@[simp] theorem captureFrame_mode (x : Stream) (s : State) : (captureFrame x s).2.th.mode = s.th.mode := by
  simp [captureFrame]

@[simp] theorem sendCapture_mode (p : Nat) (s : State) : (sendCapture p s).th.mode = s.th.mode := by
  unfold sendCapture
  split
  · split <;> simp
  · rfl

@[simp] theorem sendLow_mode (p : Nat) (s : State) : (sendLow p s).th.mode = s.th.mode := by
  simp [sendLow] <;> (repeat' split) <;> simp

@[simp] theorem transmit_mode (p : Nat) (s : State) : (transmit p s).th.mode = s.th.mode := by
  simp [transmit] <;> (repeat' split) <;> simp

@[simp] theorem frameTransmit_mode (p : Nat) (s : State) : (frameTransmit p s).th.mode = s.th.mode := by
  simp [frameTransmit]

@[simp] theorem notification_mode (s : State) : (notification s).th.mode = s.th.mode := by
  simp [notification]

@[simp] theorem phyUp_mode (p : Nat) (s : State) : (phyUp p s).th.mode = s.th.mode := by
  simp [phyUp]

@[simp] theorem portUp_mode (p : Nat) (s : State) : (portUp p s).th.mode = s.th.mode := by
  simp [portUp]

@[simp] theorem dropOwn_mode (p : Nat) (s : State) : (dropOwn p s).th.mode = s.th.mode := by
  unfold dropOwn
  simp only []
  rw [foldl_mode]
  · simp
  · intro s b
    split <;> simp

@[simp] theorem noPort_mode (p : Nat) (s : State) : (noPort p s).th.mode = s.th.mode := by
  simp [noPort]

@[simp] theorem goDown_mode (p : Nat) (s : State) : (goDown p s).th.mode = s.th.mode := by
  simp [goDown]

@[simp] theorem portDown_mode (p : Nat) (s : State) : (portDown p s).th.mode = s.th.mode := by
  simp [portDown]

@[simp] theorem keepaliveExpiry_mode (p : Nat) (s : State) : (keepaliveExpiry p s).th.mode = s.th.mode := by
  simp [keepaliveExpiry]

@[simp] theorem linkCfgOwn_mode (tk : Ticket) (b : List Byte) (s : State) :
    (linkCfgOwn tk b s).s.th.mode = s.th.mode := by
  unfold linkCfgOwn
  simp only []
  repeat' split
  all_goals simp

@[simp] theorem linkCfg_mode (m : Nat) (s : State) : (linkCfg m s).th.mode = s.th.mode := by
  simp [linkCfg] <;> (repeat' split) <;> simp

@[simp] theorem misoOut_mode (st : Byte) (bs : List Byte) (s : State) : (misoOut st bs s).th.mode = s.th.mode := by
  simp [misoOut]

@[simp] theorem spiWrite_mode (b : List Byte) (s : State) : (spiWrite b s).th.mode = s.th.mode := by
  simp [spiWrite]

@[simp] theorem spiGone_mode (f : Frame) (s : State) : (spiGone f s).th.mode = s.th.mode := by
  simp [spiGone] <;> (repeat' split) <;> simp

@[simp] theorem spiRemove_mode (c : Nat) (f : Frame) (s : State) : (spiRemove c f s).th.mode = s.th.mode := by
  simp [spiRemove]

theorem spiHead_mode {s : State} {c : Nat} {f : Frame} {t : State} (h : s.spiHead = some (c, f, t)) : t.th.mode = s.th.mode := by
  unfold State.spiHead at h
  split at h
  · split at h
    · simp only [Option.some.injEq, Prod.mk.injEq] at h
      rw [← h.2.2, stampEvent_mode]
    · cases h
  · cases h

@[simp] theorem spiRead_mode (n : Nat) (s : State) : (spiRead n s).th.mode = s.th.mode := by
  unfold spiRead
  simp only []
  split
  · rename_i h
    split
    · simp [spiHead_mode h]
    · simp
  · simp

@[simp] theorem spiStatus_mode (s : State) : (spiStatus s).th.mode = s.th.mode := by
  simp [spiStatus]

@[simp] theorem spiOther_mode (instr : Byte) (clocked : Nat) (s : State) :
    (spiOther instr clocked s).th.mode = s.th.mode := by
  simp [spiOther]

@[simp] theorem selfTest_mode (t : SelfTest) (s : State) : (selfTest t s).th.mode = s.th.mode := by
  simp [selfTest]

@[simp] theorem clearHolds_mode (s : State) : (clearHolds s).th.mode = s.th.mode := by
  simp [clearHolds]

@[simp] theorem stopRanging_mode (s : State) : (stopRanging s).th.mode = s.th.mode := by
  simp [stopRanging]

@[simp] theorem stopUnits_mode (t : Mode) (s : State) : (stopUnits t s).th.mode = s.th.mode := by
  simp [stopUnits] <;> (repeat' split) <;> simp

@[simp] theorem beginChange_mode (tk : Ticket) (t : Mode) (s : State) : (beginChange tk t s).th.mode = s.th.mode := by
  simp [beginChange]

@[simp] theorem takeSource_mode (m : Mode) (s : State) : (takeSource m s).th.mode = s.th.mode := by
  simp [takeSource] <;> (repeat' split) <;> simp

@[simp] theorem syncsLow_mode (s : State) : (syncsLow s).th.mode = s.th.mode := by
  simp [syncsLow]

@[simp] theorem enterRest_mode (old t : Mode) (s : State) : (enterRest old t s).th.mode = s.th.mode := by
  simp [enterRest] <;> (repeat' split) <;> simp

@[simp] theorem enterRanging_mode (old t : Mode) (s : State) : (enterRanging old t s).th.mode = s.th.mode := by
  simp [enterRanging]

@[simp] theorem wake_mode (s : State) : (wake s).th.mode = s.th.mode := by
  simp [wake]

@[simp] theorem limpPendClear_mode (s : State) : (limpPendClear s).th.mode = s.th.mode := by
  simp [limpPendClear]

@[simp] theorem setStep_mode (n : Nat) (s : State) : (setStep n s).th.mode = s.th.mode := by
  simp [setStep]

@[simp] theorem sensorFails_mode (k : Nat) (s : State) : (sensorFails k s).th.mode = s.th.mode := by
  simp [sensorFails]

@[simp] theorem unbias_mode (k : Nat) (s : State) : (unbias k s).th.mode = s.th.mode := by
  simp [unbias]

@[simp] theorem sensorRecovers_mode (k : Nat) (s : State) : (sensorRecovers k s).th.mode = s.th.mode := by
  simp [sensorRecovers]

@[simp] theorem goodConversion_mode (k : Nat) (t : Int) (s : State) : (goodConversion k t s).th.mode = s.th.mode := by
  simp [goodConversion]

@[simp] theorem badConversion_mode (k : Nat) (s : State) : (badConversion k s).th.mode = s.th.mode := by
  simp [badConversion]

@[simp] theorem sensorConversion_mode (k : Nat) (c : Conversion) (s : State) :
    (sensorConversion k c s).th.mode = s.th.mode := by
  simp [sensorConversion] <;> (repeat' split) <;> simp

@[simp] theorem judgeLead_mode (k : Nat) (s : State) : (judgeLead k s).th.mode = s.th.mode := by
  simp [judgeLead] <;> (repeat' split) <;> simp

@[simp] theorem judgeLeads_mode (s : State) : (judgeLeads s).th.mode = s.th.mode := by
  simp [judgeLeads] <;> (repeat' split) <;> simp

@[simp] theorem evaluate_mode (s : State) : (evaluate s).th.mode = s.th.mode := by
  simp [evaluate] <;> (repeat' split) <;> simp

@[simp] theorem throttleEvaluation_mode (s : State) : (throttleEvaluation s).th.mode = s.th.mode := by
  simp [throttleEvaluation]

@[simp] theorem thermLimits_mode (p : List Byte) (s : State) : (thermLimits p s).s.th.mode = s.th.mode := by
  simp [thermLimits] <;> (repeat' split) <;> simp

@[simp] theorem thermSensor_mode (p : List Byte) (s : State) : (thermSensor p s).s.th.mode = s.th.mode := by
  simp [thermSensor]

@[simp] theorem thermOwn_mode (a1 : Ticket) (p : List Byte) (s : State) : (thermOwn a1 p s).s.th.mode = s.th.mode := by
  simp [thermOwn] <;> (repeat' split) <;> simp

@[simp] theorem thermRow_mode (m : Nat) (row : List Byte → Bool) (s : State) :
    (thermRow m row s).th.mode = s.th.mode := by
  simp [thermRow]

@[simp] theorem fillTokens_mode (s : State) : (fillTokens s).th.mode = s.th.mode := by
  simp [fillTokens]

@[simp] theorem writeLog_mode (e : LogEntry) (s : State) : (writeLog e s).th.mode = s.th.mode := by
  simp [writeLog]

@[simp] theorem faultLogEntry_mode (s : State) : (faultLogEntry s).th.mode = s.th.mode := by
  simp [faultLogEntry] <;> (repeat' split) <;> simp

@[simp] theorem sendRec_mode (r : TraceRec) (s : State) : (sendRec r s).th.mode = s.th.mode := by
  simp [sendRec]

@[simp] theorem releaseTrace_mode (s : State) : (releaseTrace s).th.mode = s.th.mode := by
  simp [releaseTrace] <;> (repeat' split) <;> simp

@[simp] theorem sendNext_mode (s : State) : (sendNext s).th.mode = s.th.mode := by
  simp [sendNext] <;> (repeat' split) <;> simp

@[simp] theorem traceSend_mode (s : State) : (traceSend s).th.mode = s.th.mode := by
  simp [traceSend] <;> (repeat' split) <;> simp

@[simp] theorem traceTime_mode (s : State) : (traceTime s).th.mode = s.th.mode := by
  simp [traceTime]

@[simp] theorem traceBurst_mode (s : State) : (traceBurst s).th.mode = s.th.mode := by
  simp [traceBurst]

@[simp] theorem latchCounters_mode (s : State) : (latchCounters s).th.mode = s.th.mode := by
  simp [latchCounters]

@[simp] theorem dumpQueue_mode (v : W32) (s : State) : (dumpQueue v s).th.mode = s.th.mode := by
  simp [dumpQueue]

@[simp] theorem scrubRead_mode (r : ReadResult) (s : State) : (scrubRead r s).th.mode = s.th.mode := by
  simp [scrubRead] <;> (repeat' split) <;> simp

@[simp] theorem correctionRewrite_mode (s : State) : (correctionRewrite s).th.mode = s.th.mode := by
  simp [correctionRewrite] <;> (repeat' split) <;> simp

@[simp] theorem tapClock_mode (s : State) (c : Tck) : (tapClock s c).th.mode = s.th.mode := by
  simp [tapClock] <;> (repeat' split) <;> simp

@[simp] theorem jtagRun_mode (code : BitVec 4) (clocks : List Tck) (s : State) :
    (jtagRun code clocks s).th.mode = s.th.mode := by
  simp [jtagRun] <;> (repeat' split) <;> simp

@[simp] theorem jtagSample_mode (p : BitVec 24) (clocks : List Tck) (s : State) :
    (jtagSample p clocks s).th.mode = s.th.mode := by
  simp [jtagSample]

set_option maxRecDepth 20000 in

@[simp] theorem rcClear_mode (a : Nat) (s : State) : (rcClear a s).th.mode = s.th.mode := by
  unfold rcClear
  repeat' split
  all_goals simp

@[simp] theorem latchRead_mode (a : Nat) (s : State) : (latchRead a s).th.mode = s.th.mode := by
  simp [latchRead] <;> (repeat' split) <;> simp

@[simp] theorem regRead_mode (a : Nat) (s : State) : (regRead a s).2.th.mode = s.th.mode := by
  simp [regRead]

@[simp] theorem readWords_mode : ∀ (as : List Nat) (s : State), (readWords as s).2.th.mode = s.th.mode
  | [], _ => rfl
  | a :: as, s => by
    unfold readWords
    simp [readWords_mode as]

@[simp] theorem regRdOwn_mode (reads : Reads) (tk : Ticket) (p : List Byte) (s : State) :
    (regRdOwn reads tk p s).s.th.mode = s.th.mode := by
  unfold regRdOwn
  split <;> simp

theorem writeGl_mode {g : Gallery} {s t : State} (_ : True) (h : writeGl g s = .ok t) : t.th.mode = s.th.mode := by
  unfold writeGl refuse at h
  split at h
  · cases h
  · cases h
    rfl

@[simp] theorem evTest_mode (v : W32) (s : State) : (evTest v s).th.mode = s.th.mode := by
  simp [evTest]

set_option maxRecDepth 20000 in

theorem writeReg_mode {a : Nat} {v : W32} {s t : State} (h : writeReg a v s = .ok t) : t.th.mode = s.th.mode := by
  unfold writeReg at h
  simp only [writeTbCfg, writeTbHold, writeChCfg, writeF32Sel, writeCaCfg, writeCaSel, writeShCfg, writeFbwin, writeServe,
    writeEmCfg, writeBlCfg, writeBlPcfg, writeGlCfg, writeTrgCfg, writeTrcfg, writeTrdump, refuse, badField] at h
  repeat' split at h
  all_goals first
    | (cases h; simp; done)
    | (cases h; rfl)
    | (exact writeGl_mode (by first | rfl | trivial) h)
    | (cases h; done)

theorem writeTriples_mode : ∀ (n k : Nat) (p : List Byte) {s t : State}, writeTriples p n k s = .ok t → t.th.mode = s.th.mode
  | 0, _, _, _, _, h => by cases h; rfl
  | n + 1, k, p, s, t, h => by
    unfold writeTriples at h
    split at h
    · rename_i s' hs
      rw [writeTriples_mode n (k + 1) p h]
      unfold writeTriple refuse at hs
      simp only [] at hs
      split at hs
      · cases hs
      · split at hs
        · cases hs
        · exact writeReg_mode hs
    · cases h

@[simp] theorem regWrOwn_mode (a1 : Ticket) (p : List Byte) (s : State) : (regWrOwn a1 p s).s.th.mode = s.th.mode := by
  unfold regWrOwn
  simp only []
  split
  · simp
  · split
    · rename_i h
      simp [writeTriples_mode _ _ _ h]
    · simp

@[simp] theorem identOwn_mode (a1 : Ticket) (a2 : List Byte) (s : State) :
    (identOwn a1 a2 s).s.th.mode = s.th.mode := by
  simp [identOwn]

@[simp] theorem pingOwn_mode (a1 : Ticket) (p : List Byte) (s : State) : (pingOwn a1 p s).s.th.mode = s.th.mode := by
  simp [pingOwn]

@[simp] theorem ping_mode (m : Nat) (s : State) : (ping m s).th.mode = s.th.mode := by
  simp [ping]

@[simp] theorem takeLearn_mode (ws : List (Nat × W32)) (s : State) : (takeLearn ws s).th.mode = s.th.mode := by
  simp [takeLearn]

@[simp] theorem pregWrOwn_mode (a1 : Ticket) (p : List Byte) (s : State) :
    (pregWrOwn a1 p s).s.th.mode = s.th.mode := by
  unfold pregWrOwn
  split
  · simp
  · simp only []
    split <;> simp

@[simp] theorem pregWearOwn_mode (a1 : Ticket) (p : List Byte) (s : State) :
    (pregWearOwn a1 p s).s.th.mode = s.th.mode := by
  simp [pregWearOwn]

@[simp] theorem evtMaskOwn_mode (a1 : Ticket) (p : List Byte) (s : State) :
    (evtMaskOwn a1 p s).s.th.mode = s.th.mode := by
  simp [evtMaskOwn]

@[simp] theorem restartGroup_mode (g : Nat) (s : State) : (restartGroup g s).th.mode = s.th.mode := by
  simp [restartGroup]

@[simp] theorem evtReadOwn_mode (a1 : Ticket) (p : List Byte) (s : State) :
    (evtReadOwn a1 p s).s.th.mode = s.th.mode := by
  simp [evtReadOwn]

@[simp] theorem clearNext_mode (s : State) : (clearNext s).th.mode = s.th.mode := by
  simp [clearNext] <;> (repeat' split) <;> simp

@[simp] theorem evtClearOwn_mode (tk : Ticket) (p : List Byte) (s : State) :
    (evtClearOwn tk p s).s.th.mode = s.th.mode := by
  simp [evtClearOwn] <;> (repeat' split) <;> simp

@[simp] theorem evtClear_mode (m : Nat) (s : State) : (evtClear m s).th.mode = s.th.mode := by
  simp [evtClear] <;> (repeat' split) <;> simp

@[simp] theorem planHost_mode (i x : Nat) (s : State) : (planHost i x s).s.th.mode = s.th.mode := by
  simp [planHost]

@[simp] theorem swapOwn_mode (p : List Byte) (s : State) : (swapOwn p s).s.th.mode = s.th.mode := by
  simp [swapOwn]

@[simp] theorem homeOwn_mode (p : List Byte) (s : State) : (homeOwn p s).s.th.mode = s.th.mode := by
  simp [homeOwn]

@[simp] theorem retireOwn_mode (p : List Byte) (s : State) : (retireOwn p s).s.th.mode = s.th.mode := by
  simp [retireOwn]

@[simp] theorem memretOwn_mode (p : List Byte) (s : State) : (memretOwn p s).s.th.mode = s.th.mode := by
  simp [memretOwn]

@[simp] theorem memclrOwn_mode (s : State) : (memclrOwn s).s.th.mode = s.th.mode := by
  simp [memclrOwn]

@[simp] theorem spareOwn_mode (a1 : Ticket) (p : List Byte) (s : State) : (spareOwn a1 p s).s.th.mode = s.th.mode := by
  simp [spareOwn] <;> (repeat' split) <;> simp

@[simp] theorem spareRow_mode (m : Nat) (row : List Byte → Bool) (s : State) :
    (spareRow m row s).th.mode = s.th.mode := by
  simp [spareRow]

@[simp] theorem faultLogOwn_mode (reads : Reads) (a1 : Ticket) (p : List Byte) (s : State) :
    (faultLogOwn reads a1 p s).s.th.mode = s.th.mode := by
  unfold faultLogOwn
  dsimp only
  repeat' split
  all_goals simp

@[simp] theorem cutShort_mode (m k : Nat) (s : State) : (cutShort m k s).th.mode = s.th.mode := by
  unfold cutShort
  simp only []
  split <;> simp

@[simp] theorem cutWords_mode (m : Option Nat) (k : Nat) (s : State) : (cutWords m k s).th.mode = s.th.mode := by
  unfold cutWords
  repeat' split
  all_goals first | rfl | simp

@[simp] theorem cancelAdmission_mode (s : State) : (cancelAdmission s).th.mode = s.th.mode := by
  simp [cancelAdmission] <;> (repeat' split) <;> simp

@[simp] theorem cancelEnvLoad_mode (k : Nat) (s : State) : (cancelEnvLoad k s).th.mode = s.th.mode := by
  unfold cancelEnvLoad
  split <;> simp

@[simp] theorem haltLodge_mode (envWords : Nat) (s : State) : (haltLodge envWords s).th.mode = s.th.mode := by
  simp [haltLodge]

@[simp] theorem restartLodge_mode (cut : Option Nat) (envWords : Nat) (s : State) :
    (restartLodge cut envWords s).th.mode = s.th.mode := by
  simp [restartLodge]

@[simp] theorem lockstepMismatch_mode (cut : Option Nat) (words envWords : Nat) (s : State) :
    (lockstepMismatch cut words envWords s).th.mode = s.th.mode := by
  simp [lockstepMismatch] <;> (repeat' split) <;> simp

@[simp] theorem lodgeRestartEnd_mode (s : State) : (lodgeRestartEnd s).th.mode = s.th.mode := by
  simp [lodgeRestartEnd] <;> (repeat' split) <;> simp

@[simp] theorem resetWords_mode (c : Cut) (s : State) : (resetWords c s).th.mode = s.th.mode := by
  unfold resetWords
  dsimp only
  repeat' split
  all_goals simp

@[simp] theorem loadTb_mode (s : State) : (loadTb s).th.mode = s.th.mode := by
  simp [loadTb]

@[simp] theorem loadMasks_mode (s : State) : (loadMasks s).th.mode = s.th.mode := by
  simp [loadMasks]

@[simp] theorem loadLink_mode (s : State) : (loadLink s).th.mode = s.th.mode := by
  simp [loadLink]

@[simp] theorem loadCln_mode (s : State) : (loadCln s).th.mode = s.th.mode := by
  simp [loadCln]

@[simp] theorem loadTherm_mode (s : State) : (loadTherm s).th.mode = s.th.mode := by
  simp [loadTherm]

@[simp] theorem loadLines_mode (s : State) : (loadLines s).th.mode = s.th.mode := by
  simp [loadLines]

@[simp] theorem loadCores_mode (s : State) : (loadCores s).th.mode = s.th.mode := by
  simp [loadCores]

@[simp] theorem loadGallery_mode (s : State) : (loadGallery s).th.mode = s.th.mode := by
  simp [loadGallery]

@[simp] theorem loadLog_mode (s : State) : (loadLog s).th.mode = s.th.mode := by
  simp [loadLog]

@[simp] theorem loadWords_mode (s : State) : (loadWords s).th.mode = s.th.mode := by
  simp [loadWords]

@[simp] theorem factoryCheck_mode (s : State) : (factoryCheck s).th.mode = s.th.mode := by
  simp [factoryCheck]

@[simp] theorem recount_mode (s : State) : (recount s).th.mode = s.th.mode := by
  simp [recount] <;> (repeat' split) <;> simp

@[simp] theorem startUpEnd_mode (s : State) : (startUpEnd s).th.mode = s.th.mode := by
  simp [startUpEnd]

@[simp] theorem finishSelfTest_mode (test : SelfTest) (s : State) : (finishSelfTest test s).th.mode = s.th.mode := by
  simp [finishSelfTest]

@[simp] theorem readErrors_mode (reads : Reads) (s : State) : (readErrors reads s).th.mode = s.th.mode := by
  simp [readErrors] <;> (repeat' split) <;> simp

end Sys2Proof.Machine
end

