-- ==== Sys2Proof/Laws/KeepsShots.lean ====
section
/-!
SUPPORT. KeepsShots.lean: SHOT_NUM is left alone by every operation but a shot position and a reset: one lemma per operation.
-/
set_option Elab.async false

namespace Sys2Proof.Machine

@[simp] theorem ite_shot {c : Prop} [Decidable c] (a b : State) :
    (if c then a else b).sh.shotNum = if c then a.sh.shotNum else b.sh.shotNum := by split <;> rfl

@[simp] theorem reply_ite_shot {c : Prop} [Decidable c] (a b : Reply) :
    (if c then a else b).s.sh.shotNum = if c then a.s.sh.shotNum else b.s.sh.shotNum := by split <;> rfl

/-- A loop keeps it where its body does. -/
@[simp] theorem foldl_shot {β : Type} (f : State → β → State) (h : ∀ s b, (f s b).sh.shotNum = s.sh.shotNum) :
    ∀ (l : List β) (s : State), (l.foldl f s).sh.shotNum = s.sh.shotNum
  | [], _ => rfl
  | b :: l, s => by rw [List.foldl_cons, foldl_shot f h l (f s b), h]

@[simp] theorem State.pushStamped_shot (s : State) (e : Nat) (r : TraceRec) :
    (State.pushStamped s e r).sh.shotNum = s.sh.shotNum := by
  simp [State.pushStamped] <;> (repeat' split) <;> simp

@[simp] theorem count_shot (n k : Nat) (s : State) : (count n k s).sh.shotNum = s.sh.shotNum := by
  simp [count]

@[simp] theorem raises_shot (ns : List Nat) (s : State) : (raises ns s).sh.shotNum = s.sh.shotNum := by
  unfold raises
  dsimp only
  split <;> rfl

@[simp] theorem raise_shot (n : Nat) (s : State) : (raise n s).sh.shotNum = s.sh.shotNum := by
  simp [raise]

@[simp] theorem raiseIf_shot (b : Bool) (n : Nat) (s : State) : (raiseIf b n s).sh.shotNum = s.sh.shotNum := by
  simp [raiseIf]

@[simp] theorem updSens_shot (k : Nat) (f : Sensor → Sensor) (s : State) :
    (updSens k f s).sh.shotNum = s.sh.shotNum := by
  simp [updSens]

@[simp] theorem settle_shot (s : State) : (settle s).sh.shotNum = s.sh.shotNum := by
  simp [settle]

@[simp] theorem detects_shot (fs : List Found) (s : State) : (detects fs s).sh.shotNum = s.sh.shotNum := by
  simp [detects]

@[simp] theorem detect_shot (code unit action : Nat) (stays : Bool) (s : State) :
    (detect code unit action stays s).sh.shotNum = s.sh.shotNum := by
  simp [detect]

@[simp] theorem repairId_shot (id : FaultId) (action : Nat) (s : State) :
    (repairId id action s).sh.shotNum = s.sh.shotNum := by
  simp [repairId] <;> (repeat' split) <;> simp

@[simp] theorem repair_shot (code unit action : Nat) (s : State) :
    (repair code unit action s).sh.shotNum = s.sh.shotNum := by
  simp [repair]

@[simp] theorem updSlot_shot (k : Nat) (f : MSlot → MSlot) (s : State) : (updSlot k f s).sh.shotNum = s.sh.shotNum := by
  simp [updSlot]

@[simp] theorem updSync_shot (n : Nat) (f : Sync → Sync) (s : State) : (updSync n f s).sh.shotNum = s.sh.shotNum := by
  simp [updSync]

@[simp] theorem startWaiters_shot (n : Nat) (t : Coarse) (s : State) :
    (startWaiters n t s).sh.shotNum = s.sh.shotNum := by
  simp [startWaiters]

@[simp] theorem markSats_shot (i : Nat) (n : BitVec 48) (t : Stamp) (s : State) :
    (markSats i n t s).sh.shotNum = s.sh.shotNum := by
  simp [markSats]

@[simp] theorem findUnreadable_shot (a : Nat) (s : State) : (findUnreadable a s).sh.shotNum = s.sh.shotNum := by
  simp [findUnreadable]

@[simp] theorem checkWord_shot (a : Nat) (r : ReadResult) (s : State) :
    (checkWord a r s).sh.shotNum = s.sh.shotNum := by
  simp [checkWord] <;> (repeat' split) <;> simp

@[simp] theorem clearUpset_shot (a : Nat) (s : State) : (clearUpset a s).sh.shotNum = s.sh.shotNum := by
  simp [clearUpset] <;> (repeat' split) <;> simp

@[simp] theorem checkRead_shot (a : Nat) (s : State) : (checkRead a s).sh.shotNum = s.sh.shotNum := by
  simp [checkRead] <;> (repeat' split) <;> simp

@[simp] theorem checkReads_shot (as : List Nat) (s : State) : (checkReads as s).sh.shotNum = s.sh.shotNum := by
  simp [checkReads] <;> (repeat' split) <;> simp

@[simp] theorem intoSpare_shot : ∀ (n a : Nat) (v : W32) (s : State), (intoSpare n a v s).2.sh.shotNum = s.sh.shotNum
  | 0, _, _, _ => rfl
  | n + 1, a, v, s => by
    simp only [intoSpare]
    repeat' split
    all_goals simp [intoSpare_shot n]

@[simp] theorem refuseWrite_shot (a : Nat) (old : W32) (s : State) :
    (refuseWrite a old s).sh.shotNum = s.sh.shotNum := by
  simp [refuseWrite]

@[simp] theorem committed_shot (a : Nat) (was : Bool) (s : State) : (committed a was s).sh.shotNum = s.sh.shotNum := by
  simp [committed]

@[simp] theorem writeWord_shot (a : Nat) (v : W32) (s : State) : (writeWord a v s).2.sh.shotNum = s.sh.shotNum := by
  simp only [writeWord]
  repeat' split
  all_goals simp

@[simp] theorem commit_shot (a : Nat) (v : W32) (s : State) : (commit a v s).2.sh.shotNum = s.sh.shotNum := by
  simp only [commit]
  split <;> simp

@[simp] theorem commits_shot : ∀ (ws : List (Nat × W32)) (s : State), (commits ws s).2.2.sh.shotNum = s.sh.shotNum
  | [], _ => rfl
  | (a, v) :: ws, s => by
    have h := commit_shot a v s
    unfold commits
    split
    · rename_i s' hc
      rw [hc] at h
      simp only [commits_shot ws s']
      exact h
    · rename_i s' hc
      rw [hc] at h
      exact h

@[simp] theorem commitOwn_shot (a : Nat) (v : W32) (s : State) : (commitOwn a v s).sh.shotNum = s.sh.shotNum := by
  simp [commitOwn]

@[simp] theorem commitChanged_shot (a : Nat) (f : W32 → W32) (s : State) : (commitChanged a f s).2.sh.shotNum = s.sh.shotNum := by
  simp [commitChanged]

@[simp] theorem strike_shot (reads : Reads) (s : State) : (strike reads s).sh.shotNum = s.sh.shotNum := by
  simp [strike] <;> (repeat' split) <;> simp

@[simp] theorem updPort_shot (p : Nat) (f : Port → Port) (s : State) : (updPort p f s).sh.shotNum = s.sh.shotNum := by
  simp [updPort]

@[simp] theorem updPath_shot (p : Nat) (f : PathQ → PathQ) (s : State) : (updPath p f s).sh.shotNum = s.sh.shotNum := by
  simp [updPath]

@[simp] theorem dropOut_shot (n : Nat) (s : State) : (dropOut n s).sh.shotNum = s.sh.shotNum := by
  simp [dropOut]

@[simp] theorem enqueue_shot (p c : Nat) (o : Out) (s : State) : (enqueue p c o s).sh.shotNum = s.sh.shotNum := by
  simp [enqueue]

@[simp] theorem sendHost_shot (c : Nat) (f : Frame) (s : State) : (sendHost c f s).sh.shotNum = s.sh.shotNum := by
  simp [sendHost] <;> (repeat' split) <;> simp

@[simp] theorem sendEvent_shot (c : Nat) (f : Frame) (s : State) : (sendEvent c f s).sh.shotNum = s.sh.shotNum := by
  simp [sendEvent]

@[simp] theorem sendReturn_shot (f : Frame) (s : State) : (sendReturn f s).sh.shotNum = s.sh.shotNum := by
  simp [sendReturn] <;> (repeat' split) <;> simp

@[simp] theorem updBox_shot (m : Nat) (f : Mailbox → Mailbox) (s : State) :
    (updBox m f s).sh.shotNum = s.sh.shotNum := by
  simp [updBox]

@[simp] theorem sendResponse_shot (f : Frame) (dst : Peer) (s : State) :
    (sendResponse f dst s).sh.shotNum = s.sh.shotNum := by
  simp [sendResponse]

@[simp] theorem respond_shot (m : Nat) (a : Answer) (s : State) : (respond m a s).sh.shotNum = s.sh.shotNum := by
  simp [respond]

@[simp] theorem answer_shot (m : Nat) (a : Answer) (now : Start) (s : State) :
    (answer m a now s).sh.shotNum = s.sh.shotNum := by
  simp [answer]

@[simp] theorem completeNow_shot (tk : Ticket) (a : Answer) (s : State) :
    (completeNow tk a s).sh.shotNum = s.sh.shotNum := by
  simp [completeNow]

@[simp] theorem complete_shot (tk : Ticket) (a : Answer) (s : State) : (complete tk a s).sh.shotNum = s.sh.shotNum := by
  simp [complete]

@[simp] theorem answerBadop_shot : ∀ (n : Nat) (s : State), (answerBadop n s).sh.shotNum = s.sh.shotNum
  | 0, _ => rfl
  | n + 1, s => by
    unfold answerBadop
    split
    · split
      · rw [answerBadop_shot n, answer_shot]
      · rfl
    · rfl

@[simp] theorem reply_shot (s : State) (a : Answer) : (reply s a).s.sh.shotNum = s.sh.shotNum := by
  simp [reply]

@[simp] theorem lodge_shot (m op : Nat) (row len : List Byte → Bool) (mode : State → List Byte → Bool)
    (own : Ticket → List Byte → State → Reply) (h : ∀ tk p s, (own tk p s).s.sh.shotNum = s.sh.shotNum) (s : State) :
    (lodge m op row len mode own s).sh.shotNum = s.sh.shotNum := by
  unfold lodge
  simp only []
  split
  · rw [answerBadop_shot]
    split
    · simp
    · split
      · simp
      · split <;> (split <;> simp [h])
  · rfl

@[simp] theorem closeReturn_shot (s : State) : (closeReturn s).sh.shotNum = s.sh.shotNum := by
  simp [closeReturn]

@[simp] theorem placeItem_shot (x : BitVec 128) (service : Bool) (s : State) :
    (placeItem x service s).sh.shotNum = s.sh.shotNum := by
  simp [placeItem]

@[simp] theorem startSpan_shot (s : State) : (startSpan s).sh.shotNum = s.sh.shotNum := by
  simp [startSpan]

@[simp] theorem declareLoss_shot (s : State) : (declareLoss s).sh.shotNum = s.sh.shotNum := by
  simp [declareLoss] <;> (repeat' split) <;> simp

@[simp] theorem refinAbsence_shot (s : State) : (refinAbsence s).sh.shotNum = s.sh.shotNum := by
  simp [refinAbsence]

@[simp] theorem learnGate_shot (y : Int) (s : State) : (learnGate y s).sh.shotNum = s.sh.shotNum := by
  simp [learnGate] <;> (repeat' split) <;> simp

@[simp] theorem frequencyGate_shot (ok : Bool) (ofs : W32) (y : Int) (s : State) :
    (frequencyGate ok ofs y s).sh.shotNum = s.sh.shotNum := by
  simp [frequencyGate]

@[simp] theorem phaseLoss_shot (s : State) : (phaseLoss s).sh.shotNum = s.sh.shotNum := by
  simp [phaseLoss]

@[simp] theorem qualificationEnd_shot (s : State) : (qualificationEnd s).sh.shotNum = s.sh.shotNum := by
  simp [qualificationEnd]

@[simp] theorem endSpan_shot (s : State) : (endSpan s).sh.shotNum = s.sh.shotNum := by
  simp [endSpan]

@[simp] theorem acquireComplete_shot (s : State) : (acquireComplete s).sh.shotNum = s.sh.shotNum := by
  simp [acquireComplete]

@[simp] theorem spanStart_shot (s : State) : (spanStart s).sh.shotNum = s.sh.shotNum := by
  simp [spanStart]

@[simp] theorem xtalUpdate_shot (s : State) : (xtalUpdate s).sh.shotNum = s.sh.shotNum := by
  simp [xtalUpdate]

@[simp] theorem holdLimit_shot (s : State) : (holdLimit s).sh.shotNum = s.sh.shotNum := by
  simp [holdLimit]

@[simp] theorem learnUpdate_shot (s : State) : (learnUpdate s).sh.shotNum = s.sh.shotNum := by
  simp [learnUpdate]

@[simp] theorem reload_shot (s : State) (f : Nat) : (reload s f).sh.shotNum = s.sh.shotNum := by
  simp [reload]

@[simp] theorem replicaCompare_shot (upsets : List (Nat × Coarse)) (s : State) :
    (replicaCompare upsets s).sh.shotNum = s.sh.shotNum := by
  simp [replicaCompare]

@[simp] theorem ppsEdge_shot (rising : Bool) (s : State) : (ppsEdge rising s).sh.shotNum = s.sh.shotNum := by
  simp [ppsEdge]

@[simp] theorem ppsMissing_shot (s : State) : (ppsMissing s).sh.shotNum = s.sh.shotNum := by
  simp [ppsMissing]

@[simp] theorem latchNow_shot (s : State) : (latchNow s).sh.shotNum = s.sh.shotNum := by
  simp [latchNow]

@[simp] theorem setTbCfg_shot (new : W32) (s : State) : (setTbCfg new s).sh.shotNum = s.sh.shotNum := by
  simp [setTbCfg]

@[simp] theorem tbCfgOwn_shot (a1 : Ticket) (p : List Byte) (s : State) :
    (tbCfgOwn a1 p s).s.sh.shotNum = s.sh.shotNum := by
  simp [tbCfgOwn] <;> (repeat' split) <;> simp

@[simp] theorem updChan_shot (i : Nat) (f : Chan → Chan) (s : State) : (updChan i f s).sh.shotNum = s.sh.shotNum := by
  simp [updChan]

@[simp] theorem updCore_shot (x : Nat) (f : Core → Core) (s : State) : (updCore x f s).sh.shotNum = s.sh.shotNum := by
  simp [updCore]

@[simp] theorem updConv_shot (x v : Nat) (f : Conv → Conv) (s : State) :
    (updConv x v f s).sh.shotNum = s.sh.shotNum := by
  simp [updConv]

@[simp] theorem armNext_shot (x v : Nat) (s : State) : (armNext x v s).sh.shotNum = s.sh.shotNum := by
  simp [armNext] <;> (repeat' split) <;> simp

@[simp] theorem armFirst_shot (x : Nat) (s : State) : (armFirst x s).sh.shotNum = s.sh.shotNum := by
  simp [armFirst] <;> (repeat' split) <;> simp

@[simp] theorem takeHit_shot (i x t : Nat) (f : Nat → Chan → Chan) (s : State) : (takeHit i x t f s).sh.shotNum = s.sh.shotNum := by
  simp [takeHit] <;> (repeat' split) <;> simp

@[simp] theorem feedNew_shot (i t : Nat) (rising : Bool) (cn : Coarse) (code : Nat) (s : State) :
    (feedNew i t rising cn code s).sh.shotNum = s.sh.shotNum := by
  simp [feedNew] <;> (repeat' split) <;> simp

@[simp] theorem stampEdge_shot (i t : Nat) (rising : Bool) (cn : Coarse) (code : Nat) (s : State) :
    (stampEdge i t rising cn code s).sh.shotNum = s.sh.shotNum := by
  simp [stampEdge]

@[simp] theorem checkRate_shot (i t : Nat) (s : State) : (checkRate i t s).sh.shotNum = s.sh.shotNum := by
  simp [checkRate]

@[simp] theorem chanEdge_shot (i t : Nat) (rising : Bool) (cn : Coarse) (code : Nat) (s : State) :
    (chanEdge i t rising cn code s).sh.shotNum = s.sh.shotNum := by
  simp [chanEdge] <;> (repeat' split) <;> simp

@[simp] theorem edgeArrival_shot (n t : Nat) (rising : Bool) (cn : Coarse) (code : Nat) (s : State) :
    (edgeArrival n t rising cn code s).sh.shotNum = s.sh.shotNum := by
  simp [edgeArrival] <;> (repeat' split) <;> simp

@[simp] theorem retire_shot (x : Nat) (s : State) : (retire x s).sh.shotNum = s.sh.shotNum := by
  simp [retire]

@[simp] theorem planSwitch_shot (i x : Nat) (tsw : Coarse) (fault : Option Nat) (s : State) :
    (planSwitch i x tsw fault s).sh.shotNum = s.sh.shotNum := by
  simp [planSwitch]

@[simp] theorem planRepair_shot (i : Nat) (code : Nat) (s : State) :
    (planRepair i code s).sh.shotNum = s.sh.shotNum := by
  simp [planRepair] <;> (repeat' split) <;> simp

@[simp] theorem coreFault_shot (code x : Nat) (s : State) : (coreFault code x s).sh.shotNum = s.sh.shotNum := by
  unfold coreFault
  simp only []
  split
  · rfl
  · split
    · simp
    · rw [foldl_shot]
      · simp
      · intro s b
        split <;> simp

@[simp] theorem endFreed_shot (s : State) : (endFreed s).sh.shotNum = s.sh.shotNum := by
  simp [endFreed] <;> (repeat' split) <;> simp

@[simp] theorem replanCores_shot (s : State) : (replanCores s).sh.shotNum = s.sh.shotNum := by
  unfold replanCores
  rw [foldl_shot]
  intro s b
  split
  · split
    · rfl
    · split <;> simp
  · rfl

@[simp] theorem convFault_shot (x v : Nat) (s : State) : (convFault x v s).sh.shotNum = s.sh.shotNum := by
  simp [convFault]

@[simp] theorem coreSwitch_shot (i : Nat) (s : State) : (coreSwitch i s).sh.shotNum = s.sh.shotNum := by
  simp [coreSwitch] <;> (repeat' split) <;> simp

@[simp] theorem release_shot (x v : Nat) (s : State) : (release x v s).sh.shotNum = s.sh.shotNum := by
  simp [release]

@[simp] theorem releaseHit_shot (i x v : Nat) (s : State) : (releaseHit i x v s).sh.shotNum = s.sh.shotNum := by
  simp [releaseHit] <;> (repeat' split) <;> simp

@[simp] theorem conversionDone_shot (x v : Nat) (s : State) : (conversionDone x v s).sh.shotNum = s.sh.shotNum := by
  simp [conversionDone] <;> (repeat' split) <;> simp

@[simp] theorem armedHandover_shot (x : Nat) (s : State) : (armedHandover x s).sh.shotNum = s.sh.shotNum := by
  simp [armedHandover] <;> (repeat' split) <;> simp

@[simp] theorem calibrationEdge_shot (x code : Nat) (s : State) :
    (calibrationEdge x code s).sh.shotNum = s.sh.shotNum := by
  simp [calibrationEdge] <;> (repeat' split) <;> simp

@[simp] theorem acceptLatch_shot (i : Nat) (s : State) : (acceptLatch i s).sh.shotNum = s.sh.shotNum := by
  simp [acceptLatch] <;> (repeat' split) <;> simp

@[simp] theorem checkFull_shot (n : Nat) (s : State) : (checkFull n s).sh.shotNum = s.sh.shotNum := by
  simp [checkFull]

@[simp] theorem pushStamp_shot (i : Nat) (r : Flying) (s : State) : (pushStamp i r s).sh.shotNum = s.sh.shotNum := by
  simp [pushStamp]

@[simp] theorem stampPush_shot (i : Nat) (s : State) : (stampPush i s).sh.shotNum = s.sh.shotNum := by
  simp [stampPush] <;> (repeat' split) <;> simp

@[simp] theorem closeWordRetry_shot (i : Nat) (s : State) : (closeWordRetry i s).sh.shotNum = s.sh.shotNum := by
  simp [closeWordRetry] <;> (repeat' split) <;> simp

@[simp] theorem presentClose_shot (gen tag i : Nat) (s : State) :
    (presentClose gen tag i s).sh.shotNum = s.sh.shotNum := by
  simp [presentClose] <;> (repeat' split) <;> simp

@[simp] theorem popHead_shot (i : Nat) (s : State) : (popHead i s).sh.shotNum = s.sh.shotNum := by
  simp [popHead]

@[simp] theorem latchCounts_shot (i : Nat) (s : State) : (latchCounts i s).sh.shotNum = s.sh.shotNum := by
  simp [latchCounts]

@[simp] theorem calibrationPeriodEnd_shot (trims : List (Nat × Byte)) (s : State) :
    (calibrationPeriodEnd trims s).sh.shotNum = s.sh.shotNum := by
  simp [calibrationPeriodEnd]

@[simp] theorem tableSwitch_shot (f : Nat) (s : State) : (tableSwitch f s).sh.shotNum = s.sh.shotNum := by
  simp [tableSwitch]

@[simp] theorem startFill_shot (tk : Option Ticket) (s : State) : (startFill tk s).sh.shotNum = s.sh.shotNum := by
  simp [startFill]

@[simp] theorem calFillEnd_shot (r : FillResult) (s : State) : (calFillEnd r s).sh.shotNum = s.sh.shotNum := by
  simp [calFillEnd] <;> (repeat' split) <;> simp

@[simp] theorem cancelFill_shot (s : State) : (cancelFill s).sh.shotNum = s.sh.shotNum := by
  simp [cancelFill] <;> (repeat' split) <;> simp

@[simp] theorem calRunOwn_shot (tk : Ticket) (a1 : List Byte) (s : State) :
    (calRunOwn tk a1 s).s.sh.shotNum = s.sh.shotNum := by
  simp [calRunOwn]

@[simp] theorem skewSetOwn_shot (a1 : Ticket) (p : List Byte) (s : State) :
    (skewSetOwn a1 p s).s.sh.shotNum = s.sh.shotNum := by
  unfold skewSetOwn
  simp only []
  split
  · simp
  · split <;> simp

@[simp] theorem caSelWrite_shot (v : W32) (s : State) : (caSelWrite v s).sh.shotNum = s.sh.shotNum := by
  simp [caSelWrite]

@[simp] theorem updLine_shot (x : Nat) (f : Line → Line) (s : State) : (updLine x f s).sh.shotNum = s.sh.shotNum := by
  simp [updLine]

@[simp] theorem updDriver_shot (d : Nat) (f : Driver → Driver) (s : State) :
    (updDriver d f s).sh.shotNum = s.sh.shotNum := by
  simp [updDriver]

@[simp] theorem driveFire_shot (d : Nat) (o : FireOut) (s : State) : (driveFire d o s).sh.shotNum = s.sh.shotNum := by
  simp [driveFire]

@[simp] theorem selectOff_shot (s : State) : (selectOff s).sh.shotNum = s.sh.shotNum := by
  simp [selectOff]

@[simp] theorem charge_shot (x amp width : Nat) (s : State) : (charge x amp width s).sh.shotNum = s.sh.shotNum := by
  simp [charge]

@[simp] theorem queueCmd_shot (d op arg : Nat) (s : State) : (queueCmd d op arg s).sh.shotNum = s.sh.shotNum := by
  simp [queueCmd]

@[simp] theorem broadcast_shot (arg : Nat) (s : State) : (broadcast arg s).sh.shotNum = s.sh.shotNum := by
  simp [broadcast]

@[simp] theorem readDiag_shot (x : Nat) (s : State) : (readDiag x s).sh.shotNum = s.sh.shotNum := by
  simp [readDiag]

@[simp] theorem exchangeFails_shot (crc : Bool) (s : State) : (exchangeFails crc s).sh.shotNum = s.sh.shotNum := by
  simp [exchangeFails] <;> (repeat' split) <;> simp

@[simp] theorem sendTo_shot (d : Nat) (c : EmCmd) (queued : Bool) (again : Option Nat) (s : State) :
    (sendTo d c queued again s).sh.shotNum = s.sh.shotNum := by
  simp [sendTo]

@[simp] theorem linkCycle_shot (s : State) : (linkCycle s).sh.shotNum = s.sh.shotNum := by
  simp [linkCycle] <;> (repeat' split) <;> simp

@[simp] theorem takeSpare_shot (x l y : Nat) (s : State) : (takeSpare x l y s).sh.shotNum = s.sh.shotNum := by
  simp [takeSpare]

@[simp] theorem lineFault_shot (x kind : Nat) (s : State) : (lineFault x kind s).sh.shotNum = s.sh.shotNum := by
  simp [lineFault] <;> (repeat' split) <;> simp

@[simp] theorem setSynthetic_shot (d : Nat) (s : State) : (setSynthetic d s).sh.shotNum = s.sh.shotNum := by
  simp [setSynthetic]

@[simp] theorem fbFault_shot (d : Nat) (s : State) : (fbFault d s).sh.shotNum = s.sh.shotNum := by
  simp [fbFault] <;> (repeat' split) <;> simp

@[simp] theorem fbPathCheck_shot (d : Nat) (s : State) : (fbPathCheck d s).sh.shotNum = s.sh.shotNum := by
  simp [fbPathCheck]

@[simp] theorem switchCore_shot (i : Nat) (s : State) : (switchCore i s).sh.shotNum = s.sh.shotNum := by
  simp [switchCore] <;> (repeat' split) <;> simp

@[simp] theorem voidRun_shot (x : Nat) (s : State) : (voidRun x s).sh.shotNum = s.sh.shotNum := by
  simp [voidRun]

@[simp] theorem driverState_shot (d : Nat) (poll flt : Bool) (st : Nat) (s : State) :
    (driverState d poll flt st s).sh.shotNum = s.sh.shotNum := by
  simp [driverState]

@[simp] theorem lineReady_shot (d : Nat) (s : State) : (lineReady d s).sh.shotNum = s.sh.shotNum := by
  unfold lineReady
  rw [foldl_shot]
  intro s b
  split <;> simp

@[simp] theorem judgeLine_shot (d x : Nat) (s : State) : (judgeLine d x s).sh.shotNum = s.sh.shotNum := by
  simp [judgeLine]

@[simp] theorem endBlind_shot (d : Nat) (s : State) : (endBlind d s).sh.shotNum = s.sh.shotNum := by
  simp [endBlind] <;> (repeat' split) <;> simp

@[simp] theorem diagLine_shot (d x kind : Nat) (asked advanced : Bool) (s : State) :
    (diagLine d x kind asked advanced s).sh.shotNum = s.sh.shotNum := by
  simp [diagLine] <;> (repeat' split) <;> simp

@[simp] theorem diagBlind_shot (d x kind : Nat) (advanced : Bool) (b : Bool × List (Nat × Nat)) (s : State) :
    (diagBlind d x kind advanced b s).sh.shotNum = s.sh.shotNum := by
  simp [diagBlind] <;> (repeat' split) <;> simp

@[simp] theorem diagAnswer_shot (d n data : Nat) (s : State) : (diagAnswer d n data s).sh.shotNum = s.sh.shotNum := by
  simp [diagAnswer] <;> (repeat' split) <;> simp

@[simp] theorem answered_shot (e : Exchange) (flt : Bool) (data : Nat) (s : State) :
    (answered e flt data s).sh.shotNum = s.sh.shotNum := by
  simp [answered] <;> (repeat' split) <;> simp

@[simp] theorem statusWord_shot (inTime : Bool) (w : BitVec 40) (s : State) :
    (statusWord inTime w s).sh.shotNum = s.sh.shotNum := by
  simp [statusWord] <;> (repeat' split) <;> simp

@[simp] theorem eyeBudgetInterval_shot (s : State) : (eyeBudgetInterval s).sh.shotNum = s.sh.shotNum := by
  simp [eyeBudgetInterval]

@[simp] theorem diagDue_shot (x : Nat) (s : State) : (diagDue x s).sh.shotNum = s.sh.shotNum := by
  simp [diagDue]

@[simp] theorem latchDrivers_shot (s : State) : (latchDrivers s).sh.shotNum = s.sh.shotNum := by
  simp [latchDrivers]

@[simp] theorem surveyStart_shot (s : State) : (surveyStart s).sh.shotNum = s.sh.shotNum := by
  simp [surveyStart]

@[simp] theorem startDrivers_shot (s : State) : (startDrivers s).sh.shotNum = s.sh.shotNum := by
  simp [startDrivers]

@[simp] theorem testDriver_shot (d : Nat) (s : State) : (testDriver d s).sh.shotNum = s.sh.shotNum := by
  simp [testDriver]

@[simp] theorem testPass_shot (s : State) : (testPass s).sh.shotNum = s.sh.shotNum := by
  simp [testPass]

@[simp] theorem testPassReport_shot (d : Nat) (s : State) : (testPassReport d s).sh.shotNum = s.sh.shotNum := by
  simp [testPassReport]

@[simp] theorem endTests_shot (s : State) : (endTests s).sh.shotNum = s.sh.shotNum := by
  simp [endTests]

@[simp] theorem emitDisable_shot (s : State) : (emitDisable s).sh.shotNum = s.sh.shotNum := by
  simp [emitDisable]

@[simp] theorem emitEnable_shot (s : State) : (emitEnable s).sh.shotNum = s.sh.shotNum := by
  simp [emitEnable]

@[simp] theorem emitLimitOwn_shot (a1 : Ticket) (p : List Byte) (s : State) :
    (emitLimitOwn a1 p s).s.sh.shotNum = s.sh.shotNum := by
  simp [emitLimitOwn]

@[simp] theorem settleLines_shot (s : State) : (settleLines s).sh.shotNum = s.sh.shotNum := by
  simp [settleLines]

@[simp] theorem lineMapOwn_shot (a1 : Ticket) (p : List Byte) (s : State) :
    (lineMapOwn a1 p s).s.sh.shotNum = s.sh.shotNum := by
  unfold lineMapOwn
  simp only []
  repeat' split
  all_goals simp

@[simp] theorem clearfailOwn_shot (a1 : Ticket) (p : List Byte) (s : State) :
    (clearfailOwn a1 p s).s.sh.shotNum = s.sh.shotNum := by
  simp [clearfailOwn]

@[simp] theorem switchBank_shot (s : State) : (switchBank s).sh.shotNum = s.sh.shotNum := by
  simp [switchBank]

@[simp] theorem announceFrame_shot (n bank : Nat) (t : Nominal) (s : State) :
    (announceFrame n bank t s).sh.shotNum = s.sh.shotNum := by
  simp [announceFrame]

@[simp] theorem startSchedule_shot (t : Coarse) (s : State) : (startSchedule t s).sh.shotNum = s.sh.shotNum := by
  simp [startSchedule]

@[simp] theorem dropFrames_shot (s : State) : (dropFrames s).sh.shotNum = s.sh.shotNum := by
  simp [dropFrames]

@[simp] theorem stopSchedule_shot (s : State) : (stopSchedule s).sh.shotNum = s.sh.shotNum := by
  simp [stopSchedule]

@[simp] theorem beginSchedule_shot (t : Coarse) (s : State) : (beginSchedule t s).sh.shotNum = s.sh.shotNum := by
  simp [beginSchedule] <;> (repeat' split) <;> simp

@[simp] theorem dropTrigStart_shot (st : Status) (s : State) : (dropTrigStart st s).sh.shotNum = s.sh.shotNum := by
  simp [dropTrigStart] <;> (repeat' split) <;> simp

@[simp] theorem stopAtFrameEnd_shot (s : State) : (stopAtFrameEnd s).sh.shotNum = s.sh.shotNum := by
  simp [stopAtFrameEnd] <;> (repeat' split) <;> simp

@[simp] theorem setStandby_shot (f : Tab W64 → Tab W64) (s : State) : (setStandby f s).sh.shotNum = s.sh.shotNum := by
  simp [setStandby]

@[simp] theorem withdrawNext_shot (s : State) : (withdrawNext s).sh.shotNum = s.sh.shotNum := by
  simp [withdrawNext] <;> (repeat' split) <;> simp

@[simp] theorem schedLoadOwn_shot (tk : Ticket) (p : List Byte) (s : State) :
    (schedLoadOwn tk p s).s.sh.shotNum = s.sh.shotNum := by
  simp [schedLoadOwn]

@[simp] theorem admissionComplete_shot (s : State) : (admissionComplete s).sh.shotNum = s.sh.shotNum := by
  simp [admissionComplete] <;> (repeat' split) <;> simp

@[simp] theorem schedStartOwn_shot (tk : Ticket) (p : List Byte) (s : State) :
    (schedStartOwn tk p s).s.sh.shotNum = s.sh.shotNum := by
  simp [schedStartOwn]

@[simp] theorem schedStopOwn_shot (a1 : Ticket) (p : List Byte) (s : State) :
    (schedStopOwn a1 p s).s.sh.shotNum = s.sh.shotNum := by
  simp [schedStopOwn]

@[simp] theorem autostart_shot (s : State) : (autostart s).sh.shotNum = s.sh.shotNum := by
  simp [autostart]

@[simp] theorem updDwell_shot (did : Nat) (f : Dwell → Dwell) (s : State) :
    (updDwell did f s).sh.shotNum = s.sh.shotNum := by
  simp [updDwell]

@[simp] theorem formDwell_shot (s : State) : (formDwell s).sh.shotNum = s.sh.shotNum := by
  simp [formDwell] <;> (repeat' split) <;> simp

@[simp] theorem notePeak_shot (s : State) : (notePeak s).sh.shotNum = s.sh.shotNum := by
  simp [notePeak]

@[simp] theorem updEntry_shot (tag : Nat) (f : Entry → Entry) (s : State) :
    (updEntry tag f s).sh.shotNum = s.sh.shotNum := by
  simp [updEntry]

@[simp] theorem advance_shot (last frameLast : Bool) (b : StepWord) (r : Sched) (s : State) :
    (advance last frameLast b r s).sh.shotNum = s.sh.shotNum := by
  simp [advance]

@[simp] theorem entryAllocate_shot (s : State) : (entryAllocate s).sh.shotNum = s.sh.shotNum := by
  simp [entryAllocate] <;> (repeat' split) <;> simp

@[simp] theorem selectNext_shot (s : State) : (selectNext s).sh.shotNum = s.sh.shotNum := by
  simp [selectNext] <;> (repeat' split) <;> simp

@[simp] theorem traceShot_shot (e : Entry) (s : State) : (traceShot e s).sh.shotNum = s.sh.shotNum := by
  simp [traceShot]

@[simp] theorem shotFired_shot (tag : Nat) (st : Stamp) (s : State) :
    (shotFired tag st s).sh.shotNum = s.sh.shotNum := by
  simp [shotFired] <;> (repeat' split) <;> simp

@[simp] theorem withhold_shot (p : Position) (s : State) : (withhold p s).sh.shotNum = s.sh.shotNum := by
  simp [withhold]

@[simp] theorem shotVoid_shot (tag : Nat) (e : Entry) (s : State) : (shotVoid tag e s).sh.shotNum = s.sh.shotNum := by
  simp [shotVoid]

@[simp] theorem voidDecision_shot (tag : Nat) (s : State) : (voidDecision tag s).sh.shotNum = s.sh.shotNum := by
  simp [voidDecision] <;> (repeat' split) <;> simp

@[simp] theorem noteFire_shot (e : Entry) (st : Stamp) (s : State) : (noteFire e st s).sh.shotNum = s.sh.shotNum := by
  simp [noteFire]

@[simp] theorem useReal_shot (d : Nat) (s : State) : (useReal d s).sh.shotNum = s.sh.shotNum := by
  simp [useReal] <;> (repeat' split) <;> simp

@[simp] theorem clearSynthetic_shot (d : Nat) (s : State) : (clearSynthetic d s).sh.shotNum = s.sh.shotNum := by
  simp [clearSynthetic]

@[simp] theorem strayFb_shot (lone : Bool) (s : State) : (strayFb lone s).sh.shotNum = s.sh.shotNum := by
  simp [strayFb]

@[simp] theorem fbStamp_shot (d : Nat) (st : Stamp) (s : State) : (fbStamp d st s).sh.shotNum = s.sh.shotNum := by
  simp [fbStamp] <;> (repeat' split) <;> simp

@[simp] theorem fbTest_shot (d : Nat) (st : Stamp) (s : State) : (fbTest d st s).sh.shotNum = s.sh.shotNum := by
  simp [fbTest] <;> (repeat' split) <;> simp

@[simp] theorem closeWordPresent_shot (tag : Nat) (s : State) : (closeWordPresent tag s).sh.shotNum = s.sh.shotNum := by
  simp [closeWordPresent] <;> (repeat' split) <;> simp

@[simp] theorem closeShots_shot (i gen tag : Nat) (drop : Bool) (s : State) :
    (closeShots i gen tag drop s).sh.shotNum = s.sh.shotNum := by
  simp [closeShots]

@[simp] theorem latchShotnum_shot (s : State) : (latchShotnum s).sh.shotNum = s.sh.shotNum := by
  simp [latchShotnum]

@[simp] theorem lselWrite_shot (v : W32) (s : State) : (lselWrite v s).sh.shotNum = s.sh.shotNum := by
  simp [lselWrite]

@[simp] theorem tapMeas_shot (i : Nat) (st : Stamp) (rising : Bool) (e : QEntry) (s : State) :
    (tapMeas i st rising e s).sh.shotNum = s.sh.shotNum := by
  simp [tapMeas]

@[simp] theorem slotRunStart_shot (k : Nat) (s : State) : (slotRunStart k s).sh.shotNum = s.sh.shotNum := by
  simp [slotRunStart]

@[simp] theorem gateBoundary_shot (k : Nat) (s : State) : (gateBoundary k s).sh.shotNum = s.sh.shotNum := by
  simp [gateBoundary]

@[simp] theorem gateResult_shot (k : Nat) (s : State) : (gateResult k s).sh.shotNum = s.sh.shotNum := by
  simp [gateResult]

@[simp] theorem intervalJudge_shot (k : Nat) (s : State) : (intervalJudge k s).sh.shotNum = s.sh.shotNum := by
  simp [intervalJudge] <;> (repeat' split) <;> simp

@[simp] theorem latchSlot_shot (k : Nat) (s : State) : (latchSlot k s).sh.shotNum = s.sh.shotNum := by
  simp [latchSlot]

@[simp] theorem slotsStop_shot (s : State) : (slotsStop s).sh.shotNum = s.sh.shotNum := by
  simp [slotsStop]

@[simp] theorem slotsEnter_shot (s : State) : (slotsEnter s).sh.shotNum = s.sh.shotNum := by
  simp [slotsEnter]

@[simp] theorem syncPulse_shot (n : Nat) (s : State) : (syncPulse n s).sh.shotNum = s.sh.shotNum := by
  simp [syncPulse]

@[simp] theorem cameraLoopUpdate_shot (n : Nat) (s : State) : (cameraLoopUpdate n s).sh.shotNum = s.sh.shotNum := by
  simp [cameraLoopUpdate] <;> (repeat' split) <;> simp

@[simp] theorem measCfgSlot_shot (p : List Byte) (s : State) : (measCfgSlot p s).s.sh.shotNum = s.sh.shotNum := by
  simp [measCfgSlot] <;> (repeat' split) <;> simp

@[simp] theorem measCfgSyncOut_shot (p : List Byte) (s : State) : (measCfgSyncOut p s).s.sh.shotNum = s.sh.shotNum := by
  simp [measCfgSyncOut] <;> (repeat' split) <;> simp

@[simp] theorem measCfgOwn_shot (a1 : Ticket) (p : List Byte) (s : State) :
    (measCfgOwn a1 p s).s.sh.shotNum = s.sh.shotNum := by
  simp [measCfgOwn] <;> (repeat' split) <;> simp

@[simp] theorem measReadOwn_shot (a1 : Ticket) (p : List Byte) (s : State) :
    (measReadOwn a1 p s).s.sh.shotNum = s.sh.shotNum := by
  simp [measReadOwn]

@[simp] theorem formTrigger_shot (cfg : W32) (cause : Nat) (t : Coarse) (s : State) :
    (formTrigger cfg cause t s).sh.shotNum = s.sh.shotNum := by
  simp [formTrigger]

@[simp] theorem trginTrigger_shot (high : Bool) (t : Coarse) (s : State) :
    (trginTrigger high t s).sh.shotNum = s.sh.shotNum := by
  simp [trginTrigger]

@[simp] theorem setTrgCfg_shot (v : W32) (s : State) : (setTrgCfg v s).sh.shotNum = s.sh.shotNum := by
  simp [setTrgCfg]

@[simp] theorem trigCfgOwn_shot (a1 : Ticket) (p : List Byte) (s : State) :
    (trigCfgOwn a1 p s).s.sh.shotNum = s.sh.shotNum := by
  simp [trigCfgOwn] <;> (repeat' split) <;> simp

@[simp] theorem envsumDone_shot (s : State) : (envsumDone s).sh.shotNum = s.sh.shotNum := by
  simp [envsumDone]

@[simp] theorem envLoadOwn_shot (tk : Ticket) (p : List Byte) (s : State) :
    (envLoadOwn tk p s).s.sh.shotNum = s.sh.shotNum := by
  simp [envLoadOwn]

@[simp] theorem envLoadComplete_shot (s : State) : (envLoadComplete s).sh.shotNum = s.sh.shotNum := by
  unfold envLoadComplete
  split
  · rfl
  · simp

@[simp] theorem mapUpdate_shot (d : Dwell) (c : Nat) (bins : Tab Nat) (span : Option Nat) (nout : Nat) (s : State) :
    (mapUpdate d c bins span nout s).sh.shotNum = s.sh.shotNum := by
  simp [mapUpdate]

@[simp] theorem clearMap_shot (s : State) : (clearMap s).sh.shotNum = s.sh.shotNum := by
  simp [clearMap]

@[simp] theorem violation_shot (d : Dwell) (recs : List (BitVec 128)) (maps v : List Nat) (s : State) :
    (violation d recs maps v s).sh.shotNum = s.sh.shotNum := by
  simp [violation]

@[simp] theorem judgeDwell_shot (d : Dwell) (s : State) : (judgeDwell d s).sh.shotNum = s.sh.shotNum := by
  simp [judgeDwell]

@[simp] theorem surveyNext_shot (s : State) : (surveyNext s).sh.shotNum = s.sh.shotNum := by
  simp [surveyNext]

@[simp] theorem dwellDecision_shot (s : State) : (dwellDecision s).sh.shotNum = s.sh.shotNum := by
  simp [dwellDecision] <;> (repeat' split) <;> simp

@[simp] theorem updPart_shot (p : Nat) (f : Part → Part) (s : State) : (updPart p f s).sh.shotNum = s.sh.shotNum := by
  simp [updPart]

@[simp] theorem dropMarks_shot (lost : Nat × Nat → Bool) (s : State) :
    (dropMarks lost s).sh.shotNum = s.sh.shotNum := by
  simp [dropMarks]

@[simp] theorem streamAt_shot (p k : Nat) (s : State) : (streamAt p k s).sh.shotNum = s.sh.shotNum := by
  simp [streamAt] <;> (repeat' split) <;> simp

@[simp] theorem putRecord_shot (w : W64) (s : State) : (putRecord w s).sh.shotNum = s.sh.shotNum := by
  simp [putRecord]

@[simp] theorem noteWritten_shot (r : GRec) (k : Nat) (s : State) : (noteWritten r k s).sh.shotNum = s.sh.shotNum := by
  simp [noteWritten] <;> (repeat' split) <;> simp

@[simp] theorem writeOne_shot (s : State) : (writeOne s).sh.shotNum = s.sh.shotNum := by
  simp [writeOne] <;> (repeat' split) <;> simp

@[simp] theorem padBlock_shot : ∀ (n : Nat) (s : State), (padBlock n s).sh.shotNum = s.sh.shotNum
  | 0, _ => rfl
  | n + 1, s => by
    unfold padBlock
    split
    · rfl
    · rw [padBlock_shot n, putRecord_shot]

@[simp] theorem takePart_shot (p : Nat) (st : GlState) (s : State) : (takePart p st s).sh.shotNum = s.sh.shotNum := by
  simp [takePart]

@[simp] theorem armPart_shot (p : Nat) (s : State) : (armPart p s).sh.shotNum = s.sh.shotNum := by
  simp [armPart] <;> (repeat' split) <;> simp

@[simp] theorem rearm_shot (s : State) : (rearm s).sh.shotNum = s.sh.shotNum := by
  simp [rearm] <;> (repeat' split) <;> simp

@[simp] theorem stopWriting_shot (st : GlState) (s : State) : (stopWriting st s).sh.shotNum = s.sh.shotNum := by
  simp [stopWriting]

@[simp] theorem captureDone_shot (s : State) : (captureDone s).sh.shotNum = s.sh.shotNum := by
  simp [captureDone]

@[simp] theorem captureReady_shot (s : State) : (captureReady s).sh.shotNum = s.sh.shotNum := by
  simp [captureReady]

@[simp] theorem drain_shot : ∀ (n : Nat) (s : State), (drain n s).sh.shotNum = s.sh.shotNum
  | 0, _ => rfl
  | n + 1, s => by
    unfold drain
    split
    · rfl
    · rw [drain_shot n]
      split
      · rw [captureDone_shot]
      · rw [writeOne_shot]

@[simp] theorem endWriting_shot (s : State) : (endWriting s).sh.shotNum = s.sh.shotNum := by
  simp [endWriting]

@[simp] theorem endStream_shot (st : Status) (s : State) : (endStream st s).sh.shotNum = s.sh.shotNum := by
  simp [endStream] <;> (repeat' split) <;> simp

@[simp] theorem clearPartitions_shot (s : State) : (clearPartitions s).sh.shotNum = s.sh.shotNum := by
  simp [clearPartitions]

@[simp] theorem selfArm_shot (s : State) : (selfArm s).sh.shotNum = s.sh.shotNum := by
  simp [selfArm] <;> (repeat' split) <;> simp

@[simp] theorem autoArm_shot (s : State) : (autoArm s).sh.shotNum = s.sh.shotNum := by
  simp [autoArm]

@[simp] theorem leaveRotation_shot (c : Nat) (s : State) : (leaveRotation c s).sh.shotNum = s.sh.shotNum := by
  simp [leaveRotation]

@[simp] theorem retireChan_shot (c : Nat) (s : State) : (retireChan c s).sh.shotNum = s.sh.shotNum := by
  simp [retireChan]

@[simp] theorem outOfService_shot (s : State) : (outOfService s).sh.shotNum = s.sh.shotNum := by
  simp [outOfService]

@[simp] theorem memFault_shot (c : Nat) (s : State) : (memFault c s).sh.shotNum = s.sh.shotNum := by
  simp [memFault] <;> (repeat' split) <;> simp

@[simp] theorem memoryCheck_shot (c : Nat) (ok : Bool) (s : State) :
    (memoryCheck c ok s).sh.shotNum = s.sh.shotNum := by
  simp [memoryCheck]

@[simp] theorem mr4Read_shot (hot : Bool) (s : State) : (mr4Read hot s).sh.shotNum = s.sh.shotNum := by
  simp [mr4Read]

@[simp] theorem memoryTrainingEnd_shot (r : Training) (s : State) :
    (memoryTrainingEnd r s).sh.shotNum = s.sh.shotNum := by
  simp [memoryTrainingEnd]

@[simp] theorem padCount_shot (s : State) : (padCount s).sh.shotNum = s.sh.shotNum := by
  simp [padCount] <;> (repeat' split) <;> simp

@[simp] theorem bufferFull_shot (s : State) : (bufferFull s).sh.shotNum = s.sh.shotNum := by
  simp [bufferFull]

@[simp] theorem hand_shot (r : GRec) (s : State) : (hand r s).sh.shotNum = s.sh.shotNum := by
  simp [hand]

@[simp] theorem galleryEdge_shot (i : Nat) (st : Stamp) (rising : Bool) (s : State) :
    (galleryEdge i st rising s).sh.shotNum = s.sh.shotNum := by
  simp [galleryEdge]

@[simp] theorem galleryDwell_shot (d : Dwell) (recs : List (Nat × List (BitVec 128))) (s : State) :
    (galleryDwell d recs s).sh.shotNum = s.sh.shotNum := by
  simp [galleryDwell]

@[simp] theorem evtRecordSlot_shot (s : State) : (evtRecordSlot s).sh.shotNum = s.sh.shotNum := by
  simp [evtRecordSlot] <;> (repeat' split) <;> simp

@[simp] theorem galleryWrap_shot (s : State) : (galleryWrap s).sh.shotNum = s.sh.shotNum := by
  simp [galleryWrap]

@[simp] theorem epochHoldRelease_shot (s : State) : (epochHoldRelease s).sh.shotNum = s.sh.shotNum := by
  simp [epochHoldRelease]

@[simp] theorem trigHand_shot (x : Trigger) (kind : Nat) (honoured : Bool) (s : State) :
    (trigHand x kind honoured s).sh.shotNum = s.sh.shotNum := by
  simp [trigHand]

@[simp] theorem galleryTrigger_shot (x : Trigger) (s : State) : (galleryTrigger x s).sh.shotNum = s.sh.shotNum := by
  simp [galleryTrigger] <;> (repeat' split) <;> simp

@[simp] theorem armOwn_shot (a1 : Ticket) (p : List Byte) (s : State) :
    (armOwn a1 p s).s.sh.shotNum = s.sh.shotNum := by
  simp [armOwn] <;> (repeat' split) <;> simp

@[simp] theorem disarmOwn_shot (a1 : Ticket) (a2 : List Byte) (s : State) :
    (disarmOwn a1 a2 s).s.sh.shotNum = s.sh.shotNum := by
  simp [disarmOwn]

@[simp] theorem markSetOwn_shot (a1 : Ticket) (p : List Byte) (s : State) :
    (markSetOwn a1 p s).s.sh.shotNum = s.sh.shotNum := by
  simp [markSetOwn] <;> (repeat' split) <;> simp

@[simp] theorem capReadRead_shot (p : List Byte) (s : State) : (capReadRead p s).s.sh.shotNum = s.sh.shotNum := by
  simp [capReadRead] <;> (repeat' split) <;> simp

@[simp] theorem capReadStream_shot (tk : Ticket) (p : List Byte) (s : State) :
    (capReadStream tk p s).s.sh.shotNum = s.sh.shotNum := by
  simp [capReadStream] <;> (repeat' split) <;> simp

@[simp] theorem capReadInfo_shot (p : List Byte) (s : State) : (capReadInfo p s).s.sh.shotNum = s.sh.shotNum := by
  simp [capReadInfo]

@[simp] theorem capRelease_shot (p : List Byte) (s : State) : (capRelease p s).s.sh.shotNum = s.sh.shotNum := by
  simp [capRelease]

@[simp] theorem capReadOwn_shot (tk : Ticket) (p : List Byte) (s : State) :
    (capReadOwn tk p s).s.sh.shotNum = s.sh.shotNum := by
  simp [capReadOwn] <;> (repeat' split) <;> simp

@[simp] theorem capRow_shot (m : Nat) (row : List Byte → Bool) (s : State) :
    (capRow m row s).sh.shotNum = s.sh.shotNum := by
  simp [capRow]

@[simp] theorem streamEnd_shot (s : State) : (streamEnd s).sh.shotNum = s.sh.shotNum := by
  simp [streamEnd] <;> (repeat' split) <;> simp

@[simp] theorem latchWcount_shot (s : State) : (latchWcount s).sh.shotNum = s.sh.shotNum := by
  simp [latchWcount]

@[simp] theorem trigSchedule_shot (t : Coarse) (s : State) : (trigSchedule t s).sh.shotNum = s.sh.shotNum := by
  simp [trigSchedule] <;> (repeat' split) <;> simp

@[simp] theorem deliver_shot (x : Trigger) (s : State) : (deliver x s).sh.shotNum = s.sh.shotNum := by
  simp [deliver]

@[simp] theorem triggerDelivery_shot (s : State) : (triggerDelivery s).sh.shotNum = s.sh.shotNum := by
  simp [triggerDelivery] <;> (repeat' split) <;> simp

@[simp] theorem trgoutEnd_shot (s : State) : (trgoutEnd s).sh.shotNum = s.sh.shotNum := by
  simp [trgoutEnd]

@[simp] theorem heardWord_shot (u : Nat) (s : State) : (heardWord u s).sh.shotNum = s.sh.shotNum := by
  simp [heardWord]

@[simp] theorem heardExpiry_shot (u : Nat) (s : State) : (heardExpiry u s).sh.shotNum = s.sh.shotNum := by
  simp [heardExpiry]

@[simp] theorem clnWordDiscard_shot (w : W64) (a1 : Bool) (s : State) :
    (clnWordDiscard w a1 s).sh.shotNum = s.sh.shotNum := by
  simp [clnWordDiscard]

@[simp] theorem setClnCfg_shot (v : W32) (s : State) : (setClnCfg v s).sh.shotNum = s.sh.shotNum := by
  simp [setClnCfg]

@[simp] theorem beginCycle_shot (s : State) : (beginCycle s).sh.shotNum = s.sh.shotNum := by
  simp [beginCycle] <;> (repeat' split) <;> simp

@[simp] theorem beacon_shot (s : State) : (beacon s).sh.shotNum = s.sh.shotNum := by
  simp [beacon]

@[simp] theorem yieldMaster_shot (s : State) : (yieldMaster s).sh.shotNum = s.sh.shotNum := by
  simp [yieldMaster] <;> (repeat' split) <;> simp

@[simp] theorem beaconReceive_shot (w : W64) (s : State) : (beaconReceive w s).sh.shotNum = s.sh.shotNum := by
  simp [beaconReceive]

@[simp] theorem beaconLoss_shot (s : State) : (beaconLoss s).sh.shotNum = s.sh.shotNum := by
  simp [beaconLoss] <;> (repeat' split) <;> simp

@[simp] theorem driveWord_shot (w : W64) (s : State) : (driveWord w s).sh.shotNum = s.sh.shotNum := by
  simp [driveWord]

@[simp] theorem sendTrig_shot (t : Coarse) (cause tseq copies : Nat) (rest : List (Coarse × Nat × Nat × Nat)) (s : State) :
    (sendTrig t cause tseq copies rest s).sh.shotNum = s.sh.shotNum := by
  simp [sendTrig]

@[simp] theorem sendMark_shot (m : Nat) (start : Start) (s : State) :
    (sendMark m start s).sh.shotNum = s.sh.shotNum := by
  simp [sendMark]

@[simp] theorem unitSlot_shot (s : State) : (unitSlot s).sh.shotNum = s.sh.shotNum := by
  simp [unitSlot] <;> (repeat' split) <;> simp

@[simp] theorem roundStart_shot (s : State) : (roundStart s).sh.shotNum = s.sh.shotNum := by
  simp [roundStart]

@[simp] theorem roundWordReceive_shot (w : W64) (s : State) : (roundWordReceive w s).sh.shotNum = s.sh.shotNum := by
  simp [roundWordReceive]

@[simp] theorem clnStamp_shot (i : Nat) (st : Stamp) (rising : Bool) (s : State) :
    (clnStamp i st rising s).sh.shotNum = s.sh.shotNum := by
  simp [clnStamp] <;> (repeat' split) <;> simp

@[simp] theorem roundUpdate_shot (s : State) : (roundUpdate s).sh.shotNum = s.sh.shotNum := by
  simp [roundUpdate] <;> (repeat' split) <;> simp

@[simp] theorem trigWordReceive_shot (w : W64) (s : State) : (trigWordReceive w s).sh.shotNum = s.sh.shotNum := by
  simp [trigWordReceive]

@[simp] theorem markWordReceive_shot (w : W64) (s : State) : (markWordReceive w s).sh.shotNum = s.sh.shotNum := by
  simp [markWordReceive]

@[simp] theorem writeClnCfg_shot (v : W32) (s : State) : (writeClnCfg v s).sh.shotNum = s.sh.shotNum := by
  simp [writeClnCfg]

@[simp] theorem clnWrite_shot (p : List Byte) (s : State) : (clnWrite p s).s.sh.shotNum = s.sh.shotNum := by
  simp [clnWrite] <;> (repeat' split) <;> simp

@[simp] theorem clnCfgOwn_shot (m : Nat) (tk : Ticket) (p : List Byte) (s : State) :
    (clnCfgOwn m tk p s).s.sh.shotNum = s.sh.shotNum := by
  simp [clnCfgOwn] <;> (repeat' split) <;> simp

@[simp] theorem clnRow_shot (m : Nat) (row : List Byte → Bool) (mode : State → List Byte → Bool) (s : State) :
    (clnRow m row mode s).sh.shotNum = s.sh.shotNum := by
  simp [clnRow]

@[simp] theorem clnMeasureTimeout_shot (s : State) : (clnMeasureTimeout s).sh.shotNum = s.sh.shotNum := by
  simp [clnMeasureTimeout] <;> (repeat' split) <;> simp

@[simp] theorem updAChan_shot (i : Nat) (f : AChan → AChan) (s : State) :
    (updAChan i f s).sh.shotNum = s.sh.shotNum := by
  simp [updAChan]

@[simp] theorem updLocker_shot (f : Nat) (g : Locker → Locker) (s : State) :
    (updLocker f g s).sh.shotNum = s.sh.shotNum := by
  simp [updLocker]

@[simp] theorem loseInc_shot (i : Nat) (s : State) : (loseInc i s).sh.shotNum = s.sh.shotNum := by
  simp [loseInc]

@[simp] theorem pushInc_shot (i : Nat) (x : Inc) (s : State) : (pushInc i x s).sh.shotNum = s.sh.shotNum := by
  simp [pushInc]

@[simp] theorem passCloses_shot (i : Nat) : ∀ (n : Nat) (s : State), (passCloses i n s).sh.shotNum = s.sh.shotNum
  | 0, _ => rfl
  | n + 1, s => by
    unfold passCloses
    split
    · rw [passCloses_shot i n]
      simp
    · rfl

@[simp] theorem markAmb_shot (es : List (Nat × Entry)) (s : State) : (markAmb es s).sh.shotNum = s.sh.shotNum := by
  simp [markAmb]

@[simp] theorem judgeStamp_outside_shot (i : Nat) (st : Stamp) (s : State) : (judgeStamp.outside i st s).sh.shotNum = s.sh.shotNum := by
  unfold judgeStamp.outside
  split <;> simp

@[simp] theorem judgeStamp_shot (i : Nat) (st : Stamp) (s : State) : (judgeStamp i st s).sh.shotNum = s.sh.shotNum := by
  unfold judgeStamp
  split
  · split
    · split <;> simp
    · simp
  · rw [foldl_shot]
    · split <;> simp
    · intro s b
      simp

@[simp] theorem stampAssignment_shot (i : Nat) (s : State) : (stampAssignment i s).sh.shotNum = s.sh.shotNum := by
  simp [stampAssignment] <;> (repeat' split) <;> simp

@[simp] theorem tokenLate_shot (i : Nat) (s : State) : (tokenLate i s).sh.shotNum = s.sh.shotNum := by
  simp [tokenLate]

@[simp] theorem dwellSat_shot (did : Nat) (s : State) : (dwellSat did s).sh.shotNum = s.sh.shotNum := by
  simp [dwellSat] <;> (repeat' split) <;> simp

@[simp] theorem incrementIssue_shot (i : Nat) (s : State) : (incrementIssue i s).sh.shotNum = s.sh.shotNum := by
  simp [incrementIssue] <;> (repeat' split) <;> simp

@[simp] theorem dwellEndToken_shot (i : Nat) (s : State) : (dwellEndToken i s).sh.shotNum = s.sh.shotNum := by
  simp [dwellEndToken] <;> (repeat' split) <;> simp

@[simp] theorem selectSnap_shot (d : Dwell) (s : State) : (selectSnap d s).sh.shotNum = s.sh.shotNum := by
  simp [selectSnap] <;> (repeat' split) <;> simp

@[simp] theorem swap_shot (i did : Nat) (s : State) : (swap i did s).sh.shotNum = s.sh.shotNum := by
  simp [swap] <;> (repeat' split) <;> simp

@[simp] theorem bufferSwap_shot (i : Nat) (s : State) : (bufferSwap i s).sh.shotNum = s.sh.shotNum := by
  simp [bufferSwap] <;> (repeat' split) <;> simp

@[simp] theorem snapCheck_shot (s : State) : (snapCheck s).sh.shotNum = s.sh.shotNum := by
  simp [snapCheck] <;> (repeat' split) <;> simp

@[simp] theorem snapFill_shot (i : Nat) (l : Lane) (s : State) : (snapFill i l s).sh.shotNum = s.sh.shotNum := by
  simp [snapFill] <;> (repeat' split) <;> simp

@[simp] theorem readoutPassEnd_shot (i : Nat) (s : State) : (readoutPassEnd i s).sh.shotNum = s.sh.shotNum := by
  simp [readoutPassEnd] <;> (repeat' split) <;> simp

@[simp] theorem traceDwell_shot (d : Dwell) (s : State) : (traceDwell d s).sh.shotNum = s.sh.shotNum := by
  simp [traceDwell]

@[simp] theorem flrst_shot (f : Nat) (s : State) : (flrst f s).sh.shotNum = s.sh.shotNum := by
  simp [flrst]

@[simp] theorem flrstEnd_shot (f : Nat) (s : State) : (flrstEnd f s).sh.shotNum = s.sh.shotNum := by
  simp [flrstEnd]

@[simp] theorem dropOpened_shot (s : State) : (dropOpened s).sh.shotNum = s.sh.shotNum := by
  simp [dropOpened]

@[simp] theorem snapDrop_shot (st : Status) (s : State) : (snapDrop st s).sh.shotNum = s.sh.shotNum := by
  simp [snapDrop] <;> (repeat' split) <;> simp

@[simp] theorem lockersOff_shot (s : State) : (lockersOff s).sh.shotNum = s.sh.shotNum := by
  simp [lockersOff]

@[simp] theorem clearBuffers_shot (s : State) : (clearBuffers s).sh.shotNum = s.sh.shotNum := by
  simp [clearBuffers]

@[simp] theorem histCfgOwn_shot (a1 : Ticket) (p : List Byte) (s : State) :
    (histCfgOwn a1 p s).s.sh.shotNum = s.sh.shotNum := by
  simp [histCfgOwn] <;> (repeat' split) <;> simp

@[simp] theorem setFtcfg_shot (f : W32) (s : State) : (setFtcfg f s).sh.shotNum = s.sh.shotNum := by
  simp [setFtcfg]

@[simp] theorem rejectCfgOwn_shot (a1 : Ticket) (p : List Byte) (s : State) :
    (rejectCfgOwn a1 p s).s.sh.shotNum = s.sh.shotNum := by
  simp [rejectCfgOwn] <;> (repeat' split) <;> simp

@[simp] theorem snapArm_shot (tk : Ticket) (p : List Byte) (s : State) :
    (snapArm tk p s).s.sh.shotNum = s.sh.shotNum := by
  simp [snapArm] <;> (repeat' split) <;> simp

@[simp] theorem snapRead_shot (p : List Byte) (s : State) : (snapRead p s).s.sh.shotNum = s.sh.shotNum := by
  simp [snapRead] <;> (repeat' split) <;> simp

@[simp] theorem snapInfo_shot (p : List Byte) (s : State) : (snapInfo p s).s.sh.shotNum = s.sh.shotNum := by
  simp [snapInfo] <;> (repeat' split) <;> simp

@[simp] theorem histSnapOwn_shot (tk : Ticket) (p : List Byte) (s : State) :
    (histSnapOwn tk p s).s.sh.shotNum = s.sh.shotNum := by
  simp [histSnapOwn] <;> (repeat' split) <;> simp

@[simp] theorem snapRow_shot (m : Nat) (row : List Byte → Bool) (s : State) :
    (snapRow m row s).sh.shotNum = s.sh.shotNum := by
  simp [snapRow]

@[simp] theorem snapTimeout_shot (s : State) : (snapTimeout s).sh.shotNum = s.sh.shotNum := by
  simp [snapTimeout] <;> (repeat' split) <;> simp

@[simp] theorem extractionPhase1_shot (i : Nat) (s : State) : (extractionPhase1 i s).sh.shotNum = s.sh.shotNum := by
  simp [extractionPhase1]

@[simp] theorem markStream_shot (e : W16) (s : State) : (markStream e s).sh.shotNum = s.sh.shotNum := by
  simp [markStream]

@[simp] theorem streamStart_shot (s : State) : (streamStart s).sh.shotNum = s.sh.shotNum := by
  simp [streamStart]

@[simp] theorem streamStop_shot (s : State) : (streamStop s).sh.shotNum = s.sh.shotNum := by
  simp [streamStop]

@[simp] theorem settleEpoch_shot (s : State) : (settleEpoch s).sh.shotNum = s.sh.shotNum := by
  simp [settleEpoch]

@[simp] theorem laneGood_shot (d : Dwell) (f : Nat) (s : State) : (laneGood d f s).sh.shotNum = s.sh.shotNum := by
  simp [laneGood]

@[simp] theorem placeDwell_shot (d : Dwell) (s : State) : (placeDwell d s).sh.shotNum = s.sh.shotNum := by
  simp [placeDwell]

@[simp] theorem placeDwells_shot : ∀ (n : Nat) (s : State), (placeDwells n s).sh.shotNum = s.sh.shotNum
  | 0, s => by
    unfold placeDwells
    simp
  | n + 1, s => by
    unfold placeDwells
    split
    · split
      · rw [placeDwells_shot n]
        simp
      · simp
    · simp

@[simp] theorem extractionPhase2_shot (i : Nat) (s : State) : (extractionPhase2 i s).sh.shotNum = s.sh.shotNum := by
  simp [extractionPhase2] <;> (repeat' split) <;> simp

@[simp] theorem dwellJoin_shot (s : State) : (dwellJoin s).sh.shotNum = s.sh.shotNum := by
  simp [dwellJoin] <;> (repeat' split) <;> simp

@[simp] theorem laneLate_shot (f : Nat) (s : State) : (laneLate f s).sh.shotNum = s.sh.shotNum := by
  simp [laneLate]

@[simp] theorem setTracker_shot (f t : Nat) (r : Tracker × List Nat) (s : State) :
    (setTracker f t r s).sh.shotNum = s.sh.shotNum := by
  simp [setTracker]

@[simp] theorem trackHit_shot (f : Nat) (t : Stamp) (k : Nat) (s : State) :
    (trackHit f t k s).sh.shotNum = s.sh.shotNum := by
  simp [trackHit]

@[simp] theorem clusterClose_shot (f : Nat) (outside : Bool) (s : State) :
    (clusterClose f outside s).sh.shotNum = s.sh.shotNum := by
  simp [clusterClose] <;> (repeat' split) <;> simp

@[simp] theorem startTracker_shot (f p : Nat) (t : Stamp) (s : State) :
    (startTracker f p t s).sh.shotNum = s.sh.shotNum := by
  simp [startTracker] <;> (repeat' split) <;> simp

@[simp] theorem acquisitionEnd_shot (f : Nat) (s : State) : (acquisitionEnd f s).sh.shotNum = s.sh.shotNum := by
  simp [acquisitionEnd] <;> (repeat' split) <;> simp

@[simp] theorem trackerMiss_shot (f k : Nat) (s : State) : (trackerMiss f k s).sh.shotNum = s.sh.shotNum := by
  simp [trackerMiss]

@[simp] theorem traceStamp_shot (i era : Nat) (w : QWord) (s : State) :
    (traceStamp i era w s).sh.shotNum = s.sh.shotNum := by
  simp [traceStamp]

@[simp] theorem tapWord_shot (i : Nat) (e : QEntry) (s : State) : (tapWord i e s).sh.shotNum = s.sh.shotNum := by
  simp [tapWord] <;> (repeat' split) <;> simp

@[simp] theorem vetoed_shot (i : Nat) (s : State) : (vetoed i s).sh.shotNum = s.sh.shotNum := by
  simp [vetoed]

@[simp] theorem gateStamp_shot (i : Nat) (st : Stamp) (s : State) : (gateStamp i st s).sh.shotNum = s.sh.shotNum := by
  simp [gateStamp]

@[simp] theorem toLedger_shot (i : Nat) (w : QWord) (s : State) : (toLedger i w s).sh.shotNum = s.sh.shotNum := by
  simp [toLedger] <;> (repeat' split) <;> simp

@[simp] theorem toFire_shot (i : Nat) (w : QWord) (s : State) : (toFire i w s).sh.shotNum = s.sh.shotNum := by
  simp [toFire] <;> (repeat' split) <;> simp

@[simp] theorem consume_shot (i : Nat) (w : QWord) (s : State) : (consume i w s).sh.shotNum = s.sh.shotNum := by
  simp [consume]

@[simp] theorem queuePop_shot (i : Nat) (s : State) : (queuePop i s).sh.shotNum = s.sh.shotNum := by
  simp [queuePop] <;> (repeat' split) <;> simp

@[simp] theorem traceMark_shot (e : W16) (s : State) : (traceMark e s).sh.shotNum = s.sh.shotNum := by
  simp [traceMark]

@[simp] theorem epochAdvance_shot (s : State) : (epochAdvance s).sh.shotNum = s.sh.shotNum := by
  simp [epochAdvance]

@[simp] theorem tbCycle_shot (s : State) : (tbCycle s).sh.shotNum = s.sh.shotNum := by
  simp [tbCycle]

@[simp] theorem coarseWrap_shot (s : State) : (coarseWrap s).sh.shotNum = s.sh.shotNum := by
  simp [coarseWrap]

@[simp] theorem loadTime_shot (k : Coarse) (e : W16) (s : State) : (loadTime k e s).sh.shotNum = s.sh.shotNum := by
  simp [loadTime]

@[simp] theorem epochSetOwn_shot (tk : Ticket) (p : List Byte) (s : State) :
    (epochSetOwn tk p s).s.sh.shotNum = s.sh.shotNum := by
  simp [epochSetOwn]

@[simp] theorem epochSetApply_shot (s : State) : (epochSetApply s).sh.shotNum = s.sh.shotNum := by
  simp [epochSetApply] <;> (repeat' split) <;> simp

@[simp] theorem dropEpoch_shot (st : Status) (s : State) : (dropEpoch st s).sh.shotNum = s.sh.shotNum := by
  simp [dropEpoch] <;> (repeat' split) <;> simp

@[simp] theorem epochSetTimeout_shot (s : State) : (epochSetTimeout s).sh.shotNum = s.sh.shotNum := by
  simp [epochSetTimeout]

@[simp] theorem latchMarker_shot (dly : Int) (s : State) : (latchMarker dly s).sh.shotNum = s.sh.shotNum := by
  simp [latchMarker] <;> (repeat' split) <;> simp

@[simp] theorem timeMarker_shot (s : State) : (timeMarker s).sh.shotNum = s.sh.shotNum := by
  simp [timeMarker] <;> (repeat' split) <;> simp

@[simp] theorem refuseHost_shot (s : State) : (refuseHost s).sh.shotNum = s.sh.shotNum := by
  simp [refuseHost]

@[simp] theorem badFrame_shot (s : State) : (badFrame s).sh.shotNum = s.sh.shotNum := by
  simp [badFrame]

@[simp] theorem acceptCommand_shot (m : Nat) (b : List Byte) (src : Peer) (s : State) :
    (acceptCommand m b src s).sh.shotNum = s.sh.shotNum := by
  simp [acceptCommand]

@[simp] theorem repeatAnswer_shot (m : Nat) (src : Peer) (s : State) :
    (repeatAnswer m src s).sh.shotNum = s.sh.shotNum := by
  simp [repeatAnswer] <;> (repeat' split) <;> simp

@[simp] theorem judgeCommand_shot (b : List Byte) (src : Peer) (s : State) :
    (judgeCommand b src s).sh.shotNum = s.sh.shotNum := by
  simp [judgeCommand] <;> (repeat' split) <;> simp

@[simp] theorem polcorFrame_shot (b : List Byte) (src : Peer) (s : State) :
    (polcorFrame b src s).sh.shotNum = s.sh.shotNum := by
  simp [polcorFrame]

@[simp] theorem wakePort_shot (p : Nat) (s : State) : (wakePort p s).sh.shotNum = s.sh.shotNum := by
  simp [wakePort]

@[simp] theorem ipFrame_shot (p : Nat) (f : RxFrame) (ip : RxIp) (s : State) :
    (ipFrame p f ip s).sh.shotNum = s.sh.shotNum := by
  simp [ipFrame] <;> (repeat' split) <;> simp

@[simp] theorem frameReceive_shot (p : Nat) (f : RxFrame) (s : State) :
    (frameReceive p f s).sh.shotNum = s.sh.shotNum := by
  simp [frameReceive] <;> (repeat' split) <;> simp

@[simp] theorem arpOut_shot (p : Nat) (mac : Option (BitVec 48)) (target : W32) (s : State) :
    (arpOut p mac target s).sh.shotNum = s.sh.shotNum := by
  simp [arpOut]

@[simp] theorem arpReceive_shot (p : Nat) (a : ArpMsg) (s : State) : (arpReceive p a s).sh.shotNum = s.sh.shotNum := by
  simp [arpReceive]

@[simp] theorem icmpEcho_shot (p : Nat) (e : EchoMsg) (s : State) : (icmpEcho p e s).sh.shotNum = s.sh.shotNum := by
  simp [icmpEcho]

@[simp] theorem askArp_shot (p : Nat) (s : State) : (askArp p s).sh.shotNum = s.sh.shotNum := by
  simp [askArp]

@[simp] theorem arpUnresolved_shot (p : Nat) (s : State) : (arpUnresolved p s).sh.shotNum = s.sh.shotNum := by
  simp [arpUnresolved]

@[simp] theorem announce_shot (p : Nat) (s : State) : (announce p s).sh.shotNum = s.sh.shotNum := by
  simp [announce]

@[simp] theorem becomeActive_shot (q : Nat) (again : List Frame) (s : State) :
    (becomeActive q again s).sh.shotNum = s.sh.shotNum := by
  simp [becomeActive] <;> (repeat' split) <;> simp

@[simp] theorem applyLinkCfg_shot (new : LinkRegs) (s : State) : (applyLinkCfg new s).sh.shotNum = s.sh.shotNum := by
  simp [applyLinkCfg] <;> (repeat' split) <;> simp

@[simp] theorem linkCfgGone_shot (m : Nat) (seq : W16) (s : State) :
    (linkCfgGone m seq s).sh.shotNum = s.sh.shotNum := by
  simp [linkCfgGone] <;> (repeat' split) <;> simp

@[simp] theorem responseGone_shot (m : Nat) (s : State) : (responseGone m s).sh.shotNum = s.sh.shotNum := by
  simp [responseGone] <;> (repeat' split) <;> simp

@[simp] theorem frameGone_shot (f : Frame) (s : State) : (frameGone f s).sh.shotNum = s.sh.shotNum := by
  simp [frameGone]

@[simp] theorem stampEvent_shot (p : Nat) (f : Frame) (s : State) : (stampEvent p f s).2.sh.shotNum = s.sh.shotNum := by
  unfold stampEvent
  repeat' split
  all_goals simp

@[simp] theorem countFrame_shot (p : Nat) (o : Out) (s : State) : (countFrame p o s).sh.shotNum = s.sh.shotNum := by
  simp [countFrame] <;> (repeat' split) <;> simp

@[simp] theorem keepFrame_shot (f : Frame) (s : State) : (keepFrame f s).sh.shotNum = s.sh.shotNum := by
  simp [keepFrame]

@[simp] theorem leave_shot (p : Nat) (o : Out) (s : State) : (leave p o s).sh.shotNum = s.sh.shotNum := by
  unfold leave
  split <;> simp

@[simp] theorem captureFrame_shot (x : Stream) (s : State) : (captureFrame x s).2.sh.shotNum = s.sh.shotNum := by
  simp [captureFrame]

@[simp] theorem sendCapture_shot (p : Nat) (s : State) : (sendCapture p s).sh.shotNum = s.sh.shotNum := by
  unfold sendCapture
  split
  · split <;> simp
  · rfl

@[simp] theorem sendLow_shot (p : Nat) (s : State) : (sendLow p s).sh.shotNum = s.sh.shotNum := by
  simp [sendLow] <;> (repeat' split) <;> simp

@[simp] theorem transmit_shot (p : Nat) (s : State) : (transmit p s).sh.shotNum = s.sh.shotNum := by
  simp [transmit] <;> (repeat' split) <;> simp

@[simp] theorem frameTransmit_shot (p : Nat) (s : State) : (frameTransmit p s).sh.shotNum = s.sh.shotNum := by
  simp [frameTransmit]

@[simp] theorem notification_shot (s : State) : (notification s).sh.shotNum = s.sh.shotNum := by
  simp [notification]

@[simp] theorem phyUp_shot (p : Nat) (s : State) : (phyUp p s).sh.shotNum = s.sh.shotNum := by
  simp [phyUp]

@[simp] theorem portUp_shot (p : Nat) (s : State) : (portUp p s).sh.shotNum = s.sh.shotNum := by
  simp [portUp]

@[simp] theorem dropOwn_shot (p : Nat) (s : State) : (dropOwn p s).sh.shotNum = s.sh.shotNum := by
  unfold dropOwn
  simp only []
  rw [foldl_shot]
  · simp
  · intro s b
    split <;> simp

@[simp] theorem noPort_shot (p : Nat) (s : State) : (noPort p s).sh.shotNum = s.sh.shotNum := by
  simp [noPort]

@[simp] theorem goDown_shot (p : Nat) (s : State) : (goDown p s).sh.shotNum = s.sh.shotNum := by
  simp [goDown]

@[simp] theorem portDown_shot (p : Nat) (s : State) : (portDown p s).sh.shotNum = s.sh.shotNum := by
  simp [portDown]

@[simp] theorem keepaliveExpiry_shot (p : Nat) (s : State) : (keepaliveExpiry p s).sh.shotNum = s.sh.shotNum := by
  simp [keepaliveExpiry]

@[simp] theorem linkCfgOwn_shot (tk : Ticket) (b : List Byte) (s : State) :
    (linkCfgOwn tk b s).s.sh.shotNum = s.sh.shotNum := by
  unfold linkCfgOwn
  simp only []
  repeat' split
  all_goals simp

@[simp] theorem linkCfg_shot (m : Nat) (s : State) : (linkCfg m s).sh.shotNum = s.sh.shotNum := by
  simp [linkCfg] <;> (repeat' split) <;> simp

@[simp] theorem misoOut_shot (st : Byte) (bs : List Byte) (s : State) :
    (misoOut st bs s).sh.shotNum = s.sh.shotNum := by
  simp [misoOut]

@[simp] theorem spiWrite_shot (b : List Byte) (s : State) : (spiWrite b s).sh.shotNum = s.sh.shotNum := by
  simp [spiWrite]

@[simp] theorem spiGone_shot (f : Frame) (s : State) : (spiGone f s).sh.shotNum = s.sh.shotNum := by
  simp [spiGone] <;> (repeat' split) <;> simp

@[simp] theorem spiRemove_shot (c : Nat) (f : Frame) (s : State) : (spiRemove c f s).sh.shotNum = s.sh.shotNum := by
  simp [spiRemove]

theorem spiHead_shot {s : State} {c : Nat} {f : Frame} {t : State} (h : s.spiHead = some (c, f, t)) : t.sh.shotNum = s.sh.shotNum := by
  unfold State.spiHead at h
  split at h
  · split at h
    · simp only [Option.some.injEq, Prod.mk.injEq] at h
      rw [← h.2.2, stampEvent_shot]
    · cases h
  · cases h

@[simp] theorem spiRead_shot (n : Nat) (s : State) : (spiRead n s).sh.shotNum = s.sh.shotNum := by
  unfold spiRead
  simp only []
  split
  · rename_i h
    split
    · simp [spiHead_shot h]
    · simp
  · simp

@[simp] theorem spiStatus_shot (s : State) : (spiStatus s).sh.shotNum = s.sh.shotNum := by
  simp [spiStatus]

@[simp] theorem spiOther_shot (instr : Byte) (clocked : Nat) (s : State) :
    (spiOther instr clocked s).sh.shotNum = s.sh.shotNum := by
  simp [spiOther]

@[simp] theorem selfTest_shot (t : SelfTest) (s : State) : (selfTest t s).sh.shotNum = s.sh.shotNum := by
  simp [selfTest]

@[simp] theorem clearHolds_shot (s : State) : (clearHolds s).sh.shotNum = s.sh.shotNum := by
  simp [clearHolds]

@[simp] theorem stopRanging_shot (s : State) : (stopRanging s).sh.shotNum = s.sh.shotNum := by
  simp [stopRanging]

@[simp] theorem stopUnits_shot (t : Mode) (s : State) : (stopUnits t s).sh.shotNum = s.sh.shotNum := by
  simp [stopUnits] <;> (repeat' split) <;> simp

@[simp] theorem beginChange_shot (tk : Ticket) (t : Mode) (s : State) :
    (beginChange tk t s).sh.shotNum = s.sh.shotNum := by
  simp [beginChange]

@[simp] theorem takeSource_shot (m : Mode) (s : State) : (takeSource m s).sh.shotNum = s.sh.shotNum := by
  simp [takeSource] <;> (repeat' split) <;> simp

@[simp] theorem leaveLimp_shot (m : Mode) (s : State) : (leaveLimp m s).sh.shotNum = s.sh.shotNum := by
  simp [leaveLimp]

@[simp] theorem limpMove_shot (t : Mode) (s : State) : (limpMove t s).sh.shotNum = s.sh.shotNum := by
  simp [limpMove]

@[simp] theorem modeSetOwn_shot (tk : Ticket) (p : List Byte) (s : State) :
    (modeSetOwn tk p s).s.sh.shotNum = s.sh.shotNum := by
  simp [modeSetOwn] <;> (repeat' split) <;> simp

@[simp] theorem syncsLow_shot (s : State) : (syncsLow s).sh.shotNum = s.sh.shotNum := by
  simp [syncsLow]

@[simp] theorem enterRest_shot (old t : Mode) (s : State) : (enterRest old t s).sh.shotNum = s.sh.shotNum := by
  simp [enterRest] <;> (repeat' split) <;> simp

@[simp] theorem enterRanging_shot (old t : Mode) (s : State) : (enterRanging old t s).sh.shotNum = s.sh.shotNum := by
  simp [enterRanging]

@[simp] theorem wake_shot (s : State) : (wake s).sh.shotNum = s.sh.shotNum := by
  simp [wake]

@[simp] theorem arrive_shot (t : Mode) (s : State) : (arrive t s).sh.shotNum = s.sh.shotNum := by
  simp [arrive]

@[simp] theorem finishChange_shot (tk : Ticket) (t : Mode) (test : SelfTest) (s : State) :
    (finishChange tk t test s).sh.shotNum = s.sh.shotNum := by
  simp [finishChange] <;> (repeat' split) <;> simp

@[simp] theorem modeSetComplete_shot (test : SelfTest) (s : State) :
    (modeSetComplete test s).sh.shotNum = s.sh.shotNum := by
  simp [modeSetComplete] <;> (repeat' split) <;> simp

@[simp] theorem enterLimp_shot (s : State) : (enterLimp s).sh.shotNum = s.sh.shotNum := by
  simp [enterLimp] <;> (repeat' split) <;> simp

@[simp] theorem limpEntry_shot (s : State) : (limpEntry s).sh.shotNum = s.sh.shotNum := by
  unfold limpEntry ownChange
  split <;> simp

@[simp] theorem backFromLimp_shot (s : State) : (backFromLimp s).sh.shotNum = s.sh.shotNum := by
  simp [backFromLimp] <;> (repeat' split) <;> simp

@[simp] theorem limpReturn_shot (s : State) : (limpReturn s).sh.shotNum = s.sh.shotNum := by
  unfold limpReturn ownChange
  split <;> simp

@[simp] theorem lateChange_shot (s : State) : (lateChange s).sh.shotNum = s.sh.shotNum := by
  simp [lateChange] <;> (repeat' split) <;> simp

@[simp] theorem limpPendClear_shot (s : State) : (limpPendClear s).sh.shotNum = s.sh.shotNum := by
  simp [limpPendClear]

@[simp] theorem setStep_shot (n : Nat) (s : State) : (setStep n s).sh.shotNum = s.sh.shotNum := by
  simp [setStep]

@[simp] theorem sensorFails_shot (k : Nat) (s : State) : (sensorFails k s).sh.shotNum = s.sh.shotNum := by
  simp [sensorFails]

@[simp] theorem unbias_shot (k : Nat) (s : State) : (unbias k s).sh.shotNum = s.sh.shotNum := by
  simp [unbias]

@[simp] theorem sensorRecovers_shot (k : Nat) (s : State) : (sensorRecovers k s).sh.shotNum = s.sh.shotNum := by
  simp [sensorRecovers]

@[simp] theorem goodConversion_shot (k : Nat) (t : Int) (s : State) :
    (goodConversion k t s).sh.shotNum = s.sh.shotNum := by
  simp [goodConversion]

@[simp] theorem badConversion_shot (k : Nat) (s : State) : (badConversion k s).sh.shotNum = s.sh.shotNum := by
  simp [badConversion]

@[simp] theorem sensorConversion_shot (k : Nat) (c : Conversion) (s : State) :
    (sensorConversion k c s).sh.shotNum = s.sh.shotNum := by
  simp [sensorConversion] <;> (repeat' split) <;> simp

@[simp] theorem judgeLead_shot (k : Nat) (s : State) : (judgeLead k s).sh.shotNum = s.sh.shotNum := by
  simp [judgeLead] <;> (repeat' split) <;> simp

@[simp] theorem judgeLeads_shot (s : State) : (judgeLeads s).sh.shotNum = s.sh.shotNum := by
  simp [judgeLeads] <;> (repeat' split) <;> simp

@[simp] theorem evaluate_shot (s : State) : (evaluate s).sh.shotNum = s.sh.shotNum := by
  simp [evaluate] <;> (repeat' split) <;> simp

@[simp] theorem throttleEvaluation_shot (s : State) : (throttleEvaluation s).sh.shotNum = s.sh.shotNum := by
  simp [throttleEvaluation]

@[simp] theorem thermLimits_shot (p : List Byte) (s : State) : (thermLimits p s).s.sh.shotNum = s.sh.shotNum := by
  simp [thermLimits] <;> (repeat' split) <;> simp

@[simp] theorem thermSensor_shot (p : List Byte) (s : State) : (thermSensor p s).s.sh.shotNum = s.sh.shotNum := by
  simp [thermSensor]

@[simp] theorem thermOwn_shot (a1 : Ticket) (p : List Byte) (s : State) :
    (thermOwn a1 p s).s.sh.shotNum = s.sh.shotNum := by
  simp [thermOwn] <;> (repeat' split) <;> simp

@[simp] theorem thermRow_shot (m : Nat) (row : List Byte → Bool) (s : State) :
    (thermRow m row s).sh.shotNum = s.sh.shotNum := by
  simp [thermRow]

@[simp] theorem fillTokens_shot (s : State) : (fillTokens s).sh.shotNum = s.sh.shotNum := by
  simp [fillTokens]

@[simp] theorem writeLog_shot (e : LogEntry) (s : State) : (writeLog e s).sh.shotNum = s.sh.shotNum := by
  simp [writeLog]

@[simp] theorem faultLogEntry_shot (s : State) : (faultLogEntry s).sh.shotNum = s.sh.shotNum := by
  simp [faultLogEntry] <;> (repeat' split) <;> simp

@[simp] theorem sendRec_shot (r : TraceRec) (s : State) : (sendRec r s).sh.shotNum = s.sh.shotNum := by
  simp [sendRec]

@[simp] theorem releaseTrace_shot (s : State) : (releaseTrace s).sh.shotNum = s.sh.shotNum := by
  simp [releaseTrace] <;> (repeat' split) <;> simp

@[simp] theorem sendNext_shot (s : State) : (sendNext s).sh.shotNum = s.sh.shotNum := by
  simp [sendNext] <;> (repeat' split) <;> simp

@[simp] theorem traceSend_shot (s : State) : (traceSend s).sh.shotNum = s.sh.shotNum := by
  simp [traceSend] <;> (repeat' split) <;> simp

@[simp] theorem traceTime_shot (s : State) : (traceTime s).sh.shotNum = s.sh.shotNum := by
  simp [traceTime]

@[simp] theorem traceBurst_shot (s : State) : (traceBurst s).sh.shotNum = s.sh.shotNum := by
  simp [traceBurst]

@[simp] theorem latchCounters_shot (s : State) : (latchCounters s).sh.shotNum = s.sh.shotNum := by
  simp [latchCounters]

@[simp] theorem dumpQueue_shot (v : W32) (s : State) : (dumpQueue v s).sh.shotNum = s.sh.shotNum := by
  simp [dumpQueue]

@[simp] theorem scrubRead_shot (r : ReadResult) (s : State) : (scrubRead r s).sh.shotNum = s.sh.shotNum := by
  simp [scrubRead] <;> (repeat' split) <;> simp

@[simp] theorem correctionRewrite_shot (s : State) : (correctionRewrite s).sh.shotNum = s.sh.shotNum := by
  simp [correctionRewrite] <;> (repeat' split) <;> simp

@[simp] theorem tapClock_shot (s : State) (c : Tck) : (tapClock s c).sh.shotNum = s.sh.shotNum := by
  simp [tapClock] <;> (repeat' split) <;> simp

@[simp] theorem jtagRun_shot (code : BitVec 4) (clocks : List Tck) (s : State) :
    (jtagRun code clocks s).sh.shotNum = s.sh.shotNum := by
  simp [jtagRun] <;> (repeat' split) <;> simp

@[simp] theorem jtagSample_shot (p : BitVec 24) (clocks : List Tck) (s : State) :
    (jtagSample p clocks s).sh.shotNum = s.sh.shotNum := by
  simp [jtagSample]

set_option maxRecDepth 20000 in

@[simp] theorem rcClear_shot (a : Nat) (s : State) : (rcClear a s).sh.shotNum = s.sh.shotNum := by
  unfold rcClear
  repeat' split
  all_goals simp

@[simp] theorem latchRead_shot (a : Nat) (s : State) : (latchRead a s).sh.shotNum = s.sh.shotNum := by
  simp [latchRead] <;> (repeat' split) <;> simp

@[simp] theorem regRead_shot (a : Nat) (s : State) : (regRead a s).2.sh.shotNum = s.sh.shotNum := by
  simp [regRead]

@[simp] theorem readWords_shot : ∀ (as : List Nat) (s : State), (readWords as s).2.sh.shotNum = s.sh.shotNum
  | [], _ => rfl
  | a :: as, s => by
    unfold readWords
    simp [readWords_shot as]

@[simp] theorem regRdOwn_shot (reads : Reads) (tk : Ticket) (p : List Byte) (s : State) :
    (regRdOwn reads tk p s).s.sh.shotNum = s.sh.shotNum := by
  unfold regRdOwn
  split <;> simp

theorem writeGl_shot {g : Gallery} {s t : State} (_ : True) (h : writeGl g s = .ok t) : t.sh.shotNum = s.sh.shotNum := by
  unfold writeGl refuse at h
  split at h
  · cases h
  · cases h
    rfl

@[simp] theorem evTest_shot (v : W32) (s : State) : (evTest v s).sh.shotNum = s.sh.shotNum := by
  simp [evTest]

set_option maxRecDepth 20000 in

theorem writeReg_shot {a : Nat} {v : W32} {s t : State} (h : writeReg a v s = .ok t) : t.sh.shotNum = s.sh.shotNum := by
  unfold writeReg at h
  simp only [writeTbCfg, writeTbHold, writeChCfg, writeF32Sel, writeCaCfg, writeCaSel, writeShCfg, writeFbwin, writeServe,
    writeEmCfg, writeBlCfg, writeBlPcfg, writeGlCfg, writeTrgCfg, writeTrcfg, writeTrdump, refuse, badField] at h
  repeat' split at h
  all_goals first
    | (cases h; simp; done)
    | (cases h; rfl)
    | (exact writeGl_shot (by first | rfl | trivial) h)
    | (cases h; done)

theorem writeTriples_shot : ∀ (n k : Nat) (p : List Byte) {s t : State}, writeTriples p n k s = .ok t → t.sh.shotNum = s.sh.shotNum
  | 0, _, _, _, _, h => by cases h; rfl
  | n + 1, k, p, s, t, h => by
    unfold writeTriples at h
    split at h
    · rename_i s' hs
      rw [writeTriples_shot n (k + 1) p h]
      unfold writeTriple refuse at hs
      simp only [] at hs
      split at hs
      · cases hs
      · split at hs
        · cases hs
        · exact writeReg_shot hs
    · cases h

@[simp] theorem regWrOwn_shot (a1 : Ticket) (p : List Byte) (s : State) :
    (regWrOwn a1 p s).s.sh.shotNum = s.sh.shotNum := by
  unfold regWrOwn
  simp only []
  split
  · simp
  · split
    · rename_i h
      simp [writeTriples_shot _ _ _ h]
    · simp

@[simp] theorem identOwn_shot (a1 : Ticket) (a2 : List Byte) (s : State) :
    (identOwn a1 a2 s).s.sh.shotNum = s.sh.shotNum := by
  simp [identOwn]

@[simp] theorem pingOwn_shot (a1 : Ticket) (p : List Byte) (s : State) :
    (pingOwn a1 p s).s.sh.shotNum = s.sh.shotNum := by
  simp [pingOwn]

@[simp] theorem ping_shot (m : Nat) (s : State) : (ping m s).sh.shotNum = s.sh.shotNum := by
  simp [ping]

@[simp] theorem takeLearn_shot (ws : List (Nat × W32)) (s : State) : (takeLearn ws s).sh.shotNum = s.sh.shotNum := by
  simp [takeLearn]

@[simp] theorem pregWrOwn_shot (a1 : Ticket) (p : List Byte) (s : State) :
    (pregWrOwn a1 p s).s.sh.shotNum = s.sh.shotNum := by
  unfold pregWrOwn
  split
  · simp
  · simp only []
    split <;> simp

@[simp] theorem pregWearOwn_shot (a1 : Ticket) (p : List Byte) (s : State) :
    (pregWearOwn a1 p s).s.sh.shotNum = s.sh.shotNum := by
  simp [pregWearOwn]

@[simp] theorem evtMaskOwn_shot (a1 : Ticket) (p : List Byte) (s : State) :
    (evtMaskOwn a1 p s).s.sh.shotNum = s.sh.shotNum := by
  simp [evtMaskOwn]

@[simp] theorem restartGroup_shot (g : Nat) (s : State) : (restartGroup g s).sh.shotNum = s.sh.shotNum := by
  simp [restartGroup]

@[simp] theorem evtReadOwn_shot (a1 : Ticket) (p : List Byte) (s : State) :
    (evtReadOwn a1 p s).s.sh.shotNum = s.sh.shotNum := by
  simp [evtReadOwn]

@[simp] theorem clearNext_shot (s : State) : (clearNext s).sh.shotNum = s.sh.shotNum := by
  simp [clearNext] <;> (repeat' split) <;> simp

@[simp] theorem evtClearOwn_shot (tk : Ticket) (p : List Byte) (s : State) :
    (evtClearOwn tk p s).s.sh.shotNum = s.sh.shotNum := by
  simp [evtClearOwn] <;> (repeat' split) <;> simp

@[simp] theorem evtClear_shot (m : Nat) (s : State) : (evtClear m s).sh.shotNum = s.sh.shotNum := by
  simp [evtClear] <;> (repeat' split) <;> simp

@[simp] theorem planHost_shot (i x : Nat) (s : State) : (planHost i x s).s.sh.shotNum = s.sh.shotNum := by
  simp [planHost]

@[simp] theorem swapOwn_shot (p : List Byte) (s : State) : (swapOwn p s).s.sh.shotNum = s.sh.shotNum := by
  simp [swapOwn]

@[simp] theorem homeOwn_shot (p : List Byte) (s : State) : (homeOwn p s).s.sh.shotNum = s.sh.shotNum := by
  simp [homeOwn]

@[simp] theorem retireOwn_shot (p : List Byte) (s : State) : (retireOwn p s).s.sh.shotNum = s.sh.shotNum := by
  simp [retireOwn]

@[simp] theorem memretOwn_shot (p : List Byte) (s : State) : (memretOwn p s).s.sh.shotNum = s.sh.shotNum := by
  simp [memretOwn]

@[simp] theorem memclrOwn_shot (s : State) : (memclrOwn s).s.sh.shotNum = s.sh.shotNum := by
  simp [memclrOwn]

@[simp] theorem spareOwn_shot (a1 : Ticket) (p : List Byte) (s : State) :
    (spareOwn a1 p s).s.sh.shotNum = s.sh.shotNum := by
  simp [spareOwn] <;> (repeat' split) <;> simp

@[simp] theorem spareRow_shot (m : Nat) (row : List Byte → Bool) (s : State) :
    (spareRow m row s).sh.shotNum = s.sh.shotNum := by
  simp [spareRow]

@[simp] theorem faultLogOwn_shot (reads : Reads) (a1 : Ticket) (p : List Byte) (s : State) :
    (faultLogOwn reads a1 p s).s.sh.shotNum = s.sh.shotNum := by
  unfold faultLogOwn
  dsimp only
  repeat' split
  all_goals simp

@[simp] theorem cutShort_shot (m k : Nat) (s : State) : (cutShort m k s).sh.shotNum = s.sh.shotNum := by
  unfold cutShort
  simp only []
  split <;> simp

@[simp] theorem cutWords_shot (m : Option Nat) (k : Nat) (s : State) : (cutWords m k s).sh.shotNum = s.sh.shotNum := by
  unfold cutWords
  repeat' split
  all_goals first | rfl | simp

@[simp] theorem cancelAdmission_shot (s : State) : (cancelAdmission s).sh.shotNum = s.sh.shotNum := by
  simp [cancelAdmission] <;> (repeat' split) <;> simp

@[simp] theorem cancelEnvLoad_shot (k : Nat) (s : State) : (cancelEnvLoad k s).sh.shotNum = s.sh.shotNum := by
  unfold cancelEnvLoad
  split <;> simp

@[simp] theorem haltLodge_shot (envWords : Nat) (s : State) : (haltLodge envWords s).sh.shotNum = s.sh.shotNum := by
  simp [haltLodge]

@[simp] theorem restartLodge_shot (cut : Option Nat) (envWords : Nat) (s : State) :
    (restartLodge cut envWords s).sh.shotNum = s.sh.shotNum := by
  simp [restartLodge]

@[simp] theorem lockstepMismatch_shot (cut : Option Nat) (words envWords : Nat) (s : State) :
    (lockstepMismatch cut words envWords s).sh.shotNum = s.sh.shotNum := by
  simp [lockstepMismatch] <;> (repeat' split) <;> simp

@[simp] theorem lodgeRestartEnd_shot (s : State) : (lodgeRestartEnd s).sh.shotNum = s.sh.shotNum := by
  simp [lodgeRestartEnd] <;> (repeat' split) <;> simp

@[simp] theorem resetWords_shot (c : Cut) (s : State) : (resetWords c s).sh.shotNum = s.sh.shotNum := by
  unfold resetWords
  dsimp only
  repeat' split
  all_goals simp

@[simp] theorem loadTb_shot (s : State) : (loadTb s).sh.shotNum = s.sh.shotNum := by
  simp [loadTb]

@[simp] theorem loadCln_shot (s : State) : (loadCln s).sh.shotNum = s.sh.shotNum := by
  simp [loadCln]

@[simp] theorem loadTherm_shot (s : State) : (loadTherm s).sh.shotNum = s.sh.shotNum := by
  simp [loadTherm]

@[simp] theorem loadLines_shot (s : State) : (loadLines s).sh.shotNum = s.sh.shotNum := by
  simp [loadLines]

@[simp] theorem loadCores_shot (s : State) : (loadCores s).sh.shotNum = s.sh.shotNum := by
  simp [loadCores]

@[simp] theorem loadGallery_shot (s : State) : (loadGallery s).sh.shotNum = s.sh.shotNum := by
  simp [loadGallery]

@[simp] theorem loadLog_shot (s : State) : (loadLog s).sh.shotNum = s.sh.shotNum := by
  simp [loadLog]

@[simp] theorem factoryCheck_shot (s : State) : (factoryCheck s).sh.shotNum = s.sh.shotNum := by
  simp [factoryCheck]

@[simp] theorem recount_shot (s : State) : (recount s).sh.shotNum = s.sh.shotNum := by
  simp [recount] <;> (repeat' split) <;> simp

@[simp] theorem startUpEnd_shot (s : State) : (startUpEnd s).sh.shotNum = s.sh.shotNum := by
  simp [startUpEnd]

@[simp] theorem finishSelfTest_shot (test : SelfTest) (s : State) :
    (finishSelfTest test s).sh.shotNum = s.sh.shotNum := by
  simp [finishSelfTest]

@[simp] theorem readErrors_shot (reads : Reads) (s : State) : (readErrors reads s).sh.shotNum = s.sh.shotNum := by
  simp [readErrors]

@[simp] theorem tick_shot (s : State) : (tick s).sh.shotNum = s.sh.shotNum := by
  simp [tick]

end Sys2Proof.Machine
end

