-- ==== Sys2Proof/Laws/State.lean ====
section
/-!
SUPPORT. State.lean: what each named update of a part of the state leaves alone, field by field, and what it reads as.
-/
namespace Sys2Proof.Machine

/-! ## `updSens` -/

@[simp] theorem updSens_pending (k : Nat) (f : Sensor → Sensor) (s : State) : (updSens k f s).pending = s.pending := rfl
@[simp] theorem updSens_uptime (k : Nat) (f : Sensor → Sensor) (s : State) : (updSens k f s).uptime = s.uptime := rfl
@[simp] theorem updSens_id (k : Nat) (f : Sensor → Sensor) (s : State) : (updSens k f s).id = s.id := rfl
@[simp] theorem updSens_pins (k : Nat) (f : Sensor → Sensor) (s : State) : (updSens k f s).pins = s.pins := rfl
@[simp] theorem updSens_ps (k : Nat) (f : Sensor → Sensor) (s : State) : (updSens k f s).ps = s.ps := rfl
@[simp] theorem updSens_ev (k : Nat) (f : Sensor → Sensor) (s : State) : (updSens k f s).ev = s.ev := rfl
@[simp] theorem updSens_tb (k : Nat) (f : Sensor → Sensor) (s : State) : (updSens k f s).tb = s.tb := rfl
@[simp] theorem updSens_fl (k : Nat) (f : Sensor → Sensor) (s : State) : (updSens k f s).fl = s.fl := rfl
@[simp] theorem updSens_ca (k : Nat) (f : Sensor → Sensor) (s : State) : (updSens k f s).ca = s.ca := rfl
@[simp] theorem updSens_sh (k : Nat) (f : Sensor → Sensor) (s : State) : (updSens k f s).sh = s.sh := rfl
@[simp] theorem updSens_em (k : Nat) (f : Sensor → Sensor) (s : State) : (updSens k f s).em = s.em := rfl
@[simp] theorem updSens_ar (k : Nat) (f : Sensor → Sensor) (s : State) : (updSens k f s).ar = s.ar := rfl
@[simp] theorem updSens_ms (k : Nat) (f : Sensor → Sensor) (s : State) : (updSens k f s).ms = s.ms := rfl
@[simp] theorem updSens_bl (k : Nat) (f : Sensor → Sensor) (s : State) : (updSens k f s).bl = s.bl := rfl
@[simp] theorem updSens_cl (k : Nat) (f : Sensor → Sensor) (s : State) : (updSens k f s).cl = s.cl := rfl
@[simp] theorem updSens_gl (k : Nat) (f : Sensor → Sensor) (s : State) : (updSens k f s).gl = s.gl := rfl
@[simp] theorem updSens_lk (k : Nat) (f : Sensor → Sensor) (s : State) : (updSens k f s).lk = s.lk := rfl
@[simp] theorem updSens_av (k : Nat) (f : Sensor → Sensor) (s : State) : (updSens k f s).av = s.av := rfl

/-- What is changed reads as changed. -/
@[simp] theorem updSens_sens_same (k : Nat) (f : Sensor → Sensor) (s : State) : (updSens k f s).sens k = f (s.sens k) :=
  Tab.get_upd_same _ _ _ _

/-- Every other one reads as before. -/
theorem updSens_sens_other {j k : Nat} (f : Sensor → Sensor) (s : State) (h : j ≠ k) :
    (updSens k f s).sens j = s.sens j := Tab.get_upd_other _ f h

/-! ## `updSlot` -/

@[simp] theorem updSlot_pending (k : Nat) (f : MSlot → MSlot) (s : State) : (updSlot k f s).pending = s.pending := rfl
@[simp] theorem updSlot_uptime (k : Nat) (f : MSlot → MSlot) (s : State) : (updSlot k f s).uptime = s.uptime := rfl
@[simp] theorem updSlot_id (k : Nat) (f : MSlot → MSlot) (s : State) : (updSlot k f s).id = s.id := rfl
@[simp] theorem updSlot_pins (k : Nat) (f : MSlot → MSlot) (s : State) : (updSlot k f s).pins = s.pins := rfl
@[simp] theorem updSlot_ps (k : Nat) (f : MSlot → MSlot) (s : State) : (updSlot k f s).ps = s.ps := rfl
@[simp] theorem updSlot_ev (k : Nat) (f : MSlot → MSlot) (s : State) : (updSlot k f s).ev = s.ev := rfl
@[simp] theorem updSlot_tb (k : Nat) (f : MSlot → MSlot) (s : State) : (updSlot k f s).tb = s.tb := rfl
@[simp] theorem updSlot_fl (k : Nat) (f : MSlot → MSlot) (s : State) : (updSlot k f s).fl = s.fl := rfl
@[simp] theorem updSlot_ca (k : Nat) (f : MSlot → MSlot) (s : State) : (updSlot k f s).ca = s.ca := rfl
@[simp] theorem updSlot_sh (k : Nat) (f : MSlot → MSlot) (s : State) : (updSlot k f s).sh = s.sh := rfl
@[simp] theorem updSlot_em (k : Nat) (f : MSlot → MSlot) (s : State) : (updSlot k f s).em = s.em := rfl
@[simp] theorem updSlot_ar (k : Nat) (f : MSlot → MSlot) (s : State) : (updSlot k f s).ar = s.ar := rfl
@[simp] theorem updSlot_bl (k : Nat) (f : MSlot → MSlot) (s : State) : (updSlot k f s).bl = s.bl := rfl
@[simp] theorem updSlot_cl (k : Nat) (f : MSlot → MSlot) (s : State) : (updSlot k f s).cl = s.cl := rfl
@[simp] theorem updSlot_gl (k : Nat) (f : MSlot → MSlot) (s : State) : (updSlot k f s).gl = s.gl := rfl
@[simp] theorem updSlot_lk (k : Nat) (f : MSlot → MSlot) (s : State) : (updSlot k f s).lk = s.lk := rfl
@[simp] theorem updSlot_th (k : Nat) (f : MSlot → MSlot) (s : State) : (updSlot k f s).th = s.th := rfl
@[simp] theorem updSlot_av (k : Nat) (f : MSlot → MSlot) (s : State) : (updSlot k f s).av = s.av := rfl

/-- What is changed reads as changed. -/
@[simp] theorem updSlot_slot_same (k : Nat) (f : MSlot → MSlot) (s : State) : (updSlot k f s).slot k = f (s.slot k) :=
  Tab.get_upd_same _ _ _ _

/-- Every other one reads as before. -/
theorem updSlot_slot_other {j k : Nat} (f : MSlot → MSlot) (s : State) (h : j ≠ k) :
    (updSlot k f s).slot j = s.slot j := Tab.get_upd_other _ f h

/-! ## `updSync` -/

@[simp] theorem updSync_pending (n : Nat) (f : Sync → Sync) (s : State) : (updSync n f s).pending = s.pending := rfl
@[simp] theorem updSync_uptime (n : Nat) (f : Sync → Sync) (s : State) : (updSync n f s).uptime = s.uptime := rfl
@[simp] theorem updSync_id (n : Nat) (f : Sync → Sync) (s : State) : (updSync n f s).id = s.id := rfl
@[simp] theorem updSync_pins (n : Nat) (f : Sync → Sync) (s : State) : (updSync n f s).pins = s.pins := rfl
@[simp] theorem updSync_ps (n : Nat) (f : Sync → Sync) (s : State) : (updSync n f s).ps = s.ps := rfl
@[simp] theorem updSync_ev (n : Nat) (f : Sync → Sync) (s : State) : (updSync n f s).ev = s.ev := rfl
@[simp] theorem updSync_tb (n : Nat) (f : Sync → Sync) (s : State) : (updSync n f s).tb = s.tb := rfl
@[simp] theorem updSync_fl (n : Nat) (f : Sync → Sync) (s : State) : (updSync n f s).fl = s.fl := rfl
@[simp] theorem updSync_ca (n : Nat) (f : Sync → Sync) (s : State) : (updSync n f s).ca = s.ca := rfl
@[simp] theorem updSync_sh (n : Nat) (f : Sync → Sync) (s : State) : (updSync n f s).sh = s.sh := rfl
@[simp] theorem updSync_em (n : Nat) (f : Sync → Sync) (s : State) : (updSync n f s).em = s.em := rfl
@[simp] theorem updSync_ar (n : Nat) (f : Sync → Sync) (s : State) : (updSync n f s).ar = s.ar := rfl
@[simp] theorem updSync_bl (n : Nat) (f : Sync → Sync) (s : State) : (updSync n f s).bl = s.bl := rfl
@[simp] theorem updSync_cl (n : Nat) (f : Sync → Sync) (s : State) : (updSync n f s).cl = s.cl := rfl
@[simp] theorem updSync_gl (n : Nat) (f : Sync → Sync) (s : State) : (updSync n f s).gl = s.gl := rfl
@[simp] theorem updSync_lk (n : Nat) (f : Sync → Sync) (s : State) : (updSync n f s).lk = s.lk := rfl
@[simp] theorem updSync_th (n : Nat) (f : Sync → Sync) (s : State) : (updSync n f s).th = s.th := rfl
@[simp] theorem updSync_av (n : Nat) (f : Sync → Sync) (s : State) : (updSync n f s).av = s.av := rfl

/-- What is changed reads as changed. -/
@[simp] theorem updSync_sync_same (n : Nat) (f : Sync → Sync) (s : State) : (updSync n f s).sync n = f (s.sync n) :=
  Tab.get_upd_same _ _ _ _

/-- Every other one reads as before. -/
theorem updSync_sync_other {j n : Nat} (f : Sync → Sync) (s : State) (h : j ≠ n) :
    (updSync n f s).sync j = s.sync j := Tab.get_upd_other _ f h

/-! ## `updPort` -/

@[simp] theorem updPort_pending (p : Nat) (f : Port → Port) (s : State) : (updPort p f s).pending = s.pending := rfl
@[simp] theorem updPort_uptime (p : Nat) (f : Port → Port) (s : State) : (updPort p f s).uptime = s.uptime := rfl
@[simp] theorem updPort_id (p : Nat) (f : Port → Port) (s : State) : (updPort p f s).id = s.id := rfl
@[simp] theorem updPort_pins (p : Nat) (f : Port → Port) (s : State) : (updPort p f s).pins = s.pins := rfl
@[simp] theorem updPort_ps (p : Nat) (f : Port → Port) (s : State) : (updPort p f s).ps = s.ps := rfl
@[simp] theorem updPort_ev (p : Nat) (f : Port → Port) (s : State) : (updPort p f s).ev = s.ev := rfl
@[simp] theorem updPort_tb (p : Nat) (f : Port → Port) (s : State) : (updPort p f s).tb = s.tb := rfl
@[simp] theorem updPort_fl (p : Nat) (f : Port → Port) (s : State) : (updPort p f s).fl = s.fl := rfl
@[simp] theorem updPort_ca (p : Nat) (f : Port → Port) (s : State) : (updPort p f s).ca = s.ca := rfl
@[simp] theorem updPort_sh (p : Nat) (f : Port → Port) (s : State) : (updPort p f s).sh = s.sh := rfl
@[simp] theorem updPort_em (p : Nat) (f : Port → Port) (s : State) : (updPort p f s).em = s.em := rfl
@[simp] theorem updPort_ar (p : Nat) (f : Port → Port) (s : State) : (updPort p f s).ar = s.ar := rfl
@[simp] theorem updPort_ms (p : Nat) (f : Port → Port) (s : State) : (updPort p f s).ms = s.ms := rfl
@[simp] theorem updPort_bl (p : Nat) (f : Port → Port) (s : State) : (updPort p f s).bl = s.bl := rfl
@[simp] theorem updPort_cl (p : Nat) (f : Port → Port) (s : State) : (updPort p f s).cl = s.cl := rfl
@[simp] theorem updPort_gl (p : Nat) (f : Port → Port) (s : State) : (updPort p f s).gl = s.gl := rfl
@[simp] theorem updPort_th (p : Nat) (f : Port → Port) (s : State) : (updPort p f s).th = s.th := rfl
@[simp] theorem updPort_av (p : Nat) (f : Port → Port) (s : State) : (updPort p f s).av = s.av := rfl

/-- What is changed reads as changed. -/
@[simp] theorem updPort_port_same (p : Nat) (f : Port → Port) (s : State) : (updPort p f s).port p = f (s.port p) :=
  Tab.get_upd_same _ _ _ _

/-- Every other one reads as before. -/
theorem updPort_port_other {j p : Nat} (f : Port → Port) (s : State) (h : j ≠ p) :
    (updPort p f s).port j = s.port j := Tab.get_upd_other _ f h

/-! ## `updPath` -/

@[simp] theorem updPath_pending (p : Nat) (f : PathQ → PathQ) (s : State) : (updPath p f s).pending = s.pending := rfl
@[simp] theorem updPath_uptime (p : Nat) (f : PathQ → PathQ) (s : State) : (updPath p f s).uptime = s.uptime := rfl
@[simp] theorem updPath_id (p : Nat) (f : PathQ → PathQ) (s : State) : (updPath p f s).id = s.id := rfl
@[simp] theorem updPath_pins (p : Nat) (f : PathQ → PathQ) (s : State) : (updPath p f s).pins = s.pins := rfl
@[simp] theorem updPath_ps (p : Nat) (f : PathQ → PathQ) (s : State) : (updPath p f s).ps = s.ps := rfl
@[simp] theorem updPath_ev (p : Nat) (f : PathQ → PathQ) (s : State) : (updPath p f s).ev = s.ev := rfl
@[simp] theorem updPath_tb (p : Nat) (f : PathQ → PathQ) (s : State) : (updPath p f s).tb = s.tb := rfl
@[simp] theorem updPath_fl (p : Nat) (f : PathQ → PathQ) (s : State) : (updPath p f s).fl = s.fl := rfl
@[simp] theorem updPath_ca (p : Nat) (f : PathQ → PathQ) (s : State) : (updPath p f s).ca = s.ca := rfl
@[simp] theorem updPath_sh (p : Nat) (f : PathQ → PathQ) (s : State) : (updPath p f s).sh = s.sh := rfl
@[simp] theorem updPath_em (p : Nat) (f : PathQ → PathQ) (s : State) : (updPath p f s).em = s.em := rfl
@[simp] theorem updPath_ar (p : Nat) (f : PathQ → PathQ) (s : State) : (updPath p f s).ar = s.ar := rfl
@[simp] theorem updPath_ms (p : Nat) (f : PathQ → PathQ) (s : State) : (updPath p f s).ms = s.ms := rfl
@[simp] theorem updPath_bl (p : Nat) (f : PathQ → PathQ) (s : State) : (updPath p f s).bl = s.bl := rfl
@[simp] theorem updPath_cl (p : Nat) (f : PathQ → PathQ) (s : State) : (updPath p f s).cl = s.cl := rfl
@[simp] theorem updPath_gl (p : Nat) (f : PathQ → PathQ) (s : State) : (updPath p f s).gl = s.gl := rfl
@[simp] theorem updPath_th (p : Nat) (f : PathQ → PathQ) (s : State) : (updPath p f s).th = s.th := rfl
@[simp] theorem updPath_av (p : Nat) (f : PathQ → PathQ) (s : State) : (updPath p f s).av = s.av := rfl

/-- What is changed reads as changed. -/
@[simp] theorem updPath_path_same (p : Nat) (f : PathQ → PathQ) (s : State) : (updPath p f s).path p = f (s.path p) :=
  Tab.get_upd_same _ _ _ _

/-- Every other one reads as before. -/
theorem updPath_path_other {j p : Nat} (f : PathQ → PathQ) (s : State) (h : j ≠ p) :
    (updPath p f s).path j = s.path j := Tab.get_upd_other _ f h

/-! ## `updBox` -/

@[simp] theorem updBox_pending (m : Nat) (f : Mailbox → Mailbox) (s : State) : (updBox m f s).pending = s.pending := rfl
@[simp] theorem updBox_uptime (m : Nat) (f : Mailbox → Mailbox) (s : State) : (updBox m f s).uptime = s.uptime := rfl
@[simp] theorem updBox_id (m : Nat) (f : Mailbox → Mailbox) (s : State) : (updBox m f s).id = s.id := rfl
@[simp] theorem updBox_pins (m : Nat) (f : Mailbox → Mailbox) (s : State) : (updBox m f s).pins = s.pins := rfl
@[simp] theorem updBox_ps (m : Nat) (f : Mailbox → Mailbox) (s : State) : (updBox m f s).ps = s.ps := rfl
@[simp] theorem updBox_ev (m : Nat) (f : Mailbox → Mailbox) (s : State) : (updBox m f s).ev = s.ev := rfl
@[simp] theorem updBox_tb (m : Nat) (f : Mailbox → Mailbox) (s : State) : (updBox m f s).tb = s.tb := rfl
@[simp] theorem updBox_fl (m : Nat) (f : Mailbox → Mailbox) (s : State) : (updBox m f s).fl = s.fl := rfl
@[simp] theorem updBox_ca (m : Nat) (f : Mailbox → Mailbox) (s : State) : (updBox m f s).ca = s.ca := rfl
@[simp] theorem updBox_sh (m : Nat) (f : Mailbox → Mailbox) (s : State) : (updBox m f s).sh = s.sh := rfl
@[simp] theorem updBox_em (m : Nat) (f : Mailbox → Mailbox) (s : State) : (updBox m f s).em = s.em := rfl
@[simp] theorem updBox_ar (m : Nat) (f : Mailbox → Mailbox) (s : State) : (updBox m f s).ar = s.ar := rfl
@[simp] theorem updBox_ms (m : Nat) (f : Mailbox → Mailbox) (s : State) : (updBox m f s).ms = s.ms := rfl
@[simp] theorem updBox_bl (m : Nat) (f : Mailbox → Mailbox) (s : State) : (updBox m f s).bl = s.bl := rfl
@[simp] theorem updBox_cl (m : Nat) (f : Mailbox → Mailbox) (s : State) : (updBox m f s).cl = s.cl := rfl
@[simp] theorem updBox_gl (m : Nat) (f : Mailbox → Mailbox) (s : State) : (updBox m f s).gl = s.gl := rfl
@[simp] theorem updBox_th (m : Nat) (f : Mailbox → Mailbox) (s : State) : (updBox m f s).th = s.th := rfl
@[simp] theorem updBox_av (m : Nat) (f : Mailbox → Mailbox) (s : State) : (updBox m f s).av = s.av := rfl

/-- What is changed reads as changed. -/
@[simp] theorem updBox_box_same (m : Nat) (f : Mailbox → Mailbox) (s : State) : (updBox m f s).box m = f (s.box m) :=
  Tab.get_upd_same _ _ _ _

/-- Every other one reads as before. -/
theorem updBox_box_other {j m : Nat} (f : Mailbox → Mailbox) (s : State) (h : j ≠ m) :
    (updBox m f s).box j = s.box j := Tab.get_upd_other _ f h

/-! ## `updChan` -/

@[simp] theorem updChan_pending (i : Nat) (f : Chan → Chan) (s : State) : (updChan i f s).pending = s.pending := rfl
@[simp] theorem updChan_uptime (i : Nat) (f : Chan → Chan) (s : State) : (updChan i f s).uptime = s.uptime := rfl
@[simp] theorem updChan_id (i : Nat) (f : Chan → Chan) (s : State) : (updChan i f s).id = s.id := rfl
@[simp] theorem updChan_pins (i : Nat) (f : Chan → Chan) (s : State) : (updChan i f s).pins = s.pins := rfl
@[simp] theorem updChan_ps (i : Nat) (f : Chan → Chan) (s : State) : (updChan i f s).ps = s.ps := rfl
@[simp] theorem updChan_ev (i : Nat) (f : Chan → Chan) (s : State) : (updChan i f s).ev = s.ev := rfl
@[simp] theorem updChan_tb (i : Nat) (f : Chan → Chan) (s : State) : (updChan i f s).tb = s.tb := rfl
@[simp] theorem updChan_ca (i : Nat) (f : Chan → Chan) (s : State) : (updChan i f s).ca = s.ca := rfl
@[simp] theorem updChan_sh (i : Nat) (f : Chan → Chan) (s : State) : (updChan i f s).sh = s.sh := rfl
@[simp] theorem updChan_em (i : Nat) (f : Chan → Chan) (s : State) : (updChan i f s).em = s.em := rfl
@[simp] theorem updChan_ar (i : Nat) (f : Chan → Chan) (s : State) : (updChan i f s).ar = s.ar := rfl
@[simp] theorem updChan_ms (i : Nat) (f : Chan → Chan) (s : State) : (updChan i f s).ms = s.ms := rfl
@[simp] theorem updChan_bl (i : Nat) (f : Chan → Chan) (s : State) : (updChan i f s).bl = s.bl := rfl
@[simp] theorem updChan_cl (i : Nat) (f : Chan → Chan) (s : State) : (updChan i f s).cl = s.cl := rfl
@[simp] theorem updChan_gl (i : Nat) (f : Chan → Chan) (s : State) : (updChan i f s).gl = s.gl := rfl
@[simp] theorem updChan_lk (i : Nat) (f : Chan → Chan) (s : State) : (updChan i f s).lk = s.lk := rfl
@[simp] theorem updChan_th (i : Nat) (f : Chan → Chan) (s : State) : (updChan i f s).th = s.th := rfl
@[simp] theorem updChan_av (i : Nat) (f : Chan → Chan) (s : State) : (updChan i f s).av = s.av := rfl

/-- What is changed reads as changed. -/
@[simp] theorem updChan_chan_same (i : Nat) (f : Chan → Chan) (s : State) : (updChan i f s).chan i = f (s.chan i) :=
  Tab.get_upd_same _ _ _ _

/-- Every other one reads as before. -/
theorem updChan_chan_other {j i : Nat} (f : Chan → Chan) (s : State) (h : j ≠ i) :
    (updChan i f s).chan j = s.chan j := Tab.get_upd_other _ f h

/-! ## `updCore` -/

@[simp] theorem updCore_pending (x : Nat) (f : Core → Core) (s : State) : (updCore x f s).pending = s.pending := rfl
@[simp] theorem updCore_uptime (x : Nat) (f : Core → Core) (s : State) : (updCore x f s).uptime = s.uptime := rfl
@[simp] theorem updCore_id (x : Nat) (f : Core → Core) (s : State) : (updCore x f s).id = s.id := rfl
@[simp] theorem updCore_pins (x : Nat) (f : Core → Core) (s : State) : (updCore x f s).pins = s.pins := rfl
@[simp] theorem updCore_ps (x : Nat) (f : Core → Core) (s : State) : (updCore x f s).ps = s.ps := rfl
@[simp] theorem updCore_ev (x : Nat) (f : Core → Core) (s : State) : (updCore x f s).ev = s.ev := rfl
@[simp] theorem updCore_tb (x : Nat) (f : Core → Core) (s : State) : (updCore x f s).tb = s.tb := rfl
@[simp] theorem updCore_ca (x : Nat) (f : Core → Core) (s : State) : (updCore x f s).ca = s.ca := rfl
@[simp] theorem updCore_sh (x : Nat) (f : Core → Core) (s : State) : (updCore x f s).sh = s.sh := rfl
@[simp] theorem updCore_em (x : Nat) (f : Core → Core) (s : State) : (updCore x f s).em = s.em := rfl
@[simp] theorem updCore_ar (x : Nat) (f : Core → Core) (s : State) : (updCore x f s).ar = s.ar := rfl
@[simp] theorem updCore_ms (x : Nat) (f : Core → Core) (s : State) : (updCore x f s).ms = s.ms := rfl
@[simp] theorem updCore_bl (x : Nat) (f : Core → Core) (s : State) : (updCore x f s).bl = s.bl := rfl
@[simp] theorem updCore_cl (x : Nat) (f : Core → Core) (s : State) : (updCore x f s).cl = s.cl := rfl
@[simp] theorem updCore_gl (x : Nat) (f : Core → Core) (s : State) : (updCore x f s).gl = s.gl := rfl
@[simp] theorem updCore_lk (x : Nat) (f : Core → Core) (s : State) : (updCore x f s).lk = s.lk := rfl
@[simp] theorem updCore_th (x : Nat) (f : Core → Core) (s : State) : (updCore x f s).th = s.th := rfl
@[simp] theorem updCore_av (x : Nat) (f : Core → Core) (s : State) : (updCore x f s).av = s.av := rfl

/-- What is changed reads as changed. -/
@[simp] theorem updCore_core_same (x : Nat) (f : Core → Core) (s : State) : (updCore x f s).core x = f (s.core x) :=
  Tab.get_upd_same _ _ _ _

/-- Every other one reads as before. -/
theorem updCore_core_other {j x : Nat} (f : Core → Core) (s : State) (h : j ≠ x) :
    (updCore x f s).core j = s.core j := Tab.get_upd_other _ f h

/-! ## `updConv` -/

@[simp] theorem updConv_pending (x v : Nat) (f : Conv → Conv) (s : State) : (updConv x v f s).pending = s.pending := rfl
@[simp] theorem updConv_uptime (x v : Nat) (f : Conv → Conv) (s : State) : (updConv x v f s).uptime = s.uptime := rfl
@[simp] theorem updConv_id (x v : Nat) (f : Conv → Conv) (s : State) : (updConv x v f s).id = s.id := rfl
@[simp] theorem updConv_pins (x v : Nat) (f : Conv → Conv) (s : State) : (updConv x v f s).pins = s.pins := rfl
@[simp] theorem updConv_ps (x v : Nat) (f : Conv → Conv) (s : State) : (updConv x v f s).ps = s.ps := rfl
@[simp] theorem updConv_ev (x v : Nat) (f : Conv → Conv) (s : State) : (updConv x v f s).ev = s.ev := rfl
@[simp] theorem updConv_tb (x v : Nat) (f : Conv → Conv) (s : State) : (updConv x v f s).tb = s.tb := rfl
@[simp] theorem updConv_fl (x v : Nat) (f : Conv → Conv) (s : State) : (updConv x v f s).fl = s.fl := rfl
@[simp] theorem updConv_sh (x v : Nat) (f : Conv → Conv) (s : State) : (updConv x v f s).sh = s.sh := rfl
@[simp] theorem updConv_em (x v : Nat) (f : Conv → Conv) (s : State) : (updConv x v f s).em = s.em := rfl
@[simp] theorem updConv_ar (x v : Nat) (f : Conv → Conv) (s : State) : (updConv x v f s).ar = s.ar := rfl
@[simp] theorem updConv_ms (x v : Nat) (f : Conv → Conv) (s : State) : (updConv x v f s).ms = s.ms := rfl
@[simp] theorem updConv_bl (x v : Nat) (f : Conv → Conv) (s : State) : (updConv x v f s).bl = s.bl := rfl
@[simp] theorem updConv_cl (x v : Nat) (f : Conv → Conv) (s : State) : (updConv x v f s).cl = s.cl := rfl
@[simp] theorem updConv_gl (x v : Nat) (f : Conv → Conv) (s : State) : (updConv x v f s).gl = s.gl := rfl
@[simp] theorem updConv_lk (x v : Nat) (f : Conv → Conv) (s : State) : (updConv x v f s).lk = s.lk := rfl
@[simp] theorem updConv_th (x v : Nat) (f : Conv → Conv) (s : State) : (updConv x v f s).th = s.th := rfl
@[simp] theorem updConv_av (x v : Nat) (f : Conv → Conv) (s : State) : (updConv x v f s).av = s.av := rfl

/-! ## `updLine` -/

@[simp] theorem updLine_pending (x : Nat) (f : Line → Line) (s : State) : (updLine x f s).pending = s.pending := rfl
@[simp] theorem updLine_uptime (x : Nat) (f : Line → Line) (s : State) : (updLine x f s).uptime = s.uptime := rfl
@[simp] theorem updLine_id (x : Nat) (f : Line → Line) (s : State) : (updLine x f s).id = s.id := rfl
@[simp] theorem updLine_pins (x : Nat) (f : Line → Line) (s : State) : (updLine x f s).pins = s.pins := rfl
@[simp] theorem updLine_ps (x : Nat) (f : Line → Line) (s : State) : (updLine x f s).ps = s.ps := rfl
@[simp] theorem updLine_ev (x : Nat) (f : Line → Line) (s : State) : (updLine x f s).ev = s.ev := rfl
@[simp] theorem updLine_tb (x : Nat) (f : Line → Line) (s : State) : (updLine x f s).tb = s.tb := rfl
@[simp] theorem updLine_fl (x : Nat) (f : Line → Line) (s : State) : (updLine x f s).fl = s.fl := rfl
@[simp] theorem updLine_ca (x : Nat) (f : Line → Line) (s : State) : (updLine x f s).ca = s.ca := rfl
@[simp] theorem updLine_sh (x : Nat) (f : Line → Line) (s : State) : (updLine x f s).sh = s.sh := rfl
@[simp] theorem updLine_ar (x : Nat) (f : Line → Line) (s : State) : (updLine x f s).ar = s.ar := rfl
@[simp] theorem updLine_ms (x : Nat) (f : Line → Line) (s : State) : (updLine x f s).ms = s.ms := rfl
@[simp] theorem updLine_bl (x : Nat) (f : Line → Line) (s : State) : (updLine x f s).bl = s.bl := rfl
@[simp] theorem updLine_cl (x : Nat) (f : Line → Line) (s : State) : (updLine x f s).cl = s.cl := rfl
@[simp] theorem updLine_gl (x : Nat) (f : Line → Line) (s : State) : (updLine x f s).gl = s.gl := rfl
@[simp] theorem updLine_lk (x : Nat) (f : Line → Line) (s : State) : (updLine x f s).lk = s.lk := rfl
@[simp] theorem updLine_th (x : Nat) (f : Line → Line) (s : State) : (updLine x f s).th = s.th := rfl
@[simp] theorem updLine_av (x : Nat) (f : Line → Line) (s : State) : (updLine x f s).av = s.av := rfl

/-- What is changed reads as changed. -/
@[simp] theorem updLine_line_same (x : Nat) (f : Line → Line) (s : State) : (updLine x f s).line x = f (s.line x) :=
  Tab.get_upd_same _ _ _ _

/-- Every other one reads as before. -/
theorem updLine_line_other {j x : Nat} (f : Line → Line) (s : State) (h : j ≠ x) :
    (updLine x f s).line j = s.line j := Tab.get_upd_other _ f h

/-! ## `updDriver` -/

@[simp] theorem updDriver_pending (d : Nat) (f : Driver → Driver) (s : State) : (updDriver d f s).pending = s.pending := rfl
@[simp] theorem updDriver_uptime (d : Nat) (f : Driver → Driver) (s : State) : (updDriver d f s).uptime = s.uptime := rfl
@[simp] theorem updDriver_id (d : Nat) (f : Driver → Driver) (s : State) : (updDriver d f s).id = s.id := rfl
@[simp] theorem updDriver_pins (d : Nat) (f : Driver → Driver) (s : State) : (updDriver d f s).pins = s.pins := rfl
@[simp] theorem updDriver_ps (d : Nat) (f : Driver → Driver) (s : State) : (updDriver d f s).ps = s.ps := rfl
@[simp] theorem updDriver_ev (d : Nat) (f : Driver → Driver) (s : State) : (updDriver d f s).ev = s.ev := rfl
@[simp] theorem updDriver_tb (d : Nat) (f : Driver → Driver) (s : State) : (updDriver d f s).tb = s.tb := rfl
@[simp] theorem updDriver_fl (d : Nat) (f : Driver → Driver) (s : State) : (updDriver d f s).fl = s.fl := rfl
@[simp] theorem updDriver_ca (d : Nat) (f : Driver → Driver) (s : State) : (updDriver d f s).ca = s.ca := rfl
@[simp] theorem updDriver_sh (d : Nat) (f : Driver → Driver) (s : State) : (updDriver d f s).sh = s.sh := rfl
@[simp] theorem updDriver_ar (d : Nat) (f : Driver → Driver) (s : State) : (updDriver d f s).ar = s.ar := rfl
@[simp] theorem updDriver_ms (d : Nat) (f : Driver → Driver) (s : State) : (updDriver d f s).ms = s.ms := rfl
@[simp] theorem updDriver_bl (d : Nat) (f : Driver → Driver) (s : State) : (updDriver d f s).bl = s.bl := rfl
@[simp] theorem updDriver_cl (d : Nat) (f : Driver → Driver) (s : State) : (updDriver d f s).cl = s.cl := rfl
@[simp] theorem updDriver_gl (d : Nat) (f : Driver → Driver) (s : State) : (updDriver d f s).gl = s.gl := rfl
@[simp] theorem updDriver_lk (d : Nat) (f : Driver → Driver) (s : State) : (updDriver d f s).lk = s.lk := rfl
@[simp] theorem updDriver_th (d : Nat) (f : Driver → Driver) (s : State) : (updDriver d f s).th = s.th := rfl
@[simp] theorem updDriver_av (d : Nat) (f : Driver → Driver) (s : State) : (updDriver d f s).av = s.av := rfl

/-- What is changed reads as changed. -/
@[simp] theorem updDriver_driver_same (d : Nat) (f : Driver → Driver) (s : State) : (updDriver d f s).driver d = f (s.driver d) :=
  Tab.get_upd_same _ _ _ _

/-- Every other one reads as before. -/
theorem updDriver_driver_other {j d : Nat} (f : Driver → Driver) (s : State) (h : j ≠ d) :
    (updDriver d f s).driver j = s.driver j := Tab.get_upd_other _ f h

/-! ## `updDwell` -/

@[simp] theorem updDwell_pending (d : Nat) (f : Dwell → Dwell) (s : State) : (updDwell d f s).pending = s.pending := rfl
@[simp] theorem updDwell_uptime (d : Nat) (f : Dwell → Dwell) (s : State) : (updDwell d f s).uptime = s.uptime := rfl
@[simp] theorem updDwell_id (d : Nat) (f : Dwell → Dwell) (s : State) : (updDwell d f s).id = s.id := rfl
@[simp] theorem updDwell_pins (d : Nat) (f : Dwell → Dwell) (s : State) : (updDwell d f s).pins = s.pins := rfl
@[simp] theorem updDwell_ps (d : Nat) (f : Dwell → Dwell) (s : State) : (updDwell d f s).ps = s.ps := rfl
@[simp] theorem updDwell_ev (d : Nat) (f : Dwell → Dwell) (s : State) : (updDwell d f s).ev = s.ev := rfl
@[simp] theorem updDwell_tb (d : Nat) (f : Dwell → Dwell) (s : State) : (updDwell d f s).tb = s.tb := rfl
@[simp] theorem updDwell_fl (d : Nat) (f : Dwell → Dwell) (s : State) : (updDwell d f s).fl = s.fl := rfl
@[simp] theorem updDwell_ca (d : Nat) (f : Dwell → Dwell) (s : State) : (updDwell d f s).ca = s.ca := rfl
@[simp] theorem updDwell_em (d : Nat) (f : Dwell → Dwell) (s : State) : (updDwell d f s).em = s.em := rfl
@[simp] theorem updDwell_ar (d : Nat) (f : Dwell → Dwell) (s : State) : (updDwell d f s).ar = s.ar := rfl
@[simp] theorem updDwell_ms (d : Nat) (f : Dwell → Dwell) (s : State) : (updDwell d f s).ms = s.ms := rfl
@[simp] theorem updDwell_bl (d : Nat) (f : Dwell → Dwell) (s : State) : (updDwell d f s).bl = s.bl := rfl
@[simp] theorem updDwell_cl (d : Nat) (f : Dwell → Dwell) (s : State) : (updDwell d f s).cl = s.cl := rfl
@[simp] theorem updDwell_gl (d : Nat) (f : Dwell → Dwell) (s : State) : (updDwell d f s).gl = s.gl := rfl
@[simp] theorem updDwell_lk (d : Nat) (f : Dwell → Dwell) (s : State) : (updDwell d f s).lk = s.lk := rfl
@[simp] theorem updDwell_th (d : Nat) (f : Dwell → Dwell) (s : State) : (updDwell d f s).th = s.th := rfl
@[simp] theorem updDwell_av (d : Nat) (f : Dwell → Dwell) (s : State) : (updDwell d f s).av = s.av := rfl

/-! ## `updEntry` -/

@[simp] theorem updEntry_pending (n : Nat) (f : Entry → Entry) (s : State) : (updEntry n f s).pending = s.pending := rfl
@[simp] theorem updEntry_uptime (n : Nat) (f : Entry → Entry) (s : State) : (updEntry n f s).uptime = s.uptime := rfl
@[simp] theorem updEntry_id (n : Nat) (f : Entry → Entry) (s : State) : (updEntry n f s).id = s.id := rfl
@[simp] theorem updEntry_pins (n : Nat) (f : Entry → Entry) (s : State) : (updEntry n f s).pins = s.pins := rfl
@[simp] theorem updEntry_ps (n : Nat) (f : Entry → Entry) (s : State) : (updEntry n f s).ps = s.ps := rfl
@[simp] theorem updEntry_ev (n : Nat) (f : Entry → Entry) (s : State) : (updEntry n f s).ev = s.ev := rfl
@[simp] theorem updEntry_tb (n : Nat) (f : Entry → Entry) (s : State) : (updEntry n f s).tb = s.tb := rfl
@[simp] theorem updEntry_fl (n : Nat) (f : Entry → Entry) (s : State) : (updEntry n f s).fl = s.fl := rfl
@[simp] theorem updEntry_ca (n : Nat) (f : Entry → Entry) (s : State) : (updEntry n f s).ca = s.ca := rfl
@[simp] theorem updEntry_em (n : Nat) (f : Entry → Entry) (s : State) : (updEntry n f s).em = s.em := rfl
@[simp] theorem updEntry_ar (n : Nat) (f : Entry → Entry) (s : State) : (updEntry n f s).ar = s.ar := rfl
@[simp] theorem updEntry_ms (n : Nat) (f : Entry → Entry) (s : State) : (updEntry n f s).ms = s.ms := rfl
@[simp] theorem updEntry_bl (n : Nat) (f : Entry → Entry) (s : State) : (updEntry n f s).bl = s.bl := rfl
@[simp] theorem updEntry_cl (n : Nat) (f : Entry → Entry) (s : State) : (updEntry n f s).cl = s.cl := rfl
@[simp] theorem updEntry_gl (n : Nat) (f : Entry → Entry) (s : State) : (updEntry n f s).gl = s.gl := rfl
@[simp] theorem updEntry_lk (n : Nat) (f : Entry → Entry) (s : State) : (updEntry n f s).lk = s.lk := rfl
@[simp] theorem updEntry_th (n : Nat) (f : Entry → Entry) (s : State) : (updEntry n f s).th = s.th := rfl
@[simp] theorem updEntry_av (n : Nat) (f : Entry → Entry) (s : State) : (updEntry n f s).av = s.av := rfl

/-! ## `updAChan` -/

@[simp] theorem updAChan_pending (i : Nat) (f : AChan → AChan) (s : State) : (updAChan i f s).pending = s.pending := rfl
@[simp] theorem updAChan_uptime (i : Nat) (f : AChan → AChan) (s : State) : (updAChan i f s).uptime = s.uptime := rfl
@[simp] theorem updAChan_id (i : Nat) (f : AChan → AChan) (s : State) : (updAChan i f s).id = s.id := rfl
@[simp] theorem updAChan_pins (i : Nat) (f : AChan → AChan) (s : State) : (updAChan i f s).pins = s.pins := rfl
@[simp] theorem updAChan_ps (i : Nat) (f : AChan → AChan) (s : State) : (updAChan i f s).ps = s.ps := rfl
@[simp] theorem updAChan_ev (i : Nat) (f : AChan → AChan) (s : State) : (updAChan i f s).ev = s.ev := rfl
@[simp] theorem updAChan_tb (i : Nat) (f : AChan → AChan) (s : State) : (updAChan i f s).tb = s.tb := rfl
@[simp] theorem updAChan_fl (i : Nat) (f : AChan → AChan) (s : State) : (updAChan i f s).fl = s.fl := rfl
@[simp] theorem updAChan_ca (i : Nat) (f : AChan → AChan) (s : State) : (updAChan i f s).ca = s.ca := rfl
@[simp] theorem updAChan_sh (i : Nat) (f : AChan → AChan) (s : State) : (updAChan i f s).sh = s.sh := rfl
@[simp] theorem updAChan_em (i : Nat) (f : AChan → AChan) (s : State) : (updAChan i f s).em = s.em := rfl
@[simp] theorem updAChan_ms (i : Nat) (f : AChan → AChan) (s : State) : (updAChan i f s).ms = s.ms := rfl
@[simp] theorem updAChan_bl (i : Nat) (f : AChan → AChan) (s : State) : (updAChan i f s).bl = s.bl := rfl
@[simp] theorem updAChan_cl (i : Nat) (f : AChan → AChan) (s : State) : (updAChan i f s).cl = s.cl := rfl
@[simp] theorem updAChan_gl (i : Nat) (f : AChan → AChan) (s : State) : (updAChan i f s).gl = s.gl := rfl
@[simp] theorem updAChan_lk (i : Nat) (f : AChan → AChan) (s : State) : (updAChan i f s).lk = s.lk := rfl
@[simp] theorem updAChan_th (i : Nat) (f : AChan → AChan) (s : State) : (updAChan i f s).th = s.th := rfl
@[simp] theorem updAChan_av (i : Nat) (f : AChan → AChan) (s : State) : (updAChan i f s).av = s.av := rfl

/-- What is changed reads as changed. -/
@[simp] theorem updAChan_achan_same (i : Nat) (f : AChan → AChan) (s : State) : (updAChan i f s).achan i = f (s.achan i) :=
  Tab.get_upd_same _ _ _ _

/-- Every other one reads as before. -/
theorem updAChan_achan_other {j i : Nat} (f : AChan → AChan) (s : State) (h : j ≠ i) :
    (updAChan i f s).achan j = s.achan j := Tab.get_upd_other _ f h

/-! ## `updLocker` -/

@[simp] theorem updLocker_pending (n : Nat) (f : Locker → Locker) (s : State) : (updLocker n f s).pending = s.pending := rfl
@[simp] theorem updLocker_uptime (n : Nat) (f : Locker → Locker) (s : State) : (updLocker n f s).uptime = s.uptime := rfl
@[simp] theorem updLocker_id (n : Nat) (f : Locker → Locker) (s : State) : (updLocker n f s).id = s.id := rfl
@[simp] theorem updLocker_pins (n : Nat) (f : Locker → Locker) (s : State) : (updLocker n f s).pins = s.pins := rfl
@[simp] theorem updLocker_ps (n : Nat) (f : Locker → Locker) (s : State) : (updLocker n f s).ps = s.ps := rfl
@[simp] theorem updLocker_ev (n : Nat) (f : Locker → Locker) (s : State) : (updLocker n f s).ev = s.ev := rfl
@[simp] theorem updLocker_tb (n : Nat) (f : Locker → Locker) (s : State) : (updLocker n f s).tb = s.tb := rfl
@[simp] theorem updLocker_fl (n : Nat) (f : Locker → Locker) (s : State) : (updLocker n f s).fl = s.fl := rfl
@[simp] theorem updLocker_ca (n : Nat) (f : Locker → Locker) (s : State) : (updLocker n f s).ca = s.ca := rfl
@[simp] theorem updLocker_sh (n : Nat) (f : Locker → Locker) (s : State) : (updLocker n f s).sh = s.sh := rfl
@[simp] theorem updLocker_em (n : Nat) (f : Locker → Locker) (s : State) : (updLocker n f s).em = s.em := rfl
@[simp] theorem updLocker_ms (n : Nat) (f : Locker → Locker) (s : State) : (updLocker n f s).ms = s.ms := rfl
@[simp] theorem updLocker_bl (n : Nat) (f : Locker → Locker) (s : State) : (updLocker n f s).bl = s.bl := rfl
@[simp] theorem updLocker_cl (n : Nat) (f : Locker → Locker) (s : State) : (updLocker n f s).cl = s.cl := rfl
@[simp] theorem updLocker_gl (n : Nat) (f : Locker → Locker) (s : State) : (updLocker n f s).gl = s.gl := rfl
@[simp] theorem updLocker_lk (n : Nat) (f : Locker → Locker) (s : State) : (updLocker n f s).lk = s.lk := rfl
@[simp] theorem updLocker_th (n : Nat) (f : Locker → Locker) (s : State) : (updLocker n f s).th = s.th := rfl
@[simp] theorem updLocker_av (n : Nat) (f : Locker → Locker) (s : State) : (updLocker n f s).av = s.av := rfl

/-- What is changed reads as changed. -/
@[simp] theorem updLocker_locker_same (n : Nat) (f : Locker → Locker) (s : State) : (updLocker n f s).locker n = f (s.locker n) :=
  Tab.get_upd_same _ _ _ _

/-- Every other one reads as before. -/
theorem updLocker_locker_other {j n : Nat} (f : Locker → Locker) (s : State) (h : j ≠ n) :
    (updLocker n f s).locker j = s.locker j := Tab.get_upd_other _ f h

/-! ## `updPart` -/

@[simp] theorem updPart_pending (p : Nat) (f : Part → Part) (s : State) : (updPart p f s).pending = s.pending := rfl
@[simp] theorem updPart_uptime (p : Nat) (f : Part → Part) (s : State) : (updPart p f s).uptime = s.uptime := rfl
@[simp] theorem updPart_id (p : Nat) (f : Part → Part) (s : State) : (updPart p f s).id = s.id := rfl
@[simp] theorem updPart_pins (p : Nat) (f : Part → Part) (s : State) : (updPart p f s).pins = s.pins := rfl
@[simp] theorem updPart_ps (p : Nat) (f : Part → Part) (s : State) : (updPart p f s).ps = s.ps := rfl
@[simp] theorem updPart_ev (p : Nat) (f : Part → Part) (s : State) : (updPart p f s).ev = s.ev := rfl
@[simp] theorem updPart_tb (p : Nat) (f : Part → Part) (s : State) : (updPart p f s).tb = s.tb := rfl
@[simp] theorem updPart_fl (p : Nat) (f : Part → Part) (s : State) : (updPart p f s).fl = s.fl := rfl
@[simp] theorem updPart_ca (p : Nat) (f : Part → Part) (s : State) : (updPart p f s).ca = s.ca := rfl
@[simp] theorem updPart_sh (p : Nat) (f : Part → Part) (s : State) : (updPart p f s).sh = s.sh := rfl
@[simp] theorem updPart_em (p : Nat) (f : Part → Part) (s : State) : (updPart p f s).em = s.em := rfl
@[simp] theorem updPart_ar (p : Nat) (f : Part → Part) (s : State) : (updPart p f s).ar = s.ar := rfl
@[simp] theorem updPart_ms (p : Nat) (f : Part → Part) (s : State) : (updPart p f s).ms = s.ms := rfl
@[simp] theorem updPart_bl (p : Nat) (f : Part → Part) (s : State) : (updPart p f s).bl = s.bl := rfl
@[simp] theorem updPart_cl (p : Nat) (f : Part → Part) (s : State) : (updPart p f s).cl = s.cl := rfl
@[simp] theorem updPart_lk (p : Nat) (f : Part → Part) (s : State) : (updPart p f s).lk = s.lk := rfl
@[simp] theorem updPart_th (p : Nat) (f : Part → Part) (s : State) : (updPart p f s).th = s.th := rfl
@[simp] theorem updPart_av (p : Nat) (f : Part → Part) (s : State) : (updPart p f s).av = s.av := rfl

/-- What is changed reads as changed. -/
@[simp] theorem updPart_partn_same (p : Nat) (f : Part → Part) (s : State) : (updPart p f s).partn p = f (s.partn p) :=
  Tab.get_upd_same _ _ _ _

/-- Every other one reads as before. -/
theorem updPart_partn_other {j p : Nat} (f : Part → Part) (s : State) (h : j ≠ p) :
    (updPart p f s).partn j = s.partn j := Tab.get_upd_other _ f h

/-! ## `count` -/

@[simp] theorem count_pending (n k : Nat) (s : State) : (count n k s).pending = s.pending := rfl
@[simp] theorem count_uptime (n k : Nat) (s : State) : (count n k s).uptime = s.uptime := rfl
@[simp] theorem count_id (n k : Nat) (s : State) : (count n k s).id = s.id := rfl
@[simp] theorem count_pins (n k : Nat) (s : State) : (count n k s).pins = s.pins := rfl
@[simp] theorem count_ps (n k : Nat) (s : State) : (count n k s).ps = s.ps := rfl
@[simp] theorem count_ev (n k : Nat) (s : State) : (count n k s).ev = s.ev := rfl
@[simp] theorem count_tb (n k : Nat) (s : State) : (count n k s).tb = s.tb := rfl
@[simp] theorem count_fl (n k : Nat) (s : State) : (count n k s).fl = s.fl := rfl
@[simp] theorem count_ca (n k : Nat) (s : State) : (count n k s).ca = s.ca := rfl
@[simp] theorem count_sh (n k : Nat) (s : State) : (count n k s).sh = s.sh := rfl
@[simp] theorem count_em (n k : Nat) (s : State) : (count n k s).em = s.em := rfl
@[simp] theorem count_ar (n k : Nat) (s : State) : (count n k s).ar = s.ar := rfl
@[simp] theorem count_ms (n k : Nat) (s : State) : (count n k s).ms = s.ms := rfl
@[simp] theorem count_bl (n k : Nat) (s : State) : (count n k s).bl = s.bl := rfl
@[simp] theorem count_cl (n k : Nat) (s : State) : (count n k s).cl = s.cl := rfl
@[simp] theorem count_gl (n k : Nat) (s : State) : (count n k s).gl = s.gl := rfl
@[simp] theorem count_lk (n k : Nat) (s : State) : (count n k s).lk = s.lk := rfl
@[simp] theorem count_th (n k : Nat) (s : State) : (count n k s).th = s.th := rfl

/-! ## Converters -/

/-- A converter that is changed reads as changed. -/
@[simp] theorem updConv_conv_same (x v : Nat) (f : Conv → Conv) (s : State) : (updConv x v f s).conv x v = f (s.conv x v) :=
  Tab.get_upd_same _ _ _ _

/-- Every other converter reads as before. -/
theorem updConv_conv_other {x v y w : Nat} (f : Conv → Conv) (s : State) (h : 8 * y + w ≠ 8 * x + v) :
    (updConv x v f s).conv y w = s.conv y w := Tab.get_upd_other _ f h

end Sys2Proof.Machine
end

