-- ==== Sys2Proof/Laws/Said.lean ====
section
/-!
SUPPORT. Said.lean: what raising events, tracing, queueing frames and answering mailboxes can do (`Said`), and what a
command of the Lodge leads to when it is taken.
-/
namespace Sys2Proof.Machine

theorem Said.refl (s : State) : Said s s := rfl

theorem Said.trans {s t u : State} (h : Said s t) (k : Said t u) : Said s u := by
  unfold Said at *
  rw [k, h]

theorem Said.of_eq {s t : State} (h : t = s) : Said s t := h ▸ Said.refl s

section fields

variable {s t : State} (h : Said s t)
include h

theorem Said.pending : t.pending = s.pending := by rw [h]
theorem Said.uptime : t.uptime = s.uptime := by rw [h]
theorem Said.id : t.id = s.id := by rw [h]
theorem Said.pins : t.pins = s.pins := by rw [h]
theorem Said.ps : t.ps = s.ps := by rw [h]
theorem Said.tb : t.tb = s.tb := by rw [h]
theorem Said.fl : t.fl = s.fl := by rw [h]
theorem Said.ca : t.ca = s.ca := by rw [h]
theorem Said.sh : t.sh = s.sh := by rw [h]
theorem Said.em : t.em = s.em := by rw [h]
theorem Said.ar : t.ar = s.ar := by rw [h]
theorem Said.ms : t.ms = s.ms := by rw [h]
theorem Said.bl : t.bl = s.bl := by rw [h]
theorem Said.cl : t.cl = s.cl := by rw [h]
theorem Said.th : t.th = s.th := by rw [h]
theorem Said.mem : t.gl.mem = s.gl.mem := by rw [h]
theorem Said.regs : t.lk.regs = s.lk.regs := by rw [h]
theorem Said.ports : t.lk.ports = s.lk.ports := by rw [h]
theorem Said.lodgeRuns : t.lodgeRuns = s.lodgeRuns := by rw [h]; rfl
theorem Said.live : t.live = s.live := by rw [h]; rfl

end fields

/-! ## The trace and the events -/

/-- Only the trace and the Loggia counters of the availability unit differ. -/
def Avail.Traced (a b : Avail) : Prop :=
  b = { a with lcnt := b.lcnt, fifo := b.fifo, trLost := b.trLost, dropped := b.dropped, held := b.held }

theorem Avail.Traced.refl (a : Avail) : a.Traced a := rfl

theorem Avail.Traced.trans {a b c : Avail} (h : a.Traced b) (k : b.Traced c) : a.Traced c := by
  unfold Avail.Traced at *
  rw [k, h]

theorem Avail.pushAs_traced (b u : Bool) (r : TraceRec) (a : Avail) : a.Traced (a.pushAs b u r) := by
  unfold Avail.pushAs
  generalize (if u = true then 4096 else 4032) = k
  repeat' split
  all_goals rfl

theorem Avail.push_traced (u : Bool) (r : TraceRec) (a : Avail) : a.Traced (a.push u r) := a.pushAs_traced true u r

theorem Avail.count_traced (n k : Nat) (a : Avail) : a.Traced (a.count n k) := rfl

theorem Avail.event_traced (e : Events) (now : List Byte) (a : Avail) (n : Nat) : a.Traced (a.event e now n) := by
  have h : a.Traced (if n / 32 < 16 then a.count (176 + n / 32) 1 else a) := by
    split
    · exact Avail.count_traced _ _ a
    · exact Avail.Traced.refl a
  unfold Avail.event
  generalize (if n / 32 < 16 then a.count (176 + n / 32) 1 else a) = b at h
  simp only []
  split
  · exact h.trans (Avail.push_traced _ _ _)
  · exact h

theorem Avail.events_traced (e : Events) (now : List Byte) :
    ∀ (ns : List Nat) (a : Avail), a.Traced (ns.foldl (Avail.event e now) a)
  | [], a => Avail.Traced.refl a
  | n :: ns, a => (Avail.event_traced e now a n).trans (Avail.events_traced e now ns _)

theorem Gallery.events_only (e : Events) (c : Coarse) :
    ∀ (ns : List Nat) (g : Gallery), ns.foldl (Gallery.event e c) g = { g with evts := (ns.foldl (Gallery.event e c) g).evts }
  | [], _ => rfl
  | n :: ns, g => by
    rw [List.foldl_cons, Gallery.events_only e c ns]
    unfold Gallery.event
    split <;> rfl

theorem raises_said (ns : List Nat) (s : State) : Said s (raises ns s) := by
  unfold Said raises
  generalize ns.eraseDups.filter (fun n => !s.ev.hasRaised s.uptime n) = ns
  dsimp only
  split
  · rfl
  · have h := Avail.events_traced (s.ev.raiseAll s.uptime ns) s.nowBytes ns s.av
    have g := Gallery.events_only (s.ev.raiseAll s.uptime ns) s.tb.coarse ns s.gl
    unfold Avail.Traced at h
    simp only []
    rw [← h, ← g]

theorem raise_said (n : Nat) (s : State) : Said s (raise n s) := raises_said [n] s

theorem raiseIf_said (b : Bool) (n : Nat) (s : State) : Said s (raiseIf b n s) := by
  unfold raiseIf
  split
  · exact raise_said n s
  · exact Said.refl s

theorem pushStamped_said (e : Nat) (r : TraceRec) (s : State) : Said s (s.pushStamped e r) := by
  have h := s.av.pushAs_traced (e == s.tb.era) false r
  unfold Avail.Traced at h
  unfold Said State.pushStamped
  simp only []
  rw [← h]

theorem count_said (n k : Nat) (s : State) : Said s (count n k s) := rfl

/-! ## Frames and answers -/

theorem dropOut_said (n : Nat) (s : State) : Said s (dropOut n s) := by
  unfold dropOut
  split
  · exact Said.refl s
  · refine Said.trans ?_ (raiseIf_said _ _ _)
    rfl

theorem enqueue_said (p c : Nat) (o : Out) (s : State) : Said s (enqueue p c o s) := by
  unfold enqueue
  simp only []
  split
  · refine Said.trans ?_ (dropOut_said _ _)
    rfl
  · rfl

theorem sendHost_said (c : Nat) (f : Frame) (s : State) : Said s (sendHost c f s) := by
  unfold sendHost
  split
  · exact enqueue_said _ _ _ s
  · split
    · rfl
    · exact dropOut_said 1 s

theorem sendResponse_said (f : Frame) (dst : Peer) (s : State) : Said s (sendResponse f dst s) := by
  unfold sendResponse
  split
  · exact enqueue_said _ _ _ s
  · split
    · exact enqueue_said _ _ _ s
    · split
      · exact Said.refl s
      · exact dropOut_said 1 s

theorem respond_said (m : Nat) (a : Answer) (s : State) : Said s (respond m a s) := by
  refine Said.trans ?_ (sendResponse_said _ _ _)
  rfl

theorem answer_said (m : Nat) (a : Answer) (now : Start) (s : State) : Said s (answer m a now s) := by
  unfold answer
  simp only []
  refine Said.trans (Said.trans ?_ (count_said _ _ _)) (respond_said _ _ _)
  split
  · exact pushStamped_said _ _ _
  · exact Said.refl s

theorem completeNow_said (tk : Ticket) (a : Answer) (s : State) : Said s (completeNow tk a s) := by
  unfold completeNow
  simp only []
  have h : Said s (if (s.box tk.mb).l = tk.seq ∧ (s.box tk.mb).op = tk.op then
      updBox tk.mb (fun b => { b with compl := some a }) s else s) := by
    split
    · rfl
    · exact Said.refl s
  split
  · exact h.trans (enqueue_said _ _ _ _)
  · exact h.trans (sendHost_said _ _ _)

theorem complete_said (tk : Ticket) (a : Answer) (s : State) : Said s (complete tk a s) := by
  unfold complete
  split
  · exact Said.refl s
  · split
    · rfl
    · exact completeNow_said tk a s

theorem answerBadop_said : ∀ (n : Nat) (s : State), Said s (answerBadop n s)
  | 0, s => Said.refl s
  | n + 1, s => by
    unfold answerBadop
    split
    · split
      · exact (answer_said _ _ _ s).trans (answerBadop_said n _)
      · exact Said.refl s
    · exact Said.refl s

/-! ## Mailboxes -/

theorem raises_boxes (ns : List Nat) (s : State) : (raises ns s).lk.boxes = s.lk.boxes := by
  unfold raises
  dsimp only
  split <;> rfl

theorem raiseIf_boxes (b : Bool) (n : Nat) (s : State) : (raiseIf b n s).lk.boxes = s.lk.boxes := by
  unfold raiseIf
  split
  · exact raises_boxes _ s
  · rfl

theorem dropOut_boxes (n : Nat) (s : State) : (dropOut n s).lk.boxes = s.lk.boxes := by
  unfold dropOut
  split
  · rfl
  · rw [raiseIf_boxes]

theorem enqueue_boxes (p c : Nat) (o : Out) (s : State) : (enqueue p c o s).lk.boxes = s.lk.boxes := by
  unfold enqueue
  simp only []
  split
  · rw [dropOut_boxes]; rfl
  · rfl

theorem sendHost_boxes (c : Nat) (f : Frame) (s : State) : (sendHost c f s).lk.boxes = s.lk.boxes := by
  unfold sendHost
  split
  · exact enqueue_boxes _ _ _ s
  · split
    · rfl
    · exact dropOut_boxes 1 s

theorem sendResponse_boxes (f : Frame) (dst : Peer) (s : State) : (sendResponse f dst s).lk.boxes = s.lk.boxes := by
  unfold sendResponse
  split
  · exact enqueue_boxes _ _ _ s
  · split
    · exact enqueue_boxes _ _ _ s
    · split
      · rfl
      · exact dropOut_boxes 1 s

theorem box_congr {s t : State} (h : t.lk.boxes = s.lk.boxes) (m : Nat) : t.box m = s.box m := by
  unfold State.box
  rw [h]

/-- Answering a mailbox stores the answer. -/
theorem answer_box (m : Nat) (a : Answer) (now : Start) (s : State) : ((answer m a now s).box m).answer = some a := by
  unfold answer respond
  simp only []
  rw [box_congr (sendResponse_boxes _ _ _), updBox_box_same]

theorem answer_box_other {m n : Nat} (a : Answer) (now : Start) (s : State) (h : n ≠ m) :
    (answer m a now s).box n = s.box n := by
  unfold answer respond
  simp only []
  rw [box_congr (sendResponse_boxes _ _ _), updBox_box_other _ _ h]
  refine box_congr ?_ n
  unfold count
  split <;> rfl

theorem nextBox_waits {s : State} {m : Nat} (h : s.nextBox = some m) : s.waits m = true := by
  unfold State.nextBox at h
  split at h
  · rename_i hw
    cases h
    exact hw
  · have key : ∀ (l : List Nat) (r : Option Nat), (∀ n, r = some n → s.waits n = true) →
        l.foldl (fun r m => if s.waits m = true then
          match r with
          | none => some m
          | some n => if (s.box m).order < (s.box n).order then some m else r
          else r) r = some m → s.waits m = true := by
      intro l
      induction l with
      | nil => intro r hr e; exact hr m e
      | cons x l ih =>
        intro r hr e
        rw [List.foldl_cons] at e
        refine ih _ ?_ e
        intro n hn
        split at hn
        · split at hn
          · cases hn
            assumption
          · split at hn
            · cases hn
              assumption
            · exact hr n hn
        · exact hr n hn
    exact key _ none (by intro n hn; cases hn) h

/-- Mailboxes that hold an answer keep it while others are answered BADOP. -/
theorem answerBadop_box : ∀ (k : Nat) (s : State) (m : Nat), (s.box m).answer ≠ none → (answerBadop k s).box m = s.box m
  | 0, _, _, _ => rfl
  | k + 1, s, m, h => by
    unfold answerBadop
    split
    · rename_i n hn
      split
      · have hw := nextBox_waits hn
        have hne : m ≠ n := by
          rintro rfl
          unfold State.waits at hw
          cases e : (s.box m).answer with
          | none => exact h e
          | some a => rw [e] at hw; simp at hw
        have hb := answer_box_other (.plain .badop) s.start s hne
        rw [answerBadop_box k _ m (by rw [hb]; exact h), hb]
      · rfl
    · rfl

theorem completeNow_answer (tk : Ticket) (a : Answer) (s : State) (m : Nat) (h : (s.box m).answer ≠ none) :
    ((completeNow tk a s).box m).answer = (s.box m).answer := by
  unfold completeNow
  simp only []
  have key : ∀ u : State, u.lk.boxes = (if (s.box tk.mb).l = tk.seq ∧ (s.box tk.mb).op = tk.op then
      updBox tk.mb (fun b => { b with compl := some a }) s else s).lk.boxes → (u.box m).answer = (s.box m).answer := by
    intro u hu
    rw [box_congr hu]
    split
    · by_cases e : m = tk.mb
      · subst e
        rw [updBox_box_same]
      · rw [updBox_box_other _ _ e]
    · rfl
  split
  · exact key _ (enqueue_boxes _ _ _ _)
  · exact key _ (sendHost_boxes _ _ _)

theorem complete_answer (tk : Ticket) (a : Answer) (s : State) (m : Nat) (h : (s.box m).answer ≠ none) :
    ((complete tk a s).box m).answer = (s.box m).answer := by
  unfold complete
  split
  · rfl
  · split
    · rfl
    · exact completeNow_answer tk a s m h

/-! ## Commands of the Lodge -/

/-- A command that is taken and passes its first checks: what its own rule yields is answered, and nothing else happens
but things said. -/
theorem lodge_own {m op : Nat} {row len : List Byte → Bool} {mode : State → List Byte → Bool}
    {own : Ticket → List Byte → State → Reply} {s : State} {p : List Byte} {a : Answer} (h : Takes s m op p)
    (hrow : row p = true) (hlen : len p = true) (hmode : mode s p = true) (ha : (own (s.ticket m) p s).ans = some a) :
    Said (own (s.ticket m) p s).s (lodge m op row len mode own s) ∧ Answered m a (lodge m op row len mode own s) := by
  obtain ⟨-, -, hr, hn, ho, hp⟩ := h
  unfold lodge
  simp only [hr, hn, ho, hp, hrow, hlen, hmode, ha, Bool.not_true, and_self, if_true, if_false, Bool.false_eq_true]
  unfold Answered
  split
  · rename_i d hd
    have hb : ((complete (s.ticket m) d (answer m a s.start (own (s.ticket m) p s).s)).box m).answer = some a := by
      rw [complete_answer _ _ _ _ (by rw [answer_box]; simp), answer_box]
    exact ⟨((answer_said _ _ _ _).trans (complete_said _ _ _)).trans (answerBadop_said _ _),
      by rw [answerBadop_box _ _ _ (by rw [hb]; simp), hb]⟩
  · exact ⟨(answer_said _ _ _ _).trans (answerBadop_said _ _),
      by rw [answerBadop_box _ _ _ (by rw [answer_box]; simp), answer_box]⟩

/-- A command that is taken with a payload of the wrong length is answered BADLEN (R315 step 2). -/
theorem lodge_badlen {m op : Nat} {row len : List Byte → Bool} {mode : State → List Byte → Bool}
    {own : Ticket → List Byte → State → Reply} {s : State} {p : List Byte} (h : Takes s m op p)
    (hrow : row p = true) (hlen : len p = false) :
    Said s (lodge m op row len mode own s) ∧ Answered m (.plain .badlen) (lodge m op row len mode own s) := by
  obtain ⟨-, -, hr, hn, ho, hp⟩ := h
  unfold lodge
  simp only [hr, hn, ho, hp, hrow, hlen, Bool.not_false, and_self, if_true]
  exact ⟨(answer_said _ _ _ _).trans (answerBadop_said _ _),
    by unfold Answered; rw [answerBadop_box _ _ _ (by rw [answer_box]; simp), answer_box]⟩

/-- A command that is taken in a mode that does not accept it is answered MODE (R315 step 3). -/
theorem lodge_wrong_mode {m op : Nat} {row len : List Byte → Bool} {mode : State → List Byte → Bool}
    {own : Ticket → List Byte → State → Reply} {s : State} {p : List Byte} (h : Takes s m op p)
    (hrow : row p = true) (hlen : len p = true) (hmode : mode s p = false) :
    Said s (lodge m op row len mode own s) ∧ Answered m (.plain .mode) (lodge m op row len mode own s) := by
  obtain ⟨-, -, hr, hn, ho, hp⟩ := h
  unfold lodge
  simp only [hr, hn, ho, hp, hrow, hlen, hmode, Bool.not_true, Bool.not_false, and_self, if_true, if_false,
    Bool.false_eq_true]
  exact ⟨(answer_said _ _ _ _).trans (answerBadop_said _ _),
    by unfold Answered; rw [answerBadop_box _ _ _ (by rw [answer_box]; simp), answer_box]⟩

/-! ## `act` -/

/-- A well-formed command of a part that is not held in reset has its effect. -/
theorem act_live {ok : Bool} {f : State → State} {s : State} (hok : ok = true) (hl : s.live = true)
    (hp : (f s).pending = s.pending) : act ok f s = .next (f s) := by
  unfold act
  simp only [hok, hl, if_true]
  rw [← hp]

/-- A well-formed command changes nothing of a part that is held in reset. -/
theorem act_held {ok : Bool} {f : State → State} {s : State} (hok : ok = true) (hl : s.live = false) :
    act ok f s = .next s := by
  unfold act
  simp [hok, hl]

/-- A well-formed command of a part that is not held in reset completes with what its effect has. -/
theorem Completes.of_act {i : Instr} {s : State} {ok : Bool} {f : State → State} {P : State → Prop}
    (he : exec i s = act ok f s) (hok : ok = true) (hl : s.live = true)
    (hP : P { f s with pending := s.pending }) : Completes i s P := by
  refine ⟨_, ?_, hP⟩
  rw [he]
  unfold act
  simp only [hok, hl, if_true]

/-- A well-formed command of a part that is not held in reset answers its effect. -/
theorem exec_of_act {i : Instr} {s u : State} {ok : Bool} {f : State → State}
    (he : exec i s = act ok f s) (hok : ok = true) (hl : s.live = true)
    (hu : { f s with pending := s.pending } = u) : exec i s = .next u := by
  rw [he, ← hu]
  unfold act
  simp only [hok, hl, if_true]

/-- As `Completes.of_act`, for a row that acts on a part held in reset too. -/
theorem Completes.of_always {i : Instr} {s : State} {ok : Bool} {f : State → State} {P : State → Prop}
    (he : exec i s = actAlways ok f s) (hok : ok = true)
    (hP : P { f s with pending := s.pending }) : Completes i s P := by
  refine ⟨_, ?_, hP⟩
  rw [he]
  unfold actAlways
  simp only [hok, if_true]

/-- Where an effect is said of a state with the same queue, the queue it is put back with changes nothing. -/
theorem Said.keep {u t : State} {p : List Instr} (h : Said u t) (hp : u.pending = p) : Said u { t with pending := p } := by
  have e : t.pending = p := h.pending.trans hp
  rw [← e]
  exact h

theorem Answered.keep {m : Nat} {a : Answer} {t : State} {p : List Instr} (h : Answered m a t) :
    Answered m a { t with pending := p } := h

/-- A command of the Lodge that is taken and passes its first checks completes: what its own rule yields, and its answer. -/
theorem Completes.of_lodge {i : Instr} {m op : Nat} {row len : List Byte → Bool} {mode : State → List Byte → Bool}
    {own : Ticket → List Byte → State → Reply} {s u : State} {p : List Byte} {a : Answer}
    (he : exec i s = act (m < 32) (lodge m op row len mode own) s) (h : Takes s m op p)
    (hrow : row p = true) (hlen : len p = true) (hmode : mode s p = true)
    (ho : own (s.ticket m) p s = reply u a) (hp : u.pending = s.pending) :
    Completes i s (fun t => Said u t ∧ Answered m a t) := by
  have k := lodge_own (own := own) (a := a) h hrow hlen hmode (by rw [ho]; rfl)
  rw [ho] at k
  exact Completes.of_act he (by simpa using h.1) h.2.1 ⟨k.1.keep hp, k.2⟩

end Sys2Proof.Machine
end

