-- ==== Sys2Proof/Laws/Persist.lean ====
section
/-!
SUPPORT. Persist.lean (laws): all that a fault, a checked read of a persistent word and a commit can change.
-/
namespace Sys2Proof.Machine

/-- `t` is `s` after persistent words were read or written, and faults found or repaired: the persistent store, the events,
the notification of the events, the trace, the faults and what they set of LIMP may differ, nothing else. -/
def Stored (s t : State) : Prop :=
  t = { s with
    ps := t.ps, ev := t.ev
    av := { s.av with
      outst := t.av.outst, found := t.av.found, log := t.av.log, lcnt := t.av.lcnt, fifo := t.av.fifo
      trLost := t.av.trLost, dropped := t.av.dropped, held := t.av.held }
    gl := { s.gl with evts := t.gl.evts }
    lk := { s.lk with notify := t.lk.notify }
    th := { s.th with quietFrom := t.th.quietFrom, limpDue := t.th.limpDue } }

theorem Stored.refl (s : State) : Stored s s := rfl

theorem Stored.trans {s t u : State} (h : Stored s t) (k : Stored t u) : Stored s u := by
  unfold Stored at *
  rw [k, h]

section fields
variable {s t : State} (h : Stored s t)
include h

theorem Stored.pending : t.pending = s.pending := by rw [h]
theorem Stored.uptime : t.uptime = s.uptime := by rw [h]
theorem Stored.pins : t.pins = s.pins := by rw [h]
theorem Stored.tb : t.tb = s.tb := by rw [h]
theorem Stored.fl : t.fl = s.fl := by rw [h]
theorem Stored.ca : t.ca = s.ca := by rw [h]
theorem Stored.sh : t.sh = s.sh := by rw [h]
theorem Stored.em : t.em = s.em := by rw [h]
theorem Stored.ar : t.ar = s.ar := by rw [h]
theorem Stored.ms : t.ms = s.ms := by rw [h]
theorem Stored.bl : t.bl = s.bl := by rw [h]
theorem Stored.cl : t.cl = s.cl := by rw [h]
theorem Stored.boxes : t.lk.boxes = s.lk.boxes := by rw [h]
theorem Stored.regs : t.lk.regs = s.lk.regs := by rw [h]
theorem Stored.mem : t.gl.mem = s.gl.mem := by rw [h]
theorem Stored.mode : t.th.mode = s.th.mode := by rw [h]
theorem Stored.live : t.live = s.live := by rw [h]; rfl

end fields

/-! ## Faults -/

/-- Only the fault log and the trace of the availability unit differ. -/
def Avail.Noted (a b : Avail) : Prop :=
  b = { a with
    log := b.log, lcnt := b.lcnt, fifo := b.fifo, trLost := b.trLost, dropped := b.dropped, held := b.held }

theorem Avail.Noted.trans {a b c : Avail} (h : a.Noted b) (k : b.Noted c) : a.Noted c := by
  unfold Avail.Noted at *
  rw [k, h]

theorem Avail.note_noted (e : LogEntry) (a : Avail) : a.Noted (a.note e) := by
  unfold Avail.note
  simp only []
  split
  · have h := Avail.push_traced true { type := 5, body := beBytes 2 e.id.code ++ beBytes 2 e.id.unit ++
      [BitVec.ofNat 8 e.action, BitVec.ofNat 8 e.result] ++ beBytes 8 e.stamp.toNat } { a with log := a.log ++ [e] }
    unfold Avail.Traced at h
    unfold Avail.Noted
    rw [h]
  · rfl

theorem Avail.notes_noted (f : Found → LogEntry) :
    ∀ (fs : List Found) (a : Avail), a.Noted (fs.foldl (fun a x => a.note (f x)) a)
  | [], _ => rfl
  | x :: fs, a => (Avail.note_noted (f x) a).trans (Avail.notes_noted f fs _)

theorem raises_stored (ns : List Nat) (s : State) : Stored s (raises ns s) := by
  unfold Stored raises
  generalize ns.eraseDups.filter (fun n => !s.ev.hasRaised s.uptime n) = ns
  dsimp only
  split
  · rfl
  · have h := Avail.events_traced (s.ev.raiseAll s.uptime ns) s.nowBytes ns s.av
    have g := Gallery.events_only (s.ev.raiseAll s.uptime ns) s.tb.coarse ns s.gl
    unfold Avail.Traced at h
    simp only []
    rw [h, ← g]

theorem raise_stored (n : Nat) (s : State) : Stored s (raise n s) := raises_stored [n] s

theorem count_stored (n k : Nat) (s : State) : Stored s (count n k s) := rfl

theorem settle_stored (s : State) : Stored s (settle s) := rfl

theorem detects_stored (fs : List Found) (s : State) : Stored s (detects fs s) := by
  unfold detects
  split
  · exact Stored.refl s
  · simp only []
    refine Stored.trans ?_ ((raises_stored _ _).trans (settle_stored _))
    generalize (fs.filter (fun f => f.stays && !s.av.outst.contains f.id)).map Found.id = new
    have h := Avail.notes_noted (fun f => logEntry s f.id f.action (if f.stays then 0 else 2)) fs
      ({ s.av with
        outst := s.av.outst ++ new
        found := s.av.found ++ new.map (fun id => (id, stampOf s.tb.coarse, s.tb.epoch)) }.count 241 fs.length)
    unfold Avail.Noted at h
    unfold Stored
    simp only []
    rw [h]
    rfl

theorem repairId_stored (id : FaultId) (action : Nat) (s : State) : Stored s (repairId id action s) := by
  unfold repairId
  split
  · simp only []
    refine Stored.trans ?_ ((raise_stored _ _).trans (settle_stored _))
    have h := Avail.note_noted (repairEntry s id action) { s.av with
      outst := s.av.outst.filter (fun x => x ≠ id), found := s.av.found.filter (fun x => x.1 ≠ id) }
    unfold Avail.Noted at h
    unfold Stored
    simp only []
    rw [h]
  · exact Stored.refl s

/-! ## Reads and commits -/

/-- The persistent store alone differs. -/
theorem Stored.of_ps (p : PStore) (s : State) : Stored s { s with ps := p } := rfl

theorem findUnreadable_stored (a : Nat) (s : State) : Stored s (findUnreadable a s) := by
  unfold findUnreadable
  simp only []
  split
  · exact Stored.refl s
  · exact (Stored.of_ps _ s).trans ((raise_stored _ _).trans (detects_stored _ _))

theorem checkWord_stored (a : Nat) (r : ReadResult) (s : State) : Stored s (checkWord a r s) := by
  unfold checkWord
  split
  · exact Stored.refl s
  · split
    · exact Stored.refl s
    · exact Stored.of_ps _ s
  · exact findUnreadable_stored a s

theorem clearUpset_stored (a : Nat) (s : State) : Stored s (clearUpset a s) := Stored.of_ps _ s

theorem checkRead_stored (a : Nat) (s : State) : Stored s (checkRead a s) := by
  unfold checkRead
  split
  · exact (clearUpset_stored a s).trans (checkWord_stored a _ _)
  · exact Stored.refl s

theorem checkReads_stored : ∀ (as : List Nat) (s : State), Stored s (checkReads as s)
  | [], s => Stored.refl s
  | a :: as, s => (checkRead_stored a s).trans (checkReads_stored as _)

theorem intoSpare_stored : ∀ (n a : Nat) (v : W32) (s : State), Stored s (intoSpare n a v s).2
  | 0, _, _, s => Stored.refl s
  | n + 1, a, v, s => by
    unfold intoSpare
    simp only []
    split
    · exact Stored.refl s
    · split
      · exact (Stored.of_ps _ s).trans (raises_stored _ _)
      · exact (Stored.of_ps _ s).trans ((raises_stored _ _).trans (intoSpare_stored n a v _))

theorem refuseWrite_stored (a : Nat) (old : W32) (s : State) : Stored s (refuseWrite a old s) := by
  unfold refuseWrite
  simp only []
  refine Stored.trans ?_ (raise_stored _ _)
  split
  · exact Stored.of_ps _ s
  · exact (Stored.of_ps _ s).trans (findUnreadable_stored a _)

theorem committed_stored (a : Nat) (was : Bool) (s : State) : Stored s (committed a was s) := by
  unfold committed
  refine Stored.trans ?_ (count_stored _ _ _)
  split
  · exact repairId_stored _ _ s
  · exact Stored.refl s

theorem writeWord_stored (a : Nat) (v : W32) (s : State) : Stored s (writeWord a v s).2 := by
  unfold writeWord
  simp only []
  refine (clearUpset_stored a s).trans ?_
  generalize clearUpset a s = s
  split
  · exact (Stored.of_ps _ s).trans (committed_stored a _ _)
  · split
    · exact (Stored.of_ps _ s).trans ((intoSpare_stored 4096 a v _).trans (committed_stored a _ _))
    · exact (Stored.of_ps _ s).trans ((intoSpare_stored 4096 a v _).trans (refuseWrite_stored a _ _))

/-- A commit, be it done or refused. -/
theorem commit_stored (a : Nat) (v : W32) (s : State) : Stored s (commit a v s).2 := by
  unfold commit
  simp only []
  refine (checkRead_stored a s).trans ?_
  split
  · exact committed_stored a false _
  · exact writeWord_stored a v _

theorem commits_stored : ∀ (ws : List (Nat × W32)) (s : State), Stored s (commits ws s).2.2
  | [], s => Stored.refl s
  | (a, v) :: ws, s => by
    have h := commit_stored a v s
    unfold commits
    split
    · rename_i t ht
      rw [ht] at h
      exact h.trans (commits_stored ws t)
    · rename_i t ht
      rw [ht] at h
      exact h

theorem commitOwn_stored (a : Nat) (v : W32) (s : State) : Stored s (commitOwn a v s) := commit_stored a v s

theorem commitChanged_stored (a : Nat) (f : W32 → W32) (s : State) : Stored s (commitChanged a f s).2 :=
  (checkRead_stored a s).trans (commit_stored a _ _)

/-- A word that holds no error is read without a trace. -/
theorem checkReads_clean {as : List Nat} {s : State} (h : ∀ x ∈ s.ps.upset, x.1 ∉ as) : checkReads as s = s := by
  induction as with
  | nil => rfl
  | cons a as ih =>
    have k : checkRead a s = s := by
      unfold checkRead
      rw [List.find?_eq_none.mpr (fun x hx e => h x hx (by simp [beq_iff_eq.mp e]))]
    show checkReads as (checkRead a s) = s
    rw [k]
    exact ih fun x hx m => h x hx (List.mem_cons_of_mem _ m)

end Sys2Proof.Machine
end

