-- ==== Sys2Proof/Laws/Raises.lean ====
section
/-!
SUPPORT. Raises.lean: what raising events does to the sources (R377 to R381), and to the fault bookkeeping (R408, R409).
-/
namespace Sys2Proof.Machine

/-- A raise latches its source. -/
theorem Events.raise_latched (e : Events) (n : Nat) : ((e.raise n).get n).latched = true := by
  unfold Events.raise Events.get Tab.upd Tab.put
  simp only []
  split
  · rename_i h
    exact absurd (congrArg Source.latched h) (by simp [Source.raised, freshSource])
  · rw [Tab.get_insert_same]
    rfl

/-- A raise leaves every other source alone. -/
theorem Events.raise_other (e : Events) {m n : Nat} (h : m ≠ n) : (e.raise n).get m = e.get m := Tab.get_upd_other _ _ h

/-- A raise advances its source's occurrence counter. -/
theorem Events.raise_get (e : Events) (n : Nat) : (e.raise n).get n = (e.get n).raised := Tab.get_upd_same _ _ _ _

/-- A raise clears no latch. -/
theorem Events.raise_keeps (e : Events) (m n : Nat) (h : (e.get m).latched = true) : ((e.raise n).get m).latched = true := by
  by_cases k : m = n
  · subst k
    exact e.raise_latched m
  · rw [e.raise_other k, h]

theorem Events.raises_keeps (m : Nat) : ∀ (ns : List Nat) (e : Events), (e.get m).latched = true →
    ((ns.foldl Events.raise e).get m).latched = true
  | [], _, h => h
  | n :: ns, e, h => Events.raises_keeps m ns _ (e.raise_keeps m n h)

theorem Events.raises_latched {m : Nat} : ∀ {ns : List Nat} (e : Events), m ∈ ns →
    ((ns.foldl Events.raise e).get m).latched = true
  | n :: ns, e, h => by
    rcases List.mem_cons.mp h with h | h
    · subst h
      exact Events.raises_keeps m ns _ (e.raise_latched m)
    · exact Events.raises_latched (e.raise n) h

theorem Events.raiseAll_get (e : Events) (now : Nat) (ns : List Nat) (n : Nat) :
    (e.raiseAll now ns).get n = (ns.foldl Events.raise e).get n := rfl

theorem Events.raises_other {m : Nat} : ∀ {ns : List Nat} (e : Events), m ∉ ns → (ns.foldl Events.raise e).get m = e.get m
  | [], _, _ => rfl
  | n :: ns, e, h => by
    rw [List.mem_cons, not_or] at h
    rw [List.foldl_cons, Events.raises_other _ h.2, e.raise_other h.1]

/-- The sources of `ns` that a raise in the present TBCLK cycle counts (R378). -/
def State.newly (s : State) (ns : List Nat) : List Nat := ns.eraseDups.filter (fun n => !s.ev.hasRaised s.uptime n)

/-- What a raise does to each source: those that count are raised. -/
theorem raises_get (ns : List Nat) (s : State) (n : Nat) :
    (raises ns s).ev.get n = ((s.newly ns).foldl Events.raise s.ev).get n := by
  unfold raises State.newly
  generalize ns.eraseDups.filter (fun n => !s.ev.hasRaised s.uptime n) = ns
  dsimp only
  split
  · rename_i h
    rw [List.isEmpty_iff] at h
    rw [h]
    rfl
  · rfl

/-- Every source named is latched after the raise. -/
theorem raises_latched {n : Nat} {ns : List Nat} (s : State) (h : n ∈ ns) : ((raises ns s).ev.get n).latched = true := by
  rw [raises_get]
  by_cases k : s.ev.hasRaised s.uptime n = true
  · refine Events.raises_keeps n _ s.ev ?_
    unfold Events.hasRaised at k
    exact (Bool.and_eq_true_iff.mp k).1
  · exact Events.raises_latched s.ev (List.mem_filter.mpr ⟨List.mem_eraseDups.mpr h, by simpa using k⟩)

/-- Sources that were latched stay so. -/
theorem raises_keeps {n : Nat} (ns : List Nat) {s : State} (h : (s.ev.get n).latched = true) :
    ((raises ns s).ev.get n).latched = true := by
  rw [raises_get]
  exact Events.raises_keeps n _ s.ev h

/-- Sources that are not named are left alone. -/
theorem raises_other {n : Nat} {ns : List Nat} (s : State) (h : n ∉ ns) : (raises ns s).ev.get n = s.ev.get n := by
  rw [raises_get]
  exact Events.raises_other s.ev (fun k => h (List.mem_eraseDups.mp (List.mem_filter.mp k).1))

theorem raiseIf_keeps {n : Nat} (b : Bool) (m : Nat) {s : State} (h : (s.ev.get n).latched = true) :
    ((raiseIf b m s).ev.get n).latched = true := by
  unfold raiseIf
  split
  · exact raises_keeps _ h
  · exact h

/-! ## Faults -/

theorem settle_ev (s : State) : (settle s).ev = s.ev := rfl

theorem Avail.push_outst (u : Bool) (r : TraceRec) (a : Avail) : (a.push u r).outst = a.outst := by
  have h := Avail.push_traced u r a
  unfold Avail.Traced at h
  rw [h]

theorem Avail.note_outst (a : Avail) (e : LogEntry) : (a.note e).outst = a.outst := by
  unfold Avail.note
  simp only []
  split
  · rw [Avail.push_outst]
  · rfl

theorem Avail.events_outst (e : Events) (now : List Byte) (ns : List Nat) (a : Avail) :
    (ns.foldl (Avail.event e now) a).outst = a.outst := by
  have h := Avail.events_traced e now ns a
  unfold Avail.Traced at h
  rw [h]

theorem raises_outst (ns : List Nat) (s : State) : (raises ns s).av.outst = s.av.outst := by
  have h := raises_said ns s
  unfold Said at h
  rw [h]

/-- A fault that stays is outstanding after its detection; one that does not adds none (R409). -/
theorem detect_outst (code unit action : Nat) (stays : Bool) (s : State) :
    (detect code unit action stays s).av.outst =
      s.av.outst ++ (if stays && !s.outstanding code unit then [⟨code, unit, 0⟩] else []) := by
  unfold detect detects State.outstanding
  simp only [List.isEmpty_cons, Bool.false_eq_true, if_false, settle, raises_outst, List.foldl_cons, List.foldl_nil,
    Avail.note_outst, Avail.count]
  cases stays <;> simp [Found.id]
  split <;> simp_all [Found.id]

/-- Detection raises event 192 (R409). -/
theorem detect_latched (code unit action : Nat) (stays : Bool) (s : State) :
    ((detect code unit action stays s).ev.get 192).latched = true := by
  unfold detect detects
  simp only [List.isEmpty_cons, Bool.false_eq_true, if_false, settle_ev]
  exact raises_latched _ (by simp)

/-- Detection raises the events of R431. -/
theorem detect_flight_latched {code unit : Nat} (action : Nat) (stays : Bool) (s : State) {n : Nat}
    (h : n ∈ flightEvent code unit) : ((detect code unit action stays s).ev.get n).latched = true := by
  unfold detect detects
  simp only [List.isEmpty_cons, Bool.false_eq_true, if_false, settle_ev]
  exact raises_latched _ (by simp [h])

/-- A repair raises event 193 and ends the fault (R409, R422). -/
theorem repair_latched {code unit : Nat} (action : Nat) {s : State} (h : s.outstanding code unit = true) :
    ((repair code unit action s).ev.get 193).latched = true := by
  unfold repair repairId
  unfold State.outstanding at h
  simp only [h, if_true, settle_ev]
  exact raises_latched _ (by simp)

theorem repair_keeps {code unit : Nat} (action : Nat) {s : State} {n : Nat} (h : (s.ev.get n).latched = true) :
    ((repair code unit action s).ev.get n).latched = true := by
  unfold repair repairId
  split
  · simp only [settle_ev]
    exact raises_keeps _ h
  · exact h

theorem repair_outst (code unit action : Nat) (s : State) :
    (repair code unit action s).av.outst = s.av.outst.filter (fun x => x ≠ ⟨code, unit, 0⟩) := by
  unfold repair repairId
  split
  · simp only [settle, raise, raises_outst, Avail.note_outst]
  · rename_i h
    symm
    rw [List.filter_eq_self]
    intro x hx
    simp only [ne_eq, decide_not, Bool.not_eq_eq_eq_not, Bool.not_true, decide_eq_false_iff_not]
    rintro rfl
    exact h (List.contains_iff_mem.mpr hx)

end Sys2Proof.Machine
end

