-- ==== Sys2Proof/Tests/Slice0.lean ====
section
/-!
SUPPORT. Slice0.lean: small tests. Expected values come from the worked examples and tables of the spec, named at each
test; each test is one step, or one operation, on a small state.
-/
set_option Elab.async false

namespace Sys2Proof.Tests

open Sys2Proof.Machine

/-- The state after a command, for tests. -/
def after (i : Instr) (s : State) : State :=
  match exec i s with
  | .next t => t
  | _ => State.reset

/-- A command stops with a fault. -/
def stops (i : Instr) (s : State) : Bool :=
  match exec i s with
  | .fault _ => true
  | _ => false

/-! ## WellFormed: an ill-formed command for each check -/

theorem test_ill_formed_powerUp : (Instr.powerUp true ⟨[592], []⟩ []).wellFormed = false := by decide
theorem test_ill_formed_selfTest_unit : (Instr.modeSetComplete ⟨[], [33]⟩).wellFormed = false := by decide
theorem test_ill_formed_replica : (Instr.replicaCompare [(33, 0)]).wellFormed = false := by decide
theorem test_ill_formed_edge : (Instr.edgeArrival 526 0 true 0 0).wellFormed = false := by decide
theorem test_ill_formed_code : (Instr.edgeArrival 0 0 true 0 168).wellFormed = false := by decide
theorem test_ill_formed_converter : (Instr.conversionDone 0 8).wellFormed = false := by decide
theorem test_ill_formed_core : (Instr.armedHandover 592).wellFormed = false := by decide
theorem test_ill_formed_fill : (Instr.calFillEnd ⟨[(592, 0)]⟩).wellFormed = false := by decide
theorem test_ill_formed_tag : (Instr.voidDecision 8192).wellFormed = false := by decide
theorem test_ill_formed_flight : (Instr.flrst 33).wellFormed = false := by decide
theorem test_ill_formed_lane : (Instr.laneLate 32).wellFormed = false := by decide
theorem test_ill_formed_receiver : (Instr.bufferSwap 512).wellFormed = false := by decide
theorem test_ill_formed_tracker : (Instr.trackerMiss 0 2).wellFormed = false := by decide
theorem test_ill_formed_slot : (Instr.gateResult 32).wellFormed = false := by decide
theorem test_ill_formed_sync : (Instr.syncPulse 4).wellFormed = false := by decide
theorem test_ill_formed_line : (Instr.diagDue 272).wellFormed = false := by decide
theorem test_ill_formed_driver : (Instr.fbPathCheck 8).wellFormed = false := by decide
theorem test_ill_formed_memory : (Instr.memoryCheck 8 true).wellFormed = false := by decide
theorem test_ill_formed_port : (Instr.portUp 2).wellFormed = false := by decide
theorem test_ill_formed_path : (Instr.frameTransmit 3).wellFormed = false := by decide
theorem test_ill_formed_mailbox : (Instr.ping 32).wellFormed = false := by decide
theorem test_ill_formed_cut : (Instr.lockstepMismatch (some 32) 0 0).wellFormed = false := by decide
theorem test_ill_formed_sensor : (Instr.sensorConversion 16 .none).wellFormed = false := by decide
theorem test_ill_formed_unit : (Instr.heardExpiry 8).wellFormed = false := by decide
theorem test_ill_formed_stops : stops (.ping 32) State.reset = true := by decide

/-! ## Stamps and calibration (worked conversion of chapter 3) -/

theorem test_stamp : stampValue 305419899 45800 118020 = 0x48D159E200 := by decide
theorem test_table_row :
    formRows 4194304 [(114, 25280)] 1 114 2918560 = [(114, (45800, 99))] := by decide
theorem test_board_interval : stampDiff (0x48D159E200 - 143) (0x48D159E200 - 122880 - 61) = 122798 := by decide
theorem test_bin : binOf 1 122798 = 479 := by decide

/-! ## The worked burst of chapter 2: the ninth edge within 44.0 ns is missed, one 0.4 ns later is merged -/

/-- Channel 137 after eight stamped edges, 0.625 ns apart (640 LSB). -/
def burst : Chan :=
  { freshChan 137 with lastSel := some (100000 + 4480), stamps := [4480, 3840, 3200, 2560, 1920, 1280, 640, 0].map (· + 100000) }

theorem test_burst_missed : burst.fate (100000 + 5120) = .missed := by decide
theorem test_burst_merged : { burst with lastSel := some (100000 + 5120) }.fate (100000 + 5529) = .merged := by decide
theorem test_burst_stamped : { burst with lastSel := some (100000 + 5529) }.fate (100000 + 45056) = .stamped := by decide

/-! ## Shots (worked example of chapter 4) -/

theorem test_dither : [0x5A, 0xB4, 0x69, 0xD2, 0xA4].map ditherNext = [0xB4, 0x69, 0xD2, 0xA4, 0x48] := by decide
theorem test_dither_offset : [0x5A, 0xB4, 0x69, 0xD2, 0xA4, 0x48].map (fun q => ditherOffset q 1) =
    [-38, 52, -23, 82, 36, -56].map (16 * ·) := by decide
theorem test_step_word : stepOf 0x1401F801A9012007 =
    { line := 40, nshot := 63, period := 13600, dscale := 1, serve := 2, pwr := 0, pre := 7 } := by decide
theorem test_shot_ids : [2097150, 2097151, 2097152, 2097153].map shotId = [2097150, 2097151, 0, 1] := by decide
theorem test_shot_later : idLater 0 2097151 = true := by decide

/-! ## Extraction (worked extraction of chapter 7) -/

/-- The bins around the echo. -/
def pedestrian : Tab Nat :=
  [(345, 1), (346, 1), (347, 1), (348, 3), (349, 4), (350, 5), (351, 4), (352, 4), (353, 3), (354, 3), (356, 1)]

/-- A lane job over them, with the reset parameters. -/
def walker : Lane :=
  { did := 0, bins := pedestrian, cnt := noCounts, span := none, veto := false, xcfg := 0x14030033, xsun := 0x100,
    xrain := 0x480, passEnd := true, phase1 := false, aHist := 0, peaks := [], overFlag := false }

/-- The peak of phase 1. -/
def peak347 : Peak := { b := 347, sPrev := 25, s := 27, sNext := 26, width := 9, edge := false }

theorem test_peak : peakAt (fun b => boxSum pedestrian b 8) 4088 347 = peak347 := by decide
theorem test_only_peak : isPeak (fun b => boxSum pedestrian b 8) 4088 3 347 = true := by decide
theorem test_threshold : walker.thr 5 = 14 := by decide
theorem test_tof : peak347.tof 8 1 = 22475 := by decide
theorem test_conf : walker.conf 5 32 32 peak347 = 216 := by decide
theorem test_drizzle : walker.dry 5 32 { peak347 with b := 40, s := 17 } = false := by decide
theorem test_rain_zone : (walker.inRain 1 { peak347 with b := 40 }, walker.inRain 1 peak347) = (true, false) := by decide

/-! ## Measurements (worked examples of chapter 8) -/

/-- The two anchors of the oscillator on CT0. -/
def anchor0 : Anchor := { a := 512000012800, n := 1000000, raw := 512000012800, skews := 0 }
def anchor1 : Anchor := { a := 513024011981, n := 1012500, raw := 513024011981, skews := 0 }

theorem test_freq : freqOf anchor0 anchor1 = 819200655201 := by decide
theorem test_period : periodOf anchor0 anchor1 = 5242876 := by decide

/-! ## Colonnade (worked example of chapter 9) -/

/-- What unit 2 holds of the master's part of round 5, in 2^-10 ns. -/
def round5 : Round :=
  { newRound 5 true with
    rs := [(0, 103426072768), (2, 103437870080)], selfs := [(0, BitVec.ofNat 32 102402048000)], reports := [(0, 11845312)] }

theorem test_round_delay : (unitUpdate round5 2 State.reset.cl 0).dly = [(0, 24000)] := by decide
theorem test_round_offset : (unitUpdate round5 2 State.reset.cl 0).ofs = [(0, BitVec.ofInt 32 (-1024000768))] := by decide

/-! ## Frames (worked example of chapter 12, CRC of chapter 11) -/

set_option maxRecDepth 4000 in
theorem test_crc32 : crc32 [0x31, 0x32, 0x33, 0x34, 0x35, 0x36, 0x37, 0x38, 0x39] = 0xCBF43926 := by decide

/-- The completion of the worked example: SCHED_LOAD of MB03, SEQ 0x0108. -/
def loaded : Frame :=
  { kind := 3, op := 0x0501, seq := 0x108, mb := 3, deg := false, rep := false, compl := true, udp := 3, dst := none,
    own := true, counted := true, payload := [0, 0, 0, 0, 0xFF, 0xFF, 0, 0] }

set_option maxRecDepth 4000 in
theorem test_frame_head : (loaded.bytes 0).take 20 =
    [0xC5, 0xA1, 1, 3, 1, 8, 3, 0x10, 5, 1, 0, 8, 0, 0, 0, 0, 0xFF, 0xFF, 0, 0] := by decide

/-! ## Events (worked example of chapter 13) -/

theorem test_clear_late : ({ occ := 0, latched := true, raises := 2 : Source }.clear 0xFFFE).1 = 1 := by decide
theorem test_clear_seen : { occ := 1, latched := true, raises := 0 : Source }.clear 1 =
    (0, { occ := 1, latched := false, raises := 0 }) := by decide

/-! ## Modes (worked example of chapter 14) -/

/-- The throttle at step 1 with sensor 3 leading. -/
def hot (step : Nat) (r : Int) : State :=
  { State.reset with
    uptime := 250000000
    th := { State.reset.th with step := step, stepAt := some 0, evaluated := true, csens := 3
                                sens := [(3, { freshSens 3 with reading := r })] } }

theorem test_throttle_up : (after .throttleEvaluation (hot 1 798)).th.step = 2 := by decide
theorem test_throttle_holds : (after .throttleEvaluation (hot 3 810)).th.step = 3 := by decide
theorem test_throttle_down : (after .throttleEvaluation (hot 3 791)).th.step = 2 := by decide

/-! ## One step -/

theorem test_idle_tick : (idle State.reset).tb.coarse = 1 := by decide +kernel
theorem test_front_first : (match step { State.reset with pending := [.holdLimit, .spiStatus] } with
    | .next t => t.pending
    | _ => []) = [.spiStatus] := by decide

/-! ## Witnesses: for every statement, values that meet the hypotheses of each of its clauses together -/

/-- A part whose start-up has ended: in SURVEY, with its flights tested. -/
def ready : State :=
  { State.reset with fl := { State.reset.fl with tested := true }, th := { State.reset.th with startup := false } }

/-- What a step makes of a state. -/
def stepped (s : State) : State :=
  match step s with
  | .next t => t
  | _ => State.reset

/-- Nobody in particular: the sender of a command in a test. -/
def peer0 : Peer := { path := 0, ip := 0, mac := 0, port := 0 }
def tk0 : Ticket := { mb := 4, seq := 1, op := 0x0401, src := peer0 }

/-- Mailbox 3 holds a command that the Lodge takes next. -/
def asks (op : Nat) (p : List Byte) (s : State) : State :=
  updBox 3 (fun b => { b with state := .executing, l := 1, op := op, payload := p, order := 1 }) s

/-- The same, received over SPI. -/
def asksSpi (op : Nat) (p : List Byte) (s : State) : State :=
  updBox 3 (fun b => { b with
    state := .executing, l := 1, op := op, payload := p, order := 1, src := { peer0 with path := spiPath } }) s

/-- A dwell of DID 0 on line 0 that serves every flight. -/
def dwell0 : Dwell :=
  { did := 0, step := 0, line := 0, pline := 0, drv := 0, serve := 0xFFFFFFFF, pEff := 0, m := 64, t0 := 0,
    selected := false, diag := false, nplan := 64, reached := 0, firing := false, barred := false, nfired := 0, nvoid := 0,
    inc := false, amb := false, short := false, group := none, epoch := 0, tEnd := none, joined := false, tokens := [],
    swapped := [], extracted := [], satSeen := false, dead := [], late := [], records := [], placed := false, byMap := [] }

/-- The first position of dwell 0, and its ledger entry once fired. -/
def pos0 : Position :=
  { did := 0, bank := 0, frame := 0, step := 0, sidx := 0, tplan := 2000, q := 1, thin := false, full := false,
    last := false, frameLast := false }
def entry0 : Entry :=
  { num := 0, did := 0, step := 0, sidx := 0, line := 0, pline := 0, drv := 0, pwr := 0, q := 1, tplan := 0, fire := 0,
    state := 2, void := false, syn := false, inc := false, amb := false, group := 0, fb := none, shown := false, opens := [] }

/-- A scheduler about to allocate the first position of step 0. -/
def sched0 : Sched :=
  { bank := 0, frame := 0, step := 0, sidx := 0, t := 40000, did := none, endStop := false, known := [(0, 0, 40000)] }

/-- A snapshot slot with one bin. -/
def slot0 : Slot :=
  { chan := 5, present := true, bins := [(0, 7)], cnt := noCounts, did := some 0, step := 0, line := 0, pline := 0,
    nplan := 64, nfired := 64, nvoid := 0, inc := false, amb := false, void := false, short := false, group := 0 }

/-- A capture frame, and the headers of a packet to port 1. -/
def frame0 : Frame :=
  { kind := 3, op := 0x0902, seq := 0, mb := 0, deg := false, rep := false, compl := false, udp := 0, dst := none,
    own := false, counted := false, payload := [1, 2, 3, 4] }
def rxIp : RxIp :=
  { hdrOk := true, ihl := 5, fragmented := false, src := 0xC0A84701, dst := 0xC0A8470A, proto := .udp, udpSumOk := true,
    srcPort := 9, dstPort := 0xCB48 }

/-- PING for mailbox 0 as a frame, and the same with a wrong CRC. -/
def pingFrame : List Byte :=
  let b : List Byte := [0xC5, 0xA1, 1, 1, 0, 9, 0, 0, 0, 2, 0, 0]
  b ++ wBytes (crc32 b)
def badCrc (b : List Byte) : List Byte := b.map (fun x => x + 0) |>.dropLast |>.append [b.getLastD 0 + 1]

/-- The head frame of the SPI queue. -/
def spiOf (s : State) : Nat × Frame × State := s.spiHead.getD (0, frame0, s)

/-- What REG_WR makes of a state. -/
def wrote (p : List Byte) (s : State) : State :=
  match writeTriples p (pByte p 0) 0 s with
  | .ok u => u
  | .error _ => s

theorem wrote_ok {p : List Byte} {s : State}
    (h : (match writeTriples p (pByte p 0) 0 s with | .ok _ => true | .error _ => false) = true) :
    writeTriples p (pByte p 0) 0 s = .ok (wrote p s) := by
  unfold wrote
  cases hw : writeTriples p (pByte p 0) 0 s with
  | ok u => rfl
  | error e => simp [hw] at h

/-- An outcome told by its parts. -/
theorem ok_of {ε α : Type} [DecidableEq α] {x : Except ε α} {a : α}
    (h : (match x with | .ok b => decide (b = a) | .error _ => false) = true) : x = .ok a := by
  cases x with
  | ok b => exact congrArg _ (of_decide_eq_true h)
  | error e => exact absurd h (by simp)
theorem error_of {ε α : Type} [DecidableEq ε] {x : Except ε α} {a : ε}
    (h : (match x with | .ok _ => false | .error b => decide (b = a)) = true) : x = .error a := by
  cases x with
  | ok b => exact absurd h (by simp)
  | error e => exact congrArg _ (of_decide_eq_true h)

theorem witness_EmptyQueueStepIsOneCycle :
    (∃ (s : State), s.pending = [] ∧ s.live = true ∧ s.fl.tested = true ∧ s.lk.clearing = none ∧ s.th.limpLater = false
      ∧ s.tb.coarse.toNat + 1 < 2 ^ 54 ∧ (∀ c ∈ s.fl.chans, c.2.fullAfter s.cycle = false)) ∧
    (∃ (s : State) (i : Nat), s.pending = [] ∧ s.live = true ∧ s.fl.tested = true ∧ s.lk.clearing = none ∧
      s.th.limpLater = false ∧ s.tb.coarse.toNat + 1 < 2 ^ 54 ∧ s.flightsRun = true ∧ (s.uptime + 1 + s.tb.align) % 2 =
      0 ∧ (s.chan i).fullAfter s.cycle = true) ∧
    (∃ (s : State), s.pending = [] ∧ s.live = false) := 
  ⟨⟨ready, by decide +kernel⟩,
   ⟨(updChan 523 (fun x =>
      { x with queue := List.replicate 16 { word := .stamp 9 false true 0 0, push := 1, ready := 2, gap := false, ecnt := 0, skews := 0, era := 0 } })
      { ready with uptime := 1 }), 523, by decide +kernel⟩,
   ⟨{ ready with pins := { ready.pins with rstN := false } }, by decide +kernel⟩⟩

theorem witness_QueueDrainsOnePerStep :
    ∃ (s : State), s.queueOk = true := 
  ⟨{ ready with pending := [.spiStatus] }, by decide +kernel⟩

theorem witness_GalleryMemoryStaysCanonical :
    ∃ (s : State) (t : State), s.gl.mem.wf = true ∧ step s = .next t := 
  ⟨ready, stepped ready, by decide, rfl⟩

theorem witness_OnlyGalleryCommandsStore :
    ∃ (i : Instr) (s : State) (t : State),
      (match i with | .galleryRecordWrite | .captureDone | .triggerDelivery | .markSet _ | .disarm _ | .modeSet _ | .modeSetComplete _ | .powerUp _ _ _ | .pwrgoodFall _ | .rstNAssert _ => False | _ => True)
      ∧ exec i s = .next t := 
  ⟨.spiStatus, ready, after .spiStatus ready, trivial, rfl⟩

theorem witness_OnlyModeCommandsChangeMode :
    ∃ (i : Instr) (s : State) (t : State),
      (match i with | .modeSet _ | .modeSetComplete _ | .limpEntry | .limpReturn | .powerUp _ _ _ | .pwrgoodFall _ | .rstNAssert _ => False | _ => True)
      ∧ exec i s = .next t := 
  ⟨.spiStatus, ready, after .spiStatus ready, trivial, rfl⟩

theorem witness_OnlyEpochCommandsChangeEpoch :
    ∃ (i : Instr) (s : State) (t : State),
      (match i with | .coarseWrap | .epochSet _ | .epochSetApply | .powerUp _ _ _ | .pwrgoodFall _ | .rstNAssert _ => False | _ => True)
      ∧ exec i s = .next t := 
  ⟨.spiStatus, ready, after .spiStatus ready, trivial, rfl⟩

theorem witness_OnlyShotPositionsCountShots :
    ∃ (i : Instr) (s : State) (t : State),
      (match i with | .shotPosition | .powerUp _ _ _ | .pwrgoodFall _ | .rstNAssert _ => False | _ => True) ∧ exec i s =
      .next t := 
  ⟨.spiStatus, ready, after .spiStatus ready, trivial, rfl⟩

theorem witness_HeldInResetNothingHappens :
    ∃ (i : Instr) (s : State), s.live = false ∧ i.wellFormed = true ∧
      (match i with | .powerUp _ _ _ | .pwrgoodFall _ | .rstNAssert _ | .jtagIdcode _ | .jtagSample _ _ | .jtagBypass _ _ => False | _ => True) := 
  ⟨.spiStatus, { ready with pins := { ready.pins with rstN := false } }, by decide, by decide, trivial⟩

theorem witness_RefinLossFromLocked :
    (∃ (s : State), s.live = true ∧ s.tb.state = .locked) ∧
    (∃ (s : State), s.live = true ∧ s.tb.state = .locked) ∧
    (∃ (s : State), s.live = true ∧ s.tb.state = .locked ∧ 1 ≤ s.tb.badGates) ∧
    (∃ (s : State), s.live = true ∧ s.tb.state = .locked ∧ s.tb.badGates = 0) := 
  ⟨⟨{ ready with tb := { ready.tb with state := .locked } }, by decide +kernel⟩,
   ⟨{ ready with tb := { ready.tb with state := .locked } }, by decide +kernel⟩,
   ⟨{ ready with tb := { ready.tb with badGates := 1, state := .locked } }, by decide +kernel⟩,
   ⟨{ ready with tb := { ready.tb with state := .locked } }, by decide +kernel⟩⟩

theorem witness_NoLossWhileNotQualified :
    (∃ (s : State), s.live = true ∧ (s.tb.state = .freerun ∨ s.tb.state = .holdover)) ∧
    (∃ (s : State), s.live = true ∧ (s.tb.state = .freerun ∨ s.tb.state = .holdover)) ∧
    (∃ (s : State), s.live = true ∧ (s.tb.state = .acquire ∨ s.tb.state = .locked)) ∧
    (∃ (s : State), s.live = true ∧ (s.tb.state = .acquire ∨ s.tb.state = .locked) ∧ 1 ≤ s.tb.badGates) := 
  ⟨⟨ready, by decide +kernel⟩,
   ⟨ready, by decide +kernel⟩,
   ⟨{ ready with tb := { ready.tb with state := .acquire } }, by decide +kernel⟩,
   ⟨{ ready with tb := { ready.tb with badGates := 1, state := .locked } }, by decide +kernel⟩⟩

theorem witness_ReferenceStatesAdvance :
    (∃ (s : State), s.live = true ∧ bit s.tb.cfg 4 = true ∧ s.tb.refPres = true ∧ s.tb.refFok = true ∧ (s.tb.state =
      .freerun ∨ s.tb.state = .holdover)) ∧
    (∃ (s : State), s.live = true ∧ s.tb.state = .acquire) ∧
    (∃ (s : State), s.live = true ∧ s.tb.state = .freerun ∧ bit s.tb.cfg 4 = true ∧ s.tb.span = none) ∧
    (∃ (s : State), s.live = true ∧ s.tb.coarse.toNat + 1 < 2 ^ 54) := 
  ⟨⟨{ ready with tb := { ready.tb with state := .holdover, refPres := true, refFok := true } }, by decide +kernel⟩,
   ⟨{ ready with tb := { ready.tb with state := .acquire } }, by decide +kernel⟩,
   ⟨ready, by decide +kernel⟩,
   ⟨{ ready with tb := { ready.tb with coarse := BitVec.ofNat 54 (2 ^ 54 - 2) } }, by decide +kernel⟩⟩

theorem witness_HoldoverIntegration :
    (∃ (s : State), s.live = true ∧ s.tb.xsensOk = true) ∧
    (∃ (s : State), s.live = true ∧ s.tb.span ≠ none ∧ s.tb.limpRef = false ∧ fld s.tb.hold 8 8 ≠ 0 ∧ fld s.tb.hold 8 8
      * 2000000 < s.tb.terr) ∧
    (∃ (s : State) (d : Int), s.live = true ∧ s.tb.state = .locked ∧ s.tb.learnSince < 35 ∧ s.tb.gates ≠ 0 ∧
      s.tb.residual = (s.tb.learn.toInt + 8 * d) * 2 ^ 25 * s.tb.gates) ∧
    (∃ (s : State), s.live = true ∧ s.tb.state = .locked) := 
  ⟨⟨{ ready with tb := { ready.tb with state := .holdover, span := some 0 } }, by decide +kernel⟩,
   ⟨{ ready with tb := { ready.tb with span := some 0, terr := 20000001 } }, by decide +kernel⟩,
   ⟨{ ready with tb := { ready.tb with learnSince := 34, gates := 1, residual := (ready.tb.learn.toInt + 8 * (-3)) * 2 ^ 25, state := .locked } },
      -3, by decide +kernel⟩,
   ⟨{ ready with tb := { ready.tb with state := .locked } }, by decide +kernel⟩⟩

theorem witness_WrapAdvancesEpoch :
    (∃ (s : State), s.live = true ∧ s.tb.coarse.toNat = 2 ^ 54 - 1 ∧ s.tb.due = none) ∧
    (∃ (s : State), s.live = true ∧ s.tb.coarse.toNat = 2 ^ 54 - 1 ∧ s.tb.due ≠ none ∧ (∀ c ∈ s.fl.chans, c.2.fullAfter
      s.cycle = false)) := 
  ⟨⟨{ ready with tb := { ready.tb with coarse := BitVec.ofNat 54 (2 ^ 54 - 1), epoch := 0xFFFF } }, by decide +kernel⟩,
   ⟨{ ready with tb := { ready.tb with coarse := BitVec.ofNat 54 (2 ^ 54 - 1), due := some (0, 0) } }, by decide +kernel⟩⟩

theorem witness_ReplicaReload :
    (∃ (s : State), s.live = true ∧ s.tb.replicaOff = []) ∧
    (∃ (s : State) (f : Nat) (d : Coarse), s.live = true ∧ s.tb.replicaOff = [] ∧ s.av.replicaAt = [] ∧ f < 33 ∧ d ≠ 0 ∧
      s.outstanding 0x0103 f = false) := 
  ⟨⟨ready, by decide +kernel⟩,
   ⟨ready, 32, 1, by decide +kernel⟩⟩

theorem witness_PpsEdgesAndTheNowLatch :
    (∃ (s : State) (p : Coarse), s.live = true ∧ bit s.tb.cfg 7 = true ∧ s.tb.pend = none ∧ s.slotsRun = false ∧
      s.tb.ppsPrev = some p) ∧
    (∃ (s : State), s.live = true) ∧
    (∃ (s : State), s.live = true ∧ bit s.tb.cfg 7 = true) ∧
    (∃ (s : State), s.live = true) := 
  ⟨⟨{ ready with tb := { ready.tb with cfg := 0x91, ppsPrev := some 5, coarse := 1000010005 } }, 5, by decide +kernel⟩,
   ⟨ready, by decide +kernel⟩,
   ⟨{ ready with tb := { ready.tb with cfg := 0x91 } }, by decide +kernel⟩,
   ⟨{ ready with tb := { ready.tb with coarse := 12345678901 } }, by decide +kernel⟩⟩

theorem witness_SettingTheTime :
    (∃ (s : State) (m : Nat) (p : List Byte), Takes s m 0x0302 p ∧ deepMode s = true ∧ p.length = 12 ∧ (pNat p 0 1 = 1 ∨
      pNat p 0 1 = 2) ∧ pNat p 4 8 < 2 ^ 54 ∧ s.tb.pend = none) ∧
    (∃ (s : State) (m : Nat) (p : List Byte), Takes s m 0x0302 p ∧ deepMode s = true ∧ p.length = 12 ∧ pNat p 0 1 = 0 ∧
      pNat p 4 8 < 2 ^ 54 ∧ s.tb.pend = none) ∧
    (∃ (s : State) (e : EpochPend) (u : Nat) (dly : Int), s.live = true ∧ s.tb.pend = some e ∧ s.tb.due = some (u, dly)) ∧
    (∃ (s : State), s.live = true ∧ s.tb.pend ≠ none ∧ s.tb.due = none) ∧
    (∃ (s : State) (e : EpochPend), s.live = true ∧ s.tb.pend = some e ∧ s.tb.due = none ∧ s.av.halt = false ∧
      s.av.restart = false ∧ (s.box e.tk.mb).l = e.tk.seq ∧ (s.box e.tk.mb).op = e.tk.op) ∧
    (∃ (s : State) (c : Coarse) (e : EpochPend), s.live = true ∧ s.cl.markSent = some c ∧ s.tb.coarse = c + 3000 ∧
      s.tb.pend = some e ∧ e.apply = 2) := 
  ⟨⟨(asks 0x0302 [1, 0, 0, 7, 0, 63, 255, 255, 255, 255, 255, 255] ready), 3, [1, 0, 0, 7, 0, 63, 255, 255, 255, 255, 255,
      255], by unfold Takes; decide +kernel⟩,
   ⟨(asks 0x0302 [0, 0, 0, 7, 0, 63, 255, 255, 255, 255, 255, 255] ready), 3, [0, 0, 0, 7, 0, 63, 255, 255, 255, 255, 255,
      255], by unfold Takes; decide +kernel⟩,
   ⟨{ ready with uptime := 10, tb := { ready.tb with pend := some ⟨2, 7, 100, tk0⟩, due := some (3, 5) } }, ⟨2, 7, 100,
      tk0⟩, 3, 5, by decide +kernel⟩,
   ⟨{ ready with tb := { ready.tb with pend := some ⟨2, 7, 100, tk0⟩ } }, by decide +kernel⟩,
   ⟨(updBox 4 (fun x => { x with state := .executing, l := 1, op := 0x0401 })
      { ready with tb := { ready.tb with pend := some ⟨2, 7, 100, tk0⟩ } }), ⟨2, 7, 100, tk0⟩, by decide +kernel⟩,
   ⟨{ ready with cl := { ready.cl with markSent := some 8 }, tb := { ready.tb with coarse := 8 + 3000, pend := some ⟨2, 7, 100, tk0⟩ } },
      8, ⟨2, 7, 100, tk0⟩, by decide +kernel⟩⟩

theorem witness_TbCfgAnswers :
    (∃ (s : State) (m : Nat) (p : List Byte), Takes s m 0x0301 p ∧ p.length = 12 ∧ (pNat p 0 1).testBit 0 = true ∧
      deepMode s = false ∧ (s.tb.cfg ^^^ (pWord p 4 &&& 0xF193)) &&& 0xF013 ≠ 0) ∧
    (∃ (s : State) (m : Nat) (p : List Byte), Takes s m 0x0301 p ∧ p.length = 12 ∧ (pNat p 0 1).testBit 0 = true ∧
      deepMode s = true ∧ fld (pWord p 4) 0 2 = 3) ∧
    (∃ (s : State) (m : Nat) (p : List Byte), Takes s m 0x0301 p ∧ p.length = 12 ∧ pNat p 0 1 = 2 ∧ fld (pWord p 8) 24 8
      = 0) ∧
    (∃ (s : State) (m : Nat) (p : List Byte), Takes s m 0x0301 p ∧ p.length = 12 ∧ pNat p 0 1 = 2 ∧ fld (pWord p 8) 24 8
      ≠ 0) ∧
    (∃ (s : State) (m : Nat) (p : List Byte), Takes s m 0x0301 p ∧ p.length = 12 ∧ (pNat p 0 1).testBit 0 = true ∧ fld
      (pWord p 4) 0 2 ≠ 3 ∧ ((pNat p 0 1).testBit 1 = true → fld (pWord p 8) 24 8 ≠ 0) ∧ (deepMode s = true ∨ (s.tb.cfg
      ^^^ (pWord p 4 &&& 0xF193)) &&& 0xF013 = 0)) := 
  ⟨⟨(asks 0x0301 [1, 0, 0, 0, 0, 0, 0, 16, 0, 0, 0, 0] { ready with th := { ready.th with mode := .sweep } }), 3, [1, 0, 0,
      0, 0, 0, 0, 16, 0, 0, 0, 0], by unfold Takes; decide +kernel⟩,
   ⟨(asks 0x0301 [1, 0, 0, 0, 0, 0, 0, 19, 0, 0, 0, 0] ready), 3, [1, 0, 0, 0, 0, 0, 0, 19, 0, 0, 0, 0],
      by unfold Takes; decide +kernel⟩,
   ⟨(asks 0x0301 [2, 0, 0, 0, 0, 0, 0, 0, 0, 20, 10, 60] ready), 3, [2, 0, 0, 0, 0, 0, 0, 0, 0, 20, 10, 60],
      by unfold Takes; decide +kernel⟩,
   ⟨(asks 0x0301 [2, 0, 0, 0, 0, 0, 0, 0, 1, 20, 10, 60] { ready with th := { ready.th with mode := .sweep } }), 3, [2, 0,
      0, 0, 0, 0, 0, 0, 1, 20, 10, 60], by unfold Takes; decide +kernel⟩,
   ⟨(asks 0x0301 [1, 0, 0, 0, 0, 0, 1, 18, 0, 0, 0, 0] ready), 3, [1, 0, 0, 0, 0, 0, 1, 18, 0, 0, 0, 0],
      by unfold Takes; decide +kernel⟩⟩

theorem witness_EdgeFates :
    (∃ (s : State) (m : Nat) (i : Nat) (rising : Bool) (code : Nat), s.live = true ∧ s.inputChan m = some i ∧ code < 168
      ∧ s.flightsRun = true ∧ (s.chan i).en = true ∧ (s.chan i).selects rising = true) ∧
    (∃ (s : State) (m : Nat) (code : Nat), s.live = true ∧ m < 526 ∧ code < 168 ∧ (s.inputChan m).all (fun i => !(s.chan
      i).en) = true) ∧
    (∃ (c : Chan) (u : Nat), c.lastSel = some u) ∧
    (∃ (c : Chan) (n : Nat) (u : Nat), c.lastSel = some u ∧ u + 640 ≤ n) ∧
    (∃ (c : Chan), c.lastSel = none) := 
  ⟨⟨ready, 525, 523, true, 167, by decide +kernel⟩,
   ⟨(updChan 523 (fun x => { x with cfg := 0 }) ready), 523, 167, by decide +kernel⟩,
   ⟨{ freshChan 0 with lastSel := some 9, stamps := [9] }, 9, by decide +kernel⟩,
   ⟨{ freshChan 0 with lastSel := some 9, stamps := [9] }, 700, 9, by decide +kernel⟩,
   ⟨freshChan 0, by decide +kernel⟩⟩

theorem witness_ConvertersTurn :
    (∃ (s : State) (x : Nat) (v : Nat) (code : Nat), s.live = true ∧ s.flightsRun = true ∧ x < 592 ∧ v < 8 ∧ (s.core
      x).calCode v = some code ∧ code < 167) ∧
    (∃ (s : State) (x : Nat) (v : Nat), s.live = true ∧ x < 592 ∧ s.flightsRun = true ∧ (s.servedBy x).isSome = true ∧
      (s.core x).armed = some v ∧ (s.core x).busy = []) ∧
    (∃ (s : State) (x : Nat) (code : Nat), s.live = true ∧ x < 592 ∧ code < 168 ∧ s.flightsRun = true ∧ (s.core x).state
      ≠ 3 ∧ (s.core x).failA = false ∧ (s.core x).armed ≠ some ((s.core x).calNext % 8) ∧ (s.core x).busy = []) := 
  ⟨⟨(updCore 591 (fun x => { x with busy := [(7, .cal 166)] }) ready), 591, 7, 166, by decide +kernel⟩,
   ⟨ready, 0, 0, by decide +kernel⟩,
   ⟨ready, 591, 167, by decide +kernel⟩⟩

theorem witness_StampsEnterTheQueue :
    (∃ (s : State) (i : Nat) (r : Flying) (rs : List Flying), s.live = true ∧ i < 524 ∧ s.flightsRun = true ∧ (s.chan
      i).latch = none ∧ (s.chan i).results = r :: rs ∧ r.done = true ∧ ((s.chan i).noteOf s.cycle).pushed = false ∧
      (s.chan i).depthAt s.cycle < 16) ∧
    (∃ (s : State) (i : Nat) (r : Flying) (rs : List Flying), s.live = true ∧ i < 524 ∧ s.flightsRun = true ∧ (s.chan
      i).results = r :: rs ∧ r.done = true ∧ ((s.chan i).noteOf s.cycle).pushed = false ∧ 16 ≤ (s.chan i).depthAt
      s.cycle) ∧
    (∃ (s : State) (i : Nat) (w : QWord), s.live = true ∧ i < 524 ∧ s.flightsRun = true ∧ (s.chan i).latch = some w ∧
      (s.chan i).portOpen s.cycle = true) ∧
    (∃ (s : State) (i : Nat), s.live = true ∧ i < 524 ∧ s.flightsRun = false) := 
  ⟨⟨(updChan 523 (fun x =>
      { x with results := [{ core := 0, conv := 1, t := 9, rising := true, cn := 4, code := 5, done := true, gap := false, ecnt := 1, era := 0 }], queue := List.replicate 14 { word := .stamp 9 false true 0 0, push := 1, ready := 2, gap := false, ecnt := 0, skews := 0, era := 0 } })
      ready), 523,
      { core := 0, conv := 1, t := 9, rising := true, cn := 4, code := 5, done := true, gap := false, ecnt := 1, era := 0 },
      [], by decide +kernel⟩,
   ⟨(updChan 523 (fun x =>
      { x with results := [{ core := 0, conv := 1, t := 9, rising := true, cn := 4, code := 5, done := true, gap := false, ecnt := 1, era := 0 }], cfg := 0x81, queue := List.replicate 16 { word := .stamp 9 false true 0 0, push := 1, ready := 2, gap := false, ecnt := 0, skews := 0, era := 0 } })
      ready), 523,
      { core := 0, conv := 1, t := 9, rising := true, cn := 4, code := 5, done := true, gap := false, ecnt := 1, era := 0 },
      [], by decide +kernel⟩,
   ⟨(updChan 523 (fun x =>
      { x with latch := some (.stamp 9 false true 0 0), queue := List.replicate 14 { word := .stamp 9 false true 0 0, push := 1, ready := 2, gap := false, ecnt := 0, skews := 0, era := 0 } })
      ready), 523, .stamp 9 false true 0 0, by decide +kernel⟩,
   ⟨{ ready with th := { ready.th with mode := .dormant } }, 523, by decide +kernel⟩⟩

theorem witness_QueuesDrainAndCoresSwitch :
    (∃ (s : State) (i : Nat) (e : QEntry) (q : List QEntry), s.live = true ∧ i < 524 ∧ s.flightsRun = true ∧ (s.chan
      i).queue = e :: q ∧ e.ready ≤ s.cycle ∧ (s.chan i).hold = false) ∧
    (∃ (s : State) (i : Nat), s.live = true ∧ i < 524 ∧ (s.chan i).hold = true) ∧
    (∃ (s : State) (i : Nat) (b : Subst), s.live = true ∧ i < 524 ∧ (s.chan i).subst = some b ∧ b.fault = none ∧
      s.aheadBy b.tsw ≤ 0) ∧
    (∃ (s : State) (i : Nat) (b : Subst), s.live = true ∧ i < 524 ∧ (s.chan i).subst = some b ∧ (b.fault.isSome = true ∨
      s.coreFaulty (s.coreOf i) = true) ∧ s.aheadBy b.tsw ≤ 0) ∧
    (∃ (s : State) (i : Nat) (b : Subst), s.live = true ∧ i < 524 ∧ (s.chan i).subst = some b ∧ 0 < s.aheadBy b.tsw) ∧
    (∃ (s : State) (i : Nat), s.live = true ∧ i < 524) := 
  ⟨⟨(updChan 523 (fun x =>
      { x with queue := [{ word := .stamp 9 false true 0 0, push := 1, ready := 2, gap := false, ecnt := 0, skews := 0, era := 0 }] })
      { ready with uptime := 4 }), 523,
      { word := .stamp 9 false true 0 0, push := 1, ready := 2, gap := false, ecnt := 0, skews := 0, era := 0 }, [],
      by decide +kernel⟩,
   ⟨(updChan 523 (fun x => { x with cfg := 0x81 }) ready), 523, by decide +kernel⟩,
   ⟨(updChan 3 (fun x => { x with subst := some ⟨16, 5, none⟩ }) { ready with tb := { ready.tb with coarse := 6 } }), 3,
      ⟨16, 5, none⟩, by decide +kernel⟩,
   ⟨(updChan 3 (fun x => { x with subst := some ⟨16, 5, some 9⟩ }) { ready with tb := { ready.tb with coarse := 6 } }), 3,
      ⟨16, 5, some 9⟩, by decide +kernel⟩,
   ⟨(updChan 3 (fun x => { x with subst := some ⟨16, 5, none⟩ }) ready), 3, ⟨16, 5, none⟩, by decide +kernel⟩,
   ⟨ready, 523, by decide +kernel⟩⟩

theorem witness_CalibrationCommands :
    (∃ (s : State) (trims : List (Nat × Byte)), s.live = true ∧ s.flightsRun = true ∧ trims.all (fun k => decide (k.1 <
      4736)) = true) ∧
    (∃ (s : State) (trims : List (Nat × Byte)), s.live = true ∧ s.flightsRun = false ∧ trims.all (fun k => decide (k.1 <
      4736)) = true) ∧
    (∃ (s : State) (f : Nat), s.live = true ∧ f < 33 ∧ s.ca.freeze = false ∧ s.flightsRun = true) ∧
    (∃ (s : State) (f : Nat), s.live = true ∧ f < 33 ∧ (s.ca.freeze = true ∨ s.flightsRun = false)) ∧
    (∃ (s : State) (m : Nat), Takes s m 0x0401 [] ∧ s.th.mode = .survey ∧ s.th.startup = false ∧ s.ca.fill = false) ∧
    (∃ (s : State) (skews : List (Nat × BitVec 24)), s.live = true ∧ s.ca.fill = true ∧ s.ca.calTk = none ∧ s.ca.convs =
      [] ∧ s.unfit = [] ∧ skews.all (fun k => decide (k.1 < 592)) = true) ∧
    (∃ (s : State) (v : W32), s.live = true ∧ fld v 3 10 ≤ 591) ∧
    (∃ (s : State) (v : W32), s.live = true ∧ 591 < fld v 3 10) := 
  ⟨⟨ready, [(4735, 3)], by decide +kernel⟩,
   ⟨{ ready with th := { ready.th with mode := .dormant } }, [(4735, 3)], by decide +kernel⟩,
   ⟨ready, 32, by decide +kernel⟩,
   ⟨{ ready with ca := { ready.ca with freeze := true } }, 32, by decide +kernel⟩,
   ⟨(asks 0x0401 [] ready), 3, by unfold Takes; decide +kernel⟩,
   ⟨{ ready with ca := { ready.ca with fill := true } }, [(591, 5)], by decide +kernel⟩,
   ⟨ready, w32 (591 * 8), by decide +kernel⟩,
   ⟨ready, w32 (592 * 8), by decide +kernel⟩⟩

theorem witness_SkewSetCommits :
    (∃ (s : State) (m : Nat) (p : List Byte), Takes s m 0x0402 p ∧ restMode s = true ∧ p.length = 6 ∧ pNat p 2 1 = 1 ∧
      pNat p 0 2 < 524 ∧ s.ps.spares = [] ∧ (s.ps.cell (0x01001000 + 4 * pNat p 0 2)).unreadable = false ∧ (s.ps.cell
      (0x01001000 + 4 * pNat p 0 2)).stuck = 0 ∧ (s.ps.cell (0x01001000 + 4 * pNat p 0 2)).wear < 100000000 ∧ (∀ x ∈
      s.ps.upset, x.1 ≠ 0x01001000 + 4 * pNat p 0 2)) ∧
    (∃ (s : State) (m : Nat) (p : List Byte), Takes s m 0x0402 p ∧ restMode s = true ∧ p.length = 4 + 2 * pNat p 2 1 ∧
      (pNat p 2 1 = 0 ∨ 32 < pNat p 2 1 ∨ 524 < pNat p 0 2 + pNat p 2 1)) := 
  ⟨⟨(asks 0x0402 [2, 11, 1, 0, 1, 44] ready), 3, [2, 11, 1, 0, 1, 44], by unfold Takes; decide +kernel⟩,
   ⟨(asks 0x0402 [2, 11, 2, 0, 0, 0, 0, 0] ready), 3, [2, 11, 2, 0, 0, 0, 0, 0], by unfold Takes; decide +kernel⟩⟩

theorem witness_ScheduleBanks :
    (∃ (s : State) (m : Nat) (p : List Byte), Takes s m 0x0501 p ∧ 8 ≤ p.length ∧ p.length = 8 + 8 * pNat p 2 2 ∧ (pByte
      p 4).testBit 0 = false ∧ s.th.mode ≠ .dormant ∧ pNat p 2 2 ≠ 0 ∧ pNat p 0 2 + pNat p 2 2 ≤ 4096 ∧ s.sh.admission =
      none ∧ s.sh.run.all (fun r => r.bank = s.sh.active) = true) ∧
    (∃ (s : State) (m : Nat) (p : List Byte) (r : Sched) (n : Nat) (b : Nat) (u : Nominal), Takes s m 0x0501 p ∧ 8 ≤
      p.length ∧ p.length = 8 + 8 * pNat p 2 2 ∧ (pByte p 4).testBit 0 = false ∧ s.th.mode ≠ .dormant ∧ pNat p 2 2 ≠ 0 ∧
      pNat p 0 2 + pNat p 2 2 ≤ 4096 ∧ s.sh.admission = none ∧ s.sh.run = some r ∧ r.bank ≠ s.sh.active ∧
      (r.known.filter (fun f => f.2.1 ≠ s.sh.active)).getLast? = some (n, b, u)) ∧
    (∃ (s : State) (m : Nat) (p : List Byte), Takes s m 0x0501 p ∧ 8 ≤ p.length ∧ p.length = 8 + 8 * pNat p 2 2 ∧ (pByte
      p 4).testBit 0 = true ∧ s.th.mode ≠ .dormant ∧ pNat p 0 2 + pNat p 2 2 ≤ 4096 ∧ s.sh.admission = none ∧
      s.sh.run.all (fun r => r.bank = s.sh.active) = true) ∧
    (∃ (s : State) (m : Nat) (p : List Byte) (r : Sched) (n : Nat) (b : Nat) (u : Nominal), Takes s m 0x0501 p ∧ 8 ≤
      p.length ∧ p.length = 8 + 8 * pNat p 2 2 ∧ (pByte p 4).testBit 0 = true ∧ s.th.mode ≠ .dormant ∧ pNat p 0 2 + pNat
      p 2 2 ≤ 4096 ∧ s.sh.admission = none ∧ s.sh.run = some r ∧ r.bank ≠ s.sh.active ∧ (r.known.filter (fun f => f.2.1
      ≠ s.sh.active)).getLast? = some (n, b, u)) ∧
    (∃ (s : State) (m : Nat) (p : List Byte), Takes s m 0x0501 p ∧ 8 ≤ p.length ∧ p.length = 8 + 8 * pNat p 2 2 ∧ (pByte
      p 4).testBit 0 = false ∧ s.th.mode ≠ .dormant ∧ pNat p 2 2 ≠ 0 ∧ pNat p 0 2 + pNat p 2 2 ≤ 4096 ∧ s.sh.admission ≠
      none) ∧
    (∃ (s : State) (m : Nat) (p : List Byte), Takes s m 0x0501 p ∧ 8 ≤ p.length ∧ p.length = 8 + 8 * pNat p 2 2 ∧ (pByte
      p 4).testBit 0 = true ∧ s.th.mode ≠ .dormant ∧ pNat p 0 2 + pNat p 2 2 ≤ 4096 ∧ s.sh.admission ≠ none) ∧
    (∃ (s : State) (len : Nat) (tk : Ticket), s.live = true ∧ s.sh.admission = some (len, tk) ∧
      ({ s with sh := { s.sh with admission := none } } : State).verdict len ≠ none) ∧
    (∃ (s : State) (len : Nat) (tk : Ticket), s.live = true ∧ s.sh.admission = some (len, tk) ∧ s.sh.run = none ∧
      ({ s with sh := { s.sh with admission := none } } : State).verdict len = none) := 
  ⟨⟨(asks 0x0501 [15, 255, 0, 1, 0, 0, 0, 0, 20, 1, 248, 1, 169, 1, 32, 7] ready), 3, [15, 255, 0, 1, 0, 0, 0, 0, 20, 1,
      248, 1, 169, 1, 32, 7], by unfold Takes; decide +kernel⟩,
   ⟨(asks 0x0501 [15, 255, 0, 1, 0, 0, 0, 0, 20, 1, 248, 1, 169, 1, 32, 7]
      { ready with sh := { ready.sh with run := some { sched0 with bank := 1, known := [(4, 1, 40000), (3, 0, 39000)] } } }),
      3, [15, 255, 0, 1, 0, 0, 0, 0, 20, 1, 248, 1, 169, 1, 32, 7],
      { sched0 with bank := 1, known := [(4, 1, 40000), (3, 0, 39000)] }, 4, 1, 40000, by unfold Takes; decide +kernel⟩,
   ⟨(asks 0x0501 [15, 255, 0, 1, 1, 0, 0, 0, 20, 1, 248, 1, 169, 1, 32, 7] ready), 3, [15, 255, 0, 1, 1, 0, 0, 0, 20, 1,
      248, 1, 169, 1, 32, 7], by unfold Takes; decide +kernel⟩,
   ⟨(asks 0x0501 [15, 255, 0, 1, 1, 0, 0, 0, 20, 1, 248, 1, 169, 1, 32, 7]
      { ready with sh := { ready.sh with run := some { sched0 with bank := 1, known := [(4, 1, 40000), (3, 0, 39000)] } } }),
      3, [15, 255, 0, 1, 1, 0, 0, 0, 20, 1, 248, 1, 169, 1, 32, 7],
      { sched0 with bank := 1, known := [(4, 1, 40000), (3, 0, 39000)] }, 4, 1, 40000, by unfold Takes; decide +kernel⟩,
   ⟨(asks 0x0501 [15, 255, 0, 1, 0, 0, 0, 0, 20, 1, 248, 1, 169, 1, 32, 7]
      { ready with sh := { ready.sh with admission := some (3, tk0) } }), 3, [15, 255, 0, 1, 0, 0, 0, 0, 20, 1, 248, 1,
      169, 1, 32, 7], by unfold Takes; decide +kernel⟩,
   ⟨(asks 0x0501 [16, 0, 0, 0, 1, 0, 0, 0] { ready with sh := { ready.sh with admission := some (3, tk0) } }), 3, [16, 0,
      0, 0, 1, 0, 0, 0], by unfold Takes; decide +kernel⟩,
   ⟨{ ready with sh := { ready.sh with admission := some (1, tk0) } }, 1, tk0, by decide +kernel⟩,
   ⟨(updDriver 1 (fun x => { x with present := true })
      { ready with sh := { ready.sh with admission := some (1, tk0), serve := [(2, 1)], bankB := [(0, 0x1401F801A9012007)] } }),
      1, tk0, by decide +kernel⟩⟩

theorem witness_ScheduleStartsAndStops :
    (∃ (s : State) (m : Nat) (p : List Byte), Takes s m 0x0502 p ∧ s.ranges = true ∧ p.length = 12 ∧ pByte p 0 = 0 ∧
      s.schedBusy = false ∧ s.sh.valid = true ∧ s.leaving = false) ∧
    (∃ (s : State) (m : Nat) (p : List Byte), Takes s m 0x0502 p ∧ s.ranges = true ∧ p.length = 12 ∧ pByte p 0 = 0 ∧
      s.schedBusy = false ∧ s.sh.valid = false) ∧
    (∃ (s : State) (r : Sched), s.live = true ∧ s.sh.run = some r ∧ r.did = none ∧ r.endStop = false) ∧
    (∃ (s : State) (r : Sched) (k : Nat) (d : Dwell), s.live = true ∧ s.sh.run = some r ∧ r.did = some k ∧ s.dwell k =
      some d) ∧
    (∃ (s : State) (m : Nat) (p : List Byte), Takes s m 0x0503 p ∧ p.length = 4 ∧ (pByte p 0).testBit 0 = false ∧
      s.sh.trigStart = none ∧ s.sh.run ≠ none ∧ s.sh.swPend = false) := 
  ⟨⟨(asks 0x0502 [0, 0, 0, 0, 0, 0, 0, 0, 0, 0, 0, 0]
      { ready with sh := { ready.sh with valid := true }, th := { ready.th with mode := .sweep } }), 3, [0, 0, 0, 0, 0,
      0, 0, 0, 0, 0, 0, 0], by unfold Takes; decide +kernel⟩,
   ⟨(asks 0x0502 [0, 0, 0, 0, 0, 0, 0, 0, 0, 0, 0, 0] { ready with th := { ready.th with mode := .sweep } }), 3, [0, 0, 0,
      0, 0, 0, 0, 0, 0, 0, 0, 0], by unfold Takes; decide +kernel⟩,
   ⟨{ ready with sh := { ready.sh with run := some sched0, valid := true, lenA := 1, bankA := [(0, 0x1401F801A9012007)] } },
      sched0, by decide +kernel⟩,
   ⟨{ ready with sh := { ready.sh with run := some { sched0 with did := some 4 }, valid := true, lenA := 1, bankA := [(0, 0x1401F801A9012007)], dwells := [{ dwell0 with did := 4 }] } },
      { sched0 with did := some 4 }, 4, { dwell0 with did := 4 }, by decide +kernel⟩,
   ⟨(asks 0x0503 [0, 0, 0, 0] { ready with sh := { ready.sh with run := some sched0 } }), 3, [0, 0, 0, 0],
      by unfold Takes; decide +kernel⟩⟩

theorem witness_ShotsFireAndClose :
    (∃ (s : State) (q : Position) (ps : List Position) (d : Dwell), s.live = true ∧ s.sh.armed = q :: ps ∧ q.sidx ≠ 0 ∧
      q.frameLast = false ∧ q.thin = false ∧ q.full = false ∧ s.dwell q.did = some d ∧ d.did = q.did ∧ s.blocked d =
      false ∧ (s.driver d.drv).eyeLim = 0xFFFFFFFF ∧ s.synthetic d.drv = false) ∧
    (∃ (s : State) (q : Position) (ps : List Position) (d : Dwell), s.live = true ∧ s.sh.armed = q :: ps ∧ q.sidx ≠ 0 ∧
      q.frameLast = false ∧ q.thin = true ∧ s.dwell q.did = some d) ∧
    (∃ (s : State) (tag : Nat) (e : Entry), s.live = true ∧ tag < 8192 ∧ s.entry tag = some e ∧ e.syn = false ∧ e.state
      = 1) ∧
    (∃ (s : State) (tag : Nat) (e : Entry) (d : Dwell) (i : Nat), s.live = true ∧ tag < 8192 ∧ s.entry tag = some e ∧
      e.state = 2 ∧ e.shown = false ∧ s.dwell e.did = some d ∧ s.served d = [i] ∧ (s.chan i).en = true ∧ (s.chan
      i).latch = none ∧ (s.chan i).portOpen s.cycle = true ∧ ((s.chan i).noteOf s.cycle).latched = false) ∧
    (∃ (s : State) (d : Dwell), s.live = true ∧ s.sh.dwells.find? (fun d => !d.selected) = some d) := 
  ⟨⟨(updDriver 0 (fun x => { x with eyeLim := 0xFFFFFFFF })
      { ready with sh := { ready.sh with armed := [{ pos0 with sidx := 1 }], dwells := [dwell0] } }),
      { pos0 with sidx := 1 }, [], dwell0, by decide +kernel⟩,
   ⟨{ ready with sh := { ready.sh with armed := [{ pos0 with sidx := 1, thin := true }], dwells := [dwell0] } },
      { pos0 with sidx := 1, thin := true }, [], dwell0, by decide +kernel⟩,
   ⟨{ ready with sh := { ready.sh with ledger := [(8191, { entry0 with state := 1 })], dwells := [dwell0] } }, 8191,
      { entry0 with state := 1 }, by decide +kernel⟩,
   ⟨(updChan 0 (fun x =>
      { x with queue := List.replicate 14 { word := .stamp 9 false true 0 0, push := 1, ready := 2, gap := false, ecnt := 0, skews := 0, era := 0 } })
      ((updChan 15 (fun x => { x with cfg := 0 }) ((updChan 14 (fun x => { x with cfg := 0 }) ((updChan 13 (fun x =>
      { x with cfg := 0 }) ((updChan 12 (fun x => { x with cfg := 0 }) ((updChan 11 (fun x => { x with cfg := 0 })
      ((updChan 10 (fun x => { x with cfg := 0 }) ((updChan 9 (fun x => { x with cfg := 0 }) ((updChan 8 (fun x =>
      { x with cfg := 0 }) ((updChan 7 (fun x => { x with cfg := 0 }) ((updChan 6 (fun x => { x with cfg := 0 })
      ((updChan 5 (fun x => { x with cfg := 0 }) ((updChan 4 (fun x => { x with cfg := 0 }) ((updChan 3 (fun x =>
      { x with cfg := 0 }) ((updChan 2 (fun x => { x with cfg := 0 }) ((updChan 1 (fun x => { x with cfg := 0 })
      { ready with sh := { ready.sh with ledger := [(8191, entry0)], dwells := [{ dwell0 with serve := 1 }] } }))))))))))))))))))))))))))))))),
      8191, entry0, { dwell0 with serve := 1 }, 0, by decide +kernel⟩,
   ⟨{ ready with sh := { ready.sh with dwells := [dwell0] } }, dwell0, by decide +kernel⟩⟩

theorem witness_DwellsEndAndJoin :
    (∃ (s : State) (i : Nat) (st : Stamp) (n : Nat) (e : Entry), s.live = true ∧ s.arcadeRuns = true ∧ i < 512 ∧
      (s.achan i).waits = [.stamp st] ∧ s.judgeable st = true ∧ s.sh.ledger.filter (fun x => s.candidate i st x.2) =
      [(n, e)] ∧ (s.achan i).incs.length < 32) ∧
    (∃ (s : State) (i : Nat) (d : Dwell), s.live = true ∧ i < 512 ∧ s.sh.dwells.find? (fun d => (s.served d).contains i
      && d.reached ≠ 0 && !d.tokens.contains i) = some d ∧ s.endsOn i d = true ∧ (s.achan i).incs.length < 32) ∧
    (∃ (s : State) (d : Dwell), s.live = true ∧ s.sh.dwells.find? s.joinable = some d) ∧
    (∃ (s : State), s.live = true) ∧
    (∃ (s : State) (v : W32) (e : Entry), s.live = true ∧ s.entry (fld v 0 13) = some e) := 
  ⟨⟨(updAChan 511 (fun x => { x with waits := [.stamp 5] })
      { ready with sh := { ready.sh with ledger := [(7, { entry0 with opens := [511] })], dwells := [dwell0] } }), 511,
      5, 7, { entry0 with opens := [511] }, by decide +kernel⟩,
   ⟨{ ready with tb := { ready.tb with coarse := 1000 }, sh := { ready.sh with dwells := [{ dwell0 with reached := 1, tEnd := some 0 }] } },
      511, { dwell0 with reached := 1, tEnd := some 0 }, by decide +kernel⟩,
   ⟨{ ready with sh := { ready.sh with dwells := [{ dwell0 with reached := 1, serve := 0 }] } },
      { dwell0 with reached := 1, serve := 0 }, by decide +kernel⟩,
   ⟨ready, by decide +kernel⟩,
   ⟨{ ready with sh := { ready.sh with ledger := [(8191, entry0)] } }, 0xFFFFFFFF, entry0, by decide +kernel⟩⟩

theorem witness_EmitterLinkExchanges :
    (∃ (s : State), s.live = true ∧ s.tb.coarse.toNat % 1024 ≠ 0) ∧
    (∃ (s : State) (arg : Nat) (n : Nat) (rest : List (Nat × Nat)), s.live = true ∧ s.tb.coarse.toNat % 1024 = 0 ∧
      s.em.exch = none ∧ s.em.bcast = (arg, n) :: rest) ∧
    (∃ (s : State) (d : Nat), s.live = true ∧ s.tb.coarse.toNat % 1024 = 0 ∧ d < 8 ∧ s.em.exch = none ∧ s.em.bcast = []
      ∧ s.present = [d] ∧ (s.driver d).queue = [] ∧ (s.driver d).repeatPoll = none) ∧
    (∃ (s : State) (w : BitVec 40) (e : Exchange), s.live = true ∧ s.em.exch = some e ∧ (s.driver e.drv).fails ≠ 2 ∧
      crc8 32 (w.toNat / 256) ≠ w.toNat % 256) ∧
    (∃ (s : State), s.live = true) ∧
    (∃ (s : State) (w : BitVec 40) (e : Exchange), s.live = true ∧ s.em.exch = some e ∧ e.cmd.op = 0 ∧ crc8 32 (w.toNat
      / 256) = w.toNat % 256 ∧ bits w.toNat 37 3 = e.drv ∧ bits w.toNat 32 4 = 0 ∧ bits w.toNat 28 4 = e.seq ∧
      w.toNat.testBit 36 = false) ∧
    (∃ (s : State) (e : Exchange), s.live = true ∧ s.em.exch = some e ∧ (s.driver e.drv).fails ≠ 2) := 
  ⟨⟨{ ready with tb := { ready.tb with coarse := 1025 } }, by decide +kernel⟩,
   ⟨{ ready with em := { ready.em with bcast := [(5, 2)] } }, 5, 2, [], by decide +kernel⟩,
   ⟨(updDriver 7 (fun x => { x with present := true }) ready), 7, by decide +kernel⟩,
   ⟨(updDriver 7 (fun x => { x with present := true, fails := 1 })
      { ready with em := { ready.em with exch := some { drv := 7, cmd := ⟨1, 0⟩, seq := 0, queued := false } } }), 0,
      { drv := 7, cmd := ⟨1, 0⟩, seq := 0, queued := false }, by decide +kernel⟩,
   ⟨ready, by decide +kernel⟩,
   ⟨(updDriver 7 (fun x => { x with present := true })
      { ready with em := { ready.em with exch := some { drv := 7, cmd := ⟨0, 0⟩, seq := 0, queued := false } } }),
      (BitVec.ofNat 40 ((7 * 2 ^ 29 + 0) * 256 + crc8 32 (7 * 2 ^ 29))),
      { drv := 7, cmd := ⟨0, 0⟩, seq := 0, queued := false }, by decide +kernel⟩,
   ⟨(updDriver 7 (fun x => { x with present := true, fails := 1 })
      { ready with em := { ready.em with exch := some { drv := 7, cmd := ⟨1, 0⟩, seq := 0, queued := false } } }),
      { drv := 7, cmd := ⟨1, 0⟩, seq := 0, queued := false }, by decide +kernel⟩⟩

theorem witness_LinesAndTests :
    (∃ (s : State), s.live = true) ∧
    (∃ (s : State) (x : Nat), s.live = true ∧ x < 272 ∧ (s.logical x).isSome = true ∧ (s.line x).state ≠ 3 ∧ (s.driver
      (driverOf x)).width < 4 ∧ (s.line x).lastQual + 256000000 ≤ s.uptime) ∧
    (∃ (s : State) (x : Nat), s.live = true ∧ x < 272 ∧ 4 ≤ (s.driver (driverOf x)).width) ∧
    (∃ (s : State) (x : Nat), s.live = true ∧ x < 272 ∧ (s.line x).voidRun = s.voidLim ∧ (s.line x).state ≠ 3 ∧
      (s.driver (driverOf x)).present = true) ∧
    (∃ (s : State) (d : Nat), s.live = true ∧ d < 8 ∧ (s.driver d).voids < s.voidLim) ∧
    (∃ (s : State) (d : Nat), s.live = true ∧ d < 8 ∧ s.voidLim ≤ (s.driver d).voids ∧ (s.driver d).fbAsk = false ∧
      s.synthetic d = false ∧ (s.driver d).fbStep = 0 ∧ driverOf (s.driver d).lastVoid = d ∧ (s.driver d).present =
      true) ∧
    (∃ (s : State), s.live = true ∧ s.testsRun = true ∧ s.fl.tested = true ∧ s.em.dis = false ∧ (s.th.startup = false ∨
      s.present.all (fun d => (s.driver d).answered) = true)) ∧
    (∃ (s : State) (d : Nat), s.live = true ∧ d < 8 ∧ (s.driver d).test = []) ∧
    (∃ (s : State) (d : Nat), s.live = true ∧ d < 8 ∧ (s.driver d).test ≠ [] ∧ (s.driver d).flt = false) := 
  ⟨⟨ready, by decide +kernel⟩,
   ⟨{ ready with uptime := 256000000 }, 255, by decide +kernel⟩,
   ⟨(updDriver 7 (fun x => { x with width := 4 }) ready), 239, by decide +kernel⟩,
   ⟨(updDriver 0 (fun x => { x with present := true }) ((updLine 5 (fun x => { x with voidRun := 8 }) ready))), 5,
      by decide +kernel⟩,
   ⟨(updDriver 7 (fun x => { x with voids := 7 }) ready), 7, by decide +kernel⟩,
   ⟨(updDriver 0 (fun x => { x with present := true, voids := 8, lastVoid := 5 }) ready), 0, by decide +kernel⟩,
   ⟨ready, by decide +kernel⟩,
   ⟨ready, 7, by decide +kernel⟩,
   ⟨(updDriver 7 (fun x => { x with test := [(239, 5)] }) ready), 7, by decide +kernel⟩⟩

theorem witness_EmitLimitAndLineMap :
    (∃ (s : State) (m : Nat) (p : List Byte), Takes s m 0x0504 p ∧ p.length = 4 ∧ 36 < pByte p 0 % 64) ∧
    (∃ (s : State) (m : Nat) (p : List Byte), Takes s m 0x0504 p ∧ p.length = 4 ∧ pByte p 0 % 64 ≤ 36 ∧ (pByte p
      1).testBit 0 = true ∧ s.em.dis = false) ∧
    (∃ (s : State) (m : Nat) (p : List Byte), Takes s m 0x0504 p ∧ p.length = 4 ∧ pByte p 0 % 64 ≤ 36 ∧ (pByte p
      1).testBit 0 = false ∧ s.em.dis = false) ∧
    (∃ (s : State) (m : Nat) (p : List Byte), Takes s m 0x0504 p ∧ p.length = 4 ∧ pByte p 0 % 64 ≤ 36 ∧ (pByte p
      1).testBit 0 = false ∧ s.em.dis = true) ∧
    (∃ (s : State) (m : Nat) (p : List Byte) (j : Nat), Takes s m 0x0505 p ∧ restMode s = true ∧ p.length = 4 + 2 *
      pByte p 2 ∧ pByte p 0 = 0 ∧ pByte p 2 ≠ 0 ∧ pByte p 2 ≤ 32 ∧ pByte p 1 + pByte p 2 ≤ 256 ∧ badMapEntry s
      (mapEntries p) = some j) ∧
    (∃ (s : State) (m : Nat) (p : List Byte) (j : Nat), Takes s m 0x0505 p ∧ restMode s = true ∧ p.length = 4 + 2 *
      pByte p 2 ∧ pByte p 0 = 0 ∧ pByte p 2 ≠ 0 ∧ pByte p 2 ≤ 32 ∧ pByte p 1 + pByte p 2 ≤ 256 ∧ badMapEntry s
      (mapEntries p) = none ∧ mapClash (mapEntries p) (((List.range 256).filter (fun k => k < pByte p 1 || pByte p 1 +
      pByte p 2 ≤ k)).map s.pline) 0 = some j) ∧
    (∃ (s : State) (m : Nat) (p : List Byte), Takes s m 0x0505 p ∧ restMode s = true ∧ p.length = 6 ∧ pByte p 0 = 0 ∧
      pByte p 2 = 1 ∧ badMapEntry s (mapEntries p) = none ∧ (∀ k, k < 256 → k ≠ pByte p 1 → s.pline k ≠ pNat p 4 2) ∧
      s.ps.spares = [] ∧ (s.ps.cell (0x01000800 + 4 * pByte p 1)).unreadable = false ∧ (s.ps.cell (0x01000800 + 4 *
      pByte p 1)).stuck = 0 ∧ (s.ps.cell (0x01000800 + 4 * pByte p 1)).wear < 100000000 ∧ (∀ x ∈ s.ps.upset, x.1 ≠
      0x01000800 + 4 * pByte p 1)) ∧
    (∃ (s : State) (m : Nat) (p : List Byte), Takes s m 0x0505 p ∧ deepMode s = true ∧ p.length = 4 ∧ pByte p 0 = 1 ∧
      pNat p 2 2 ≤ 271 ∧ (s.line (pNat p 2 2)).state ≠ 3) ∧
    (∃ (s : State) (m : Nat) (p : List Byte), Takes s m 0x0505 p ∧ deepMode s = true ∧ p.length = 4 ∧ pByte p 0 = 1 ∧
      pNat p 2 2 ≤ 271 ∧ (s.line (pNat p 2 2)).state = 3 ∧ s.ps.spares = [] ∧ (s.ps.cell (failAddr (pNat p 2
      2))).unreadable = false ∧ (s.ps.cell (failAddr (pNat p 2 2))).stuck = 0 ∧ (s.ps.cell (failAddr (pNat p 2 2))).wear
      < 100000000 ∧ (∀ x ∈ s.ps.upset, x.1 ≠ failAddr (pNat p 2 2))) := 
  ⟨⟨(asks 0x0504 [37, 0, 0, 0] ready), 3, [37, 0, 0, 0], by unfold Takes; decide +kernel⟩,
   ⟨(asks 0x0504 [36, 1, 0, 0] ready), 3, [36, 1, 0, 0], by unfold Takes; decide +kernel⟩,
   ⟨(asks 0x0504 [36, 0, 0, 0] ready), 3, [36, 0, 0, 0], by unfold Takes; decide +kernel⟩,
   ⟨(asks 0x0504 [36, 0, 0, 0] { ready with em := { ready.em with dis := true } }), 3, [36, 0, 0, 0],
      by unfold Takes; decide +kernel⟩,
   ⟨(asks 0x0505 [0, 255, 1, 0, 1, 16] ready), 3, [0, 255, 1, 0, 1, 16], 0, by unfold Takes; decide +kernel⟩,
   ⟨(asks 0x0505 [0, 254, 2, 0, 1, 15, 0, 0] (updDriver 0 (fun x => { x with present := true }) ((updDriver 7 (fun x =>
      { x with present := true }) ready)))), 3, [0, 254, 2, 0, 1, 15, 0, 0], 1, by unfold Takes; decide +kernel⟩,
   ⟨(asks 0x0505 [0, 255, 1, 0, 1, 15] (updDriver 7 (fun x => { x with present := true }) ready)), 3, [0, 255, 1, 0, 1,
      15], by unfold Takes; decide +kernel⟩,
   ⟨(asks 0x0505 [1, 0, 1, 15] ready), 3, [1, 0, 1, 15], by unfold Takes; decide +kernel⟩,
   ⟨(asks 0x0505 [1, 0, 1, 15] (updLine 271 (fun x => { x with state := 3 }) ready)), 3, [1, 0, 1, 15],
      by unfold Takes; decide +kernel⟩⟩

theorem witness_IncrementsFillTheBuffers :
    (∃ (s : State) (i : Nat) (x : Nat) (did : Nat) (tag : Nat) (amb : Bool) (r : List Inc), s.live = true ∧ s.arcadeRuns
      = true ∧ i < 512 ∧ (s.achan i).incs = .inc x did tag amb :: r ∧ (s.achan i).current (binOf s.bw x) < 65535) ∧
    (∃ (s : State) (i : Nat) (x : Nat) (did : Nat) (tag : Nat) (amb : Bool) (r : List Inc), s.live = true ∧ s.arcadeRuns
      = true ∧ i < 512 ∧ (s.achan i).incs = .inc x did tag amb :: r ∧ (s.achan i).current (binOf s.bw x) = 65535) ∧
    (∃ (s : State) (i : Nat) (did : Nat) (r : List Inc), s.live = true ∧ s.arcadeRuns = true ∧ i < 512 ∧ (s.achan
      i).incs = .token did :: r ∧ (s.achan i).pass = false) ∧
    (∃ (s : State) (i : Nat), s.live = true ∧ i < 512 ∧ (s.achan i).pass = true) := 
  ⟨⟨(updAChan 511 (fun x => { x with incs := [.inc 1048575 3 5 false], binsX := [(4095, 65534)] }) ready), 511, 1048575, 3,
      5, false, [], by decide +kernel⟩,
   ⟨(updAChan 511 (fun x => { x with incs := [.inc 1048575 3 5 false], binsX := [(4095, 65535)] }) ready), 511, 1048575, 3,
      5, false, [], by decide +kernel⟩,
   ⟨(updAChan 511 (fun x => { x with incs := [.token 0] }) { ready with sh := { ready.sh with dwells := [dwell0] } }), 511,
      0, [], by decide +kernel⟩,
   ⟨(updAChan 511 (fun x => { x with pass := true }) ready), 511, by decide +kernel⟩⟩

theorem witness_HistogramCommands :
    (∃ (s : State) (m : Nat) (p : List Byte), Takes s m 0x0601 p ∧ p.length = 4 ∧ restMode s = true ∧ 2 ≤ pByte p 1 % 16
      ∧ pByte p 1 % 16 ≤ 8 ∧ s.ar.snapArm = none ∧ s.passesLeft = false ∧ rejudge s
      { s.adm with w := windowOf (w32 (put (pByte p 0) 16 2 + pByte p 1 % 16)) } false = none) ∧
    (∃ (s : State) (m : Nat) (p : List Byte), Takes s m 0x0603 p ∧ pByte p 0 = 0 ∧ s.ranges = true ∧ 1 ≤ pByte p 2 ∧
      pByte p 2 ≤ 16 ∧ p.length = 4 + 2 * pByte p 2 ∧ (∀ c ∈ armChans p, c ≤ 511) ∧ s.ar.snapArm = none) ∧
    (∃ (s : State) (m : Nat) (p : List Byte) (x : Slot), Takes s m 0x0603 p ∧ pByte p 0 = 1 ∧ p.length = 8 ∧
      s.ar.snapArm = none ∧ s.ar.snapOk = true ∧ s.ar.slots[pByte p 1]? = some x ∧ 1 ≤ pNat p 4 2 ∧ pNat p 4 2 ≤ 512 ∧
      pNat p 2 2 + pNat p 4 2 ≤ s.bins) ∧
    (∃ (s : State) (m : Nat) (p : List Byte), Takes s m 0x0603 p ∧ pByte p 0 = 1 ∧ p.length = 8 ∧ s.ar.snapArm = none ∧
      s.ar.snapOk = false) ∧
    (∃ (s : State) (m : Nat) (p : List Byte) (x : Slot), Takes s m 0x0603 p ∧ pByte p 0 = 2 ∧ p.length = 4 ∧
      s.ar.snapArm = none ∧ s.ar.snapOk = true ∧ s.ar.slots[pByte p 1]? = some x) ∧
    (∃ (s : State) (a : SnapArm), s.live = true ∧ s.ar.snapArm = some a ∧ a.did = none) := 
  ⟨⟨(asks 0x0601 [0, 8, 0, 0] ready), 3, [0, 8, 0, 0], by unfold Takes; decide +kernel⟩,
   ⟨(asks 0x0603 [0, 5, 1, 0, 1, 255] { ready with th := { ready.th with mode := .sweep } }), 3, [0, 5, 1, 0, 1, 255],
      by unfold Takes; decide +kernel⟩,
   ⟨(asks 0x0603 [1, 0, 0, 0, 2, 0, 0, 0]
      { ready with ar := { ready.ar with snapOk := true, snapN := 1, slots := [slot0] } }), 3, [1, 0, 0, 0, 2, 0, 0, 0],
      slot0, by unfold Takes; decide +kernel⟩,
   ⟨(asks 0x0603 [1, 0, 0, 0, 2, 0, 0, 0] ready), 3, [1, 0, 0, 0, 2, 0, 0, 0], by unfold Takes; decide +kernel⟩,
   ⟨(asks 0x0603 [2, 0, 0, 0] { ready with ar := { ready.ar with snapOk := true, snapN := 1, slots := [slot0] } }), 3, [2,
      0, 0, 0], slot0, by unfold Takes; decide +kernel⟩,
   ⟨{ ready with ar := { ready.ar with snapArm := some { line := 0, chans := [5], tk := tk0, armedAt := 0, did := none } } },
      { line := 0, chans := [5], tk := tk0, armedAt := 0, did := none }, by decide +kernel⟩⟩

theorem witness_PeaksAndRecords :
    (∃ (s : State) (i : Nat) (l : Lane) (r : List Lane), s.live = true ∧ i < 512 ∧ (s.achan i).lanes = l :: r ∧
      l.passEnd = true ∧ l.phase1 = false) ∧
    (∃ (s : State) (i : Nat) (l : Lane) (r : List Lane) (d : Dwell), s.live = true ∧ i < 512 ∧ (s.achan i).lanes = l ::
      r ∧ l.phase1 = true ∧ s.dwell l.did = some d ∧ d.joined = true) ∧
    (∃ (d : Dwell) (i : Nat), d.nplan ≠ 0 ∧ d.nok ≠ 0 ∧ d.dead.contains (chanFlight i) = false) ∧
    (∃ (n : Nat) (ps : List Peak), 1 ≤ n ∧ ps.Pairwise (fun x y => y.s ≤ x.s)) ∧
    (∃ (s : State) (f : Nat) (i : Nat), s.live = true ∧ f < 32 ∧ i ∈ flightChans f ∧ (s.achan i).lanes ≠ []) := 
  ⟨⟨(updAChan 511 (fun x => { x with lanes := [walker] }) { ready with sh := { ready.sh with dwells := [dwell0] } }), 511,
      walker, [], by decide +kernel⟩,
   ⟨(updAChan 511 (fun x => { x with lanes := [{ walker with phase1 := true }] })
      { ready with sh := { ready.sh with dwells := [{ dwell0 with joined := true }] } }), 511,
      { walker with phase1 := true }, [], { dwell0 with joined := true }, by decide +kernel⟩,
   ⟨{ dwell0 with nfired := 64 }, 511, by decide +kernel⟩,
   ⟨3, [{ peak347 with b := 9 }], by decide +kernel⟩,
   ⟨(updAChan 511 (fun x => { x with lanes := [walker] }) { ready with sh := { ready.sh with dwells := [dwell0] } }), 31,
      511, by decide +kernel⟩⟩

theorem witness_ForeignTrains :
    (∃ (s : State) (f : Nat) (u : Stamp), s.live = true ∧ f < 32 ∧ earliest (s.locker f).outPool = some u) ∧
    (∃ (s : State) (f : Nat) (u : Stamp), s.live = true ∧ f < 32 ∧ earliest (s.locker f).pool = some u) ∧
    (∃ (s : State) (f : Nat), s.live = true ∧ f < 32) ∧
    (∃ (s : State) (f : Nat) (k : Nat), s.live = true ∧ f < 32 ∧ k < 2 ∧ (s.tracker f k).state ≠ 0) ∧
    (∃ (s : State) (m : Nat) (p : List Byte), Takes s m 0x0602 p ∧ p.length = 16 ∧ rejectBad (pWord p 0 &&& 0xFFFF0333)
      (pWord p 12 &&& 0x8FFFFCFF) = none ∧ fld (pWord p 0 &&& 0xFFFF0333) 4 2 + 1 ≤ s.adm.nret) ∧
    (∃ (s : State) (m : Nat) (p : List Byte) (off : Nat), Takes s m 0x0602 p ∧ p.length = 16 ∧ rejectBad (pWord p 0 &&&
      0xFFFF0333) (pWord p 12 &&& 0x8FFFFCFF) = some off) := 
  ⟨⟨(updLocker 31 (fun x => { x with outPool := [(5, 500)] }) ready), 31, 5, by decide +kernel⟩,
   ⟨(updLocker 31 (fun x => { x with pool := [(5, 500)] }) ready), 31, 5, by decide +kernel⟩,
   ⟨ready, 31, by decide +kernel⟩,
   ⟨{ ready with ar := { ready.ar with trackers := [(63, { freshTracker 63 with state := 1, period := 1000 })] } }, 31, 1,
      by decide +kernel⟩,
   ⟨(asks 0x0602 [20, 3, 0, 51, 0, 0, 0, 0, 0, 0, 0, 0, 131, 3, 232, 16] ready), 3, [20, 3, 0, 51, 0, 0, 0, 0, 0, 0, 0, 0,
      131, 3, 232, 16], by unfold Takes; decide +kernel⟩,
   ⟨(asks 0x0602 [20, 0, 3, 51, 0, 0, 0, 0, 0, 0, 0, 0, 131, 3, 232, 16] ready), 3, [20, 0, 3, 51, 0, 0, 0, 0, 0, 0, 0, 0,
      131, 3, 232, 16], 2, by unfold Takes; decide +kernel⟩⟩

theorem witness_GatesAndResults :
    (∃ (s : State) (k : Nat), s.live = true ∧ k < 32 ∧ (s.slot k).state = 1 ∧ (s.slot k).tStart ≠ none ∧ s.slotsRun =
      true) ∧
    (∃ (s : State) (k : Nat), s.live = true ∧ k < 32 ∧ (s.slot k).state = 2) ∧
    (∃ (s : State) (k : Nat) (p : Anchor) (q : Anchor), s.live = true ∧ k < 32 ∧ (s.slot k).state = 2 ∧ ((s.slot k).type
      = 1 ∨ (s.slot k).type = 2) ∧ anchorAt (s.slot k).ancA (s.slot k).judged = some p ∧ anchorAt (s.slot k).ancA
      ((s.slot k).judged + 1) = some q ∧ (s.slot k).ripe (s.slot k).judged = true) ∧
    (∃ (s : State) (k : Nat) (a : Tapped) (r : List Tapped), s.live = true ∧ k < 32 ∧ (s.slot k).state = 2 ∧ (s.slot
      k).starts = a :: r ∧ stopOf s { s.slot k with starts := r } a = none) ∧
    (∃ (s : State) (k : Nat) (a : Tapped) (b : Tapped) (r : List Tapped), s.live = true ∧ k < 32 ∧ (s.slot k).state = 2
      ∧ (s.slot k).starts = a :: r ∧ stopOf s { s.slot k with starts := r } a = some b ∧ b.gap = false ∧ s.elapsed
      (s.slot k).inA a (s.slot k).inB b ≤ (s.slot k).hmax.toInt) ∧
    (∃ (s : State) (k : Nat), s.live = true ∧ k < 32) := 
  ⟨⟨(updSlot 31 (fun x => { x with state := 1, tStart := some 5 }) { ready with th := { ready.th with mode := .sweep } }),
      31, by decide +kernel⟩,
   ⟨(updSlot 31 (fun x => { x with state := 2, gate := 100 }) { ready with th := { ready.th with mode := .sweep } }), 31,
      by decide +kernel⟩,
   ⟨(updSlot 31 (fun x =>
      { x with cfg := 0x20000000, state := 2, gate := 1000000, k := 2, ancA := [(0, anchor0), (1, anchor1)], refs := [(0, 2), (1, 2)] })
      { ready with th := { ready.th with mode := .sweep } }), 31, anchor0, anchor1, by decide +kernel⟩,
   ⟨(updSlot 31 (fun x => { x with cfg := 0x60000000, state := 2, starts := [⟨9, 0, false⟩] })
      { ready with th := { ready.th with mode := .sweep } }), 31, ⟨9, 0, false⟩, [], by decide +kernel⟩,
   ⟨(updSlot 31 (fun x =>
      { x with cfg := 0x60000000, state := 2, starts := [⟨9, 0, false⟩], stops := [⟨19, 0, false⟩], hmax := 10 })
      { ready with th := { ready.th with mode := .sweep } }), 31, ⟨9, 0, false⟩, ⟨19, 0, false⟩, [], by decide +kernel⟩,
   ⟨ready, 31, by decide +kernel⟩⟩

theorem witness_OutputsAndMeasurementCommands :
    (∃ (s : State) (n : Nat) (t0 : Coarse), s.live = true ∧ n < 4 ∧ (s.sync n).mode = 1 ∧ (s.sync n).tStart = some t0) ∧
    (∃ (s : State) (n : Nat) (f : Nat) (t0 : Nominal) (fs : List (Nat × Nominal)), s.live = true ∧ n < 4 ∧ (s.sync
      n).mode = 2 ∧ (s.sync n).pulses = (f, t0) :: fs) ∧
    (∃ (s : State) (n : Nat) (k : Nat) (f : Nat) (t0 : Nominal) (fs : List (Nat × Nominal × Nat)), s.live = true ∧ n < 4
      ∧ (s.sync n).frames = (k, t0, f) :: fs ∧ (∀ e ∈ (s.sync n).edges, stampDiff e (nominalStamp (t0 + BitVec.ofInt 58
      (s.sync n).tgt.toInt)) < -Int.ofNat (32 * f) ∨ Int.ofNat (32 * f) ≤ stampDiff e (nominalStamp (t0 + BitVec.ofInt
      58 (s.sync n).tgt.toInt)))) ∧
    (∃ (s : State) (n : Nat) (k : Nat) (f : Nat) (t0 : Nominal) (fs : List (Nat × Nominal × Nat)) (e : Stamp) (es : List
      Stamp), s.live = true ∧ n < 4 ∧ (s.sync n).frames = (k, t0, f) :: fs ∧ (s.sync n).edges = e :: es ∧ -Int.ofNat (32
      * f) ≤ stampDiff e (nominalStamp (t0 + BitVec.ofInt 58 (s.sync n).tgt.toInt)) ∧ stampDiff e (nominalStamp (t0 +
      BitVec.ofInt 58 (s.sync n).tgt.toInt)) < Int.ofNat (32 * f)) ∧
    (∃ (s : State) (m : Nat) (p : List Byte), Takes s m 0x0701 p ∧ pByte p 0 = 0 ∧ p.length = 40 ∧ s.th.mode ≠ .dormant
      ∧ slotBad s p (slotFrom p) = none ∧ (∀ i, i < 524 → s.unitsOn (pByte p 1) (slotFrom p) i ≤ 4) ∧ (slotFrom p).type
      ≠ 0) ∧
    (∃ (s : State) (m : Nat) (p : List Byte), Takes s m 0x0701 p ∧ pByte p 0 = 0 ∧ p.length = 40 ∧ s.th.mode ≠ .dormant
      ∧ slotBad s p (slotFrom p) = none ∧ (slotFrom p).type = 0) ∧
    (∃ (s : State) (m : Nat) (p : List Byte) (off : Nat), Takes s m 0x0701 p ∧ pByte p 0 = 0 ∧ p.length = 40 ∧ s.th.mode
      ≠ .dormant ∧ slotBad s p (slotFrom p) = some off) ∧
    (∃ (s : State) (m : Nat) (p : List Byte), Takes s m 0x0701 p ∧ pByte p 0 = 1 ∧ p.length = 40 ∧ s.th.mode ≠ .dormant
      ∧ syncBad s p (syncFrom p) = none) ∧
    (∃ (s : State) (m : Nat) (p : List Byte) (off : Nat), Takes s m 0x0701 p ∧ pByte p 0 = 1 ∧ p.length = 40 ∧ s.th.mode
      ≠ .dormant ∧ syncBad s p (syncFrom p) = some off) ∧
    (∃ (s : State) (m : Nat) (p : List Byte), Takes s m 0x0702 p ∧ p.length = 4 ∧ pByte p 0 ≤ 31) := 
  ⟨⟨(updSync 3 (fun x => { x with cfg := 0x40000064, tStart := some 5, per := 65536000 })
      { ready with th := { ready.th with mode := .sweep } }), 3, 5, by decide +kernel⟩,
   ⟨(updSync 3 (fun x => { x with cfg := 0x80000064, pulses := [(2, 7)] })
      { ready with th := { ready.th with mode := .sweep } }), 3, 2, 7, [], by decide +kernel⟩,
   ⟨(updSync 3 (fun x => { x with cfg := 0xA0000064, frames := [(2, 7, 160)] })
      { ready with th := { ready.th with mode := .sweep } }), 3, 2, 160, 7, [], by decide +kernel, by decide +kernel,
      by decide +kernel, fun e h => nomatch (show e ∈ ([] : List Stamp) from h)⟩,
   ⟨(updSync 3 (fun x => { x with cfg := 0xA0000064, frames := [(2, 7, 160)], edges := [5] })
      { ready with th := { ready.th with mode := .sweep } }), 3, 2, 160, 7, [], 5, [], by decide +kernel⟩,
   ⟨(asks 0x0701 [0, 31, 0, 0, 36, 0, 0, 0, 0, 0, 3, 232, 0, 0, 0, 0, 0, 0, 0, 0, 0, 0, 0, 10, 0, 0, 0, 0, 0, 0, 0, 0, 0,
      0, 0, 0, 0, 0, 0, 0] ready), 3, [0, 31, 0, 0, 36, 0, 0, 0, 0, 0, 3, 232, 0, 0, 0, 0, 0, 0, 0, 0, 0, 0, 0, 10, 0,
      0, 0, 0, 0, 0, 0, 0, 0, 0, 0, 0, 0, 0, 0, 0], by unfold Takes; decide +kernel⟩,
   ⟨(asks 0x0701 [0, 31, 0, 0, 4, 0, 0, 0, 0, 0, 3, 232, 0, 0, 0, 0, 0, 0, 0, 0, 0, 0, 0, 10, 0, 0, 0, 0, 0, 0, 0, 0, 0, 0,
      0, 0, 0, 0, 0, 0] ready), 3, [0, 31, 0, 0, 4, 0, 0, 0, 0, 0, 3, 232, 0, 0, 0, 0, 0, 0, 0, 0, 0, 0, 0, 10, 0, 0, 0,
      0, 0, 0, 0, 0, 0, 0, 0, 0, 0, 0, 0, 0], by unfold Takes; decide +kernel⟩,
   ⟨(asks 0x0701 [0, 32, 0, 0, 36, 0, 0, 0, 0, 0, 3, 232, 0, 0, 0, 0, 0, 0, 0, 0, 0, 0, 0, 10, 0, 0, 0, 0, 0, 0, 0, 0, 0,
      0, 0, 0, 0, 0, 0, 0] ready), 3, [0, 32, 0, 0, 36, 0, 0, 0, 0, 0, 3, 232, 0, 0, 0, 0, 0, 0, 0, 0, 0, 0, 0, 10, 0,
      0, 0, 0, 0, 0, 0, 0, 0, 0, 0, 0, 0, 0, 0, 0], 1, by unfold Takes; decide +kernel⟩,
   ⟨(asks 0x0701 [1, 3, 0, 0, 64, 0, 0, 100, 0, 0, 0, 0, 0, 0, 3, 232, 0, 0, 0, 0, 0, 0, 0, 0, 0, 0, 0, 0, 3, 232, 0, 0, 0,
      0, 0, 0, 0, 0, 0, 0] ready), 3, [1, 3, 0, 0, 64, 0, 0, 100, 0, 0, 0, 0, 0, 0, 3, 232, 0, 0, 0, 0, 0, 0, 0, 0, 0,
      0, 0, 0, 3, 232, 0, 0, 0, 0, 0, 0, 0, 0, 0, 0], by unfold Takes; decide +kernel⟩,
   ⟨(asks 0x0701 [1, 4, 0, 0, 64, 0, 0, 100, 0, 0, 0, 0, 0, 0, 3, 232, 0, 0, 0, 0, 0, 0, 0, 0, 0, 0, 0, 0, 3, 232, 0, 0, 0,
      0, 0, 0, 0, 0, 0, 0] ready), 3, [1, 4, 0, 0, 64, 0, 0, 100, 0, 0, 0, 0, 0, 0, 3, 232, 0, 0, 0, 0, 0, 0, 0, 0, 0,
      0, 0, 0, 3, 232, 0, 0, 0, 0, 0, 0, 0, 0, 0, 0], 1, by unfold Takes; decide +kernel⟩,
   ⟨(asks 0x0702 [31, 0, 0, 0] (updSlot 31 (fun x => { x with state := 2 }) ready)), 3, [31, 0, 0, 0],
      by unfold Takes; decide +kernel⟩⟩

theorem witness_EnvelopeAndDecisions :
    (∃ (s : State) (d : Dwell), s.live = true ∧ s.sh.dwells.find? (fun d => d.placed) = some d ∧ s.supervises = false ∧
      s.th.pend ≠ some .survey) ∧
    (∃ (s : State) (d : Dwell), s.live = true ∧ s.sh.dwells.find? (fun d => d.placed) = some d ∧ s.supervises = true ∧
      s.th.pend ≠ some .survey ∧ ((s.violations d).1.map recChan ++ (s.violations d).2).eraseDups.length < fld s.bl.cfg
      16 5) ∧
    (∃ (s : State) (d : Dwell), s.live = true ∧ s.sh.dwells.find? (fun d => d.placed) = some d ∧ s.supervises = true ∧
      s.th.pend ≠ some .survey ∧ fld s.bl.cfg 16 5 ≤ ((s.violations d).1.map recChan ++ (s.violations
      d).2).eraseDups.length) ∧
    (∃ (s : State) (m : Nat) (p : List Byte), Takes s m 0x0801 p ∧ 8 ≤ p.length ∧ p.length = 8 + 2 * pNat p 4 2 ∧ pNat p
      0 2 ≤ 271 ∧ pNat p 2 2 % 2 = 0 ∧ pNat p 4 2 % 2 = 0 ∧ pNat p 4 2 ≠ 0 ∧ pNat p 2 2 + pNat p 4 2 ≤ 512 ∧
      s.bl.envLoad = none) ∧
    (∃ (s : State) (m : Nat) (p : List Byte), Takes s m 0x0801 p ∧ 8 ≤ p.length ∧ p.length = 8 + 2 * pNat p 4 2 ∧ pNat p
      0 2 ≤ 271 ∧ pNat p 2 2 % 2 = 0 ∧ pNat p 4 2 % 2 = 0 ∧ pNat p 4 2 ≠ 0 ∧ pNat p 2 2 + pNat p 4 2 ≤ 512 ∧
      s.bl.envLoad ≠ none) ∧
    (∃ (s : State) (e : EnvLoad), s.live = true ∧ s.bl.envLoad = some e) ∧
    (∃ (s : State), s.live = true ∧ s.bl.sumBusy = true) ∧
    (∃ (s : State), s.live = true ∧ s.bl.sumBusy = false) := 
  ⟨⟨{ ready with sh := { ready.sh with dwells := [{ dwell0 with joined := true, placed := true }] } },
      { dwell0 with joined := true, placed := true }, by decide +kernel⟩,
   ⟨{ ready with sh := { ready.sh with dwells := [{ dwell0 with joined := true, placed := true }] }, th := { ready.th with mode := .watch } },
      { dwell0 with joined := true, placed := true }, by decide +kernel⟩,
   ⟨{ ready with sh := { ready.sh with dwells := [{ dwell0 with joined := true, placed := true, byMap := [(5, 2)] }] }, bl := { ready.bl with pmflt := 1 }, ps := { ready.ps with words := [(envAddr 0 5, { freshWord 0 with data := 0x00010001 })] }, th := { ready.th with mode := .watch } },
      { dwell0 with joined := true, placed := true, byMap := [(5, 2)] }, by decide +kernel⟩,
   ⟨(asks 0x0801 [1, 15, 1, 254, 0, 2, 0, 0, 0, 5, 0, 6] ready), 3, [1, 15, 1, 254, 0, 2, 0, 0, 0, 5, 0, 6],
      by unfold Takes; decide +kernel⟩,
   ⟨(asks 0x0801 [1, 15, 1, 254, 0, 2, 0, 0, 0, 5, 0, 6]
      { ready with bl := { ready.bl with envLoad := some { line := 271, c0 := 510, entries := [5, 6], tk := tk0 } } }),
      3, [1, 15, 1, 254, 0, 2, 0, 0, 0, 5, 0, 6], by unfold Takes; decide +kernel⟩,
   ⟨{ ready with bl := { ready.bl with envLoad := some { line := 271, c0 := 510, entries := [5, 6], tk := tk0 } } },
      { line := 271, c0 := 510, entries := [5, 6], tk := tk0 }, by decide +kernel⟩,
   ⟨{ ready with bl := { ready.bl with sumBusy := true } }, by decide +kernel⟩,
   ⟨ready, by decide +kernel⟩⟩

theorem witness_TriggersFormAndDeliver :
    (∃ (s : State) (high : Bool) (c : Coarse) (e : Coarse) (k : W32), s.live = true ∧ s.trgEdge high c = e ∧ s.trgCfg e
      = k ∧ (high = bit k 7 ∨ bit k 0 = false ∨ s.trgRested k high e = false ∨ 0 < s.aheadBy e + Int.ofNat (inflt k))) ∧
    (∃ (s : State) (high : Bool) (c : Coarse) (e : Coarse) (k : W32), s.live = true ∧ s.trgEdge high c = e ∧ s.trgCfg e
      = k ∧ high ≠ bit k 7 ∧ bit k 0 = true ∧ s.trgRested k high e = true ∧ s.aheadBy e + Int.ofNat (inflt k) ≤ 0 ∧
      s.cl.triggers.any (fun x => x.isLocal && x.time == e) = false) ∧
    (∃ (s : State) (x : Trigger), s.live = true ∧ firstTrigger s.cl.triggers = some x ∧ s.suppressed x = true) ∧
    (∃ (s : State) (x : Trigger), s.live = true ∧ firstTrigger s.cl.triggers = some x ∧ s.suppressed x = false) ∧
    (∃ (s : State), s.live = true) ∧
    (∃ (s : State) (m : Nat) (p : List Byte), Takes s m 0x0802 p ∧ pByte p 0 = 0 ∧ p.length = 8 ∧ pByte p 4 ≠ 0) ∧
    (∃ (s : State) (m : Nat) (p : List Byte), Takes s m 0x0802 p ∧ pByte p 0 = 1 ∧ p.length = 8 ∧ bit s.cl.trgcfg 1 =
      true ∧ s.cl.triggers.any (fun x => x.isLocal && x.time == s.tb.coarse) = false) ∧
    (∃ (s : State) (m : Nat) (p : List Byte), Takes s m 0x0802 p ∧ pByte p 0 = 1 ∧ p.length = 8 ∧ bit s.cl.trgcfg 1 =
      false) ∧
    (∃ (s : State) (w : W64), s.live = true ∧ isWord 2 w = true ∧ wSrc w ≠ s.unit ∧ (∀ x ∈ s.cl.seen, x.1 ≠ wSrc w ∨
      x.2.1 ≠ wRound w ∨ x.2.2 + 16384 < s.uptime) ∧ bit (s.trgCfg (restoreTime s.tb.coarse (bits w.toNat 16 34))) 3 =
      true) := 
  ⟨⟨ready, false, 0, ready.trgEdge false 0, ready.trgCfg (ready.trgEdge false 0), by decide +kernel⟩,
   ⟨{ ready with uptime := 100000, cl := { ready.cl with trgcfg := 0x01010001, trgHist := [(0, 0x01010001)] }, tb := { ready.tb with coarse := 100000 } },
      true, 5,
      ({ ready with uptime := 100000, cl := { ready.cl with trgcfg := 0x01010001, trgHist := [(0, 0x01010001)] }, tb := { ready.tb with coarse := 100000 } }).trgEdge
      true 5,
      ({ ready with uptime := 100000, cl := { ready.cl with trgcfg := 0x01010001, trgHist := [(0, 0x01010001)] }, tb := { ready.tb with coarse := 100000 } }).trgCfg
      (({ ready with uptime := 100000, cl := { ready.cl with trgcfg := 0x01010001, trgHist := [(0, 0x01010001)] }, tb := { ready.tb with coarse := 100000 } }).trgEdge
      true 5), by decide +kernel⟩,
   ⟨{ ready with cl := { ready.cl with triggers := [{ time := 100, src := 2, cause := 1, bus := false, isLocal := true, upAt := 0 }], last := { noTrigger with time := 95 }, trgCnt := 1, delivered := [{ noTrigger with time := 95 }] } },
      { time := 100, src := 2, cause := 1, bus := false, isLocal := true, upAt := 0 }, by decide +kernel⟩,
   ⟨{ ready with cl := { ready.cl with triggers := [{ time := 100, src := 2, cause := 1, bus := false, isLocal := true, upAt := 0 }] } },
      { time := 100, src := 2, cause := 1, bus := false, isLocal := true, upAt := 0 }, by decide +kernel⟩,
   ⟨ready, by decide +kernel⟩,
   ⟨(asks 0x0802 [0, 0, 0, 0, 1, 0, 0, 0] ready), 3, [0, 0, 0, 0, 1, 0, 0, 0], by unfold Takes; decide +kernel⟩,
   ⟨(asks 0x0802 [1, 0, 0, 0, 0, 0, 0, 0] ready), 3, [1, 0, 0, 0, 0, 0, 0, 0], by unfold Takes; decide +kernel⟩,
   ⟨(asks 0x0802 [1, 0, 0, 0, 0, 0, 0, 0] { ready with cl := { ready.cl with trgcfg := 0x010A0000 } }), 3, [1, 0, 0, 0, 0,
      0, 0, 0], by unfold Takes; decide +kernel⟩,
   ⟨{ ready with cl := { ready.cl with trgcfg := 0x010A0008 } }, busWord 2 7 (put 3 50 4 + put 5 16 34), by decide +kernel⟩⟩

theorem witness_BusCycles :
    (∃ (s : State), s.live = true ∧ s.beacons = true ∧ s.cl.next = none) ∧
    (∃ (s : State) (w : W64), s.live = true ∧ isWord 1 w = true ∧ s.beacons = false ∧ s.cl.next = none) ∧
    (∃ (s : State) (w : W64), s.live = true ∧ isWord 1 w = true ∧ s.beacons = true ∧ wSrc w < s.unit ∧ s.cl.next = none) ∧
    (∃ (s : State) (w : W64), s.live = true ∧ isWord 1 w = true ∧ s.beacons = true ∧ s.unit ≤ wSrc w) ∧
    (∃ (s : State), s.live = true ∧ s.beacons = false ∧ s.cl.lost = false ∧ s.cl.next = none) ∧
    (∃ (s : State), s.live = true ∧ (s.beacons = true ∨ s.cl.lost = true)) ∧
    (∃ (s : State) (c : Coarse) (cause : Nat) (q : Nat) (k : Nat) (r : List (Coarse × Nat × Nat × Nat)), s.live = true ∧
      s.clEn = true ∧ s.cl.receipt ≠ none ∧ s.cl.send = (c, cause, q, k) :: r) ∧
    (∃ (s : State) (w : W64), s.live = true ∧ isWord 7 w = true ∧ wSrc w ≠ s.unit) ∧
    (∃ (s : State), s.live = true) ∧
    (∃ (s : State) (v : W32), s.live = true ∧ s.beacons = true ∧ s.cl.next = some v) ∧
    (∃ (s : State) (w : W64) (v : W32), s.live = true ∧ isWord 1 w = true ∧ s.cl.next = some v ∧ (s.beacons = false ∨
      wSrc w < s.unit)) ∧
    (∃ (s : State) (v : W32), s.live = true ∧ s.beacons = false ∧ s.cl.lost = false ∧ s.cl.next = some v) ∧
    (∃ (s : State) (u : Nat), s.live = true ∧ u < 8) := 
  ⟨⟨{ ready with cl := { ready.cl with cfg := 0x18 } }, by decide +kernel⟩,
   ⟨{ ready with cl := { ready.cl with cfg := 0x10 } }, busWord 1 7 0, by decide +kernel⟩,
   ⟨{ ready with cl := { ready.cl with cfg := 0x1F } }, busWord 1 6 0, by decide +kernel⟩,
   ⟨{ ready with cl := { ready.cl with cfg := 0x1E } }, busWord 1 6 0, by decide +kernel⟩,
   ⟨ready, by decide +kernel⟩,
   ⟨{ ready with cl := { ready.cl with lost := true } }, by decide +kernel⟩,
   ⟨{ ready with cl := { ready.cl with cfg := 0x10, receipt := some 5, send := [(9, 1, 2, 2)] } }, 9, 1, 2, 2, [],
      by decide +kernel⟩,
   ⟨{ ready with cl := { ready.cl with cfg := 0x10 } }, busWord 7 7 0, by decide +kernel⟩,
   ⟨ready, by decide +kernel⟩,
   ⟨{ ready with cl := { ready.cl with cfg := 0x18, next := some 0x10 } }, 0x10, by decide +kernel⟩,
   ⟨{ ready with cl := { ready.cl with cfg := 0x10, next := some 0x1F } }, busWord 1 6 0, 0x1F, by decide +kernel⟩,
   ⟨{ ready with cl := { ready.cl with next := some 0x10 } }, 0x10, by decide +kernel⟩,
   ⟨ready, 7, by decide +kernel⟩⟩

theorem witness_RoundsAndColonnadeCommands :
    (∃ (s : State) (w : W64), s.live = true ∧ wordCrc w = true ∧ wKind w = 3 ∧ wSrc w ≠ s.unit) ∧
    (∃ (s : State) (w : W64), s.live = true ∧ wordCrc w = true ∧ 4 ≤ wKind w ∧ wKind w ≤ 6 ∧ wSrc w ≠ s.unit) ∧
    (∃ (s : State), s.live = true ∧ s.beacons = true ∧ fld s.cl.cfg 16 8 ≠ 0 ∧ s.takesPart = true) ∧
    (∃ (s : State), s.live = true ∧ (s.beacons = false ∨ fld s.cl.cfg 16 8 = 0 ∨ s.takesPart = false)) ∧
    (∃ (s : State) (r : Round), s.live = true ∧ s.cl.rnd = some r ∧ 16 ≤ r.cycle) ∧
    (∃ (s : State) (m : Nat) (p : List Byte), Takes s m 0x0807 p ∧ pByte p 0 = 0 ∧ p.length = 8 ∧ (pByte p 1).testBit 0
      = false ∧ (s.beacons = true ∨ s.cl.busOk = true)) ∧
    (∃ (s : State) (m : Nat) (p : List Byte), Takes s m 0x0807 p ∧ pByte p 0 = 0 ∧ p.length = 8 ∧ (pByte p 1).testBit 0
      = false ∧ s.beacons = false ∧ s.cl.busOk = false) ∧
    (∃ (s : State) (m : Nat) (p : List Byte), Takes s m 0x0807 p ∧ pByte p 0 = 1 ∧ p.length = 8 ∧ s.th.mode ≠ .dormant ∧
      s.beacons = true ∧ s.cl.measTk = none) ∧
    (∃ (s : State) (m : Nat) (p : List Byte), Takes s m 0x0807 p ∧ pByte p 0 = 1 ∧ p.length = 8 ∧ s.th.mode ≠ .dormant ∧
      s.beacons = true ∧ s.cl.measTk ≠ none) ∧
    (∃ (s : State) (m : Nat) (p : List Byte), Takes s m 0x0807 p ∧ pByte p 0 = 1 ∧ p.length = 8 ∧ s.th.mode ≠ .dormant ∧
      s.beacons = false) ∧
    (∃ (s : State) (m : Nat) (p : List Byte), Takes s m 0x0807 p ∧ pByte p 0 = 2 ∧ p.length = 8 ∧ s.beacons = true) ∧
    (∃ (s : State) (tk : Ticket), s.live = true ∧ s.cl.measTk = some tk) := 
  ⟨⟨{ ready with cl := { ready.cl with cfg := 0x10 } }, busWord 3 7 0, by decide +kernel⟩,
   ⟨{ ready with cl := { ready.cl with cfg := 0x10 } }, busWord 6 7 0, by decide +kernel⟩,
   ⟨{ ready with cl := { ready.cl with cfg := 0x40010018 } }, by decide +kernel⟩,
   ⟨ready, by decide +kernel⟩,
   ⟨{ ready with cl := { ready.cl with rnd := some { newRound 5 true with cycle := 16 } } },
      { newRound 5 true with cycle := 16 }, by decide +kernel⟩,
   ⟨(asks 0x0807 [0, 0, 0, 0, 0, 0, 0, 0] { ready with cl := { ready.cl with cfg := 0x18 } }), 3, [0, 0, 0, 0, 0, 0, 0, 0],
      by unfold Takes; decide +kernel⟩,
   ⟨(asks 0x0807 [0, 0, 0, 0, 0, 0, 0, 0] ready), 3, [0, 0, 0, 0, 0, 0, 0, 0], by unfold Takes; decide +kernel⟩,
   ⟨(asks 0x0807 [1, 0, 0, 0, 0, 0, 0, 0] { ready with cl := { ready.cl with cfg := 0x18 } }), 3, [1, 0, 0, 0, 0, 0, 0, 0],
      by unfold Takes; decide +kernel⟩,
   ⟨(asks 0x0807 [1, 0, 0, 0, 0, 0, 0, 0] { ready with cl := { ready.cl with cfg := 0x18, measTk := some tk0 } }), 3, [1,
      0, 0, 0, 0, 0, 0, 0], by unfold Takes; decide +kernel⟩,
   ⟨(asks 0x0807 [1, 0, 0, 0, 0, 0, 0, 0] ready), 3, [1, 0, 0, 0, 0, 0, 0, 0], by unfold Takes; decide +kernel⟩,
   ⟨(asks 0x0807 [2, 0, 0, 0, 0, 0, 0, 0] { ready with cl := { ready.cl with cfg := 0x18 } }), 3, [2, 0, 0, 0, 0, 0, 0, 0],
      by unfold Takes; decide +kernel⟩,
   ⟨{ ready with cl := { ready.cl with measTk := some tk0 } }, tk0, by decide +kernel⟩⟩

theorem witness_RecordsReachMemory :
    (∃ (s : State) (r : GRec) (rs : List GRec), s.live = true ∧ s.gl.buf = r :: rs ∧ s.gl.writing = true ∧ s.captured =
      false ∧ (s.partn s.gl.part).wc % 512 ≠ 0 ∧ needsBase s.gl.base r = false ∧ r.word ≠ 0) ∧
    (∃ (s : State) (r : GRec) (rs : List GRec), s.live = true ∧ s.gl.buf = r :: rs ∧ s.gl.writing = true ∧ s.captured =
      false ∧ (s.partn s.gl.part).wc % 512 = 0 ∧ r.word ≠ 0) ∧
    (∃ (s : State) (r : GRec) (rs : List GRec), s.live = true ∧ s.gl.buf = r :: rs ∧ s.gl.writing = true ∧ s.captured =
      false ∧ (s.partn s.gl.part).wc % 512 ≠ 0 ∧ needsBase s.gl.base r = true) ∧
    (∃ (s : State), s.live = true ∧ (s.gl.buf = [] ∨ s.gl.writing = false ∨ s.captured = true)) ∧
    (∃ (s : State), s.live = true ∧ s.gl.writing = true ∧ (s.gl.state = .fill ∨ s.gl.state = .rearm) ∧ (s.partn
      s.gl.part).pre ≤ (s.partn s.gl.part).wc) ∧
    (∃ (s : State), s.live = true ∧ s.captured = true) := 
  ⟨⟨(updPart 0 (fun x => { x with state := 1, wc := 511 })
      { ready with gl := { ready.gl with buf := [{ word := 5, time := none, epoch := 0, mark := none, trig := false }], base := some (0, 0), writing := true, trained := true, density := 2, state := .fill } }),
      { word := 5, time := none, epoch := 0, mark := none, trig := false }, [], by decide +kernel⟩,
   ⟨(updPart 0 (fun x => { x with state := 1, wc := 512 })
      { ready with gl := { ready.gl with buf := [{ word := 5, time := none, epoch := 0, mark := none, trig := false }], base := some (0, 0), writing := true, trained := true, density := 2, state := .fill } }),
      { word := 5, time := none, epoch := 0, mark := none, trig := false }, [], by decide +kernel⟩,
   ⟨(updPart 0 (fun x => { x with state := 1, wc := 511 })
      { ready with gl := { ready.gl with buf := [{ word := 5, time := none, epoch := 0, mark := none, trig := false }], base := some (1, 0), writing := true, trained := true, density := 2, state := .fill } }),
      { word := 5, time := none, epoch := 0, mark := none, trig := false }, [], by decide +kernel⟩,
   ⟨ready, by decide +kernel⟩,
   ⟨(updPart 0 (fun x => { x with state := 1, wc := 5, pre := 5 })
      { ready with gl := { ready.gl with writing := true, trained := true, density := 2, state := .fill } }),
      by decide +kernel⟩,
   ⟨(updPart 0 (fun x => { x with state := 1, wc := 11, t := some 5, post := 5 })
      { ready with gl := { ready.gl with writing := true, trained := true, density := 2, state := .post } }),
      by decide +kernel⟩⟩

theorem witness_ArmingAndMarking :
    (∃ (s : State) (m : Nat) (p : List Byte) (q : Nat), Takes s m 0x0803 p ∧ p.length = 16 ∧ s.watching = true ∧
      s.armFails (pNat p 0 8) (pNat p 8 8) = none ∧ s.freePart = some q) ∧
    (∃ (s : State) (m : Nat) (p : List Byte) (a : Answer), Takes s m 0x0803 p ∧ p.length = 16 ∧ s.watching = true ∧
      s.armFails (pNat p 0 8) (pNat p 8 8) = some a) ∧
    (∃ (s : State) (m : Nat), Takes s m 0x0804 [] ∧ s.gl.state ≠ .out) ∧
    (∃ (s : State) (m : Nat), Takes s m 0x0804 [] ∧ s.gl.writing = false ∧ s.gl.state ≠ .out) ∧
    (∃ (s : State) (m : Nat) (p : List Byte), Takes s m 0x0805 p ∧ p.length = 4 ∧ s.gl.holding = false ∧ 15 < pByte p 0) ∧
    (∃ (s : State) (m : Nat) (p : List Byte), Takes s m 0x0805 p ∧ p.length = 4 ∧ s.gl.holding = false ∧ pByte p 0 ≤ 15
      ∧ s.gl.writing = false) ∧
    (∃ (s : State) (m : Nat) (p : List Byte), Takes s m 0x0805 p ∧ p.length = 4 ∧ s.gl.holding = false ∧ pByte p 0 ≤ 15
      ∧ s.gl.writing = true ∧ s.captured = false ∧ s.gl.buf = [] ∧ (s.partn s.gl.part).wc % 512 ≠ 0 ∧ needsBase
      s.gl.base { timed s (markRec (pByte p 0) s.tb.coarse) s.tb.coarse with mark := some (pByte p 0) } = false) ∧
    (∃ (s : State) (m : Nat), s.live = true ∧ m < 32 ∧ s.gl.holding = true) ∧
    (∃ (s : State) (n : Nat) (occ : Nat) (c : Coarse), s.live = true ∧ s.nextEvt = some (n, (occ, c)) ∧ s.gl.writing =
      true ∧ s.gl.holding = false ∧ s.gl.buf.length < 65535) ∧
    (∃ (s : State), s.live = true ∧ s.nextEvt = none) ∧
    (∃ (s : State), s.live = true ∧ s.gl.holding = true ∧ s.gl.buf.length + s.gl.hold.length < 65536) := 
  ⟨⟨(asks 0x0803 [0, 0, 0, 0, 0, 0, 0, 5, 0, 0, 0, 0, 0, 0, 0, 6]
      { ready with th := { ready.th with mode := .watch }, gl := { ready.gl with trained := true, density := 2 } }), 3,
      [0, 0, 0, 0, 0, 0, 0, 5, 0, 0, 0, 0, 0, 0, 0, 6], 0, by unfold Takes; decide +kernel⟩,
   ⟨(asks 0x0803 [0, 0, 0, 0, 0, 0, 0, 5, 0, 0, 0, 0, 0, 0, 0, 6]
      { ready with th := { ready.th with mode := .watch }, gl := { ready.gl with writing := true, trained := true, density := 2, state := .fill } }),
      3, [0, 0, 0, 0, 0, 0, 0, 5, 0, 0, 0, 0, 0, 0, 0, 6], .plain .busy, by unfold Takes; decide +kernel⟩,
   ⟨(asks 0x0804 [] { ready with gl := { ready.gl with writing := true, trained := true, density := 2, state := .fill } }),
      3, by unfold Takes; decide +kernel⟩,
   ⟨(asks 0x0804 [] ready), 3, by unfold Takes; decide +kernel⟩,
   ⟨(asks 0x0805 [16, 0, 0, 0] ready), 3, [16, 0, 0, 0], by unfold Takes; decide +kernel⟩,
   ⟨(asks 0x0805 [15, 0, 0, 0] ready), 3, [15, 0, 0, 0], by unfold Takes; decide +kernel⟩,
   ⟨(asks 0x0805 [15, 0, 0, 0] (updPart 0 (fun x => { x with state := 1, wc := 5 })
      { ready with gl := { ready.gl with base := some (0, 0), writing := true, trained := true, density := 2, state := .fill } })),
      3, [15, 0, 0, 0], by unfold Takes; decide +kernel⟩,
   ⟨{ ready with gl := { ready.gl with holding := true } }, 31, by decide +kernel⟩,
   ⟨(updPart 0 (fun x => { x with state := 1, wc := 5 })
      { ready with gl := { ready.gl with evts := [(3, (1, 9))], writing := true, trained := true, density := 2, state := .fill } }),
      3, 1, 9, by decide +kernel⟩,
   ⟨ready, by decide +kernel⟩,
   ⟨{ ready with gl := { ready.gl with holding := true, hold := [{ word := 5, time := none, epoch := 0, mark := none, trig := false }], writing := true } },
      by decide +kernel⟩⟩

theorem witness_MemoryCareAndRetirement :
    (∃ (s : State) (r : Training), s.live = true ∧ s.th.startup = true ∧ s.gl.trained = false ∧ s.gl.state ≠ .out ∧
      r.same = true ∧ r.density ∈ [2, 4, 8, 16] ∧ r.failed = []) ∧
    (∃ (s : State) (r : Training), s.live = true ∧ s.th.startup = true ∧ s.gl.trained = false ∧ s.gl.state ≠ .out ∧
      r.same = false) ∧
    (∃ (s : State) (c : Nat) (ok : Bool), s.live = true ∧ c < 8 ∧ s.gl.trained = true ∧ s.gl.selfRefresh = false ∧
      s.gl.state ≠ .out ∧ s.gl.retired ≠ some c ∧ (ok = true ∨ Tab.get zeros s.gl.checks c = 0)) ∧
    (∃ (s : State) (c : Nat), s.live = true ∧ c < 8 ∧ s.gl.trained = true ∧ s.gl.selfRefresh = false ∧ s.gl.state ≠ .out
      ∧ s.gl.retired = none ∧ Tab.get zeros s.gl.checks c = 1 ∧ s.gl.writing = false) ∧
    (∃ (s : State) (c : Nat) (r : Nat), s.live = true ∧ c < 8 ∧ s.gl.trained = true ∧ s.gl.selfRefresh = false ∧
      s.gl.state ≠ .out ∧ s.gl.retired = some r ∧ r ≠ c ∧ Tab.get zeros s.gl.checks c = 1) ∧
    (∃ (s : State) (hot : Bool), s.live = true ∧ hot = true ∧ s.gl.trained = true ∧ s.gl.selfRefresh = false) ∧
    (∃ (s : State) (hot : Bool), s.live = true ∧ (hot = false ∨ s.gl.trained = false ∨ s.gl.selfRefresh = true)) ∧
    (∃ (s : State) (x : Stream), s.live = true ∧ s.gl.stream = some x ∧ (x.left = 0 ∨ x.lost = true)) ∧
    (∃ (s : State) (x : Stream), s.live = true ∧ s.gl.stream = some x ∧ x.left ≠ 0 ∧ x.lost = false) ∧
    (∃ (s : State), s.live = true) := 
  ⟨⟨{ ready with th := { ready.th with startup := true } }, { density := 16, same := true, failed := [] },
      by decide +kernel⟩,
   ⟨{ ready with th := { ready.th with startup := true } }, { density := 16, same := false, failed := [] },
      by decide +kernel⟩,
   ⟨{ ready with gl := { ready.gl with trained := true, density := 2 } }, 7, true, by decide +kernel⟩,
   ⟨{ ready with gl := { ready.gl with checks := [(7, 1)], trained := true, density := 2 } }, 7, by decide +kernel⟩,
   ⟨{ ready with gl := { ready.gl with checks := [(7, 1)], retired := some 0, trained := true, density := 2 } }, 7, 0,
      by decide +kernel⟩,
   ⟨{ ready with gl := { ready.gl with trained := true, density := 2 } }, true, by decide +kernel⟩,
   ⟨{ ready with gl := { ready.gl with trained := true, density := 2 } }, false, by decide +kernel⟩,
   ⟨{ ready with gl := { ready.gl with stream := some { part := 0, pos := 0, left := 0, sent := 0, tk := tk0, lost := false }, trained := true, density := 2 } },
      { part := 0, pos := 0, left := 0, sent := 0, tk := tk0, lost := false }, by decide +kernel⟩,
   ⟨(updPart 0 (fun x => { x with state := 2, wc := 300 })
      { ready with gl := { ready.gl with stream := some { part := 0, pos := 0, left := 200, sent := 0, tk := tk0, lost := false }, trained := true, density := 2 } }),
      { part := 0, pos := 0, left := 200, sent := 0, tk := tk0, lost := false }, by decide +kernel⟩,
   ⟨ready, by decide +kernel⟩⟩

theorem witness_CaptureReads :
    (∃ (s : State) (m : Nat) (p : List Byte), Takes s m 0x0806 p ∧ pByte p 0 = 0 ∧ p.length = 12 ∧ s.th.mode ≠ .dormant
      ∧ s.th.startup = false ∧ pByte p 2 < s.nPart) ∧
    (∃ (s : State) (m : Nat) (p : List Byte), Takes s m 0x0806 p ∧ pByte p 0 = 0 ∧ p.length = 12 ∧ s.th.mode ≠ .dormant
      ∧ s.th.startup = false ∧ s.nPart ≤ pByte p 2) ∧
    (∃ (s : State) (m : Nat) (p : List Byte) (q : Nat) (k : Nat), Takes s m 0x0806 p ∧ pByte p 0 = 1 ∧ p.length = 12 ∧
      s.th.mode ≠ .dormant ∧ s.th.startup = false ∧ capStart s p 168 = .ok (q, k)) ∧
    (∃ (s : State) (m : Nat) (p : List Byte) (a : Answer), Takes s m 0x0806 p ∧ pByte p 0 = 1 ∧ p.length = 12 ∧
      s.th.mode ≠ .dormant ∧ s.th.startup = false ∧ capStart s p 168 = .error a) ∧
    (∃ (s : State) (m : Nat) (p : List Byte) (q : Nat) (k : Nat), Takes s m 0x0806 p ∧ pByte p 0 = 2 ∧ p.length = 12 ∧
      s.th.mode ≠ .dormant ∧ s.th.startup = false ∧ (s.ticket m).src.path ≠ spiPath ∧ capStart s p (2 ^ 32 - 1) = .ok
      (q, k) ∧ s.gl.stream = none) ∧
    (∃ (s : State) (m : Nat) (p : List Byte), Takes s m 0x0806 p ∧ pByte p 0 = 2 ∧ p.length = 12 ∧ s.th.mode ≠ .dormant
      ∧ s.th.startup = false ∧ (s.ticket m).src.path ≠ spiPath ∧ s.gl.stream ≠ none) ∧
    (∃ (s : State) (m : Nat) (p : List Byte), Takes s m 0x0806 p ∧ pByte p 0 = 2 ∧ p.length = 12 ∧ s.th.mode ≠ .dormant
      ∧ s.th.startup = false ∧ (s.ticket m).src.path = spiPath) ∧
    (∃ (s : State) (m : Nat) (p : List Byte), Takes s m 0x0806 p ∧ pByte p 0 = 3 ∧ p.length = 12 ∧ s.th.mode ≠ .dormant
      ∧ s.th.startup = false ∧ pByte p 2 < s.nPart ∧ (s.partn (pByte p 2)).state = 2 ∧ (s.gl.state ≠ .rearm ∨
      s.gl.writing = true)) ∧
    (∃ (s : State) (m : Nat) (p : List Byte), Takes s m 0x0806 p ∧ pByte p 0 = 3 ∧ p.length = 12 ∧ s.th.mode ≠ .dormant
      ∧ s.th.startup = false ∧ (s.nPart ≤ pByte p 2 ∨ (s.partn (pByte p 2)).state ≠ 2)) := 
  ⟨⟨(asks 0x0806 [0, 0, 0, 0, 0, 0, 0, 0, 0, 0, 0, 0]
      { ready with gl := { ready.gl with trained := true, density := 2 } }), 3, [0, 0, 0, 0, 0, 0, 0, 0, 0, 0, 0, 0],
      by unfold Takes; decide +kernel⟩,
   ⟨(asks 0x0806 [0, 0, 1, 0, 0, 0, 0, 0, 0, 0, 0, 0]
      { ready with gl := { ready.gl with trained := true, density := 2 } }), 3, [0, 0, 1, 0, 0, 0, 0, 0, 0, 0, 0, 0],
      by unfold Takes; decide +kernel⟩,
   ⟨(asks 0x0806 [1, 0, 0, 0, 0, 0, 0, 0, 0, 0, 0, 168] (updPart 0 (fun x => { x with state := 2, wc := 300 })
      { ready with gl := { ready.gl with trained := true, density := 2 } })), 3, [1, 0, 0, 0, 0, 0, 0, 0, 0, 0, 0, 168],
      0, 0, by unfold Takes; decide +kernel, by decide +kernel, by decide +kernel, by decide +kernel, by decide +kernel,
      ok_of (by decide +kernel)⟩,
   ⟨(asks 0x0806 [1, 0, 0, 0, 0, 0, 0, 0, 0, 0, 0, 169] (updPart 0 (fun x => { x with state := 2, wc := 300 })
      { ready with gl := { ready.gl with trained := true, density := 2 } })), 3, [1, 0, 0, 0, 0, 0, 0, 0, 0, 0, 0, 169],
      .badarg 8, by unfold Takes; decide +kernel, by decide +kernel, by decide +kernel, by decide +kernel,
      by decide +kernel, error_of (by decide +kernel)⟩,
   ⟨(asks 0x0806 [2, 0, 0, 0, 0, 0, 0, 0, 0, 0, 0, 200] (updPart 0 (fun x => { x with state := 2, wc := 300 })
      { ready with gl := { ready.gl with trained := true, density := 2 } })), 3, [2, 0, 0, 0, 0, 0, 0, 0, 0, 0, 0, 200],
      0, 0, by unfold Takes; decide +kernel, by decide +kernel, by decide +kernel, by decide +kernel, by decide +kernel,
      by decide +kernel, ok_of (by decide +kernel), by decide +kernel⟩,
   ⟨(asks 0x0806 [2, 0, 0, 0, 0, 0, 0, 0, 0, 0, 0, 200] (updPart 0 (fun x => { x with state := 2, wc := 300 })
      { ready with gl := { ready.gl with stream := some { part := 0, pos := 0, left := 9, sent := 0, tk := tk0, lost := false }, trained := true, density := 2 } })),
      3, [2, 0, 0, 0, 0, 0, 0, 0, 0, 0, 0, 200], by unfold Takes; decide +kernel⟩,
   ⟨(asksSpi 0x0806 [2, 0, 0, 0, 0, 0, 0, 0, 0, 0, 0, 200] (updPart 0 (fun x => { x with state := 2, wc := 300 })
      { ready with gl := { ready.gl with trained := true, density := 2 } })), 3, [2, 0, 0, 0, 0, 0, 0, 0, 0, 0, 0, 200],
      by unfold Takes; decide +kernel⟩,
   ⟨(asks 0x0806 [3, 0, 0, 0, 0, 0, 0, 0, 0, 0, 0, 0] (updPart 0 (fun x => { x with state := 2, wc := 300 })
      { ready with gl := { ready.gl with trained := true, density := 2 } })), 3, [3, 0, 0, 0, 0, 0, 0, 0, 0, 0, 0, 0],
      by unfold Takes; decide +kernel⟩,
   ⟨(asks 0x0806 [3, 0, 0, 0, 0, 0, 0, 0, 0, 0, 0, 0]
      { ready with gl := { ready.gl with trained := true, density := 2 } }), 3, [3, 0, 0, 0, 0, 0, 0, 0, 0, 0, 0, 0],
      by unfold Takes; decide +kernel⟩⟩

theorem witness_FramesAreReceived :
    (∃ (s : State) (p : Nat), s.live = true ∧ p < 2 ∧ (s.port p).up = false) ∧
    (∃ (s : State) (p : Nat) (f : RxFrame), s.live = true ∧ p < 2 ∧ (s.port p).up = true ∧ f.fcsOk = false) ∧
    (∃ (s : State) (p : Nat) (f : RxFrame) (ip : RxIp), s.live = true ∧ p < 2 ∧ (s.port p).up = true ∧ f.fcsOk = true ∧
      f.dstMac = Config.mac p ∧ f.vid = none ∧ f.type = .ipv4 ip ∧ ip.hdrOk = true ∧ ip.ihl = 5 ∧ ip.fragmented = false
      ∧ ip.dst = (s.lk.regs.port p).ip ∧ ip.proto ≠ .udp) ∧
    (∃ (s : State) (p : Nat) (f : RxFrame) (ip : RxIp), s.live = true ∧ p < 2 ∧ (s.port p).up = true ∧ f.fcsOk = true ∧
      f.dstMac = Config.mac p ∧ f.vid = none ∧ f.type = .ipv4 ip ∧ ip.hdrOk = true ∧ ip.ihl = 5 ∧ ip.fragmented = false
      ∧ ip.dst = (s.lk.regs.port p).ip ∧ ip.proto = .udp ∧ ip.udpSumOk = true ∧ ip.dstPort = s.lk.regs.udpBase ∧
      s.lk.regs.accepts p ip.src = true ∧ frameShape p f.payload = true ∧ frameCrc f.payload = true ∧ frameCommand
      f.payload = true ∧ isDisable f.payload = false ∧ (s.box (fBox f.payload)).verdict (fSeq f.payload) = .accepted ∧
      s.av.halt = false ∧ opcodes.contains (fOp f.payload) = true) ∧
    (∃ (s : State) (b : List Byte), s.live = true ∧ frameShape spiPath b = true ∧ frameCrc b = true ∧ frameCommand b =
      true ∧ isDisable b = false ∧ (s.box (fBox b)).verdict (fSeq b) = .accepted ∧ s.av.halt = false ∧ opcodes.contains
      (fOp b) = true) ∧
    (∃ (s : State) (b : List Byte), s.live = true ∧ frameShape spiPath b = true ∧ frameCrc b = true ∧ frameCommand b =
      true ∧ isDisable b = false ∧ (s.box (fBox b)).verdict (fSeq b) = .busy) ∧
    (∃ (s : State) (b : List Byte), s.live = true ∧ frameShape spiPath b = true ∧ frameCrc b = false) ∧
    (∃ (s : State) (p : Nat) (a : ArpMsg), s.live = true ∧ p < 2 ∧ (s.port p).up = true ∧ a.request = true ∧ a.targetIp
      = (s.lk.regs.port p).ip) ∧
    (∃ (s : State) (p : Nat) (a : ArpMsg), s.live = true ∧ p < 2 ∧ (s.port p).up = true ∧ a.request = false ∧
      (s.lk.regs.port p).resolves = true ∧ a.senderIp = (s.lk.regs.port p).dest) ∧
    (∃ (s : State) (p : Nat) (e : EchoMsg), s.live = true ∧ p < 2 ∧ (s.port p).up = true ∧ s.lk.regs.accepts p e.src =
      true ∧ e.data.length ≤ 1472 ∧ (s.port p).icmpMs = none) ∧
    (∃ (s : State) (p : Nat) (e : EchoMsg), s.live = true ∧ p < 2 ∧ (s.port p).up = true ∧ s.lk.regs.accepts p e.src =
      false) := 
  ⟨⟨ready, 1, by decide +kernel⟩,
   ⟨(updPort 1 (fun x => { x with phy := true, up := true }) ready), 1,
      { fcsOk := false, dstMac := Config.mac 1, srcMac := 5, vid := none, type := .ipv4 rxIp, payload := pingFrame },
      by decide +kernel⟩,
   ⟨(updPort 1 (fun x => { x with phy := true, up := true }) ready), 1,
      { fcsOk := true, dstMac := Config.mac 1, srcMac := 5, vid := none, type := .ipv4 { rxIp with proto := .icmp }, payload := pingFrame },
      { rxIp with proto := .icmp }, by decide +kernel, by decide +kernel, by decide +kernel, by decide +kernel, rfl,
      by decide +kernel⟩,
   ⟨(updPort 1 (fun x => { x with phy := true, up := true }) ready), 1,
      { fcsOk := true, dstMac := Config.mac 1, srcMac := 5, vid := none, type := .ipv4 rxIp, payload := pingFrame },
      rxIp, by decide +kernel, by decide +kernel, by decide +kernel, by decide +kernel, rfl, by decide +kernel⟩,
   ⟨ready, pingFrame, by decide +kernel⟩,
   ⟨(updBox 0 (fun x => { x with state := .executing, l := 0, op := 1 }) ready), pingFrame, by decide +kernel⟩,
   ⟨ready, (badCrc pingFrame), by decide +kernel⟩,
   ⟨(updPort 1 (fun x => { x with phy := true, up := true }) ready), 1,
      { request := true, senderIp := 0xC0A84701, senderMac := 77, targetIp := 0xC0A8470A, targetMac := 0 },
      by decide +kernel⟩,
   ⟨(updPort 1 (fun x => { x with phy := true, up := true }) ready), 1,
      { request := false, senderIp := 0xC0A84701, senderMac := 77, targetIp := 0xC0A8470A, targetMac := 0 },
      by decide +kernel⟩,
   ⟨(updPort 1 (fun x => { x with phy := true, up := true }) ready), 1,
      { src := 0xC0A84701, srcMac := 77, ident := 1, seqNo := 2, data := [1, 2] }, by decide +kernel⟩,
   ⟨(updPort 1 (fun x => { x with phy := true, up := true })
      { ready with lk := { ready.lk with regs := { ready.lk.regs with cfg := 0xCB48C812, hosts := [(0, 1)] } } }), 1,
      { src := 9, srcMac := 77, ident := 1, seqNo := 2, data := [] }, by decide +kernel⟩⟩

theorem witness_FramesAreSent :
    (∃ (s : State) (p : Nat) (f : Frame) (r : List Out), s.live = true ∧ p < 2 ∧ (s.port p).up = true ∧ (s.path p).c1 =
      .polcor f :: r ∧ f.kind = 3 ∧ f.own = false) ∧
    (∃ (s : State) (p : Nat) (a : ArpMsg) (r : List Out), s.live = true ∧ p < 2 ∧ (s.port p).up = true ∧ (s.path p).c1 =
      [] ∧ (s.path p).c2 = .arp a :: r ∧ (Out.arp a).size p * 80000 ≤ s.tokens p) ∧
    (∃ (s : State) (p : Nat) (f : Frame) (r : List Out), s.live = true ∧ p < 2 ∧ (s.port p).up = true ∧ (s.path p).c1 =
      [] ∧ (s.path p).c2 = .polcor f :: r ∧ (Out.polcor f).size p * 80000 ≤ s.tokens p ∧ s.answers f = true ∧ f.counted
      = true ∧ s.lk.change = []) ∧
    (∃ (s : State) (p : Nat), s.live = true ∧ p < 2 ∧ (s.port p).up = true ∧ (s.path p).c1 = [] ∧ (s.path p).c2 = [] ∧
      (s.path p).c3 = [] ∧ s.gl.stream = none) ∧
    (∃ (s : State) (p : Nat), s.live = true ∧ p < 3 ∧ (p = spiPath ∨ (s.port p).up = false)) ∧
    (∃ (s : State) (p : Nat), s.live = true ∧ p < 2 ∧ (s.port p).up = true ∧ (s.lk.regs.port p).resolves = true) ∧
    (∃ (s : State) (p : Nat), s.live = true ∧ p < 2 ∧ ((s.port p).up = false ∨ (s.lk.regs.port p).resolves = false)) ∧
    (∃ (s : State) (p : Nat), s.live = true ∧ p < 2 ∧ (s.port p).up = true ∧ (s.port p).unres = true ∧ (s.port p).arp =
      none) ∧
    (∃ (s : State) (p : Nat), s.live = true ∧ p < 2 ∧ ((s.port p).up = false ∨ (s.port p).unres = false ∨ (s.port p).arp
      ≠ none)) ∧
    (∃ (s : State) (p : Nat), s.live = true ∧ s.lk.notify = true ∧ s.notifyDue = true ∧ s.lk.active = some p ∧ p < 2 ∧
      s.lk.regs.evSpi = false) ∧
    (∃ (s : State), s.live = true ∧ (s.lk.notify = false ∨ s.notifyDue = false)) ∧
    (∃ (s : State) (p : Nat) (f : Frame), f.dst = none ∧ (s.lk.regs.port p).resolves = false) ∧
    (∃ (s : State) (p : Nat) (f : Frame) (a : BitVec 48), f.dst = none ∧ (s.lk.regs.port p).resolves = true ∧ (s.port
      p).arp = some a) := 
  ⟨⟨(updPath 1 (fun x => { x with c1 := [.polcor frame0] }) ((updPort 1 (fun x => { x with phy := true, up := true })
      ready))), 1, frame0, [], by decide +kernel⟩,
   ⟨(updPath 1 (fun x =>
      { x with c2 := [.arp { request := true, senderIp := 0xC0A84701, senderMac := 77, targetIp := 0xC0A8470A, targetMac := 0 }] })
      ((updPort 1 (fun x => { x with phy := true, up := true }) ready))), 1,
      { request := true, senderIp := 0xC0A84701, senderMac := 77, targetIp := 0xC0A8470A, targetMac := 0 }, [],
      by decide +kernel⟩,
   ⟨(updBox 4 (fun x => { x with state := .executing, l := 1, op := 1, answer := some (.plain .ok) }) ((updPath 1 (fun x =>
      { x with c2 := [.polcor { frame0 with kind := 2, op := 1, seq := 1, own := true, counted := true, mb := 4, payload := [0, 0, 0, 0] }] })
      ((updPort 1 (fun x => { x with phy := true, up := true }) ready))))), 1,
      { frame0 with kind := 2, op := 1, seq := 1, own := true, counted := true, mb := 4, payload := [0, 0, 0, 0] }, [],
      by decide +kernel⟩,
   ⟨(updPort 1 (fun x => { x with phy := true, up := true }) ready), 1, by decide +kernel⟩,
   ⟨ready, 2, by decide +kernel⟩,
   ⟨(updPort 1 (fun x => { x with phy := true, up := true }) ready), 1, by decide +kernel⟩,
   ⟨ready, 1, by decide +kernel⟩,
   ⟨(updPort 1 (fun x => { x with phy := true, up := true, unres := true }) ready), 1, by decide +kernel⟩,
   ⟨ready, 1, by decide +kernel⟩,
   ⟨(updPort 1 (fun x => { x with phy := true, up := true })
      { ready with uptime := 10000000, lk := { ready.lk with notify := true, active := some 1 } }), 1,
      by decide +kernel⟩,
   ⟨ready, by decide +kernel⟩,
   ⟨{ ready with lk := { ready.lk with regs := { ready.lk.regs with ports := [(1, { freshPortRegs 1 with dest := 0xC0A84701, dmacLo := 5 })] } } },
      1, frame0, by decide +kernel⟩,
   ⟨(updPort 1 (fun x => { x with phy := true, up := true, arp := some 77 })
      { ready with lk := { ready.lk with regs := { ready.lk.regs with ports := [(1, { freshPortRegs 1 with dest := 0xC0A84701 })] } } }),
      1, frame0, 77, by decide +kernel⟩⟩

theorem witness_PortsAndFailover :
    (∃ (s : State) (p : Nat), s.live = true ∧ p < 2 ∧ bit (s.lk.regs.port p).pcfg 0 = true) ∧
    (∃ (s : State) (p : Nat), s.live = true ∧ p < 2 ∧ bit (s.lk.regs.port p).pcfg 0 = false) ∧
    (∃ (s : State) (p : Nat), s.live = true ∧ p < 2) ∧
    (∃ (s : State) (p : Nat), s.live = true ∧ p < 2 ∧ (s.port p).phy = true ∧ (s.port p).up = false) ∧
    (∃ (s : State) (p : Nat), s.live = true ∧ p < 2 ∧ ((s.port p).phy = false ∨ (s.port p).up = true)) ∧
    (∃ (s : State) (p : Nat), s.live = true ∧ p < 2 ∧ (s.port p).up = true ∧ (s.port p).phy = false ∧ s.lk.change = [] ∧
      s.lk.active = some p ∧ (s.port (1 - p)).up = true) ∧
    (∃ (s : State) (p : Nat), s.live = true ∧ p < 2 ∧ (s.port p).up = true ∧ (s.port p).phy = false ∧ s.lk.change = [] ∧
      s.lk.active = some p ∧ (s.port (1 - p)).up = false) ∧
    (∃ (s : State) (p : Nat), s.live = true ∧ p < 2 ∧ (s.port p).up = true ∧ (s.port p).phy = false ∧ s.lk.change = [] ∧
      s.lk.active ≠ some p) ∧
    (∃ (s : State) (p : Nat), s.live = true ∧ p < 2 ∧ (s.port p).up = true ∧ s.lk.regs.kal ≠ 0 ∧ s.lk.change = [] ∧
      s.lk.active = some p ∧ (s.port (1 - p)).up = true) ∧
    (∃ (s : State) (p : Nat), s.live = true ∧ p < 2 ∧ ((s.port p).up = false ∨ s.lk.regs.kal = 0)) ∧
    (∃ (s : State) (m : Nat) (b : List Byte), Takes s m 0x0003 b ∧ b.length = 84 ∧ s.lk.change = [] ∧
      (s.lk.regs.deepChange (linkImage b s.lk.regs) = false ∨ restMode s = true) ∧ linkBad b (linkImage b s.lk.regs) =
      none ∧ s.lk.regs.rejudged (linkImage b s.lk.regs) = false ∧ (pByte b 0).testBit 0 = false ∧ (s.box m).src.path < 2
      ∧ (s.port (s.box m).src.path).up = true) ∧
    (∃ (s : State) (m : Nat) (b : List Byte) (off : Nat), Takes s m 0x0003 b ∧ b.length = 84 ∧ s.lk.change = [] ∧
      (s.lk.regs.deepChange (linkImage b s.lk.regs) = false ∨ restMode s = true) ∧ linkBad b (linkImage b s.lk.regs) =
      some off) := 
  ⟨⟨ready, 1, by decide +kernel⟩,
   ⟨{ ready with lk := { ready.lk with regs := { ready.lk.regs with ports := [(1, { freshPortRegs 1 with pcfg := 4 })] } } },
      1, by decide +kernel⟩,
   ⟨ready, 1, by decide +kernel⟩,
   ⟨(updPort 1 (fun x => { x with phy := true }) ready), 1, by decide +kernel⟩,
   ⟨ready, 1, by decide +kernel⟩,
   ⟨(updPort 0 (fun x => { x with phy := true, up := true }) ((updPort 1 (fun x => { x with up := true })
      { ready with lk := { ready.lk with active := some 1 } }))), 1, by decide +kernel⟩,
   ⟨(updPort 1 (fun x => { x with up := true }) { ready with lk := { ready.lk with active := some 1 } }), 1,
      by decide +kernel⟩,
   ⟨(updPort 0 (fun x => { x with phy := true, up := true }) ((updPort 1 (fun x => { x with up := true })
      { ready with lk := { ready.lk with active := some 0 } }))), 1, by decide +kernel⟩,
   ⟨(updPort 0 (fun x => { x with phy := true, up := true }) ((updPort 1 (fun x => { x with phy := true, up := true })
      { ready with lk := { ready.lk with active := some 1, regs := { ready.lk.regs with cfg := 0xCB48C850 } } }))), 1,
      by decide +kernel⟩,
   ⟨ready, 1, by decide +kernel⟩,
   ⟨(asks 0x0003 [0, 1, 0, 0, 203, 72, 200, 24, 0, 0, 0, 0, 0, 0, 0, 0, 0, 0, 0, 0, 0, 0, 0, 0, 0, 0, 0, 0, 0, 0, 0, 0, 0,
      0, 0, 0, 0, 0, 0, 0, 0, 0, 0, 0, 0, 0, 0, 0, 0, 0, 0, 0, 0, 0, 0, 0, 0, 0, 0, 0, 0, 0, 0, 0, 0, 0, 0, 0, 0, 0, 0,
      0, 0, 0, 0, 0, 0, 0, 0, 0, 0, 0, 0, 0] (updPort 0 (fun x => { x with phy := true, up := true }) ready)), 3, [0, 1,
      0, 0, 203, 72, 200, 24, 0, 0, 0, 0, 0, 0, 0, 0, 0, 0, 0, 0, 0, 0, 0, 0, 0, 0, 0, 0, 0, 0, 0, 0, 0, 0, 0, 0, 0, 0,
      0, 0, 0, 0, 0, 0, 0, 0, 0, 0, 0, 0, 0, 0, 0, 0, 0, 0, 0, 0, 0, 0, 0, 0, 0, 0, 0, 0, 0, 0, 0, 0, 0, 0, 0, 0, 0, 0,
      0, 0, 0, 0, 0, 0, 0, 0], by unfold Takes; decide +kernel⟩,
   ⟨(asks 0x0003 [0, 0, 0, 0, 0, 0, 0, 0, 0, 0, 0, 0, 0, 0, 0, 0, 0, 0, 0, 0, 0, 0, 0, 0, 0, 0, 0, 0, 0, 0, 0, 0, 0, 0, 0,
      0, 0, 0, 0, 0, 0, 0, 0, 0, 0, 0, 0, 0, 0, 0, 0, 0, 0, 0, 0, 0, 0, 0, 0, 0, 0, 0, 0, 0, 0, 0, 0, 0, 0, 0, 0, 0, 0,
      0, 0, 0, 0, 0, 0, 0, 0, 0, 0, 0] ready), 3, [0, 0, 0, 0, 0, 0, 0, 0, 0, 0, 0, 0, 0, 0, 0, 0, 0, 0, 0, 0, 0, 0, 0,
      0, 0, 0, 0, 0, 0, 0, 0, 0, 0, 0, 0, 0, 0, 0, 0, 0, 0, 0, 0, 0, 0, 0, 0, 0, 0, 0, 0, 0, 0, 0, 0, 0, 0, 0, 0, 0, 0,
      0, 0, 0, 0, 0, 0, 0, 0, 0, 0, 0, 0, 0, 0, 0, 0, 0, 0, 0, 0, 0, 0, 0], 1, by unfold Takes; decide +kernel⟩⟩

theorem witness_SpiTransfersAndIdentity :
    (∃ (s : State), s.live = true ∧ s.spiHead = none) ∧
    (∃ (s : State) (u : State) (k : Nat) (c : Nat) (f : Frame), s.live = true ∧ s.spiHead = some (c, f, u) ∧ k <
      s.headBytes.length + 3) ∧
    (∃ (s : State) (u : State) (k : Nat) (c : Nat) (f : Frame), s.live = true ∧ s.spiHead = some (c, f, u) ∧
      s.headBytes.length + 3 ≤ k ∧ s.lk.change = []) ∧
    (∃ (s : State), s.live = true) ∧
    (∃ (s : State) (i : Byte), s.live = true ∧ i ≠ 2 ∧ i ≠ 3 ∧ i ≠ 5) ∧
    (∃ (s : State) (m : Nat), Takes s m 0x0001 []) ∧
    (∃ (s : State) (m : Nat) (p : List Byte), Takes s m 0x0002 p ∧ p.length + 16 ≤ pathLimit (s.box m).src.path) := 
  ⟨⟨ready, by decide +kernel⟩,
   ⟨(updPath 2 (fun x => { x with c2 := [.polcor { frame0 with kind := 2 }] }) ready), (spiOf (updPath 2 (fun x =>
      { x with c2 := [.polcor { frame0 with kind := 2 }] }) ready)).2.2, 1, (spiOf (updPath 2 (fun x =>
      { x with c2 := [.polcor { frame0 with kind := 2 }] }) ready)).1, (spiOf (updPath 2 (fun x =>
      { x with c2 := [.polcor { frame0 with kind := 2 }] }) ready)).2.1, by decide +kernel, rfl, by decide +kernel⟩,
   ⟨(updPath 2 (fun x => { x with c2 := [.polcor { frame0 with kind := 2 }] }) ready), (spiOf (updPath 2 (fun x =>
      { x with c2 := [.polcor { frame0 with kind := 2 }] }) ready)).2.2, 40, (spiOf (updPath 2 (fun x =>
      { x with c2 := [.polcor { frame0 with kind := 2 }] }) ready)).1, (spiOf (updPath 2 (fun x =>
      { x with c2 := [.polcor { frame0 with kind := 2 }] }) ready)).2.1, by decide +kernel, rfl, by decide +kernel,
      by decide +kernel⟩,
   ⟨ready, by decide +kernel⟩,
   ⟨ready, 1, by decide +kernel⟩,
   ⟨(asks 0x0001 [] ready), 3, by unfold Takes; decide +kernel⟩,
   ⟨(asks 0x0002 [1, 2, 3] ready), 3, [1, 2, 3], by unfold Takes; decide +kernel⟩⟩

theorem witness_RegistersAndWords :
    (∃ (s : State) (m : Nat) (p : List Byte), Takes s m 0x0201 p ∧ 4 ≤ p.length ∧ p.length = 4 + 8 * pByte p 0 ∧ rdBad p
      (if (s.ticket m).src.path = spiPath then 1023 else 351) = none) ∧
    (∃ (s : State) (m : Nat) (p : List Byte), Takes s m 0x0201 p ∧ p.length = 12 ∧ rangesOf p = [(4, 0x10008, 1)] ∧ (∀ x
      ∈ s.ps.upset, x.1 ≠ 0x10008)) ∧
    (∃ (s : State) (m : Nat) (p : List Byte) (off : Nat), Takes s m 0x0201 p ∧ 4 ≤ p.length ∧ p.length = 4 + 8 * pByte p
      0 ∧ rdBad p (if (s.ticket m).src.path = spiPath then 1023 else 351) = some off) ∧
    (∃ (s : State) (u : State) (m : Nat) (p : List Byte), Takes s m 0x0202 p ∧ 4 ≤ p.length ∧ p.length = 4 + 12 * pByte
      p 0 ∧ 1 ≤ pByte p 0 ∧ pByte p 0 ≤ 100 ∧ writeTriples p (pByte p 0) 0 s = .ok u) ∧
    (∃ (s : State) (m : Nat) (p : List Byte), Takes s m 0x0202 p ∧ p.length = 16 ∧ pByte p 0 = 1 ∧ pNat p 4 4 = 0x10004
      ∧ pWord p 12 = 0xFFFFFFFF ∧ fld (pWord p 8) 24 8 ≠ 0) ∧
    (∃ (s : State) (m : Nat) (p : List Byte) (e : Refused), Takes s m 0x0202 p ∧ 4 ≤ p.length ∧ p.length = 4 + 12 *
      pByte p 0 ∧ 1 ≤ pByte p 0 ∧ pByte p 0 ≤ 100 ∧ writeTriples p (pByte p 0) 0 s = .error e) ∧
    (∃ (s : State), s.live = true) ∧
    (∃ (s : State) (a : Nat) (i : Nat), s.live = true ∧ 0x20000 ≤ a ∧ a < 0x40000 ∧ chanAt (a - 0x20000) = some (i,
      0x08)) ∧
    (∃ (s : State) (a : Nat), s.live = true ∧ a < 0x20000) ∧
    (∃ (s : State) (m : Nat) (p : List Byte) (ws : List (Nat × W32)), Takes s m 0x0203 p ∧ 8 ≤ p.length ∧ p.length = 8 +
      4 * pByte p 4 ∧ pregWords p = .ok ws ∧ (commits ws s).2.1 = true) ∧
    (∃ (s : State) (m : Nat) (p : List Byte) (off : Nat), Takes s m 0x0203 p ∧ 8 ≤ p.length ∧ p.length = 8 + 4 * pByte p
      4 ∧ pregWords p = .error off) ∧
    (∃ (s : State) (m : Nat) (p : List Byte), Takes s m 0x0204 p ∧ p.length = 8 ∧ pNat p 0 4 % 4 = 0 ∧ 1 ≤ pNat p 4 2 ∧
      pNat p 4 2 ≤ 256 ∧ 0x01000000 ≤ pNat p 0 4 ∧ pNat p 0 4 + 4 * (pNat p 4 2 - 1) ≤ 0x010FFFFC) ∧
    (∃ (s : State), s.live = true ∧ s.ps.scrubAddr ≠ 0x010FFFFC ∧ (∀ w, s.wordAt s.ps.scrubAddr = some w → ∀ x ∈
      s.ps.upset, x.1 ≠ w)) ∧
    (∃ (s : State), s.live = true ∧ s.ps.scrubAddr < 0x010FC000 ∧ holder s.ps.spares s.ps.scrubAddr = none ∧
      s.ps.rewrite.contains s.ps.scrubAddr = false ∧ mapped s.ps.scrubAddr = true) ∧
    (∃ (s : State) (r : ReadResult), s.live = true ∧ s.ps.scrubAddr < 0x010FC000 ∧ holder s.ps.spares s.ps.scrubAddr =
      none ∧ (s.ps.cell s.ps.scrubAddr).unreadable = false ∧ mapped s.ps.scrubAddr = true ∧ (r = .uncorrectable ∨ (r =
      .good ∧ s.ps.upset.find? (fun x => x.1 == s.ps.scrubAddr) = some (s.ps.scrubAddr, .uncorrectable)))) ∧
    (∃ (s : State) (a : Nat) (r : List Nat), s.live = true ∧ s.ps.rewrite = a :: r ∧ (s.ps.cell a).unreadable = false) ∧
    (∃ (s : State), s.live = true ∧ s.ps.rewrite = []) := 
  ⟨⟨(asks 0x0201 [1, 0, 0, 0, 0, 1, 0, 8, 0, 1, 0, 0] ready), 3, [1, 0, 0, 0, 0, 1, 0, 8, 0, 1, 0, 0],
      by unfold Takes; decide +kernel⟩,
   ⟨(asks 0x0201 [1, 0, 0, 0, 0, 1, 0, 8, 0, 1, 0, 0] ready), 3, [1, 0, 0, 0, 0, 1, 0, 8, 0, 1, 0, 0],
      by unfold Takes; decide +kernel⟩,
   ⟨(asks 0x0201 [0, 0, 0, 0] ready), 3, [0, 0, 0, 0], 0, by unfold Takes; decide +kernel⟩,
   ⟨(asks 0x0202 [1, 0, 0, 0, 0, 1, 0, 4, 1, 20, 10, 60, 255, 255, 255, 255] ready), wrote [1, 0, 0, 0, 0, 1, 0, 4, 1, 20,
      10, 60, 255, 255, 255, 255] (asks 0x0202 [1, 0, 0, 0, 0, 1, 0, 4, 1, 20, 10, 60, 255, 255, 255, 255] ready), 3,
      [1, 0, 0, 0, 0, 1, 0, 4, 1, 20, 10, 60, 255, 255, 255, 255], by unfold Takes; decide +kernel, by decide +kernel,
      by decide +kernel, by decide +kernel, by decide +kernel, wrote_ok (by decide +kernel)⟩,
   ⟨(asks 0x0202 [1, 0, 0, 0, 0, 1, 0, 4, 1, 20, 10, 60, 255, 255, 255, 255] ready), 3, [1, 0, 0, 0, 0, 1, 0, 4, 1, 20, 10,
      60, 255, 255, 255, 255], by unfold Takes; decide +kernel⟩,
   ⟨(asks 0x0202 [1, 0, 0, 0, 0, 1, 0, 5, 0, 0, 0, 0, 255, 255, 255, 255] ready), 3, [1, 0, 0, 0, 0, 1, 0, 5, 0, 0, 0, 0,
      255, 255, 255, 255], ⟨.badarg, 4⟩, by unfold Takes; decide +kernel, by decide +kernel, by decide +kernel,
      by decide +kernel, by decide +kernel, error_of (by decide +kernel)⟩,
   ⟨ready, by decide +kernel⟩,
   ⟨ready, 0x20108, 0, by decide +kernel⟩,
   ⟨ready, 0x1FFFC, by decide +kernel⟩,
   ⟨(asks 0x0203 [1, 0, 2, 0, 1, 0, 0, 0, 0, 0, 0, 5] ready), 3, [1, 0, 2, 0, 1, 0, 0, 0, 0, 0, 0, 5], [(0x01000200, 5)],
      by unfold Takes; decide +kernel, by decide +kernel, by decide +kernel, ok_of (by decide +kernel),
      by decide +kernel⟩,
   ⟨(asks 0x0203 [1, 0, 16, 1, 1, 0, 0, 0, 0, 0, 0, 5] ready), 3, [1, 0, 16, 1, 1, 0, 0, 0, 0, 0, 0, 5], 0,
      by unfold Takes; decide +kernel, by decide +kernel, by decide +kernel, error_of (by decide +kernel)⟩,
   ⟨(asks 0x0204 [1, 15, 255, 252, 0, 1, 0, 0] ready), 3, [1, 15, 255, 252, 0, 1, 0, 0], by unfold Takes; decide +kernel⟩,
   ⟨ready, by decide +kernel⟩,
   ⟨{ ready with ps := { ready.ps with scrubAddr := 0x01001000 } }, by decide +kernel⟩,
   ⟨{ ready with ps := { ready.ps with scrubAddr := 0x01001000 } }, .uncorrectable, by decide +kernel⟩,
   ⟨{ ready with ps := { ready.ps with rewrite := [0x01001000] } }, 0x01001000, [], by decide +kernel⟩,
   ⟨ready, by decide +kernel⟩⟩

theorem witness_EventCommands :
    (∃ (s : State) (m : Nat) (p : List Byte), Takes s m 0x0901 p ∧ p.length = 12 ∧ pByte p 0 ≤ 15) ∧
    (∃ (s : State) (m : Nat) (p : List Byte), Takes s m 0x0901 p ∧ p.length = 12 ∧ 15 < pByte p 0) ∧
    (∃ (s : State) (m : Nat) (p : List Byte), Takes s m 0x0902 p ∧ p.length = 4 ∧ 1 ≤ pByte p 1 ∧ pByte p 1 ≤ 16 ∧ pByte
      p 0 + pByte p 1 ≤ 16) ∧
    (∃ (s : State) (m : Nat) (p : List Byte), Takes s m 0x0902 p ∧ p.length = 4 ∧ (pByte p 1 = 0 ∨ 16 < pByte p 1 ∨ 16 <
      pByte p 0 + pByte p 1)) ∧
    (∃ (s : State) (m : Nat) (p : List Byte), Takes s m 0x0903 p ∧ p.length = 4 + 4 * pByte p 0 ∧ pByte p 0 = 1 ∧ pNat p
      4 2 ≤ 511) ∧
    (∃ (s : State) (m : Nat) (p : List Byte), Takes s m 0x0903 p ∧ p.length = 4 + 4 * pByte p 0 ∧ 2 ≤ pByte p 0 ∧ pByte
      p 0 ≤ 64 ∧ (∀ i, i < pByte p 0 → pNat p (4 + 4 * i) 2 ≤ 511)) ∧
    (∃ (s : State) (c : Clearing) (n : Nat) (seen : W16) (es : List (Nat × W16)), s.pending = [] ∧ s.live = true ∧
      s.fl.tested = true ∧ s.av.restart = false ∧ s.tb.coarse.toNat + 1 < 2 ^ 54 ∧ s.lk.clearing = some c ∧ c.left = (n,
      seen) :: es ∧ s.th.limpLater = false ∧ (∀ c ∈ s.fl.chans, c.2.fullAfter s.cycle = false)) ∧
    (∃ (s : State), s.live = true) := 
  ⟨⟨(asks 0x0901 [15, 0, 0, 0, 0, 0, 0, 5, 0, 0, 0, 255] ready), 3, [15, 0, 0, 0, 0, 0, 0, 5, 0, 0, 0, 255],
      by unfold Takes; decide +kernel⟩,
   ⟨(asks 0x0901 [16, 0, 0, 0, 0, 0, 0, 5, 0, 0, 0, 255] ready), 3, [16, 0, 0, 0, 0, 0, 0, 5, 0, 0, 0, 255],
      by unfold Takes; decide +kernel⟩,
   ⟨(asks 0x0902 [15, 1, 0, 0] ready), 3, [15, 1, 0, 0], by unfold Takes; decide +kernel⟩,
   ⟨(asks 0x0902 [15, 2, 0, 0] ready), 3, [15, 2, 0, 0], by unfold Takes; decide +kernel⟩,
   ⟨(asks 0x0903 [1, 0, 0, 0, 1, 255, 0, 0] ready), 3, [1, 0, 0, 0, 1, 255, 0, 0], by unfold Takes; decide +kernel⟩,
   ⟨(asks 0x0903 [2, 0, 0, 0, 1, 255, 0, 0, 1, 255, 0, 0] ready), 3, [2, 0, 0, 0, 1, 255, 0, 0, 1, 255, 0, 0],
      by unfold Takes; decide +kernel⟩,
   ⟨{ ready with lk := { ready.lk with clearing := some { box := 3, left := [(511, 0)], out := [2], start := ⟨[], 0⟩ } } },
      { box := 3, left := [(511, 0)], out := [2], start := ⟨[], 0⟩ }, 511, 0, [], by decide +kernel⟩,
   ⟨ready, by decide +kernel⟩⟩

theorem witness_EventMasksAndTests :
    (∃ (s : State) (m : Nat) (p : List Byte), Takes s m 0x0901 p ∧ p.length = 12 ∧ pByte p 0 ≤ 15) ∧
    (∃ (s : State) (m : Nat) (p : List Byte), Takes s m 0x0901 p ∧ p.length = 12 ∧ 15 < pByte p 0) ∧
    (∃ (s : State) (m : Nat) (p : List Byte), Takes s m 0x0202 p ∧ p.length = 16 ∧ pByte p 0 = 1 ∧ pNat p 4 4 = 0x100004
      ∧ pWord p 12 = 0xFFFFFFFF) := 
  ⟨⟨(asks 0x0901 [15, 0, 0, 0, 0, 0, 0, 5, 0, 0, 0, 255] ready), 3, [15, 0, 0, 0, 0, 0, 0, 5, 0, 0, 0, 255],
      by unfold Takes; decide +kernel⟩,
   ⟨(asks 0x0901 [16, 0, 0, 0, 0, 0, 0, 5, 0, 0, 0, 255] ready), 3, [16, 0, 0, 0, 0, 0, 0, 5, 0, 0, 0, 255],
      by unfold Takes; decide +kernel⟩,
   ⟨(asks 0x0202 [1, 0, 0, 0, 0, 16, 0, 4, 0, 0, 0, 5, 255, 255, 255, 255] ready), 3, [1, 0, 0, 0, 0, 16, 0, 4, 0, 0, 0, 5,
      255, 255, 255, 255], by unfold Takes; decide +kernel⟩⟩

theorem witness_ModeChanges :
    (∃ (s : State) (m : Nat) (p : List Byte), Takes s m 0x0101 p ∧ p.length = 4 ∧ s.th.startup = true) ∧
    (∃ (s : State) (m : Nat) (p : List Byte), Takes s m 0x0101 p ∧ p.length = 4 ∧ s.th.startup = false ∧ Mode.ofCode
      (pByte p 0) = some s.th.mode ∧ s.th.mode ≠ .limp ∧ s.th.pend = none) ∧
    (∃ (s : State) (m : Nat) (p : List Byte) (g : Mode), Takes s m 0x0101 p ∧ p.length = 4 ∧ s.th.startup = false ∧
      Mode.ofCode (pByte p 0) = some g ∧ g ≠ .limp ∧ allowed s.th.mode g = false) ∧
    (∃ (s : State) (m : Nat) (p : List Byte) (g : Mode), Takes s m 0x0101 p ∧ p.length = 4 ∧ s.th.startup = false ∧
      Mode.ofCode (pByte p 0) = some g ∧ g ≠ .limp ∧ allowed s.th.mode g = true ∧ s.th.pend = none ∧ g ≠ s.th.mode ∧
      (s.th.mode ≠ .limp ∨ g.rangingTarget = false)) ∧
    (∃ (s : State) (test : SelfTest) (g : Mode) (tk : Ticket), s.live = true ∧ test.wellFormed = true ∧ s.th.pend = some
      g ∧ s.th.pendTk = some tk ∧ s.drained g = true ∧ g.rangingTarget = false) ∧
    (∃ (s : State) (test : SelfTest) (g : Mode) (tk : Ticket), s.live = true ∧ test.wellFormed = true ∧ s.th.pend = some
      g ∧ s.th.pendTk = some tk ∧ g.rangingTarget = true ∧ s.limpCond = false ∧ s.th.limpDue = false ∧ s.th.limpPend =
      false) ∧
    (∃ (s : State) (test : SelfTest) (g : Mode) (tk : Ticket), s.live = true ∧ test.wellFormed = true ∧ s.th.pend = some
      g ∧ s.th.pendTk = some tk ∧ g.rangingTarget = true ∧ (s.limpCond = true ∨ s.th.limpDue = true ∨ s.th.limpPend =
      true)) ∧
    (∃ (s : State) (test : SelfTest), s.live = true ∧ test.wellFormed = true ∧ s.th.pend = none) ∧
    (∃ (s : State), s.live = true ∧ s.midCommand = false ∧ (s.th.mode = .sweep ∨ s.th.mode = .watch) ∧ s.th.limpDue =
      true ∧ s.th.pend = none) ∧
    (∃ (s : State), s.live = true ∧ s.midCommand = false ∧ (s.th.mode = .sweep ∨ s.th.mode = .watch) ∧ (s.th.limpDue =
      false ∨ s.th.pend ≠ none)) ∧
    (∃ (s : State), s.live = true ∧ s.midCommand = false ∧ restMode s = true) ∧
    (∃ (s : State), s.live = true ∧ s.midCommand = true) ∧
    (∃ (s : State) (o : Mode), s.live = true ∧ s.midCommand = false ∧ s.th.mode = .limp ∧ s.th.origin = some o ∧ s.quiet
      = 1000 ∧ s.th.pend = none) ∧
    (∃ (s : State), s.live = true ∧ s.midCommand = false ∧ (s.th.mode ≠ .limp ∨ s.quiet ≠ 1000 ∨ s.th.pend ≠ none)) ∧
    (∃ (s : State), s.live = true ∧ s.th.mode ≠ .limp ∧ s.th.limpPend = true ∧ s.quiet = 1000) ∧
    (∃ (s : State), s.live = true ∧ s.th.startup = true ∧ s.fl.tested = true ∧ s.ca.fillDone = true ∧ s.ca.fill = false
      ∧ (s.gl.trained = true ∨ s.gl.state = .out)) ∧
    (∃ (s : State), s.live = true ∧ (s.th.startup = false ∨ s.ca.fill = true ∨ s.ca.fillDone = false)) := 
  ⟨⟨(asks 0x0101 [2, 0, 0, 0] { ready with th := { ready.th with startup := true } }), 3, [2, 0, 0, 0],
      by unfold Takes; decide +kernel⟩,
   ⟨(asks 0x0101 [1, 0, 0, 0] ready), 3, [1, 0, 0, 0], by unfold Takes; decide +kernel⟩,
   ⟨(asks 0x0101 [3, 0, 0, 0] { ready with th := { ready.th with mode := .dormant } }), 3, [3, 0, 0, 0], .watch,
      by unfold Takes; decide +kernel⟩,
   ⟨(asks 0x0101 [0, 0, 0, 0] ready), 3, [0, 0, 0, 0], .dormant, by unfold Takes; decide +kernel⟩,
   ⟨{ ready with th := { ready.th with pend := some .dormant, pendTk := some tk0 } }, ⟨[], []⟩, .dormant, tk0,
      by decide +kernel⟩,
   ⟨{ ready with th := { ready.th with pend := some .sweep, pendTk := some tk0 } }, ⟨[], []⟩, .sweep, tk0,
      by decide +kernel⟩,
   ⟨{ ready with th := { ready.th with limpDue := true, pend := some .sweep, pendTk := some tk0 } }, ⟨[], []⟩, .sweep, tk0,
      by decide +kernel⟩,
   ⟨ready, ⟨[], []⟩, by decide +kernel⟩,
   ⟨{ ready with th := { ready.th with limpDue := true, mode := .sweep } }, by decide +kernel⟩,
   ⟨{ ready with th := { ready.th with mode := .sweep } }, by decide +kernel⟩,
   ⟨ready, by decide +kernel⟩,
   ⟨{ ready with lk := { ready.lk with clearing := some { box := 3, left := [(511, 0)], out := [2], start := ⟨[], 0⟩ } } },
      by decide +kernel⟩,
   ⟨{ ready with uptime := 1000000000, th := { ready.th with mode := .limp, origin := some .watch, quietFrom := some 0 } },
      .watch, by decide +kernel⟩,
   ⟨ready, by decide +kernel⟩,
   ⟨{ ready with uptime := 1000000000, th := { ready.th with limpPend := true, quietFrom := some 0 } }, by decide +kernel⟩,
   ⟨{ ready with th := { ready.th with startup := true }, ca := { ready.ca with fillDone := true }, gl := { ready.gl with trained := true, density := 2 } },
      by decide +kernel⟩,
   ⟨ready, by decide +kernel⟩⟩

theorem witness_TemperatureAndThrottle :
    (∃ (s : State) (k : Nat), s.live = true ∧ k < 16 ∧ s.fitted k = false) ∧
    (∃ (s : State) (k : Nat) (c : Conversion) (x : Int), s.live = true ∧ k < 16 ∧ s.fitted k = true ∧ s.validConv k c =
      some x ∧ (s.sens k).fail = false) ∧
    (∃ (s : State) (k : Nat) (c : Conversion), s.live = true ∧ k < 16 ∧ s.fitted k = true ∧ s.validConv k c = none ∧
      (s.sens k).fail = false ∧ (s.sens k).bad + 1 ≠ 10) ∧
    (∃ (s : State) (k : Nat) (c : Conversion), s.live = true ∧ k < 16 ∧ s.fitted k = true ∧ s.validConv k c = none ∧
      (s.sens k).fail = false ∧ (s.sens k).bad + 1 = 10) ∧
    (∃ (s : State) (k : Nat), s.live = true ∧ s.th.leads = [] ∧ s.hottest s.controlSet = some k) ∧
    (∃ (s : State) (k : Nat), s.live = true ∧ s.th.leads = [k] ∧ (s.sens k).excl = false ∧ s.th.evaluated = true ∧ 1 ≤
      s.th.step ∧ s.th.step ≤ 6) ∧
    (∃ (s : State), s.live = true ∧ s.hottest s.controlSet = none) ∧
    (∃ (s : State), s.th.evaluated = true) ∧
    (∃ (s : State) (m : Nat) (p : List Byte), Takes s m 0x0A01 p ∧ p.length = 20 ∧ pByte p 0 = 0 ∧ badLimit p = none) ∧
    (∃ (s : State) (m : Nat) (p : List Byte) (off : Nat), Takes s m 0x0A01 p ∧ p.length = 20 ∧ pByte p 0 = 0 ∧ badLimit
      p = some off) ∧
    (∃ (s : State) (m : Nat) (p : List Byte), Takes s m 0x0A01 p ∧ p.length = 4 ∧ pByte p 0 = 1 ∧ pByte p 1 ≤ 15 ∧
      s.fitted (pByte p 1) = true ∧ pByte p 2 = 1 ∧ (∃ j ∈ s.controlSet, j ≠ pByte p 1) ∧ (s.sens (pByte p 1)).excl =
      false) ∧
    (∃ (s : State) (m : Nat) (p : List Byte), Takes s m 0x0A01 p ∧ p.length = 4 ∧ pByte p 0 = 1 ∧ pByte p 1 ≤ 15 ∧
      s.fitted (pByte p 1) = true ∧ pByte p 2 = 0 ∧ (s.sens (pByte p 1)).excl = true) ∧
    (∃ (s : State) (m : Nat) (p : List Byte), Takes s m 0x0A01 p ∧ p.length = 4 ∧ pByte p 0 = 1 ∧ (15 < pByte p 1 ∨
      s.fitted (pByte p 1) = false)) := 
  ⟨⟨ready, 15, by decide +kernel⟩,
   ⟨ready, 7, .value 1440, 1440, by decide +kernel⟩,
   ⟨(updSens 7 (fun x => { x with bad := 8 }) ready), 7, .none, by decide +kernel⟩,
   ⟨(updSens 7 (fun x => { x with bad := 9 }) ready), 7, .value 1441, by decide +kernel⟩,
   ⟨(updSens 3 (fun x => { x with last := [1200], reading := 1200 }) ready), 3, by decide +kernel⟩,
   ⟨{ ready with th := { ready.th with leads := [7], evaluated := true, step := 6 } }, 7, by decide +kernel⟩,
   ⟨(updSens 7 (fun x => { x with fail := true }) ((updSens 6 (fun x => { x with fail := true }) ((updSens 5 (fun x =>
      { x with fail := true }) ((updSens 4 (fun x => { x with fail := true }) ((updSens 3 (fun x =>
      { x with fail := true }) ((updSens 2 (fun x => { x with fail := true }) ((updSens 1 (fun x =>
      { x with fail := true }) ((updSens 0 (fun x => { x with fail := true }) ready))))))))))))))), by decide +kernel⟩,
   ⟨{ ready with th := { ready.th with evaluated := true } }, by decide +kernel⟩,
   ⟨(asks 0x0a01 [0, 0, 0, 0, 3, 240, 4, 16, 4, 48, 4, 80, 4, 112, 4, 144, 4, 176, 0, 0] ready), 3, [0, 0, 0, 0, 3, 240, 4,
      16, 4, 48, 4, 80, 4, 112, 4, 144, 4, 176, 0, 0], by unfold Takes; decide +kernel⟩,
   ⟨(asks 0x0a01 [0, 0, 0, 0, 3, 240, 4, 16, 4, 48, 4, 80, 4, 112, 4, 144, 4, 175, 0, 0] ready), 3, [0, 0, 0, 0, 3, 240, 4,
      16, 4, 48, 4, 80, 4, 112, 4, 144, 4, 175, 0, 0], 16, by unfold Takes; decide +kernel⟩,
   ⟨(asks 0x0a01 [1, 7, 1, 0] ready), 3, [1, 7, 1, 0], by unfold Takes; decide +kernel⟩,
   ⟨(asks 0x0a01 [1, 7, 0, 0] (updSens 7 (fun x => { x with excl := true }) ready)), 3, [1, 7, 0, 0],
      by unfold Takes; decide +kernel⟩,
   ⟨(asks 0x0a01 [1, 12, 0, 0] ready), 3, [1, 12, 0, 0], by unfold Takes; decide +kernel⟩⟩

theorem witness_ResetsAndBoundaryScan :
    (∃ (s : State) (c : Cut), s.pins.pwrgood = true ∧ c.words = 0 ∧ c.envWords = 0) ∧
    (∃ (s : State), s.pins.pwrgood = false) ∧
    (∃ (s : State) (c : Cut) (e : EnvLoad), s.live = true ∧ c.box = none ∧ s.bl.envLoad = some e) ∧
    (∃ (s : State) (c : Cut) (m : Nat), s.live = true ∧ s.lodgeRuns = true ∧ s.nextBox = some m ∧ c.box = some m ∧
      s.bl.envLoad = none) ∧
    (∃ (s : State) (c : Cut), s.pins.pwrgood = true ∧ s.pins.rstN = true ∧ c.words = 0 ∧ c.envWords = 0) ∧
    (∃ (s : State) (test : SelfTest), test.wellFormed = true ∧ s.live = true) ∧
    (∃ (s : State) (test : SelfTest), test.wellFormed = true ∧ s.pins.pwrgood = false ∧ s.pins.rstN = false) ∧
    (∃ (s : State) (test : SelfTest), test.wellFormed = true ∧ s.pins.pwrgood = false ∧ s.pins.rstN = true) ∧
    (∃ (s : State) (test : SelfTest), test.wellFormed = true ∧ s.pins.pwrgood = true ∧ s.pins.rstN = false) ∧
    (∃ (clocks : List Tck), clocks.length = 5 ∧ clocks.all Tck.tms = true) ∧
    (∃ (s : State), s.pins.tap = .runTestIdle ∧ s.pins.ir = 1) ∧
    (∃ (s : State), s.pins.tap = .runTestIdle ∧ s.pins.ir = 2) ∧
    (∃ (s : State) (c : BitVec 4), c ≠ 1 ∧ c ≠ 2 ∧ s.pins.tap = .runTestIdle ∧ s.pins.ir = c) ∧
    (∃ (s : State) (c : BitVec 4), c ≠ 1 ∧ c ≠ 2 ∧ s.pins.tap = .runTestIdle) := 
  ⟨⟨ready, { box := none, words := 0, envWords := 0 }, by decide +kernel⟩,
   ⟨{ ready with pins := { ready.pins with pwrgood := false } }, by decide +kernel⟩,
   ⟨{ ready with bl := { ready.bl with envLoad := some { line := 271, c0 := 510, entries := [5, 6], tk := tk0 } } },
      { box := none, words := 0, envWords := 1 }, { line := 271, c0 := 510, entries := [5, 6], tk := tk0 },
      by decide +kernel⟩,
   ⟨(asks 0x0203 [1, 0, 2, 0, 1, 0, 0, 0, 0, 0, 0, 5] ready), { box := some 3, words := 1, envWords := 0 }, 3,
      by decide +kernel⟩,
   ⟨ready, { box := none, words := 0, envWords := 0 }, by decide +kernel⟩,
   ⟨ready, ⟨[], []⟩, by decide +kernel⟩,
   ⟨{ ready with pins := { ready.pins with pwrgood := false, rstN := false } }, ⟨[], []⟩, by decide +kernel⟩,
   ⟨{ ready with pins := { ready.pins with pwrgood := false } }, ⟨[], []⟩, by decide +kernel⟩,
   ⟨{ ready with pins := { ready.pins with rstN := false } }, ⟨[], []⟩, by decide +kernel⟩,
   ⟨List.replicate 5 ⟨true, false⟩, by decide +kernel⟩,
   ⟨{ ready with pins := { ready.pins with tap := .runTestIdle } }, by decide +kernel⟩,
   ⟨{ ready with pins := { ready.pins with tap := .runTestIdle, ir := 2 } }, by decide +kernel⟩,
   ⟨{ ready with pins := { ready.pins with tap := .runTestIdle, ir := 15 } }, 15, by decide +kernel⟩,
   ⟨{ ready with pins := { ready.pins with tap := .runTestIdle } }, 14, by decide +kernel⟩⟩

theorem witness_RestartsAndTheFaultLog :
    (∃ (s : State) (c : Option Nat), s.live = true ∧ c.all (fun m => m < 32) = true ∧ s.av.halt = true) ∧
    (∃ (s : State), s.live = true ∧ s.av.halt = false ∧ (s.av.mismatches.filter (fun u => s.uptime ≤ u +
      60000000000)).length < 2) ∧
    (∃ (s : State), s.live = true ∧ s.av.halt = false ∧ 2 ≤ (s.av.mismatches.filter (fun u => s.uptime ≤ u +
      60000000000)).length) ∧
    (∃ (s : State), s.live = true ∧ s.av.restart = false) ∧
    (∃ (s : State) (m : Nat), s.live = true ∧ s.av.restart = true ∧ s.av.cut = some m ∧ s.lk.due = []) ∧
    (∃ (s : State), s.live = true ∧ s.av.restart = true ∧ s.av.cut = none ∧ s.lk.due = []) ∧
    (∃ (s : State) (f : Nat), s.live = true ∧ f < 33 ∧ s.restartDue f = true ∧ f ∉ s.fl.flrst ∧ s.passing f = false) ∧
    (∃ (s : State) (f : Nat), s.live = true ∧ f < 33 ∧ (s.restartDue f = false ∨ f ∈ s.fl.flrst ∨ s.passing f = true)) ∧
    (∃ (s : State) (f : Nat), s.live = true ∧ f < 33 ∧ f ∈ s.fl.flrst) ∧
    (∃ (s : State) (f : Nat), s.live = true ∧ f < 33 ∧ f ∉ s.fl.flrst) ∧
    (∃ (s : State), s.live = true ∧ s.av.log = []) ∧
    (∃ (s : State) (e : LogEntry) (r : List LogEntry), s.live = true ∧ s.av.log = e :: r ∧ (fillTokens s).av.tokens = 0) ∧
    (∃ (s : State) (e : LogEntry) (r : List LogEntry), s.live = true ∧ s.av.log = e :: r ∧ (fillTokens s).av.tokens ≠ 0) ∧
    (∃ (s : State) (e : LogEntry) (r : List LogEntry), s.live = true ∧ s.av.log = e :: r ∧ (fillTokens s).av.tokens ≠ 0
      ∧ (s.ps.spares.map Prod.fst).Pairwise (· < ·) ∧ (∀ a, a = logNextAddr ∨ (∃ j, j < 4 ∧ a = logAddr
      s.av.logNext.toNat + 4 * j) → (s.ps.cell a).stuck = 0 ∧ (s.ps.cell a).wear < 100000000)) ∧
    (∃ (s : State) (m : Nat) (p : List Byte), Takes s m 0x0B02 p ∧ p.length = 8 ∧ 1 ≤ pByte p 4 ∧ pByte p 4 ≤ 64 ∧
      signed 32 (s.av.logNext.toNat + 2 ^ 32 - pNat p 0 4) ≤ Int.ofNat (s.av.logNext.toNat - (s.av.logNext.toNat -
      2048))) ∧
    (∃ (s : State) (m : Nat) (p : List Byte), Takes s m 0x0B02 p ∧ p.length = 8 ∧ 1 ≤ pByte p 4 ∧ pByte p 4 ≤ 64 ∧
      Int.ofNat (s.av.logNext.toNat - (s.av.logNext.toNat - 2048)) < signed 32 (s.av.logNext.toNat + 2 ^ 32 - pNat p 0
      4)) ∧
    (∃ (s : State) (m : Nat) (p : List Byte), Takes s m 0x0B02 p ∧ p.length = 8 ∧ (pByte p 4 = 0 ∨ 64 < pByte p 4)) := 
  ⟨⟨{ ready with av := { ready.av with halt := true } }, some 31, by decide +kernel⟩,
   ⟨{ ready with av := { ready.av with restart := true, mismatches := [0] } }, by decide +kernel⟩,
   ⟨{ ready with av := { ready.av with mismatches := [0, 0] } }, by decide +kernel⟩,
   ⟨ready, by decide +kernel⟩,
   ⟨(updBox 31 (fun x => { x with state := .executing, l := 1, op := 1 })
      { ready with av := { ready.av with restart := true, cut := some 31 } }), 31, by decide +kernel⟩,
   ⟨{ ready with av := { ready.av with restart := true } }, by decide +kernel⟩,
   ⟨{ ready with av := { ready.av with outst := [⟨0x0201, 31, 0⟩] } }, 31, by decide +kernel⟩,
   ⟨ready, 32, by decide +kernel⟩,
   ⟨{ ready with fl := { ready.fl with flrst := [32] } }, 32, by decide +kernel⟩,
   ⟨ready, 32, by decide +kernel⟩,
   ⟨ready, by decide +kernel⟩,
   ⟨{ ready with av := { ready.av with log := [{ stamp := 5, epoch := 0, id := ⟨0x101, 5, 0⟩, action := 1, result := 0 }], tokens := 0 } },
      { stamp := 5, epoch := 0, id := ⟨0x101, 5, 0⟩, action := 1, result := 0 }, [], by decide +kernel⟩,
   ⟨{ ready with av := { ready.av with log := [{ stamp := 5, epoch := 0, id := ⟨0x101, 5, 0⟩, action := 1, result := 0 }], tokens := 1 } },
      { stamp := 5, epoch := 0, id := ⟨0x101, 5, 0⟩, action := 1, result := 0 }, [], by decide +kernel⟩,
   ⟨{ ready with av := { ready.av with log := [{ stamp := 5, epoch := 0, id := ⟨0x101, 5, 0⟩, action := 1, result := 0 }], tokens := 1 } },
      { stamp := 5, epoch := 0, id := ⟨0x101, 5, 0⟩, action := 1, result := 0 }, [], by decide +kernel,
      by decide +kernel, by decide +kernel, by decide +kernel, fun a _ => ⟨rfl, by show 0 < 100000000; decide⟩⟩,
   ⟨(asks 0x0b02 [0, 0, 0, 0, 64, 0, 0, 0] ready), 3, [0, 0, 0, 0, 64, 0, 0, 0], by unfold Takes; decide +kernel⟩,
   ⟨(asks 0x0b02 [255, 255, 255, 255, 64, 0, 0, 0] { ready with av := { ready.av with logNext := 10 } }), 3, [255, 255,
      255, 255, 64, 0, 0, 0], by unfold Takes; decide +kernel⟩,
   ⟨(asks 0x0b02 [0, 0, 0, 0, 65, 0, 0, 0] ready), 3, [0, 0, 0, 0, 65, 0, 0, 0], by unfold Takes; decide +kernel⟩⟩

theorem witness_TraceAndCounters :
    (∃ (s : State), s.live = true ∧ (s.av.held = none ∨ s.traceSettled = false) ∧ (bit s.av.trcfg 31 = false ∨
      (s.av.fifo = [] ∧ s.av.dropped = 0))) ∧
    (∃ (s : State) (r : TraceRec) (rs : List TraceRec), s.live = true ∧ (s.av.held = none ∨ s.traceSettled = false) ∧
      bit s.av.trcfg 31 = true ∧ s.av.dropped = 0 ∧ s.av.fifo = r :: rs) ∧
    (∃ (s : State), s.live = true ∧ (s.av.held = none ∨ s.traceSettled = false) ∧ bit s.av.trcfg 31 = true ∧
      s.av.dropped ≠ 0) ∧
    (∃ (s : State) (l : List TraceRec), s.live = true ∧ s.av.held = some l ∧ s.traceSettled = true ∧ bit s.av.trcfg 31 =
      true ∧ s.av.dropped = 0 ∧ s.av.fifo = [] ∧ l ≠ []) ∧
    (∃ (a : Avail) (n : Nat), n < 4 ∧ a.lanes.length = 16) ∧
    (∃ (s : State), s.live = true ∧ s.av.held = none ∧ bit s.av.trcfg 31 = true ∧ s.av.fifo.length < 4096) ∧
    (∃ (s : State), s.live = true ∧ bit s.av.trcfg 31 = false) ∧
    (∃ (s : State), s.live = true ∧ s.av.held = none ∧ bit s.av.trcfg 31 = true ∧ fld s.av.trcfg 16 4 ≠ 0 ∧
      s.av.fifo.length + 256 ≤ 4032) ∧
    (∃ (s : State), s.live = true ∧ fld s.av.trcfg 16 4 = 0) ∧
    (∃ (s : State), s.live = true) ∧
    (∃ (s : State) (v : W32), s.live = true ∧ fld v 0 10 < 524 ∧ (s.chan (fld v 0 10)).hold = true ∧ s.av.held = none ∧
      bit s.av.trcfg 31 = true ∧ s.av.fifo.length + (s.chan (fld v 0 10)).queue.length ≤ 4032) ∧
    (∃ (s : State) (v : W32), s.live = true ∧ (524 ≤ fld v 0 10 ∨ (s.chan (fld v 0 10)).hold = false)) := 
  ⟨⟨ready, by decide +kernel⟩,
   ⟨{ ready with av := { ready.av with fifo := [⟨3, [1, 2]⟩] } }, ⟨3, [1, 2]⟩, [], by decide +kernel⟩,
   ⟨{ ready with av := { ready.av with dropped := 1 } }, by decide +kernel⟩,
   ⟨{ ready with av := { ready.av with held := some [⟨3, [1, 2]⟩] } }, [⟨3, [1, 2]⟩], by decide +kernel⟩,
   ⟨{ ready.av with lanes := (List.range 16).map (fun n => BitVec.ofNat 8 (n + 1)), laneAt := 9 }, 3, by decide +kernel⟩,
   ⟨{ ready with av := { ready.av with fifo := List.replicate 3 ⟨3, []⟩ } }, by decide +kernel⟩,
   ⟨{ ready with av := { ready.av with trcfg := 0x0000000E } }, by decide +kernel⟩,
   ⟨{ ready with av := { ready.av with trcfg := 0x8001000E } }, by decide +kernel⟩,
   ⟨ready, by decide +kernel⟩,
   ⟨ready, by decide +kernel⟩,
   ⟨(updChan 523 (fun x => { x with cfg := 0x81 }) ready), 523, by decide +kernel⟩,
   ⟨ready, 524, by decide +kernel⟩⟩

theorem witness_SpareMapOperations :
    (∃ (s : State) (m : Nat) (p : List Byte), Takes s m 0x0B01 p ∧ p.length = 8 ∧ pByte p 0 = 0 ∧ s.th.mode ≠ .dormant ∧
      pByte p 1 ≤ 32 ∧ chansOf (pByte p 1) ≤ pByte p 3 ∧ pByte p 3 < coresOf (pByte p 1) ∧ (s.core (coreNo (pByte p 1)
      (pByte p 3))).state = 0 ∧ s.fl.tested = true ∧ coreNo (pByte p 1) (pByte p 3) ∉ s.chosen (pByte p 1) ∧ pByte p 2 <
      chansOf (pByte p 1) ∧ (s.chan (chanNo (pByte p 1) (pByte p 2))).en = true ∧ (s.chan (chanNo (pByte p 1) (pByte p
      2))).subst = none) ∧
    (∃ (s : State) (m : Nat) (p : List Byte), Takes s m 0x0B01 p ∧ p.length = 8 ∧ pByte p 0 ≤ 2 ∧ s.th.mode ≠ .dormant ∧
      32 < pByte p 1) ∧
    (∃ (s : State) (m : Nat) (p : List Byte), Takes s m 0x0B01 p ∧ p.length = 8 ∧ pByte p 0 = 1 ∧ s.th.mode ≠ .dormant ∧
      pByte p 1 ≤ 32 ∧ pByte p 2 < chansOf (pByte p 1) ∧ (s.core (coreNo (pByte p 1) (pByte p 2))).state ≠ 3 ∧
      s.fl.tested = true ∧ (s.chan (chanNo (pByte p 1) (pByte p 2))).core ≠ pByte p 2 ∧ (s.chan (chanNo (pByte p 1)
      (pByte p 2))).subst = none) ∧
    (∃ (s : State) (m : Nat) (p : List Byte), Takes s m 0x0B01 p ∧ p.length = 8 ∧ pByte p 0 = 2 ∧ s.th.mode ≠ .dormant ∧
      pByte p 1 ≤ 32 ∧ pByte p 3 < coresOf (pByte p 1) ∧ (s.core (coreNo (pByte p 1) (pByte p 3))).state = 0 ∧ coreNo
      (pByte p 1) (pByte p 3) ∉ s.chosen (pByte p 1)) ∧
    (∃ (s : State) (m : Nat) (p : List Byte), Takes s m 0x0B01 p ∧ p.length = 8 ∧ pByte p 0 = 2 ∧ s.th.mode ≠ .dormant ∧
      pByte p 1 ≤ 32 ∧ pByte p 3 < coresOf (pByte p 1) ∧ (s.core (coreNo (pByte p 1) (pByte p 3))).state = 3 ∧ coreNo
      (pByte p 1) (pByte p 3) ∉ s.chosen (pByte p 1)) ∧
    (∃ (s : State) (m : Nat) (p : List Byte), Takes s m 0x0B01 p ∧ p.length = 8 ∧ pByte p 0 = 3 ∧ pByte p 1 ≤ 7 ∧
      s.gl.retired = none ∧ (commit retireAddr (retireWord (pByte p 1) s) s).1 = true ∧ s.gl.writing = false) ∧
    (∃ (s : State) (m : Nat) (p : List Byte), Takes s m 0x0B01 p ∧ p.length = 8 ∧ pByte p 0 = 3 ∧ (7 < pByte p 1 ∨
      s.gl.retired ≠ none)) ∧
    (∃ (s : State) (m : Nat) (p : List Byte), Takes s m 0x0B01 p ∧ p.length = 8 ∧ pByte p 0 = 3 ∧ pByte p 1 ≤ 7 ∧
      s.gl.retired = none ∧ (commit retireAddr (retireWord (pByte p 1) s) s).1 = false) ∧
    (∃ (s : State) (m : Nat) (p : List Byte), Takes s m 0x0B01 p ∧ p.length = 8 ∧ pByte p 0 = 4 ∧ (s.th.mode = .dormant
      ∨ s.th.mode = .survey) ∧ (s.gl.retired ≠ none ∨ bit (pread s retireAddr) 4 = true) ∧ (commit retireAddr 0 s).1 =
      false) ∧
    (∃ (s : State) (m : Nat) (p : List Byte), Takes s m 0x0B01 p ∧ p.length = 8 ∧ pByte p 0 = 4 ∧ (s.th.mode = .dormant
      ∨ s.th.mode = .survey) ∧ (s.gl.retired ≠ none ∨ bit (pread s retireAddr) 4 = true) ∧ (commit retireAddr 0 s).1 =
      true) ∧
    (∃ (s : State) (m : Nat) (p : List Byte), Takes s m 0x0B01 p ∧ p.length = 8 ∧ pByte p 0 = 4 ∧ (s.th.mode = .dormant
      ∨ s.th.mode = .survey) ∧ s.gl.retired = none ∧ bit (pread s retireAddr) 4 = false) := 
  ⟨⟨(asks 0x0b01 [0, 32, 11, 15, 0, 0, 0, 0] ready), 3, [0, 32, 11, 15, 0, 0, 0, 0], by unfold Takes; decide +kernel⟩,
   ⟨(asks 0x0b01 [2, 33, 0, 0, 0, 0, 0, 0] ready), 3, [2, 33, 0, 0, 0, 0, 0, 0], by unfold Takes; decide +kernel⟩,
   ⟨(asks 0x0b01 [1, 32, 11, 0, 0, 0, 0, 0] (updChan 523 (fun x => { x with core := 13 }) ready)), 3, [1, 32, 11, 0, 0, 0,
      0, 0], by unfold Takes; decide +kernel⟩,
   ⟨(asks 0x0b01 [2, 32, 0, 15, 0, 0, 0, 0] ready), 3, [2, 32, 0, 15, 0, 0, 0, 0], by unfold Takes; decide +kernel⟩,
   ⟨(asks 0x0b01 [2, 32, 0, 15, 0, 0, 0, 0] (updCore 591 (fun x => { x with state := 3 }) ready)), 3, [2, 32, 0, 15, 0, 0,
      0, 0], by unfold Takes; decide +kernel⟩,
   ⟨(asks 0x0b01 [3, 7, 0, 0, 0, 0, 0, 0] { ready with gl := { ready.gl with trained := true, density := 2 } }), 3, [3, 7,
      0, 0, 0, 0, 0, 0], by unfold Takes; decide +kernel⟩,
   ⟨(asks 0x0b01 [3, 8, 0, 0, 0, 0, 0, 0] ready), 3, [3, 8, 0, 0, 0, 0, 0, 0], by unfold Takes; decide +kernel⟩,
   ⟨(asks 0x0b01 [3, 7, 0, 0, 0, 0, 0, 0]
      { ready with gl := { ready.gl with trained := true, density := 2 }, ps := { ready.ps with spares := (List.range 4096).map (fun k => (k, { tag := 0, cell := freshWord 0 })), words := [(0x01000260, { freshWord 0 with data := 0x10, stuck := 9 })] } }),
      3, [3, 7, 0, 0, 0, 0, 0, 0], by unfold Takes; decide +kernel⟩,
   ⟨(asks 0x0b01 [4, 0, 0, 0, 0, 0, 0, 0]
      { ready with gl := { ready.gl with retired := some 7 }, ps := { ready.ps with spares := (List.range 4096).map (fun k => (k, { tag := 0, cell := freshWord 0 })), words := [(0x01000260, { freshWord 0 with data := 0x10, stuck := 9 })] } }),
      3, [4, 0, 0, 0, 0, 0, 0, 0], by unfold Takes; decide +kernel⟩,
   ⟨(asks 0x0b01 [4, 0, 0, 0, 0, 0, 0, 0] { ready with gl := { ready.gl with retired := some 7 } }), 3, [4, 0, 0, 0, 0, 0,
      0, 0], by unfold Takes; decide +kernel⟩,
   ⟨(asks 0x0b01 [4, 0, 0, 0, 0, 0, 0, 0] ready), 3, [4, 0, 0, 0, 0, 0, 0, 0], by unfold Takes; decide +kernel⟩⟩

end Sys2Proof.Tests
end

section
/-!
PROOFS. The time base (chapter 1): what its operations do, and the statements about them.
-/
namespace Sys2Proof.Machine

/-! ## Raising one event -/

/-- One source raised is raised once in its TBCLK cycle (R378). -/
theorem raise_raised (n : Nat) (s : State) : Raised n s (raise n s) := by
  have one : [n].eraseDups = [n] := rfl
  unfold Raised raise raises
  cases h : s.ev.hasRaised s.uptime n <;> simp [one, h]

/-! ## The time base replaced -/

/-- `s` with another time base. -/
def State.withTb (t : TimeBase) (s : State) : State := { s with tb := t }

section withTb
variable (t : TimeBase) (s : State)

@[simp] theorem State.withTb_tb : (s.withTb t).tb = t := rfl
@[simp] theorem State.withTb_uptime : (s.withTb t).uptime = s.uptime := rfl
@[simp] theorem State.withTb_ev : (s.withTb t).ev = s.ev := rfl

end withTb

/-- A time base that shows the same instant and the same LIMPREF: what a fault found under it does is the same. -/
structure TimeBase.Alike (a b : TimeBase) : Prop where
  coarse : a.coarse = b.coarse
  epoch : a.epoch = b.epoch
  limpRef : a.limpRef = b.limpRef

section alike
variable {s : State} {t : TimeBase}

theorem raises_withTb (h : t.Alike s.tb) (ns : List Nat) : raises ns (s.withTb t) = (raises ns s).withTb t := by
  have hn : (s.withTb t).nowBytes = s.nowBytes := by unfold State.nowBytes; rw [State.withTb_tb, h.coarse]
  have hc : (s.withTb t).tb.coarse = s.tb.coarse := h.coarse
  unfold raises
  rw [hn, hc]
  dsimp only [State.withTb_ev, State.withTb_uptime]
  split <;> rfl

theorem raise_withTb (h : t.Alike s.tb) (n : Nat) : raise n (s.withTb t) = (raise n s).withTb t := raises_withTb h [n]

theorem settle_withTb (h : t.Alike s.tb) : settle (s.withTb t) = (settle s).withTb t := by
  have hc : (s.withTb t).limpCond = s.limpCond := by
    unfold State.limpCond
    rw [State.withTb_tb, h.limpRef]
    rfl
  unfold settle
  rw [hc]
  rfl

theorem logEntry_withTb (h : t.Alike s.tb) : logEntry (s.withTb t) = logEntry s := by
  funext id action result
  unfold logEntry
  rw [State.withTb_tb, h.coarse, h.epoch]

theorem detects_withTb (h : t.Alike s.tb) (fs : List Found) : detects fs (s.withTb t) = (detects fs s).withTb t := by
  unfold detects
  split
  · rfl
  · rw [logEntry_withTb h, State.withTb_tb, h.coarse, h.epoch]
    dsimp only
    rw [← settle_withTb (by rw [(raises_said _ _).tb]; exact h)]
    refine congrArg settle ?_
    rw [← raises_withTb (by exact h)]
    rfl

theorem findUnreadable_withTb (h : t.Alike s.tb) (a : Nat) :
    findUnreadable a (s.withTb t) = (findUnreadable a s).withTb t := by
  unfold findUnreadable
  dsimp only [State.withTb]
  split
  · rfl
  · refine Eq.trans (congrArg _ ?_) (detects_withTb (by rw [(raise_said _ _).tb]; exact h) _)
    refine Eq.trans ?_ (raise_withTb (by exact h) 116)
    rfl

theorem checkWord_withTb (h : t.Alike s.tb) (a : Nat) (r : ReadResult) :
    checkWord a r (s.withTb t) = (checkWord a r s).withTb t := by
  cases r with
  | good => rfl
  | corrected =>
    unfold checkWord
    refine Eq.trans ?_ (apply_ite (State.withTb t) (s.ps.rewrite.contains a = true) _ _).symm
    rfl
  | uncorrectable => exact findUnreadable_withTb h a

theorem checkRead_withTb (h : t.Alike s.tb) (a : Nat) : checkRead a (s.withTb t) = (checkRead a s).withTb t := by
  unfold checkRead
  dsimp only [State.withTb]
  split
  · exact checkWord_withTb (s := clearUpset a s) h a _
  · rfl

/-- Words are checked alike under time bases that show the same instant. -/
theorem checkReads_withTb {t : TimeBase} : ∀ (as : List Nat) {s : State}, t.Alike s.tb →
    checkReads as (s.withTb t) = (checkReads as s).withTb t
  | [], _, _ => rfl
  | a :: as, s, h => by
    show checkReads as (checkRead a (s.withTb t)) = (checkReads as (checkRead a s)).withTb t
    rw [checkRead_withTb h, checkReads_withTb as (by rw [(checkRead_stored a s).tb]; exact h)]

end alike

/-- A checked read leaves the temperature in use alone. -/
theorem Stored.theta {s t : State} (h : Stored s t) : t.theta = s.theta := by rw [h]; rfl

/-! ## Losses of REFIN (R14, R15) -/

theorem TbState.not_qualified {x : TbState} (h : x = .freerun ∨ x = .holdover) : x.qualified = false := by
  rcases h with rfl | rfl <;> rfl

theorem TbState.is_qualified {x : TbState} (h : x = .acquire ∨ x = .locked) : x.qualified = true := by
  rcases h with rfl | rfl <;> rfl

/-- The time base after a loss of REFIN in LOCKED at up-time `u`: HOLDOVER, and a span that begins (R15, R22). -/
def TimeBase.lost (t : TimeBase) (u : Nat) : TimeBase :=
  { t with state := .holdover, lossSeen := true, badGates := 0, span := some u, terr := 0, holdMs := 0, theta0 := t.theta }

theorem declareLoss_locked {s : State} (h : s.tb.state = .locked) :
    declareLoss s = raise 8 (s.withTb (s.tb.lost s.uptime)) := by
  unfold declareLoss
  rw [h]
  rfl

/-- A loss while REFIN is qualified raises event 8 and is noted in the time base; beside these it does nothing. -/
theorem declareLoss_qualified {s : State} (h : s.tb.state = .acquire ∨ s.tb.state = .locked) :
    ∃ t : TimeBase, t.lossSeen = true ∧ declareLoss s = raise 8 (s.withTb t) := by
  rcases h with h | h
  · unfold declareLoss
    rw [h]
    dsimp only
    generalize (if s.tb.fromHold = true then TbState.holdover else TbState.freerun) = x
    split
    · exact ⟨_, rfl, rfl⟩
    · exact ⟨_, rfl, rfl⟩
  · exact ⟨_, rfl, declareLoss_locked h⟩

/-! ## Frequency gates (R14, R19) -/

/-- The time base after the verdict and the offset of a gate (R14, R15). -/
def TimeBase.judged (ok : Bool) (ofs : W32) (t : TimeBase) : TimeBase :=
  { t with refFok := ok, refPres := t.refPres || ok, refofs := ofs, badGates := if ok then 0 else t.badGates + 1 }

/-- The time base after a gate of LOCKED operation with residual `x` (R19). -/
def TimeBase.gathered (x : Int) (t : TimeBase) : TimeBase := { t with gates := t.gates + 1, residual := t.residual + x }

/-- In LOCKED a gate reads the words of the polynomial and adds its residual (R19, R372). -/
theorem learnGate_locked {s : State} (h : s.tb.state = .locked) (y : Int) :
    learnGate y s = (checkReads polyWords s).withTb
      (s.tb.gathered (y - (checkReads polyWords s).polynomial s.theta)) := by
  have k := checkReads_stored polyWords s
  unfold learnGate
  rw [if_pos h]
  dsimp only
  rw [k.theta, k.tb]
  rfl

theorem learnGate_unlocked {s : State} (h : s.tb.state ≠ .locked) (y : Int) : learnGate y s = s := if_neg h

/-- The state after a gate of LOCKED operation is judged and its residual gathered. -/
def gateLocked (ok : Bool) (ofs : W32) (y : Int) (s : State) : State :=
  let r := checkReads polyWords s
  r.withTb ((s.tb.judged ok ofs).gathered (y - r.polynomial s.theta))

/-- A gate is judged, its residual is gathered where the state is LOCKED, and only then is a loss decided (R14). -/
theorem frequencyGate_eq (ok : Bool) (ofs : W32) (y : Int) (s : State) :
    frequencyGate ok ofs y s =
      let v := learnGate y (s.withTb (s.tb.judged ok ofs))
      if v.tb.state.qualified && 2 ≤ v.tb.badGates then declareLoss v else v := rfl

/-- In LOCKED a second bad gate in a row declares a loss; any other gate is judged and gathered only (R14, R19). -/
theorem frequencyGate_locked {s : State} (h : s.tb.state = .locked) (ok : Bool) (ofs : W32) (y : Int) :
    frequencyGate ok ofs y s =
      if 2 ≤ (s.tb.judged ok ofs).badGates then declareLoss (gateLocked ok ofs y s) else gateLocked ok ofs y s := by
  have k : learnGate y (s.withTb (s.tb.judged ok ofs)) = gateLocked ok ofs y s := by
    rw [learnGate_locked (by exact h), checkReads_withTb _ (by exact ⟨rfl, rfl, rfl⟩)]
    rfl
  have q : (gateLocked ok ofs y s).tb.state.qualified = true := TbState.is_qualified (.inr h)
  rw [frequencyGate_eq, k]
  dsimp only
  rw [q, Bool.true_and]
  simp only [decide_eq_true_eq]
  rfl

/-- Beside LOCKED a gate is judged only, and declares a loss where REFIN is qualified and two gates in a row were bad. -/
theorem frequencyGate_unlocked {s : State} (h : s.tb.state ≠ .locked) (ok : Bool) (ofs : W32) (y : Int) :
    frequencyGate ok ofs y s =
      if s.tb.state.qualified && 2 ≤ (s.tb.judged ok ofs).badGates then declareLoss (s.withTb (s.tb.judged ok ofs))
      else s.withTb (s.tb.judged ok ofs) := by
  have k : learnGate y (s.withTb (s.tb.judged ok ofs)) = s.withTb (s.tb.judged ok ofs) :=
    learnGate_unlocked (by exact h) y
  rw [frequencyGate_eq, k]
  rfl

theorem TimeBase.judged_good (ofs : W32) (t : TimeBase) :
    t.judged true ofs = { t with refFok := true, refPres := true, refofs := ofs, badGates := 0 } := by
  simp [TimeBase.judged]

theorem TimeBase.judged_bad (ofs : W32) (t : TimeBase) :
    t.judged false ofs = { t with refFok := false, refofs := ofs, badGates := t.badGates + 1 } := by
  simp [TimeBase.judged]

theorem frequencyGate_second_bad {s : State} (h : s.tb.state = .locked) (hb : 1 ≤ s.tb.badGates) (ofs : W32) (y : Int) :
    frequencyGate false ofs y s = declareLoss (gateLocked false ofs y s) := by
  rw [frequencyGate_locked h, TimeBase.judged_bad]
  exact if_pos (Nat.succ_le_succ hb)

theorem refinAbsence_qualified {s : State} (h : s.tb.state = .acquire ∨ s.tb.state = .locked) :
    refinAbsence s = declareLoss (s.withTb { s.tb with refPres := false }) :=
  if_pos (TbState.is_qualified h)

theorem refinAbsence_unqualified {s : State} (h : s.tb.state = .freerun ∨ s.tb.state = .holdover) :
    refinAbsence s = s.withTb { s.tb with refPres := false } :=
  if_neg (Bool.eq_false_iff.mp (TbState.not_qualified h))

theorem phaseLoss_unqualified {s : State} (h : s.tb.state = .freerun ∨ s.tb.state = .holdover) : phaseLoss s = s :=
  if_neg (Bool.eq_false_iff.mp (TbState.not_qualified h))

theorem phaseLoss_qualified {s : State} (h : s.tb.state = .acquire ∨ s.tb.state = .locked) :
    phaseLoss s = declareLoss s := if_pos (TbState.is_qualified h)

/-- What a loss raises and notes, with the queue of commands put back. -/
theorem declareLoss_notes {s : State} (h : s.tb.state = .acquire ∨ s.tb.state = .locked) (p : List Instr) :
    Raised 8 s { declareLoss s with pending := p } ∧ ({ declareLoss s with pending := p } : State).tb.lossSeen = true := by
  obtain ⟨t, ht, e⟩ := declareLoss_qualified h
  rw [e]
  exact ⟨raise_raised 8 (s.withTb t), (congrArg (·.lossSeen) (raise_said 8 (s.withTb t)).tb).trans ht⟩

/-- What a loss in LOCKED leaves, with the queue of commands put back: the time base of HOLDOVER, and event 8. -/
theorem declareLoss_locked_said {s : State} (h : s.tb.state = .locked) {p : List Instr} (hp : s.pending = p) :
    Said (s.withTb (s.tb.lost s.uptime)) { declareLoss s with pending := p } ∧
      Raised 8 s { declareLoss s with pending := p } := by
  rw [declareLoss_locked h]
  exact ⟨(raise_said 8 (s.withTb _)).keep hp, raise_raised 8 (s.withTb _)⟩

/-- Settles O12: a loss of REFIN in LOCKED is one declaration, whichever of the three conditions of R14 found it. -/
theorem refinLossFromLocked : Obligations.RefinLossFromLocked := by
  refine ⟨fun s hl h => ?_, fun s hl h => ?_, fun s ofs y hl h hb => ?_, fun s ofs y hl h hb => ?_⟩
  · refine Completes.of_act (f := refinAbsence) rfl rfl hl ?_
    rw [refinAbsence_qualified (.inr h)]
    exact declareLoss_locked_said (s := s.withTb { s.tb with refPres := false }) h rfl
  · refine Completes.of_act (f := phaseLoss) rfl rfl hl ?_
    rw [phaseLoss_qualified (.inr h)]
    exact declareLoss_locked_said h rfl
  · refine Completes.of_act (f := frequencyGate false ofs y) rfl rfl hl ?_
    have k := checkReads_stored polyWords s
    have d := declareLoss_locked_said (s := gateLocked false ofs y s) h k.pending
    have u : (gateLocked false ofs y s).uptime = s.uptime := k.uptime
    rw [frequencyGate_second_bad h hb]
    rw [u] at d
    unfold gateLocked at d ⊢
    rw [TimeBase.judged_bad] at d ⊢
    exact d
  · refine exec_of_act (f := frequencyGate false ofs y) rfl rfl hl ?_
    have k := checkReads_stored polyWords s
    rw [frequencyGate_locked h, if_neg (by rw [TimeBase.judged_bad]; exact Nat.not_le.mpr (by simp [hb]))]
    unfold gateLocked
    rw [TimeBase.judged_bad, hb, ← k.pending]
    rfl

/-- Settles O13: outside ACQUIRE and LOCKED the three conditions of R14 only write down what was seen; in them each declares
its loss. -/
theorem noLossWhileNotQualified : Obligations.NoLossWhileNotQualified := by
  refine ⟨fun s hl h => ⟨?_, ?_⟩, fun s ok ofs y hl h => ?_, fun s hl h => ⟨?_, ?_⟩, fun s ofs y hl h hb => ?_⟩
  · exact exec_of_act (f := refinAbsence) rfl rfl hl (by rw [refinAbsence_unqualified h]; rfl)
  · exact exec_of_act (f := phaseLoss) rfl rfl hl (by rw [phaseLoss_unqualified h])
  · refine Completes.of_act (f := frequencyGate ok ofs y) rfl rfl hl ?_
    have hq : s.tb.state ≠ .locked := by rcases h with h | h <;> simp [h]
    rw [frequencyGate_unlocked hq, TbState.not_qualified h, Bool.false_and]
    rfl
  · refine Completes.of_act (f := refinAbsence) rfl rfl hl ?_
    rw [refinAbsence_qualified h]
    exact declareLoss_notes (s := s.withTb { s.tb with refPres := false }) h _
  · refine Completes.of_act (f := phaseLoss) rfl rfl hl ?_
    rw [phaseLoss_qualified h]
    exact declareLoss_notes h _
  · refine Completes.of_act (f := frequencyGate false ofs y) rfl rfl hl ?_
    rcases h with h | h
    · have hq : s.tb.state ≠ .locked := by simp [h]
      have e : frequencyGate false ofs y s = declareLoss (s.withTb (s.tb.judged false ofs)) := by
        rw [frequencyGate_unlocked hq, TbState.is_qualified (.inl h), Bool.true_and, TimeBase.judged_bad]
        exact if_pos (decide_eq_true (Nat.succ_le_succ hb))
      rw [e, if_neg hq]
      exact declareLoss_notes (s := s.withTb (s.tb.judged false ofs)) (.inl h) _
    · rw [frequencyGate_second_bad h hb, if_pos h]
      exact declareLoss_notes (s := gateLocked false ofs y s) (.inr h) _

/-! ## Settling and saying -/

/-- Settling decides two fields of the mode's bookkeeping, whatever is said after it. -/
theorem Said.of_settle {v t : State} (h : Said (settle v) t) :
    Said { v with th := { v.th with quietFrom := t.th.quietFrom, limpDue := t.th.limpDue } } t := by
  rw [h.th]
  exact h

/-- Things said before settling stay said. -/
theorem Said.settled {v u : State} (h : Said v u) : Said { v with th := (settle u).th } (settle u) := by
  have e := congrArg (fun w : State => { w with th := (settle u).th }) h
  exact e

/-! ## Reference states and the span (R15, R17, R22, R23) -/

theorem qualificationEnd_accepts {s : State} (he : s.tb.refEn = true) (hp : s.tb.refPres = true) (hf : s.tb.refFok = true)
    (h : s.tb.state = .freerun ∨ s.tb.state = .holdover) :
    qualificationEnd s =
      s.withTb { s.tb with state := .acquire, fromHold := s.tb.state == .holdover, badGates := 0 } := by
  unfold qualificationEnd
  rw [he, hp, hf, TbState.not_qualified h]
  rfl

/-- The time base as LOCKED is entered: the span ends, and no residual is gathered yet (R17, R19, R23). -/
def TimeBase.lockedIn (s : State) : TimeBase :=
  { s.tb with
    state := .locked, gates := 0, residual := 0, span := none, terr := 0, limpRef := false, holdMs := w32 s.holdTime }

theorem acquireComplete_acquire {s : State} (h : s.tb.state = .acquire) :
    acquireComplete s = raise 9 (settle (s.withTb (TimeBase.lockedIn s))) :=
  if_pos h

theorem spanStart_starts {s : State} (h : s.tb.state = .freerun) (he : s.tb.refEn = true) (hs : s.tb.span = none) :
    spanStart s = s.withTb { s.tb with
      startQual := true, span := some s.uptime, terr := 0, holdMs := 0, theta0 := s.tb.theta } :=
  if_pos ⟨h, he, hs⟩

/-- Settles O14: each change of the reference state is one update of the time base; the last clause is the guard of
COARSE_WRAP. -/
theorem referenceStatesAdvance : Obligations.ReferenceStatesAdvance := by
  refine ⟨fun s hl he hp hf h => ?_, fun s hl h => ?_, fun s hl h he hs => ?_, fun s hl h => ?_⟩
  · refine Completes.of_act (f := qualificationEnd) rfl rfl hl ?_
    rw [qualificationEnd_accepts he hp hf h]
    rfl
  · refine Completes.of_act (f := acquireComplete) rfl rfl hl ?_
    rw [acquireComplete_acquire h]
    have k := raise_said 9 (settle (s.withTb (TimeBase.lockedIn s)))
    exact ⟨raise_raised 9 (settle (s.withTb _)), (k.keep rfl).of_settle⟩
  · refine Completes.of_act (f := spanStart) rfl rfl hl ?_
    rw [spanStart_starts h he hs]
    rfl
  · exact exec_of_act (f := coarseWrap) rfl rfl hl (by rw [coarseWrap, if_neg (by omega)])

/-! ## Prediction and learning (R18 to R21) -/

/-- With a valid sensor the time base takes its reading (R18). -/
theorem theta_valid {s : State} (h : s.tb.xsensOk = true) : s.theta = (s.sens (fld s.tb.cfg 12 4)).reading := if_pos h

/-- With a valid sensor an update of 10 ms takes its reading, predicts the crystal from it, and in a span integrates the
uncertainty and the drift away from theta0 into TB.TERR, in units of 5 ps (R18, R21). -/
theorem xtalUpdate_valid {s : State} (h : s.tb.xsensOk = true) :
    xtalUpdate s = (checkReads polyWords s).withTb { s.tb with
      theta := (s.sens (fld s.tb.cfg 12 4)).reading
      y := (checkReads polyWords s).crystal (s.sens (fld s.tb.cfg 12 4)).reading
      terr := if s.tb.span = none then s.tb.terr else
        s.tb.terr + 20 * fld s.tb.hold 16 8 + 5 * ((s.sens (fld s.tb.cfg 12 4)).reading - s.tb.theta0).natAbs } := by
  have k := checkReads_stored polyWords s
  have ht : (if s.tb.span.isSome = true then s.tb.terr + (2 * (10 * s.tb.uncert + 0) +
      5 * ((s.sens (fld s.tb.cfg 12 4)).reading - s.tb.theta0).natAbs) else s.tb.terr) =
      if s.tb.span = none then s.tb.terr else
        s.tb.terr + 20 * fld s.tb.hold 16 8 + 5 * ((s.sens (fld s.tb.cfg 12 4)).reading - s.tb.theta0).natAbs := by
    unfold TimeBase.uncert
    cases s.tb.span <;> simp; omega
  rw [← ht, ← theta_valid h]
  unfold xtalUpdate
  dsimp only
  rw [k.tb, k.theta, h]
  rfl

/-- A limit of R21 that is newly exceeded sets LIMPREF, raises event 10, and is a condition of LIMP. -/
theorem holdLimit_exceeded {s : State} (he : s.limitExceeded = true) (hl : s.tb.limpRef = false) :
    holdLimit s = settle (raise 10 (s.withTb { s.tb with limpRef := true })) :=
  if_pos (by rw [he, hl]; rfl)

/-- TERRMAX is a limit of a running span (R21). -/
theorem limitExceeded_terr {s : State} (hs : s.tb.span ≠ none) (hm : fld s.tb.hold 8 8 ≠ 0)
    (ht : fld s.tb.hold 8 8 * 2000000 < s.tb.terr) : s.limitExceeded = true := by
  have hs : s.tb.span.isSome = true := Option.isSome_iff_ne_none.mpr hs
  unfold State.limitExceeded TimeBase.terrMax
  simp [hs, hm, ht]

/-- Where a LIMP condition holds, settling stops the quiet time, and LIMP is due in a ranging mode (R389, R390). -/
theorem settle_limp {s : State} (h : s.limpCond = true) :
    (settle s).th.quietFrom = none ∧
      (s.th.mode = .sweep ∨ s.th.mode = .watch → (settle s).th.limpDue = true) := by
  unfold settle
  refine ⟨by simp [h], fun hm => ?_⟩
  rcases hm with hm | hm <;> simp [h, hm]

theorem limpCond_of_limpRef {s : State} (h : s.tb.limpRef = true) : s.limpCond = true := by
  unfold State.limpCond
  simp [h]

/-- With LIMPREF set, settling after something was said stops the quiet time, and LIMP is due in a ranging mode. -/
theorem Said.settled_limp {v u : State} (h : Said v u) (hl : v.tb.limpRef = true) :
    Said { v with th := { v.th with quietFrom := none, limpDue := (settle u).th.limpDue } } (settle u) ∧
      (v.th.mode = .sweep ∨ v.th.mode = .watch → (settle u).th.limpDue = true) := by
  obtain ⟨hq, hd⟩ := settle_limp (s := u) (limpCond_of_limpRef (by rw [h.tb]; exact hl))
  have e : (settle u).th = { v.th with quietFrom := none, limpDue := (settle u).th.limpDue } := by
    rw [← hq, ← h.th]
    rfl
  refine ⟨?_, fun hm => hd (by rw [h.th]; exact hm)⟩
  rw [← e]
  exact h.settled

/-- Gates whose mean residual is a whole number of LSB have that mean (R19). -/
theorem meanResidual_whole {t : TimeBase} {m : Int} (hg : t.gates ≠ 0) (h : t.residual = m * 2 ^ 25 * t.gates) :
    t.meanResidual = m := by
  have hd : Int.ofNat (t.gates * 2 ^ 25) ≠ 0 := by simpa using hg
  have hr : t.residual = m * Int.ofNat (t.gates * 2 ^ 25) := by
    have hc : ((2 ^ 25 : Nat) : Int) = 2 ^ 25 := rfl
    rw [h, Int.ofNat_eq_natCast, Int.natCast_mul, hc, Int.mul_assoc, Int.mul_comm (2 ^ 25)]
  unfold TimeBase.meanResidual
  simp only [hr, Int.mul_ediv_cancel _ hd, Int.mul_emod_left, ne_eq, not_true_eq_false, false_and, if_false, Int.add_zero]

/-- LEARN moves by an eighth of a difference that is a multiple of 8 LSB (R19). -/
theorem learned_whole (l d : Int) : learned l (l + 8 * d) = l + d := by
  have e : l + 8 * d - l = 8 * d := by omega
  unfold learned
  dsimp only
  rw [e, Int.mul_ediv_cancel_left d (by decide), Int.mul_emod_right, if_neg (fun h => h.1 rfl), Int.add_zero]

/-- An update less than an hour after the last write learns, and writes no word (R19). -/
theorem learnUpdate_unwritten {s : State} (h : s.tb.state = .locked) (hg : s.tb.gates ≠ 0) (hs : s.tb.learnSince < 35) :
    learnUpdate s = s.withTb { s.tb with
      learn := BitVec.ofInt 32 (learned s.tb.learn.toInt s.tb.meanResidual), gates := 0, residual := 0
      learnSince := s.tb.learnSince + 1 } := by
  have hw : ∀ p : Prop, [Decidable p] → decide (36 ≤ s.tb.learnSince + 1 ∧ p) = false := by
    intro p _
    exact decide_eq_false (fun k => by omega)
  unfold learnUpdate
  rw [if_pos ⟨h, hg⟩]
  dsimp only
  rw [hw]
  rfl

/-- Settles O15: XTAL_UPDATE, HOLD_LIMIT, LEARN_UPDATE and a gate in window are one update of the time base each. -/
theorem holdoverIntegration : Obligations.HoldoverIntegration := by
  refine ⟨fun s hl hx => ?_, fun s hl hs hr hm ht => ?_, fun s d hl h hw hg hr => ?_, fun s ofs y hl h => ?_⟩
  · refine Completes.of_act (f := xtalUpdate) rfl rfl hl ?_
    rw [xtalUpdate_valid hx, ← (checkReads_stored polyWords s).pending]
    rfl
  · refine Completes.of_act (f := holdLimit) rfl rfl hl ?_
    rw [holdLimit_exceeded (limitExceeded_terr hs hm ht) hr]
    obtain ⟨k, d⟩ := (raise_said 10 (s.withTb { s.tb with limpRef := true })).settled_limp rfl
    exact ⟨raise_raised 10 (s.withTb _), k.keep rfl, d⟩
  · refine Completes.of_act (f := learnUpdate) rfl rfl hl ?_
    rw [learnUpdate_unwritten h hg hw, meanResidual_whole hg hr, learned_whole, BitVec.ofInt_add, BitVec.ofInt_toInt]
    rfl
  · refine Completes.of_act (f := frequencyGate true ofs y) rfl rfl hl ?_
    rw [frequencyGate_locked h, if_neg (by rw [TimeBase.judged_good]; exact Nat.not_le.mpr (by simp))]
    unfold gateLocked
    rw [TimeBase.judged_good, ← (checkReads_stored polyWords s).pending]
    rfl

/-! ## Epochs in the streams (R28 to R30, R202) -/

/-- Only events, the trace, the Gallery, the link and the streams differ. -/
def Posted (s t : State) : Prop := t = { s with ev := t.ev, ar := t.ar, gl := t.gl, lk := t.lk, av := t.av }

theorem Posted.trans {s t u : State} (h : Posted s t) (k : Posted t u) : Posted s u := by
  unfold Posted at *
  rw [k, h]

theorem Said.posted {s t : State} (h : Said s t) : Posted s t := by rw [h]; rfl

section fields
variable {s t : State} (h : Posted s t)
include h

theorem Posted.pending : t.pending = s.pending := by rw [h]
theorem Posted.uptime : t.uptime = s.uptime := by rw [h]
theorem Posted.tb : t.tb = s.tb := by rw [h]
theorem Posted.sh : t.sh = s.sh := by rw [h]

end fields

/-- No event is raised but 134, that of frames discarded (R302, R308). -/
def OnlyDrops (s t : State) : Prop := ∀ n, n ≠ 134 → t.ev.get n = s.ev.get n

theorem OnlyDrops.of_ev {s t : State} (h : t.ev = s.ev) : OnlyDrops s t := fun n _ => by rw [h]

theorem OnlyDrops.trans {s t u : State} (h : OnlyDrops s t) (k : OnlyDrops t u) : OnlyDrops s u :=
  fun n hn => (k n hn).trans (h n hn)

theorem raiseIf_onlyDrops (b : Bool) (s : State) : OnlyDrops s (raiseIf b 134 s) := by
  unfold raiseIf
  split
  · exact fun n hn => raises_other s (mt List.mem_singleton.mp hn)
  · exact .of_ev rfl

theorem dropOut_onlyDrops (n : Nat) (s : State) : OnlyDrops s (dropOut n s) := by
  unfold dropOut
  split
  · exact .of_ev rfl
  · exact OnlyDrops.trans (.of_ev rfl) (raiseIf_onlyDrops _ _)

theorem enqueue_onlyDrops (p c : Nat) (o : Out) (s : State) : OnlyDrops s (enqueue p c o s) := by
  unfold enqueue
  simp only []
  split
  · exact (OnlyDrops.of_ev rfl).trans (dropOut_onlyDrops _ _)
  · exact .of_ev rfl

theorem sendHost_onlyDrops (c : Nat) (f : Frame) (s : State) : OnlyDrops s (sendHost c f s) := by
  unfold sendHost
  split
  · exact enqueue_onlyDrops _ _ _ s
  · split
    · exact .of_ev rfl
    · exact dropOut_onlyDrops 1 s

theorem sendResponse_onlyDrops (f : Frame) (dst : Peer) (s : State) : OnlyDrops s (sendResponse f dst s) := by
  unfold sendResponse
  split
  · exact enqueue_onlyDrops _ _ _ s
  · split
    · exact enqueue_onlyDrops _ _ _ s
    · split
      · exact .of_ev rfl
      · exact dropOut_onlyDrops 1 s

theorem answer_onlyDrops (m : Nat) (a : Answer) (now : Start) (s : State) : OnlyDrops s (answer m a now s) := by
  unfold answer respond
  simp only []
  refine OnlyDrops.trans (.of_ev ?_) (sendResponse_onlyDrops _ _ _)
  split <;> rfl

theorem completeNow_onlyDrops (tk : Ticket) (a : Answer) (s : State) : OnlyDrops s (completeNow tk a s) := by
  unfold completeNow
  simp only []
  have h : OnlyDrops s (if (s.box tk.mb).l = tk.seq ∧ (s.box tk.mb).op = tk.op then
      updBox tk.mb (fun b => { b with compl := some a }) s else s) := .of_ev (by split <;> rfl)
  split
  · exact h.trans (enqueue_onlyDrops _ _ _ _)
  · exact h.trans (sendHost_onlyDrops _ _ _)

theorem complete_onlyDrops (tk : Ticket) (a : Answer) (s : State) : OnlyDrops s (complete tk a s) := by
  unfold complete
  split
  · exact .of_ev rfl
  · split
    · exact .of_ev rfl
    · exact completeNow_onlyDrops tk a s

theorem answerBadop_onlyDrops : ∀ (n : Nat) (s : State), OnlyDrops s (answerBadop n s)
  | 0, _ => .of_ev rfl
  | n + 1, s => by
    unfold answerBadop
    split
    · split
      · exact (answer_onlyDrops _ _ _ s).trans (answerBadop_onlyDrops n _)
      · exact .of_ev rfl
    · exact .of_ev rfl

theorem sendReturn_posted (f : Frame) (s : State) : Posted s (sendReturn f s) ∧ OnlyDrops s (sendReturn f s) := by
  unfold sendReturn
  split
  · split
    · split
      · exact ⟨(enqueue_said _ _ _ s).posted, enqueue_onlyDrops _ _ _ s⟩
      · exact ⟨(dropOut_said 1 s).posted, dropOut_onlyDrops 1 s⟩
    · exact ⟨(dropOut_said 1 s).posted, dropOut_onlyDrops 1 s⟩
  · exact ⟨(enqueue_said _ _ _ s).posted, enqueue_onlyDrops _ _ _ s⟩
  · exact ⟨rfl, .of_ev rfl⟩

theorem closeReturn_posted (s : State) : Posted s (closeReturn s) ∧ OnlyDrops s (closeReturn s) := by
  unfold closeReturn
  split
  · exact ⟨rfl, .of_ev rfl⟩
  · obtain ⟨p, d⟩ := sendReturn_posted
      (streamFrame 0x0680 s.lk.retSeq s.deg 1 (s.ar.items.flatMap (fun x => beBytes 16 x.toNat)))
      { s with
        ar := { s.ar with items := [], frameCnt := s.ar.frameCnt + 1 }
        lk := { s.lk with retSeq := s.lk.retSeq + 1 } }
    exact ⟨Posted.trans (by rfl) p, OnlyDrops.trans (.of_ev rfl) d⟩

theorem placeItem_posted (x : BitVec 128) (service : Bool) (s : State) :
    Posted s (placeItem x service s) ∧ OnlyDrops s (placeItem x service s) := by
  unfold placeItem
  simp only []
  split
  · obtain ⟨p, d⟩ := closeReturn_posted { s with ar := { s.ar with items := s.ar.items ++ [x] } }
    exact ⟨Posted.trans (by rfl) p, OnlyDrops.trans (.of_ev rfl) d⟩
  · exact ⟨rfl, .of_ev rfl⟩

/-- The markers of a new epoch enter the trace, the Gallery and the return stream: nothing but these, and the frames that
they close, differs (R29). -/
theorem markers_posted (e : W16) (s : State) :
    Posted s (settleEpoch (galleryWrap (traceMark e s))) ∧ OnlyDrops s (settleEpoch (galleryWrap (traceMark e s))) := by
  have h : Posted s (galleryWrap (traceMark e s)) ∧ (galleryWrap (traceMark e s)).ev = s.ev := by
    unfold galleryWrap traceMark
    split <;> split <;> exact ⟨rfl, rfl⟩
  obtain ⟨hp, he⟩ := h
  generalize galleryWrap (traceMark e s) = u at hp he
  unfold settleEpoch
  split
  · obtain ⟨p, d⟩ := placeItem_posted (epochItem u.tb.epoch) true
      { u with ar := { u.ar with streamOn := true, streamEpoch := u.tb.epoch } }
    exact ⟨(hp.trans (by rfl)).trans p, OnlyDrops.trans (.of_ev he) d⟩
  · exact ⟨hp, .of_ev he⟩

/-- The time base with the epoch advanced (R28). -/
def TimeBase.nextEpoch (t : TimeBase) : TimeBase := { t with epoch := t.epoch + 1, era := t.era + 1 }

/-- The epoch advances: beside the streams only the time base differs. -/
theorem epochAdvance_posted (s : State) : Posted (s.withTb s.tb.nextEpoch) (epochAdvance s) :=
  (markers_posted (s.tb.epoch + 1) (s.withTb s.tb.nextEpoch)).1.trans (raises_said _ _).posted

/-- An advance of the epoch raises event 13, and from 0xFFFF event 14 too (R30). -/
theorem epochAdvance_latched (s : State) :
    ((epochAdvance s).ev.get 13).latched = true ∧
      (s.tb.epoch = 0xFFFF → ((epochAdvance s).ev.get 14).latched = true) := by
  unfold epochAdvance
  refine ⟨raises_latched _ (by split <;> simp), fun h => raises_latched _ (by simp [h])⟩

/-! ## The TBCLK cycle -/

theorem detects_keeps (fs : List Found) {s : State} {n : Nat} (h : (s.ev.get n).latched = true) :
    ((detects fs s).ev.get n).latched = true := by
  unfold detects
  split
  · exact h
  · rw [settle_ev]
    exact raises_keeps _ h

theorem checkFull_stored (n : Nat) (s : State) : Stored s (checkFull n s) := by
  unfold checkFull
  split
  · exact Stored.refl s
  · exact detects_stored _ s

theorem checkFull_keeps (n : Nat) {s : State} {k : Nat} (h : (s.ev.get k).latched = true) :
    ((checkFull n s).ev.get k).latched = true := by
  unfold checkFull
  split
  · exact h
  · exact detects_keeps _ h

/-- Where no queue is FULL as its flight cycle ends, nothing is found (R68). -/
theorem checkFull_none {n : Nat} {s : State} (h : ∀ c ∈ s.fl.chans, c.2.fullAfter n = false) : checkFull n s = s := by
  have e : s.fl.chans.filter (fun c => c.2.fullAfter n) = [] :=
    List.filter_eq_nil_iff.mpr fun c hc => Bool.eq_false_iff.mp (h c hc)
  unfold checkFull
  rw [e]
  split <;> rfl

/-- The count and the up-time of the next cycle. -/
def State.ticked (s : State) : State :=
  { s with uptime := s.uptime + 1, tb := { s.tb with coarse := s.tb.coarse + 1 } }

/-- At the wrap the epoch advances, and the queues are judged where a flight cycle ends (R28, R68). -/
theorem tbCycle_wrap {s : State} (hw : s.tb.coarse.toNat = 2 ^ 54 - 1) (hd : s.tb.due = none) :
    tbCycle s = epochAdvance s.ticked ∨ tbCycle s = checkFull s.cycle (epochAdvance s.ticked) := by
  have e : tbCycle s = if (epochAdvance s.ticked).cycle = s.cycle then epochAdvance s.ticked
      else checkFull s.cycle (epochAdvance s.ticked) := by
    have w : (decide (s.tb.coarse.toNat = 2 ^ 54 - 1) && s.tb.due.isNone) = true := by simp [hw, hd]
    unfold tbCycle
    rw [w]
    rfl
  rw [e]
  split
  · exact .inl rfl
  · exact .inr rfl

/-- In a cycle in which an EPOCH_SET takes effect the epoch does not advance (R34). -/
theorem tbCycle_due {s : State} (hd : s.tb.due ≠ none) (hq : ∀ c ∈ s.fl.chans, c.2.fullAfter s.cycle = false) :
    tbCycle s = s.ticked := by
  have hd : s.tb.due.isNone = false := Bool.eq_false_iff.mpr (mt Option.isNone_iff_eq_none.mp hd)
  have e : tbCycle s = if s.ticked.cycle = s.cycle then s.ticked else checkFull s.cycle s.ticked := by
    unfold tbCycle
    rw [hd, Bool.and_false]
    rfl
  rw [e, checkFull_none (s := s.ticked) hq, ite_self]

theorem coarseWrap_last {s : State} (h : s.tb.coarse.toNat = 2 ^ 54 - 1) : coarseWrap s = tbCycle s := if_pos h

theorem coarse_last_add {c : Coarse} (h : c.toNat = 2 ^ 54 - 1) : c + 1 = 0 :=
  BitVec.eq_of_toNat_eq (by simp [BitVec.toNat_add, h])

/-- Settles O16: the wrap is an advance of the epoch followed at most by faults of the queues, which change neither the time
base nor what is latched. -/
theorem wrapAdvancesEpoch : Obligations.WrapAdvancesEpoch := by
  refine ⟨fun s hl h hd => ?_, fun s hl h hd hq => ?_⟩
  · refine Completes.of_act (f := coarseWrap) rfl rfl hl ?_
    have p := epochAdvance_posted s.ticked
    have hc : (epochAdvance s.ticked).tb.coarse = 0 := by rw [p.tb]; exact coarse_last_add h
    have he : (epochAdvance s.ticked).tb.epoch = s.tb.epoch + 1 := by rw [p.tb]; rfl
    have hu : (epochAdvance s.ticked).uptime = s.uptime + 1 := p.uptime
    obtain ⟨h13, h14⟩ := epochAdvance_latched s.ticked
    rw [coarseWrap_last h]
    rcases tbCycle_wrap h hd with e | e
    · rw [e]
      exact ⟨hc, he, hu, fun k => ⟨he.trans (by rw [k]; rfl), h14 k⟩, h13⟩
    · have q := checkFull_stored s.cycle (epochAdvance s.ticked)
      rw [e]
      exact ⟨(congrArg _ q.tb).trans hc, (congrArg _ q.tb).trans he, q.uptime.trans hu,
        fun k => ⟨(congrArg _ q.tb).trans (he.trans (by rw [k]; rfl)), checkFull_keeps _ (h14 k)⟩,
        checkFull_keeps _ h13⟩
  · refine Completes.of_act (f := coarseWrap) rfl rfl hl ?_
    rw [coarseWrap_last h, tbCycle_due hd hq, State.ticked, coarse_last_add h]

/-! ## Replicas (R26, R408) -/

theorem detect_stored (code unit action : Nat) (stays : Bool) (s : State) : Stored s (detect code unit action stays s) :=
  detects_stored _ s

theorem repair_stored (code unit action : Nat) (s : State) : Stored s (repair code unit action s) :=
  repairId_stored _ _ s

/-- The first mismatch of an island in a while: the fault is found, and ends with the reload (R26, R408). -/
theorem reload_first {s : State} {f : Nat} (ha : s.av.replicaAt = []) (ho : s.outstanding 0x0103 f = false) :
    reload s f =
      let t := repair 0x0103 f 3 (detect 0x0103 f 3 true s)
      { t with
        av := { t.av with replicaAt := Tab.insert t.av.replicaAt f t.uptime }
        tb := { t.tb with replicaOff := Tab.erase t.tb.replicaOff f } } := by
  unfold reload
  rw [ha, ho]
  rfl

/-- A fault that was not outstanding is not outstanding after it is found and repaired, and no other has changed. -/
theorem detect_repair_outst {code unit : Nat} (action : Nat) {s : State} (ho : s.outstanding code unit = false) :
    (repair code unit action (detect code unit action true s)).av.outst = s.av.outst := by
  have hn : (⟨code, unit, 0⟩ : FaultId) ∉ s.av.outst := by
    unfold State.outstanding at ho
    simpa using ho
  rw [repair_outst, detect_outst, ho]
  have hk : s.av.outst.filter (fun x => x ≠ (⟨code, unit, 0⟩ : FaultId)) = s.av.outst :=
    List.filter_eq_self.mpr fun x hx => decide_eq_true (by rintro rfl; exact hn hx)
  rw [List.filter_append, hk]
  simp

/-- A fault that stays is outstanding once it is found. -/
theorem detect_outstanding (code unit action : Nat) (s : State) :
    (detect code unit action true s).outstanding code unit = true := by
  unfold State.outstanding
  rw [detect_outst]
  unfold State.outstanding
  cases h : s.av.outst.contains (⟨code, unit, 0⟩ : FaultId) <;> simp_all

/-- One struck replica beside none that was off is the one replica off. -/
theorem upd_empty_offset (f : Nat) {d : Coarse} (hd : d ≠ 0) :
    Tab.upd (fun _ => (0 : Coarse)) [] f (· + d) = [(f, d)] := by
  have e : (0 : Coarse) + d = d := BitVec.zero_add d
  simp only [Tab.upd, Tab.put, Tab.get, Tab.insert, e, hd, if_false]

/-- The replicas off after the upsets are reloaded one after the other. -/
theorem replicaCompare_eq {us : List (Nat × Coarse)} {s : State} {off : Tab Coarse}
    (h : us.foldl (fun t fo => Tab.upd (fun _ => (0 : Coarse)) t fo.1 (· + fo.2)) s.tb.replicaOff = off) :
    replicaCompare us s = (off.map Prod.fst).foldl reload (s.withTb { s.tb with replicaOff := off }) := by
  unfold replicaCompare
  rw [h]
  rfl

theorem replicaOff_nil_eq {s : State} (h : s.tb.replicaOff = []) : { s.tb with replicaOff := [] } = s.tb := by
  rw [← h]

/-- Settles O17: a comparison that finds one replica struck is one reload, a detection with its repair. -/
theorem replicaReload : Obligations.ReplicaReload := by
  refine ⟨fun s hl h => ?_, fun s f d hl h ha hf hd ho => ?_⟩
  · refine exec_of_act (f := replicaCompare []) rfl rfl hl ?_
    rw [replicaCompare_eq (us := []) (off := []) h, replicaOff_nil_eq h]
    rfl
  · refine Completes.of_act (f := replicaCompare [(f, d)]) rfl (by simp [hf]) hl ?_
    rw [replicaCompare_eq (off := [(f, d)]) (by rw [h]; exact upd_empty_offset f hd)]
    simp only [List.map_cons, List.map_nil, List.foldl_cons, List.foldl_nil]
    generalize hv : s.withTb { s.tb with replicaOff := [(f, d)] } = v
    have hvo : v.outstanding 0x0103 f = false := by rw [← hv]; exact ho
    rw [reload_first (by rw [← hv]; exact ha) hvo]
    have k := (detect_stored 0x0103 f 3 true v).trans (repair_stored 0x0103 f 3 _)
    have hout := detect_repair_outst 3 hvo
    have h193 := repair_latched 3 (detect_outstanding 0x0103 f 3 v)
    have h192 := repair_keeps (code := 0x0103) (unit := f) 3 (detect_latched 0x0103 f 3 true v)
    have hfl := repair_keeps (code := 0x0103) (unit := f) 3
      (detect_flight_latched (code := 0x0103) (unit := f) 3 true v (n := 224 + f) (by simp [flightEvent]))
    have htb : ({ s.tb with replicaOff := Tab.erase [(f, d)] f } : TimeBase) = s.tb := by
      simp only [Tab.erase, if_true]
      exact replicaOff_nil_eq h
    generalize repair 0x0103 f 3 (detect 0x0103 f 3 true v) = u at k hout h193 h192 hfl
    have hs : u.av.outst = s.av.outst := hout.trans (by rw [← hv]; rfl)
    refine ⟨?_, k.sh.trans (by rw [← hv]; rfl), k.mem.trans (by rw [← hv]; rfl), ?_, hs, h192, h193, hfl⟩
    · dsimp only
      rw [k.tb, ← hv]
      exact htb
    · unfold State.outstanding at ho ⊢
      rw [← hs] at ho
      exact ho

/-! ## PPS_IN and the latched count (R35, R36, R41) -/

/-- TB.PPS_ERR lies in its range, and is the count modulo 10^9 (R35). -/
theorem ppsError_range (c : Coarse) :
    -500000000 ≤ ppsError c ∧ ppsError c ≤ 499999999 ∧ (ppsError c - c.toNat) % 1000000000 = 0 := by
  unfold ppsError
  dsimp only
  split <;> omega

/-- TB.PPS_ERR is held in 32 bits without loss. -/
theorem ppsError_toInt (c : Coarse) : (BitVec.ofInt 32 (ppsError c)).toInt = ppsError c := by
  obtain ⟨hl, hu, -⟩ := ppsError_range c
  rw [BitVec.toInt_ofInt]
  exact Int.bmod_eq_of_le (by omega) (by omega)

/-- The time base after an active PPS edge that `off` judges irregular or not (R35, R36). -/
def TimeBase.ppsLatched (off : Bool) (t : TimeBase) : TimeBase :=
  { t with
    pps := t.coarse, ppsErr := BitVec.ofInt 32 (ppsError t.coarse), ppsPres := true, ppsPrev := some t.coarse
    ppsOk := !off }

theorem startWaiters_idle {s : State} (n : Nat) (t : Coarse) (h : s.slotsRun = false) : startWaiters n t s = s :=
  if_pos (by rw [h]; rfl)

/-- An active edge after another one, with no EPOCH_SET and no slot that waits for it (R35, R36). -/
theorem ppsEdge_active {s : State} {p : Coarse} (he : bit s.tb.cfg 7 = true) (hp : s.tb.pend = none)
    (hr : s.slotsRun = false) (hq : s.tb.ppsPrev = some p) :
    ppsEdge (!bit s.tb.cfg 8) s =
      raiseIf (!ppsRegular p s.tb.coarse) 12
        { s with pins := { s.pins with ppsIn := !bit s.tb.cfg 8 }, tb := s.tb.ppsLatched (!ppsRegular p s.tb.coarse) } := by
  have hc : (s.tb.ppsEn && ((!bit s.tb.cfg 8) != bit s.tb.cfg 8)) = true := by
    unfold TimeBase.ppsEn
    rw [he]
    cases bit s.tb.cfg 8 <;> rfl
  have hk : ∀ r : Bool, (if (!r) = true then false else (some p).isSome || s.tb.ppsOk) = !!r := by
    intro r
    cases r <;> rfl
  unfold ppsEdge TimeBase.ppsLatched
  refine Eq.trans (if_pos hc) ?_
  dsimp only
  rw [startWaiters_idle 2 _ (by exact hr)]
  dsimp only
  rw [hq, hp]
  dsimp only
  rw [hk]

/-- Event 12 is raised where an edge came off time, and only there (R36). -/
theorem offTime_said {s v : State} (off : Bool) (hv : v.ev = s.ev) (hu : v.uptime = s.uptime) :
    Said v (raiseIf off 12 v) ∧ (off = false → (raiseIf off 12 v).ev = s.ev) ∧
      (off = true → Raised 12 s (raiseIf off 12 v)) := by
  refine ⟨raiseIf_said off 12 v, ?_, ?_⟩
  · rintro rfl
    exact hv
  · rintro rfl
    have r := raise_raised 12 v
    unfold Raised at r ⊢
    rw [← hv, ← hu]
    exact r

/-- An edge that is not the active one moves the pin only (R35). -/
theorem ppsEdge_inactive (s : State) :
    ppsEdge (bit s.tb.cfg 8) s = { s with pins := { s.pins with ppsIn := bit s.tb.cfg 8 } } :=
  if_neg (by simp)

theorem ppsMissing_watched {s : State} (h : bit s.tb.cfg 7 = true) :
    ppsMissing s = raise 11 (s.withTb { s.tb with ppsOk := false, ppsPres := false }) := if_pos h

/-- Bits 53 to 22 of the count (R41). -/
theorem coarse_high (c : Coarse) : (c >>> 22).truncate 32 = BitVec.ofNat 32 (c.toNat / 2 ^ 22) := by
  refine BitVec.eq_of_toNat_eq ?_
  simp [Nat.shiftRight_eq_div_pow]

/-- Settles O18: an active edge is one update of the time base, with event 12 where it came off time. -/
theorem ppsEdgesAndTheNowLatch : Obligations.PpsEdgesAndTheNowLatch := by
  refine ⟨fun s p hl he hp hr hq => ?_, fun s hl => ?_, fun s hl he => ?_, fun s hl => ?_⟩
  · refine Completes.of_act (f := ppsEdge _) rfl rfl hl ?_
    rw [ppsEdge_active he hp hr hq]
    obtain ⟨k, hreg, hoff⟩ := offTime_said (s := s) (!ppsRegular p s.tb.coarse)
      (v := { s with pins := { s.pins with ppsIn := !bit s.tb.cfg 8 }, tb := s.tb.ppsLatched (!ppsRegular p s.tb.coarse) })
      rfl rfl
    generalize raiseIf (!ppsRegular p s.tb.coarse) 12 _ = u at k hreg hoff ⊢
    have ht : u.tb = s.tb.ppsLatched (!ppsRegular p s.tb.coarse) := k.tb
    have hx : u.tb.ppsErr.toInt = ppsError s.tb.coarse := by rw [ht]; exact ppsError_toInt _
    obtain ⟨hl, hu, hm⟩ := ppsError_range s.tb.coarse
    refine ⟨?_, ?_, ?_, ?_, fun h => ?_, fun h => ?_⟩
    · have e : ({ s.tb with
          pps := s.tb.coarse, ppsErr := u.tb.ppsErr, ppsPres := true, ppsPrev := some s.tb.coarse
          ppsOk := u.tb.ppsOk } : TimeBase) = s.tb.ppsLatched (!ppsRegular p s.tb.coarse) := by
        rw [ht]
        rfl
      dsimp only at e ⊢
      rw [e]
      exact k.keep rfl
    · exact hx ▸ hl
    · exact hx ▸ hu
    · exact hx ▸ hm
    · have hp : ppsRegular p s.tb.coarse = true := decide_eq_true h
      exact ⟨by dsimp only; rw [ht, hp]; rfl, hreg (by rw [hp]; rfl)⟩
    · have hp : ppsRegular p s.tb.coarse = false := decide_eq_false (by omega)
      exact ⟨by dsimp only; rw [ht, hp]; rfl, hoff (by rw [hp]; rfl)⟩
  · exact exec_of_act (f := ppsEdge _) rfl rfl hl (by rw [ppsEdge_inactive])
  · refine Completes.of_act (f := ppsMissing) rfl rfl hl ?_
    rw [ppsMissing_watched he]
    exact ⟨(raise_said 11 (s.withTb _)).keep rfl, raise_raised 11 (s.withTb _)⟩
  · refine Completes.of_act (f := latchNow) rfl rfl hl ⟨?_, rfl⟩
    unfold latchNow
    rw [coarse_high]
    rfl

/-! ## Setting the time (R32, R33) -/

/-- The time base as a count and an epoch are loaded (R33). -/
def TimeBase.loaded (k : Coarse) (e : W16) (s : State) : TimeBase :=
  { s.tb with
    coarse := k, epoch := e, era := s.tb.era + 1, align := s.alignTo k, pend := none, due := none, replicaOff := []
    ppsPrev := s.tb.ppsPrev.map (· + (k - s.tb.coarse)) }

section loadTime
variable (k : Coarse) (e : W16) (s : State)

theorem loadTime_tb : (loadTime k e s).tb = TimeBase.loaded k e s := (markers_posted e _).1.tb
theorem loadTime_sh : (loadTime k e s).sh = s.sh := (markers_posted e _).1.sh
theorem loadTime_pending : (loadTime k e s).pending = s.pending := (markers_posted e _).1.pending
theorem loadTime_onlyDrops : OnlyDrops s (loadTime k e s) := fun n hn => (markers_posted e _).2 n hn

end loadTime

/-- An EPOCH_SET with APPLY 1 or 2 waits for its instant (R32). -/
theorem epochSetOwn_waits {tk : Ticket} {p : List Byte} {s : State} (ha : pNat p 0 1 = 1 ∨ pNat p 0 1 = 2)
    (hk : pNat p 4 8 < 2 ^ 54) (hp : s.tb.pend = none) :
    epochSetOwn tk p s = reply (s.withTb { s.tb with
      pend := some ⟨pNat p 0 1, BitVec.ofNat 16 (pNat p 2 2), BitVec.ofNat 54 (pNat p 4 8), tk⟩, due := none })
      (.plain .ok) := by
  unfold epochSetOwn pByte
  dsimp only
  rw [if_neg (by omega), if_neg (by omega), hp, if_neg (by simp), if_neg (by omega)]
  rfl

/-- An EPOCH_SET with APPLY 0 loads the time at once (R32). -/
theorem epochSetOwn_loads {tk : Ticket} {p : List Byte} {s : State} (ha : pNat p 0 1 = 0) (hk : pNat p 4 8 < 2 ^ 54)
    (hp : s.tb.pend = none) :
    epochSetOwn tk p s =
      reply (loadTime (BitVec.ofNat 54 (pNat p 4 8)) (BitVec.ofNat 16 (pNat p 2 2)) s) (.plain .ok) := by
  unfold epochSetOwn pByte
  dsimp only
  rw [if_neg (by omega), if_neg (by omega), hp, if_neg (by simp), if_pos ha]

/-- The state as a waiting EPOCH_SET takes effect `n` cycles after its instant, at which the count is `k` (R33). -/
def epochApplied (k : Coarse) (n : Nat) (e : W16) (s : State) : State :=
  if 2 ^ 54 ≤ k.toNat + n then epochAdvance (loadTime (k + BitVec.ofNat 54 n) e s)
  else loadTime (k + BitVec.ofNat 54 n) e s

/-- The time base then: the epoch is the one loaded, or the next where the cycles have carried the count past its end. -/
theorem epochApplied_tb (k : Coarse) (n : Nat) (e : W16) (s : State) :
    (epochApplied k n e s).tb = if 2 ^ 54 ≤ k.toNat + n then (TimeBase.loaded (k + BitVec.ofNat 54 n) e s).nextEpoch
      else TimeBase.loaded (k + BitVec.ofNat 54 n) e s := by
  unfold epochApplied
  split
  · rw [(epochAdvance_posted _).tb, State.withTb_tb, loadTime_tb]
  · rw [loadTime_tb]

theorem epochApplied_sh (k : Coarse) (n : Nat) (e : W16) (s : State) : (epochApplied k n e s).sh = s.sh := by
  unfold epochApplied
  split
  · rw [(epochAdvance_posted _).sh]
    exact loadTime_sh _ _ s
  · exact loadTime_sh _ _ s

/-- Event 13 is raised where the count has passed its end, and only there (R28, R30). -/
theorem epochApplied_wrapped {k : Coarse} {n : Nat} (e : W16) (s : State) (h : 2 ^ 54 ≤ k.toNat + n) :
    ((epochApplied k n e s).ev.get 13).latched = true := by
  unfold epochApplied
  rw [if_pos h]
  exact (epochAdvance_latched _).1

theorem epochApplied_unwrapped {k : Coarse} {n : Nat} (e : W16) (s : State) (h : k.toNat + n < 2 ^ 54) :
    (epochApplied k n e s).ev.get 13 = s.ev.get 13 := by
  unfold epochApplied
  rw [if_neg (by omega)]
  exact loadTime_onlyDrops _ e s 13 (by decide)

/-- TSET, set where a marker applied the EPOCH_SET (R249). -/
def State.tsetBy (apply : Nat) (s : State) : State := if apply = 2 then { s with cl := { s.cl with tset := true } } else s

theorem State.tsetBy_tb (apply : Nat) (s : State) : (s.tsetBy apply).tb = s.tb := by unfold State.tsetBy; split <;> rfl
theorem State.tsetBy_sh (apply : Nat) (s : State) : (s.tsetBy apply).sh = s.sh := by unfold State.tsetBy; split <;> rfl
theorem State.tsetBy_ev (apply : Nat) (s : State) : (s.tsetBy apply).ev = s.ev := by unfold State.tsetBy; split <;> rfl

/-- An EPOCH_SET whose instant has come takes effect and completes (R33). -/
theorem epochSetApply_due {s : State} {e : EpochPend} {u : Nat} {dly : Int} (hp : s.tb.pend = some e)
    (hd : s.tb.due = some (u, dly)) :
    epochSetApply s =
      complete e.tk (.okWith (beBytes 8 (e.k + BitVec.ofInt 54 dly).toNat ++ beBytes 2 e.e.toNat))
        ((epochApplied (e.k + BitVec.ofInt 54 dly) (s.uptime - u) e.e s).tsetBy e.apply) := by
  unfold epochSetApply
  rw [hp, hd]
  rfl

/-- A waiting EPOCH_SET that is dropped completes, and waits no longer (R32). -/
theorem epochSetTimeout_waiting {s : State} {e : EpochPend} (hp : s.tb.pend = some e) (hd : s.tb.due = none) :
    epochSetTimeout s = complete e.tk (.plain .fault) (s.withTb { s.tb with pend := none }) := by
  have hb : ({ s.tb with pend := none, due := none } : TimeBase) = { s.tb with pend := none } :=
    congrArg (fun d => { s.tb with pend := none, due := d }) hd.symm
  unfold epochSetTimeout dropEpoch
  rw [hd, hp]
  dsimp only at hb ⊢
  rw [hb]
  rfl

/-- A completion that waits for no restart is stored with its command, while the mailbox holds it (R297). -/
theorem complete_compl {tk : Ticket} {s : State} (a : Answer) (hh : s.av.halt = false) (hr : s.av.restart = false)
    (hl : (s.box tk.mb).l = tk.seq) (ho : (s.box tk.mb).op = tk.op) :
    ((complete tk a s).box tk.mb).compl = some a := by
  unfold complete
  rw [if_neg (by simp [hh]), if_neg (by simp [hr])]
  unfold completeNow
  dsimp only
  rw [if_pos (show (s.box tk.mb).l = tk.seq ∧ (s.box tk.mb).op = tk.op from ⟨hl, ho⟩)]
  split
  · rw [box_congr (enqueue_boxes _ _ _ _), updBox_box_same]
  · rw [box_congr (sendHost_boxes _ _ _), updBox_box_same]

/-- The marker of a master leaves 3,000 ns after its MARK word, and makes a waiting EPOCH_SET due (R249). -/
theorem timeMarker_master {s : State} {c : Coarse} {e : EpochPend} (hm : s.cl.markSent = some c)
    (hc : s.tb.coarse = c + 3000) (hp : s.tb.pend = some e) (ha : e.apply = 2) :
    timeMarker s = { s with
      cl := { s.cl with markSent := none, markWin := none }
      tb := { s.tb with due := some (s.uptime, 0) } } := by
  have hd : ahead s.tb.coarse c = 3000 := by
    unfold ahead
    rw [hc, show c + 3000 - c = 3000 by bv_omega]
    rfl
  unfold timeMarker latchMarker
  rw [hm]
  dsimp only
  rw [if_pos hd, hp]
  dsimp only
  rw [if_pos ha]

/-- Settles O19: an EPOCH_SET waits or loads the time, and the time it loads is that of `loadTime`, with an advance of the
epoch where the cycles since its instant reach the end of the count. -/
theorem settingTheTime : Obligations.SettingTheTime := by
  refine ⟨fun s m p ht hm hlen ha hk hp => ?_, fun s m p ht hm hlen ha hk hp => ?_, fun s e u dly hl hp hd => ?_,
    fun s hl hp hd => ?_, fun s e hl hp hd hh hr hb ho => ?_, fun s c e hl hm hc hp ha => ?_⟩
  · exact Completes.of_lodge (row := anyRow) (own := epochSetOwn) (mode := fun s _ => deepMode s)
      (len := fun p => p.length == 12) rfl ht rfl (by simp [hlen]) hm (epochSetOwn_waits ha hk hp) rfl
  · obtain ⟨t, hx, ht, hans⟩ := Completes.of_lodge (i := .epochSet m) (row := anyRow) (own := epochSetOwn)
      (mode := fun s _ => deepMode s) (len := fun p => p.length == 12) rfl ht rfl (by simp [hlen]) hm
      (epochSetOwn_loads ha hk hp) (loadTime_pending _ _ s)
    refine ⟨t, hx, ?_, ?_, hans⟩
    · rw [ht.tb, loadTime_tb]
      exact Nat.mod_eq_of_lt hk
    · rw [ht.tb, loadTime_tb]
      rfl
  · refine Completes.of_act (f := epochSetApply) rfl rfl hl ?_
    rw [epochSetApply_due hp hd]
    generalize hc : e.k + BitVec.ofInt 54 dly = c
    generalize hn : s.uptime - u = n
    generalize Answer.okWith _ = a
    have k := complete_said e.tk a ((epochApplied c n e.e s).tsetBy e.apply)
    have o := complete_onlyDrops e.tk a ((epochApplied c n e.e s).tsetBy e.apply) 13 (by decide)
    have htb := k.tb.trans ((State.tsetBy_tb _ _).trans (epochApplied_tb c n e.e s))
    have hsh := k.sh.trans ((State.tsetBy_sh _ _).trans (epochApplied_sh c n e.e s))
    rw [State.tsetBy_ev] at o
    generalize complete e.tk a _ = t at htb hsh o ⊢
    by_cases hw : 2 ^ 54 ≤ c.toNat + n
    · rw [if_pos hw] at htb
      have ho := (congrArg Source.latched o).trans (epochApplied_wrapped e.e s hw)
      exact ⟨congrArg (·.coarse) htb, congrArg (·.pend) htb, congrArg (·.due) htb, hsh, fun h => absurd h (by omega),
        fun _ => ⟨congrArg (·.epoch) htb, ho⟩⟩
    · rw [if_neg hw] at htb
      have ho := o.trans (epochApplied_unwrapped e.e s (by omega))
      exact ⟨congrArg (·.coarse) htb, congrArg (·.pend) htb, congrArg (·.due) htb, hsh,
        fun _ => ⟨congrArg (·.epoch) htb, ho⟩, fun h => absurd h hw⟩
  · obtain ⟨e, hp⟩ := Option.ne_none_iff_exists'.mp hp
    refine Completes.of_act (f := epochSetTimeout) rfl rfl hl ?_
    rw [epochSetTimeout_waiting hp hd]
    exact (complete_said _ _ (s.withTb _)).keep rfl
  · refine Completes.of_act (f := epochSetTimeout) rfl rfl hl ?_
    rw [epochSetTimeout_waiting hp hd]
    exact complete_compl (s := s.withTb _) (.plain .fault) hh hr hb ho
  · refine Completes.of_act (f := timeMarker) rfl rfl hl ?_
    rw [timeMarker_master hm hc hp ha]

/-! ## TB_CFG (R39) -/

/-- TB_CFG may change, of the time base, what R22, R23 and R39 name, and with a span it may change what is due of LIMP;
beside these only things are said. -/
def Configured (s t : State) : Prop :=
  Said { s with
    tb := { s.tb with
      cfg := t.tb.cfg, hold := t.tb.hold, xsensOk := t.tb.xsensOk, state := t.tb.state, span := t.tb.span
      terr := t.tb.terr, limpRef := t.tb.limpRef, holdMs := t.tb.holdMs, theta0 := t.tb.theta0 }
    th := { s.th with quietFrom := t.th.quietFrom, limpDue := t.th.limpDue } } t

theorem Configured.trans {s t u : State} (h : Configured s t) (k : Configured t u) : Configured s u := by
  unfold Configured Said at *
  rw [k, h]

theorem Said.configured {s t : State} (h : Said s t) : Configured s t := by
  unfold Configured
  rw [h.tb, h.th]
  exact h

/-- XSENSOK after TB.CFG has taken a value: decided anew where it selects another sensor than before (R20). -/
def sensorChosen (old : TimeBase) (s : State) : State :=
  if old.xsens ≠ s.tb.xsens then
    raiseIf (!(s.fitted s.tb.xsens && !(s.sens s.tb.xsens).fail) && old.xsensOk) 15
      (s.withTb { s.tb with xsensOk := s.fitted s.tb.xsens && !(s.sens s.tb.xsens).fail })
  else s

/-- The span and the reference state after REFEN has taken a value (R22, R23). -/
def refEnTaken (old : TimeBase) (s : State) : State :=
  if old.refEn && !s.tb.refEn then endSpan (s.withTb { s.tb with state := .freerun })
  else if !old.refEn && s.tb.refEn && s.tb.startQual && s.tb.state == .freerun then startSpan s
  else s

theorem setTbCfg_eq (new : W32) (s : State) :
    setTbCfg new s =
      refEnTaken s.tb (sensorChosen s.tb (s.withTb { s.tb with cfg := new &&& tbCfgMask })) := rfl

/-- Choosing a sensor sets XSENSOK only, and may raise event 15. -/
theorem sensorChosen_said (old : TimeBase) (s : State) :
    Said (s.withTb { s.tb with xsensOk := (sensorChosen old s).tb.xsensOk }) (sensorChosen old s) := by
  unfold sensorChosen
  split
  · have k := raiseIf_said (!(s.fitted s.tb.xsens && !(s.sens s.tb.xsens).fail) && old.xsensOk) 15
      (s.withTb { s.tb with xsensOk := s.fitted s.tb.xsens && !(s.sens s.tb.xsens).fail })
    rw [k.tb]
    exact k
  · rfl

theorem sensorChosen_same {old : TimeBase} {s : State} (h : old.xsens = s.tb.xsens) : sensorChosen old s = s :=
  if_neg (not_not_intro h)

/-- Another sensor is valid where it is fitted and has not failed; the loss of a valid one raises event 15 (R20). -/
theorem sensorChosen_other {old : TimeBase} {s : State} (h : old.xsens ≠ s.tb.xsens) :
    (sensorChosen old s).tb.xsensOk = (s.fitted s.tb.xsens && !(s.sens s.tb.xsens).fail) ∧
      (old.xsensOk = true → (sensorChosen old s).tb.xsensOk = false →
        ((sensorChosen old s).ev.get 15).latched = true) := by
  have hx : (sensorChosen old s).tb.xsensOk = (s.fitted s.tb.xsens && !(s.sens s.tb.xsens).fail) := by
    unfold sensorChosen
    rw [if_pos h, (raiseIf_said _ _ _).tb]
    rfl
  refine ⟨hx, fun ho hf => ?_⟩
  rw [hx] at hf
  unfold sensorChosen
  rw [if_pos h, hf, ho]
  exact raises_latched _ (List.mem_singleton_self 15)

theorem refEnTaken_cleared {old : TimeBase} {s : State} (ho : old.refEn = true) (hn : s.tb.refEn = false) :
    refEnTaken old s = endSpan (s.withTb { s.tb with state := .freerun }) := if_pos (by rw [ho, hn]; rfl)

theorem refEnTaken_set {old : TimeBase} {s : State} (ho : old.refEn = false) (hn : s.tb.refEn = true)
    (hq : s.tb.startQual = true) (hf : s.tb.state = .freerun) : refEnTaken old s = startSpan s := by
  unfold refEnTaken
  rw [ho, hn, hq, hf]
  rfl

theorem refEnTaken_kept {old : TimeBase} {s : State}
    (h : old.refEn = s.tb.refEn ∨ s.tb.refEn = true ∧ (s.tb.startQual = false ∨ s.tb.state ≠ .freerun)) :
    refEnTaken old s = s := by
  unfold refEnTaken
  rcases h with h | ⟨hn, hq | hf⟩
  · rw [h]
    cases s.tb.refEn <;> rfl
  · rw [hn, hq]
    cases old.refEn <;> rfl
  · have hf : (s.tb.state == .freerun) = false := beq_eq_false_iff_ne.mpr hf
    rw [hn, hf, Bool.and_false, Bool.not_true, Bool.and_false]
    rfl

theorem refEnTaken_configured (old : TimeBase) (s : State) : Configured s (refEnTaken old s) := by
  unfold refEnTaken
  split
  · rfl
  · split <;> rfl

theorem refEnTaken_ev (old : TimeBase) (s : State) : (refEnTaken old s).ev = s.ev := by
  unfold refEnTaken
  split
  · rfl
  · split <;> rfl

theorem holdTime_congr {s t : State} (hs : t.tb.span = s.tb.span) (hu : t.uptime = s.uptime)
    (hm : t.tb.holdMs = s.tb.holdMs) : t.holdTime = s.holdTime := by
  unfold State.holdTime
  rw [hs, hu, hm]

/-- The time base once TB.CFG has its value and the sensor is chosen. -/
theorem sensorChosen_tb {new : W32} {s c : State} (hc : new &&& tbCfgMask = new)
    (h : sensorChosen s.tb (s.withTb { s.tb with cfg := new &&& tbCfgMask }) = c) :
    c.tb = { s.tb with cfg := new, xsensOk := c.tb.xsensOk } ∧ c.uptime = s.uptime := by
  have k := sensorChosen_said s.tb (s.withTb { s.tb with cfg := new &&& tbCfgMask })
  rw [h, hc] at k
  exact ⟨k.tb, k.uptime⟩

section setTbCfg
variable {new : W32} {s : State} (hc : new &&& tbCfgMask = new)
include hc

theorem setTbCfg_cfg_hold : (setTbCfg new s).tb.cfg = new ∧ (setTbCfg new s).tb.hold = s.tb.hold ∧
    (setTbCfg new s).tb.xsensOk = (sensorChosen s.tb (s.withTb { s.tb with cfg := new })).tb.xsensOk := by
  rw [setTbCfg_eq]
  obtain ⟨ht, -⟩ := sensorChosen_tb hc rfl
  rw [hc] at ht ⊢
  generalize sensorChosen s.tb (s.withTb { s.tb with cfg := new }) = c at ht ⊢
  have k : ∀ d : State, d.tb.cfg = c.tb.cfg ∧ d.tb.hold = c.tb.hold ∧ d.tb.xsensOk = c.tb.xsensOk →
      d.tb.cfg = new ∧ d.tb.hold = s.tb.hold ∧ d.tb.xsensOk = c.tb.xsensOk := by
    rintro d ⟨h1, h2, h3⟩
    exact ⟨h1.trans (congrArg (·.cfg) ht), h2.trans (congrArg (·.hold) ht), h3⟩
  refine k _ ?_
  unfold refEnTaken
  split
  · exact ⟨rfl, rfl, rfl⟩
  · split <;> exact ⟨rfl, rfl, rfl⟩

/-- Clearing REFEN enters FREERUN and ends the span (R23). -/
theorem setTbCfg_cleared (ho : bit s.tb.cfg 4 = true) (hn : bit new 4 = false) :
    (setTbCfg new s).tb.state = .freerun ∧ (setTbCfg new s).tb.span = none ∧ (setTbCfg new s).tb.terr = 0 ∧
      (setTbCfg new s).tb.limpRef = false ∧ (setTbCfg new s).tb.holdMs = w32 s.holdTime ∧
      (setTbCfg new s).tb.theta0 = s.tb.theta0 := by
  rw [setTbCfg_eq]
  obtain ⟨ht, hu⟩ := sensorChosen_tb hc rfl
  generalize sensorChosen s.tb _ = c at ht hu ⊢
  rw [refEnTaken_cleared ho ((congrArg (·.refEn) ht).trans hn)]
  have hh : (c.withTb { c.tb with state := .freerun }).holdTime = s.holdTime :=
    holdTime_congr (congrArg (·.span) ht) hu (congrArg (·.holdMs) ht)
  exact ⟨rfl, rfl, rfl, rfl, congrArg w32 hh, congrArg (·.theta0) ht⟩

/-- Setting REFEN in FREERUN begins a span, once the start-up time has passed (R22). -/
theorem setTbCfg_set (ho : bit s.tb.cfg 4 = false) (hn : bit new 4 = true) (hq : s.tb.startQual = true)
    (hf : s.tb.state = .freerun) :
    (setTbCfg new s).tb.state = .freerun ∧ (setTbCfg new s).tb.span = some s.uptime ∧ (setTbCfg new s).tb.terr = 0 ∧
      (setTbCfg new s).tb.limpRef = s.tb.limpRef ∧ (setTbCfg new s).tb.holdMs = 0 ∧
      (setTbCfg new s).tb.theta0 = s.tb.theta := by
  rw [setTbCfg_eq]
  obtain ⟨ht, hu⟩ := sensorChosen_tb hc rfl
  generalize sensorChosen s.tb _ = c at ht hu ⊢
  rw [refEnTaken_set ho ((congrArg (·.refEn) ht).trans hn) ((congrArg (·.startQual) ht).trans hq)
    ((congrArg (·.state) ht).trans hf)]
  exact ⟨(congrArg (·.state) ht).trans hf, congrArg some hu, rfl, congrArg (·.limpRef) ht, rfl, congrArg (·.theta) ht⟩

/-- Else the reference state and the span stay. -/
theorem setTbCfg_kept
    (h : bit s.tb.cfg 4 = bit new 4 ∨ bit new 4 = true ∧ (s.tb.startQual = false ∨ s.tb.state ≠ .freerun)) :
    (setTbCfg new s).tb.state = s.tb.state ∧ (setTbCfg new s).tb.span = s.tb.span ∧ (setTbCfg new s).tb.terr = s.tb.terr ∧
      (setTbCfg new s).tb.limpRef = s.tb.limpRef ∧ (setTbCfg new s).tb.holdMs = s.tb.holdMs ∧
      (setTbCfg new s).tb.theta0 = s.tb.theta0 := by
  rw [setTbCfg_eq]
  obtain ⟨ht, hu⟩ := sensorChosen_tb hc rfl
  generalize sensorChosen s.tb _ = c at ht hu ⊢
  have hr : c.tb.refEn = bit new 4 := congrArg (·.refEn) ht
  have hq : c.tb.startQual = s.tb.startQual := congrArg (·.startQual) ht
  have hf : c.tb.state = s.tb.state := congrArg (·.state) ht
  rw [refEnTaken_kept (by rw [hr, hq, hf]; exact h)]
  exact ⟨hf, congrArg (·.span) ht, congrArg (·.terr) ht, congrArg (·.limpRef) ht, congrArg (·.holdMs) ht,
    congrArg (·.theta0) ht⟩

/-- The same sensor leaves XSENSOK alone; another decides it anew (R20). -/
theorem setTbCfg_xsens :
    (fld s.tb.cfg 12 4 = fld new 12 4 → (setTbCfg new s).tb.xsensOk = s.tb.xsensOk) ∧
      (fld s.tb.cfg 12 4 ≠ fld new 12 4 →
        (setTbCfg new s).tb.xsensOk = (s.fitted (fld new 12 4) && !(s.sens (fld new 12 4)).fail) ∧
        (s.tb.xsensOk = true → (setTbCfg new s).tb.xsensOk = false → ((setTbCfg new s).ev.get 15).latched = true)) := by
  obtain ⟨-, -, hx⟩ := setTbCfg_cfg_hold (s := s) hc
  have he : (setTbCfg new s).ev = (sensorChosen s.tb (s.withTb { s.tb with cfg := new })).ev := by
    rw [setTbCfg_eq, refEnTaken_ev, hc]
  rw [hx, he]
  refine ⟨fun h => ?_, fun h => sensorChosen_other (s := s.withTb { s.tb with cfg := new }) h⟩
  rw [sensorChosen_same (s := s.withTb { s.tb with cfg := new }) h]
  rfl

end setTbCfg

theorem setTbCfg_configured (new : W32) (s : State) : Configured s (setTbCfg new s) := by
  rw [setTbCfg_eq]
  refine Configured.trans ?_ (refEnTaken_configured s.tb _)
  have k := sensorChosen_said s.tb (s.withTb { s.tb with cfg := new &&& tbCfgMask })
  generalize sensorChosen s.tb (s.withTb { s.tb with cfg := new &&& tbCfgMask }) = c at k ⊢
  exact Configured.trans (by rfl) k.configured

/-! ### The checks of TB_CFG -/

/-- REFSEL lies within the writable bits of TB.CFG. -/
theorem fld_refSel_masked (x : W32) : fld (x &&& tbCfgMask) 0 2 = fld x 0 2 := by
  unfold fld bits tbCfgMask
  simp only [BitVec.toNat_and, Nat.pow_zero, Nat.div_one, Nat.and_mod_two_pow]
  exact Nat.and_two_pow_sub_one_of_lt_two_pow (n := 2) (Nat.mod_lt _ (by decide))

/-- A mode that a change of REFSEL, REFEN or XSENS is not accepted in (R39). -/
theorem tbCfgModeOk_iff (s : State) (new : W32) :
    tbCfgModeOk s new = true ↔ deepMode s = true ∨ (s.tb.cfg ^^^ new) &&& 0xF013 = 0 := by
  unfold tbCfgModeOk
  rw [Bool.or_eq_true, beq_iff_eq]

section own
variable {tk : Ticket} {p : List Byte} {s : State}

theorem tbCfgOwn_wrong_mode (hw : (pNat p 0 1).testBit 0 = true) (hm : tbCfgModeOk s (pWord p 4 &&& tbCfgMask) = false) :
    tbCfgOwn tk p s = reply s (.plain .mode) := by
  unfold tbCfgOwn pByte
  exact if_pos (by rw [hw, hm]; rfl)

theorem tbCfgOwn_bad_refSel (hw : (pNat p 0 1).testBit 0 = true) (hm : tbCfgModeOk s (pWord p 4 &&& tbCfgMask) = true)
    (hr : fld (pWord p 4) 0 2 = 3) : tbCfgOwn tk p s = reply s (.badarg 7) := by
  unfold tbCfgOwn pByte
  dsimp only
  rw [hw, hm, fld_refSel_masked, hr]
  simp

theorem tbCfgOwn_hold_zero (hw : pNat p 0 1 = 2) (hq : fld (pWord p 8) 24 8 = 0) :
    tbCfgOwn tk p s = reply s (.badarg 8) := by
  unfold tbCfgOwn pByte
  dsimp only
  rw [hw, hq]
  rfl

theorem tbCfgOwn_hold (hw : pNat p 0 1 = 2) (hq : fld (pWord p 8) 24 8 ≠ 0) :
    tbCfgOwn tk p s = reply (s.withTb { s.tb with hold := pWord p 8 }) (.plain .ok) := by
  have hq : (fld (pWord p 8) 24 8 == 0) = false := beq_eq_false_iff_ne.mpr hq
  unfold tbCfgOwn pByte
  dsimp only
  rw [hw, hq]
  rfl

/-- TB.HOLD as a TB_CFG leaves it. -/
def holdTaken (p : List Byte) (s : State) : State :=
  if (pNat p 0 1).testBit 1 then s.withTb { s.tb with hold := pWord p 8 } else s

/-- The commit of P.TB_BOOT, where BOOT asks for it. -/
def bootTaken (p : List Byte) (s : State) : Bool × State :=
  if (pNat p 0 1).testBit 2 then commit 0x01000200 (pWord p 4 &&& tbCfgMask) s else (true, s)

/-- A TB_CFG that passes its checks: with BOOT the word commits first, else WORN (R39, R371). -/
theorem tbCfgOwn_accepted (hw : (pNat p 0 1).testBit 0 = true) (hm : tbCfgModeOk s (pWord p 4 &&& tbCfgMask) = true)
    (hr : fld (pWord p 4) 0 2 ≠ 3) (hq : (pNat p 0 1).testBit 1 = true → fld (pWord p 8) 24 8 ≠ 0) :
    tbCfgOwn tk p s =
      if (bootTaken p s).1 then reply (holdTaken p (setTbCfg (pWord p 4 &&& tbCfgMask) (bootTaken p s).2)) (.plain .ok)
      else reply (bootTaken p s).2 { status := .worn, arg := 0, data := [0, 0, 0, 0] } := by
  have hr : (fld (pWord p 4 &&& tbCfgMask) 0 2 == 3) = false := by
    rw [fld_refSel_masked]
    exact beq_eq_false_iff_ne.mpr hr
  have hq : ((pNat p 0 1).testBit 1 && fld (pWord p 8) 24 8 == 0) = false := by
    cases h : (pNat p 0 1).testBit 1
    · rfl
    · exact beq_eq_false_iff_ne.mpr (hq h)
  unfold tbCfgOwn pByte
  dsimp only
  rw [hw, hm, hr, hq]
  simp only [Bool.not_true, Bool.and_false, Bool.false_and, Bool.or_self, Bool.false_eq_true, if_false]
  unfold bootTaken
  generalize (if (pNat p 0 1).testBit 2 = true then commit 0x01000200 (pWord p 4 &&& tbCfgMask) s else (true, s)) = r
  obtain ⟨ok, u⟩ := r
  cases ok <;> rfl

end own

/-- A command of the Lodge raises no event in its answer but that of frames discarded. -/
theorem Completes.of_lodge_drops {i : Instr} {m op : Nat} {row len : List Byte → Bool} {mode : State → List Byte → Bool}
    {own : Ticket → List Byte → State → Reply} {s u : State} {p : List Byte} {a : Answer}
    (he : exec i s = act (m < 32) (lodge m op row len mode own) s) (h : Takes s m op p)
    (hrow : row p = true) (hlen : len p = true) (hmode : mode s p = true)
    (ho : own (s.ticket m) p s = reply u a) (hp : u.pending = s.pending) :
    Completes i s (fun t => Said u t ∧ Answered m a t ∧ OnlyDrops u t) := by
  obtain ⟨k, ka⟩ := lodge_own (own := own) (a := a) h hrow hlen hmode (by rw [ho]; rfl)
  rw [ho] at k
  obtain ⟨hm, hl, hr, hn, hop, hpl⟩ := h
  refine Completes.of_act he (by simpa using hm) hl ⟨k.keep hp, ka, ?_⟩
  have e : lodge m op row len mode own s = answerBadop 32 (answer m a s.start u) := by
    unfold lodge
    simp only [hr, hn, hop, hpl, hrow, hlen, hmode, ho, reply, Bool.not_true, and_self, if_true, if_false,
      Bool.false_eq_true]
  rw [e]
  exact (answer_onlyDrops m a s.start u).trans (answerBadop_onlyDrops 32 _)

theorem bootTaken_stored (p : List Byte) (s : State) : Stored s (bootTaken p s).2 := by
  unfold bootTaken
  split
  · exact commit_stored _ _ s
  · exact Stored.refl s

theorem holdTaken_tb (p : List Byte) (s : State) :
    (holdTaken p s).tb = { s.tb with hold := if (pNat p 0 1).testBit 1 then pWord p 8 else s.tb.hold } := by
  unfold holdTaken
  cases (pNat p 0 1).testBit 1 <;> rfl

theorem holdTaken_ev (p : List Byte) (s : State) : (holdTaken p s).ev = s.ev := by
  unfold holdTaken
  split <;> rfl

theorem holdTaken_configured (p : List Byte) (s : State) : Configured s (holdTaken p s) := by
  unfold holdTaken
  split <;> rfl

theorem Completes.mono {i : Instr} {s : State} {P Q : State → Prop} (h : Completes i s P) (k : ∀ t, P t → Q t) :
    Completes i s Q :=
  let ⟨t, e, ht⟩ := h
  ⟨t, e, k t ht⟩

/-- A TB_CFG of 12 bytes that the Lodge takes completes with what its own rule yields, in every mode. -/
theorem tbCfg_completes {s u : State} {m : Nat} {p : List Byte} {a : Answer} (ht : Takes s m 0x0301 p)
    (hlen : p.length = 12) (ho : tbCfgOwn (s.ticket m) p s = reply u a) (hp : u.pending = s.pending) :
    Completes (.tbCfg m) s (fun t => Said u t ∧ Answered m a t ∧ OnlyDrops u t) :=
  Completes.of_lodge_drops (row := anyRow) (len := fun p => p.length == 12) (mode := anyMode) rfl ht rfl
    (beq_iff_eq.mpr hlen) rfl ho hp

theorem tbCfg_answers {s u : State} {m : Nat} {p : List Byte} {a : Answer} (ht : Takes s m 0x0301 p)
    (hlen : p.length = 12) (ho : tbCfgOwn (s.ticket m) p s = reply u a) (hp : u.pending = s.pending) :
    Completes (.tbCfg m) s (fun t => Said u t ∧ Answered m a t) :=
  (tbCfg_completes ht hlen ho hp).mono fun _ ⟨k, ka, _⟩ => ⟨k, ka⟩

/-- Settles O20: the checks of TB_CFG in their order, and what TB.CFG and TB.HOLD take after the commit. -/
theorem tbCfgAnswers : Obligations.TbCfgAnswers := by
  refine ⟨fun s m p ht hlen hw hm hx => ?_, fun s m p ht hlen hw hm hr => ?_, fun s m p ht hlen hw hq => ?_,
    fun s m p ht hlen hw hq => ?_, fun s m p ht hlen hw hr hq hm => ?_⟩
  · have hm : tbCfgModeOk s (pWord p 4 &&& tbCfgMask) = false := by
      rw [← Bool.not_eq_true, tbCfgModeOk_iff, hm]
      exact fun h => h.elim (by decide) hx
    exact tbCfg_answers ht hlen (tbCfgOwn_wrong_mode hw hm) rfl
  · exact tbCfg_answers ht hlen (tbCfgOwn_bad_refSel hw ((tbCfgModeOk_iff _ _).mpr (.inl hm)) hr) rfl
  · exact tbCfg_answers ht hlen (tbCfgOwn_hold_zero hw hq) rfl
  · exact tbCfg_answers ht hlen (tbCfgOwn_hold hw hq) rfl
  · have own := tbCfgOwn_accepted (tk := s.ticket m) hw ((tbCfgModeOk_iff _ _).mpr hm) hr hq
    have hu := bootTaken_stored p s
    cases hb : (bootTaken p s).1
    · rw [hb] at own
      refine (tbCfg_completes ht hlen own hu.pending).mono fun t ⟨k, ka, _⟩ => ⟨fun _ => ⟨k, ka⟩, fun h => ?_⟩
      exact absurd (hb.symm.trans h) (by decide)
    · rw [hb] at own
      have hc : (pWord p 4 &&& tbCfgMask) &&& tbCfgMask = pWord p 4 &&& tbCfgMask := by
        rw [BitVec.and_assoc, BitVec.and_self]
      have kw := (setTbCfg_configured (pWord p 4 &&& tbCfgMask) (bootTaken p s).2).trans (holdTaken_configured p _)
      refine (tbCfg_completes ht hlen own (kw.pending.trans hu.pending)).mono
        fun t ⟨k, ka, kd⟩ => ⟨fun h => ?_, fun _ => ?_⟩
      · exact absurd (hb.symm.trans h) (by decide)
      obtain ⟨hcfg, hhold, -⟩ := setTbCfg_cfg_hold (s := (bootTaken p s).2) hc
      obtain ⟨hsame, hother⟩ := setTbCfg_xsens (s := (bootTaken p s).2) hc
      have hcl := setTbCfg_cleared (s := (bootTaken p s).2) hc
      have hset := setTbCfg_set (s := (bootTaken p s).2) hc
      have hkept := setTbCfg_kept (s := (bootTaken p s).2) hc
      have hht := holdTime_congr (congrArg (·.span) hu.tb) hu.uptime (congrArg (·.holdMs) hu.tb)
      have kc := kw.trans k.configured
      unfold Configured at kc
      have htb := k.tb.trans (holdTaken_tb p _)
      have hev := (kd 15 (by decide)).trans (congrArg (Events.get · 15) (holdTaken_ev p _))
      rw [hu.tb] at hhold hsame hother hcl hset hkept kc
      rw [hht] at hcl
      rw [hu.uptime] at hset
      refine ⟨ka, ?_, ?_, ?_, ?_, ?_, ?_, ?_, kc⟩
      · rw [htb]; exact hcfg
      · rw [htb, ← hhold]
      · rw [htb]; exact hsame
      · rw [htb, hev]; exact hother
      · rw [htb]; exact hcl
      · rw [htb]; exact hset
      · rw [htb]; exact hkept

end Sys2Proof.Machine
end

section
/-!
PROOFS. The stamp channels (chapter 2): edges, converters, the push port and the queue, and the substitution of cores.
-/
namespace Sys2Proof.Machine

/-- A command whose effect leaves the queue of commands alone completes with its effect. -/
theorem Completes.of_kept {i : Instr} {s : State} {ok : Bool} {f : State → State} {P : State → Prop}
    (he : exec i s = act ok f s) (hok : ok = true) (hl : s.live = true) (hp : (f s).pending = s.pending)
    (hP : P (f s)) : Completes i s P :=
  ⟨f s, he.trans (act_live hok hl hp), hP⟩

/-! ## Converters (R49, R50, R78 to R81) -/

/-- The first converter in cyclic order is taken where it is admitted. -/
theorem nextConv_first {p : Nat → Bool} {v : Nat} (n : Nat) (h : p ((v + 1) % 8) = true) :
    nextConv p v (n + 1) = some ((v + 1) % 8) := by
  unfold nextConv
  exact if_pos h

/-- No converter of an idle core is occupied, by a conversion of either kind. -/
theorem Core.idle_stamping {c : Core} (h : c.busy = []) (v : Nat) : c.stamping v = false := by
  unfold Core.stamping
  rw [h]
  rfl

theorem Core.idle_occupied {c : Core} (h : c.busy = []) (v : Nat) : c.occupied v = false := by
  unfold Core.occupied
  rw [h]
  rfl

theorem Core.idle_calCode {c : Core} (h : c.busy = []) (v : Nat) : c.calCode v = none := by
  unfold Core.calCode
  rw [h]
  rfl

/-- On an idle core the next converter in cyclic order is free of stamp conversions. -/
theorem idle_nextConv {c : Core} (h : c.busy = []) (v n : Nat) :
    nextConv (fun u => !c.stamping u) v (n + 1) = some ((v + 1) % 8) :=
  nextConv_first n (by rw [Core.idle_stamping h]; rfl)

/-- Two changes of a core that agree on it are one. -/
theorem updCore_congr {x : Nat} {f g : Core → Core} {s : State} (h : f (s.core x) = g (s.core x)) :
    updCore x f s = updCore x g s := by
  have e : Tab.upd freshCore s.fl.cores x f = Tab.upd freshCore s.fl.cores x g := congrArg (Tab.put freshCore _ x) h
  unfold updCore
  rw [e]

/-- On an idle core the armed role passes to the next converter in cyclic order, and no conversion is abandoned (R80). -/
theorem armNext_idle {x : Nat} {s : State} (h : (s.core x).busy = []) (v : Nat) :
    armNext x v s = updCore x (fun c => { c with armed := some ((v + 1) % 8) }) s := by
  have hn : nextConv (fun u => !(s.core x).stamping u) v 8 = some ((v + 1) % 8) := idle_nextConv h v 7
  unfold armNext
  dsimp only
  rw [hn]
  dsimp only
  rw [Core.idle_calCode h]
  exact updCore_congr (by rw [h]; rfl)

theorem armedHandover_idle {x v : Nat} {s : State} (hf : s.flightsRun = true) (hs : (s.servedBy x).isSome = true)
    (ha : (s.core x).armed = some v) (h : (s.core x).busy = []) :
    armedHandover x s = updCore x (fun c => { c with armed := some ((v + 1) % 8) }) s := by
  have hn : nextConv (fun u => !(s.core x).stamping u) v 7 = some ((v + 1) % 8) := idle_nextConv h v 6
  unfold armedHandover
  dsimp only
  rw [if_pos ⟨hf, hs⟩, ha]
  dsimp only
  rw [hn]
  exact armNext_idle h v

/-- A calibration conversion that ends frees its converter, and its sample is counted (R49, R81). -/
theorem conversionDone_cal {x v code : Nat} {s : State} (hf : s.flightsRun = true) (hc : (s.core x).calCode v = some code) :
    conversionDone x v s = updConv x v (sampleConv code) (release x v s) := by
  unfold conversionDone
  rw [hf]
  dsimp only
  rw [hc]
  rfl

theorem sampleConv_counts {code : Nat} (h : code < 167) (k : Conv) :
    Tab.get zeros (sampleConv code k).h code = Tab.get zeros k.h code + 1 ∧ (sampleConv code k).samples = k.samples + 1 := by
  unfold sampleConv
  rw [if_neg (by omega)]
  exact ⟨Tab.get_upd_same zeros k.h code (· + 1), rfl⟩

theorem release_busy (x v : Nat) (s : State) : ((release x v s).core x).busy = Tab.erase (s.core x).busy v :=
  congrArg Core.busy (updCore_core_same x _ s)

/-- What a calibration edge leaves of an idle core: its next converter runs the conversion of `code` (R78). -/
def Core.calibrating (code : Nat) (c : Core) : Core :=
  { c with busy := [(c.calNext % 8, .cal code)], calNext := (c.calNext % 8 + 1) % 8, edges := c.edges + 1 }

theorem calNext_cyclic (n : Nat) : ((n + 7) % 8 + 1) % 8 = n % 8 := by omega

/-- A calibration edge of an idle core, on its next converter, changes that core alone (R78). -/
theorem calibrationEdge_idle {x code : Nat} {s : State} (hf : s.flightsRun = true) (hst : (s.core x).state ≠ 3)
    (hA : (s.core x).failA = false) (ha : (s.core x).armed ≠ some ((s.core x).calNext % 8)) (hb : (s.core x).busy = []) :
    (calibrationEdge x code s).core x = (s.core x).calibrating code ∧
      (∀ y, y ≠ x → (calibrationEdge x code s).core y = s.core y) ∧
      calibrationEdge x code s = { s with fl := { s.fl with cores := (calibrationEdge x code s).fl.cores } } := by
  have hn : nextConv (fun u => (s.core x).armed ≠ some u && !(s.core x).occupied u) (((s.core x).calNext + 7) % 8) 8 =
      some ((s.core x).calNext % 8) := by
    have e := calNext_cyclic (s.core x).calNext
    rw [nextConv_first 7, e]
    rw [e, Core.idle_occupied hb]
    simpa using ha
  unfold calibrationEdge
  rw [if_pos ⟨hf, by simp [hA], hst⟩]
  dsimp only
  rw [hn]
  refine ⟨?_, fun y hy => ?_, rfl⟩
  · rw [updCore_core_same, updCore_core_same]
    unfold Core.calibrating
    rw [hb]
    rfl
  · rw [updCore_core_other _ _ hy, updCore_core_other _ _ hy]

/-- Settles O22: the end of a calibration conversion, the handover of an idle core, and a calibration edge that finds its
converter free. -/
theorem convertersTurn : Obligations.ConvertersTurn := by
  refine ⟨fun s x v code hl hf hx hv hc h167 => ?_, fun s x v hl hx hf hs ha hb => ?_,
    fun s x code hl hx hcode hf hst hA ha hb => ?_⟩
  · refine Completes.of_act (f := conversionDone x v) rfl (by simp [hx, hv]) hl ?_
    rw [conversionDone_cal hf hc]
    have hk := updConv_conv_same x v (sampleConv code) (release x v s)
    obtain ⟨hh, hn⟩ := sampleConv_counts h167 (s.conv x v)
    refine ⟨?_, ?_, ?_, rfl, fun y w h => updConv_conv_other _ (release x v s) h, rfl⟩
    · exact (congrArg (fun k : Conv => Tab.get zeros k.h code) hk).trans hh
    · exact (congrArg Conv.samples hk).trans hn
    · exact congrArg (fun b : Tab Busy => b.any (·.1 = v)) (release_busy x v s)
  · refine Completes.of_act (f := armedHandover x) rfl (by simp [hx]) hl ?_
    rw [armedHandover_idle hf hs ha hb]
    exact ⟨rfl, congrArg Core.armed (updCore_core_same x _ s)⟩
  · have k := calibrationEdge_idle (code := code) hf hst hA ha hb
    exact Completes.of_kept (f := calibrationEdge x code) rfl (by simp [hx, hcode]) hl (by rw [k.2.2]) k

/-! ## One channel changed -/

/-- `t` is `s` with channel `i` become `c`, after things were said. -/
structure ChanBecomes (i : Nat) (c : Chan) (s t : State) : Prop where
  chan : t.chan i = c
  other : ∀ j, j ≠ i → t.chan j = s.chan j
  said : Said { s with fl := { s.fl with chans := t.fl.chans } } t

theorem chan_congr {s t : State} (h : t.fl = s.fl) (j : Nat) : t.chan j = s.chan j := by
  unfold State.chan
  rw [h]

theorem updChan_becomes (i : Nat) (f : Chan → Chan) (s : State) : ChanBecomes i (f (s.chan i)) s (updChan i f s) :=
  ⟨updChan_chan_same i f s, fun _ h => updChan_chan_other f s h, rfl⟩

section
variable {i : Nat} {c : Chan} {s t u : State} (h : ChanBecomes i c s t)
include h

theorem ChanBecomes.pending : t.pending = s.pending := h.said.pending

/-- The channel changes once more. -/
theorem ChanBecomes.upd (f : Chan → Chan) : ChanBecomes i (f c) s (updChan i f t) where
  chan := by rw [updChan_chan_same, h.chan]
  other j hj := (updChan_chan_other f t hj).trans (h.other j hj)
  said := by
    have e := congrArg (fun w : State => { w with fl := { w.fl with chans := (updChan i f t).fl.chans } }) h.said
    exact e

/-- Things are said after the change. -/
theorem ChanBecomes.andSaid (k : Said t u) : ChanBecomes i c s u where
  chan := (chan_congr k.fl i).trans h.chan
  other j hj := (chan_congr k.fl j).trans (h.other j hj)
  said := by
    have e : u.fl.chans = t.fl.chans := congrArg Flights.chans k.fl
    rw [e]
    exact h.said.trans k

end

/-! ## The push port (R58, R62, R66) -/

theorem Chan.noteOf_n (n : Nat) (c : Chan) : (c.noteOf n).n = n := by
  unfold Chan.noteOf
  dsimp only
  split
  · split
    · assumption
    · rfl
  · rfl

/-- A note of the present cycle is what the channel noted of it. -/
theorem Chan.noteOf_some {n : Nat} {c : Chan} {x : CycleNote} (h : c.note = some x) (hn : x.n = n) : c.noteOf n = x := by
  unfold Chan.noteOf
  rw [h]
  exact if_pos hn

/-- A channel whose push port is used has noted it. -/
theorem Chan.usePort_noteOf (n : Nat) (c : Chan) : (c.usePort n).noteOf n = { c.noteOf n with pushed := true } :=
  Chan.noteOf_some rfl (c.noteOf_n n)

/-- A stamp that finds the push port free, no latched word before it, and its result ready, is pushed (R58). -/
theorem stampPush_ready {i : Nat} {r : Flying} {rs : List Flying} {s : State} (hf : s.flightsRun = true)
    (hr : (s.chan i).results = r :: rs) (hd : r.done = true) (hp : ((s.chan i).noteOf s.cycle).pushed = false)
    (hl : ¬((s.chan i).latch.isSome = true ∧ (s.chan i).depthAt s.cycle < 16)) : stampPush i s = pushStamp i r s := by
  unfold stampPush
  dsimp only
  rw [hf, hp, if_neg (by decide), if_neg hl, hr]
  exact if_pos hd

theorem stampPush_stopped {i : Nat} {s : State} (hf : s.flightsRun = false) : stampPush i s = s := by
  unfold stampPush
  rw [hf]
  rfl

/-- The channel without its oldest result. -/
def Chan.taken (c : Chan) : Chan := { c with results := c.results.tail }

/-- The channel after a stamp has been dropped in flight cycle `n` (R66). -/
def Chan.overrun (n : Nat) (c : Chan) : Chan :=
  { (c.usePort n).flag n 2 with ovrCnt := c.ovrCnt + 1, ova := true, drop := true }

/-- The channel after the stamp `st` of result `r` has been accepted in flight cycle `n` (R58). -/
def Chan.stored (n skews : Nat) (st : Stamp) (r : Flying) (c : Chan) : Chan :=
  { c.accept n skews r.era (.stamp st c.ova r.rising r.conv r.core) r.gap r.ecnt with stampCnt := c.stampCnt + 1 }

theorem pushStamp_eq (i : Nat) (r : Flying) (s : State) :
    pushStamp i r s = if 16 ≤ ((updChan i Chan.taken s).chan i).depthAt s.cycle then
        raise 16 (updChan i (Chan.overrun s.cycle) (updChan i Chan.taken s))
      else count (stampCounter i) 1
        (updChan i (Chan.stored s.cycle s.ca.skews (s.stampOfResult i r) r) (updChan i Chan.taken s)) := rfl

/-- The result that leaves has no part in what the channel noted of a cycle. -/
theorem Chan.taken_depthAt (n : Nat) (c : Chan) : c.taken.depthAt n = c.depthAt n := rfl

/-- A stamp pushed in a cycle that began with room enters the queue and is counted (R58, R86). -/
theorem pushStamp_room {i : Nat} {r : Flying} {s : State} (h : (s.chan i).depthAt s.cycle < 16) :
    ChanBecomes i ((s.chan i).taken.stored s.cycle s.ca.skews (s.stampOfResult i r) r) s (pushStamp i r s) := by
  rw [pushStamp_eq, updChan_chan_same, Chan.taken_depthAt, if_neg (Nat.not_le.mpr h)]
  exact ((updChan_becomes i _ s).upd _).andSaid (count_said _ _ _)

/-- A stamp pushed in a cycle that began with FULL = 1 is dropped, and event 16 is raised (R66). -/
theorem pushStamp_full {i : Nat} {r : Flying} {s : State} (h : 16 ≤ (s.chan i).depthAt s.cycle) :
    ChanBecomes i ((s.chan i).taken.overrun s.cycle) s (pushStamp i r s) ∧ Raised 16 s (pushStamp i r s) := by
  rw [pushStamp_eq, updChan_chan_same, Chan.taken_depthAt, if_pos h]
  exact ⟨((updChan_becomes i _ s).upd _).andSaid (raise_said _ _),
    raise_raised 16 (updChan i (Chan.overrun s.cycle) (updChan i Chan.taken s))⟩

/-- A dropped stamp has used the push port, and sets the flag OVR (R58, R66, R76). -/
theorem Chan.overrun_eq (n : Nat) (c : Chan) :
    c.overrun n = { c with
      ova := true, drop := true, ovrCnt := c.ovrCnt + 1, flags := setBit c.flags 2 true
      note := some { c.noteOf n with pushed := true, flags := setBit (c.noteOf n).flags 2 true } } := by
  unfold Chan.overrun Chan.flag
  rw [Chan.usePort_noteOf]
  rfl

/-- The latched close word takes an open push port (R62). -/
theorem closeWordRetry_open {i : Nat} {w : QWord} {s : State} (hf : s.flightsRun = true) (hw : (s.chan i).latch = some w)
    (hp : (s.chan i).portOpen s.cycle = true) :
    closeWordRetry i s = updChan i (fun c =>
      { c.accept s.cycle s.ca.skews s.tb.era (w.withOva c.ova) false c.ecnt with latch := none }) s := by
  unfold closeWordRetry acceptLatch
  rw [if_pos hf, hw]
  exact if_pos hp

/-- The stamp of a conversion, modulo 2^64 (R86). -/
theorem stampValue_toNat (cn : Coarse) (e : Nat) (s64 : Int) :
    (stampValue cn e s64).toNat = (((cn.toNat : Int) * 1024 - (e + s64 + 32) / 64) % 2 ^ 64).toNat := by
  unfold stampValue
  rw [BitVec.toNat_ofInt]
  simp

/-- Settles O23: a stamp that is pushed or dropped, and the latched word that goes in, each change one channel. -/
theorem stampsEnterTheQueue : Obligations.StampsEnterTheQueue := by
  refine ⟨fun s i r rs hl hi hf hw hr hd hp hn => ?_, fun s i r rs hl hi hf hr hd hp hn => ?_,
    fun s i w hl hi hf hw hp => ?_, fun s i hl hi hf => ?_, stampValue_toNat⟩
  · have k := pushStamp_room (r := r) hn
    rw [← stampPush_ready hf hr hd hp (by simp [hw])] at k
    exact Completes.of_kept (f := stampPush i) rfl (by simp [hi]) hl k.pending
      ⟨k.chan.trans (by unfold Chan.taken; rw [hr]; rfl), k.other, k.said⟩
  · obtain ⟨k, hev⟩ := pushStamp_full (r := r) hn
    rw [← stampPush_ready hf hr hd hp (fun h => Nat.not_lt.mpr hn h.2)] at k hev
    rw [Chan.overrun_eq] at k
    exact Completes.of_kept (f := stampPush i) rfl (by simp [hi]) hl k.pending
      ⟨k.chan.trans (by unfold Chan.taken; rw [hr]; rfl), k.other, hev, k.said⟩
  · have k := updChan_becomes i (fun c =>
      { c.accept s.cycle s.ca.skews s.tb.era (w.withOva c.ova) false c.ecnt with latch := none }) s
    refine Completes.of_act (f := closeWordRetry i) rfl (by simp [hi]) hl ?_
    rw [closeWordRetry_open hf hw hp]
    exact ⟨k.chan, k.other, rfl⟩
  · exact exec_of_act (f := stampPush i) rfl (by simp [hi]) hl (by rw [stampPush_stopped hf])

/-! ## Edges (R46 to R52) -/

theorem bit_setBit_same (x : W32) {k : Nat} (h : k < 32) : bit (setBit x k true) k = true := by
  unfold bit setBit w32
  rw [if_pos rfl, BitVec.getLsbD_or, BitVec.getLsbD_ofNat, Nat.testBit_two_pow_self]
  simp [h]

/-- A bit that is set stays so as another is set. -/
theorem bit_setBit_of {x : W32} {k : Nat} (j : Nat) (h : bit x k = true) : bit (setBit x j true) k = true := by
  unfold bit setBit at *
  rw [if_pos rfl, BitVec.getLsbD_or, h]
  rfl

/-- The input that feeds channel 522 or 523 is the one selected (R44). -/
theorem inputChan_none (s : State) (m : Nat) : s.inputChan m = none ↔
    526 ≤ m ∨ (s.fl.clnLoop = true ∧ (m = 522 ∨ m = 523)) ∨ (s.fl.clnLoop = false ∧ (m = 524 ∨ m = 525)) := by
  unfold State.inputChan
  cases s.fl.clnLoop
  · simp only [Bool.false_eq_true, if_false, and_false, false_and, false_or, true_and]
    split
    · simp; omega
    · split
      · simp; omega
      · simp; omega
  · simp only [if_true, and_true, true_and, Bool.true_eq_false, false_and, or_false]
    split
    · simp; omega
    · split
      · simp; omega
      · split
        · simp; omega
        · simp; omega

theorem inputChan_some {s : State} {m i : Nat} (h : s.inputChan m = some i) : m < 526 := by
  refine Nat.lt_of_not_le fun k => ?_
  rw [(inputChan_none s m).mpr (.inl k)] at h
  cases h

/-- R46: an edge within 625 ps of the previous selected one merges. -/
theorem Chan.fate_merged {c : Chan} {u : Nat} (h : c.lastSel = some u) (n : Nat) : c.fate n = .merged ↔ n < u + 640 := by
  have hm : c.merges n = decide (n < u + 640) := by unfold Chan.merges; rw [h]
  unfold Chan.fate
  rw [hm]
  split
  · simp_all
  · split <;> simp_all

/-- R52: an edge that does not merge is missed with eight stamps in the rotation. -/
theorem Chan.fate_missed {c : Chan} {n : Nat} (h : c.merges n = false) :
    c.fate n = .missed ↔ 8 ≤ (c.stamps.filter (fun w => n < w + 45056)).length := by
  unfold Chan.fate Chan.inRotation
  rw [h]
  simp only [Bool.false_eq_true, if_false]
  split <;> simp_all

theorem Chan.merges_none {c : Chan} (h : c.lastSel = none) (n : Nat) : c.merges n = false := by
  unfold Chan.merges
  rw [h]

theorem Chan.merges_late {c : Chan} {u n : Nat} (h : c.lastSel = some u) (hn : u + 640 ≤ n) : c.merges n = false := by
  unfold Chan.merges
  rw [h]
  exact decide_eq_false (Nat.not_lt.mpr hn)

/-! ### What one edge leaves alone -/

/-- `t` is `s` after an edge of channel `i`: the time base, the shots, the Gallery memory and the other channels stay, as
does the queue of commands. -/
structure EdgeOf (i : Nat) (s t : State) : Prop where
  pending : t.pending = s.pending
  tb : t.tb = s.tb
  sh : t.sh = s.sh
  mem : t.gl.mem = s.gl.mem
  other : ∀ j, j ≠ i → t.chan j = s.chan j

theorem EdgeOf.trans {i : Nat} {s t u : State} (h : EdgeOf i s t) (k : EdgeOf i t u) : EdgeOf i s u :=
  ⟨k.pending.trans h.pending, k.tb.trans h.tb, k.sh.trans h.sh, k.mem.trans h.mem,
    fun j hj => (k.other j hj).trans (h.other j hj)⟩

theorem ChanBecomes.edgeOf {i : Nat} {c : Chan} {s t : State} (h : ChanBecomes i c s t) : EdgeOf i s t :=
  ⟨h.said.pending, h.said.tb, h.said.sh, h.said.mem, h.other⟩

theorem ChanBecomes.cores {i : Nat} {c : Chan} {s t : State} (h : ChanBecomes i c s t) : t.fl.cores = s.fl.cores := by
  rw [h.said.fl]

/-- Only the cores' and the converters' states differ. -/
def Rearmed (s t : State) : Prop :=
  t = { s with fl := { s.fl with cores := t.fl.cores }, ca := { s.ca with convs := t.ca.convs } }

theorem Rearmed.refl (s : State) : Rearmed s s := rfl

theorem Rearmed.trans {s t u : State} (h : Rearmed s t) (k : Rearmed t u) : Rearmed s u := by
  unfold Rearmed at *
  rw [k, h]

section
variable {s t : State} (h : Rearmed s t)
include h

theorem Rearmed.chans : t.fl.chans = s.fl.chans := by rw [h]
theorem Rearmed.chan (j : Nat) : t.chan j = s.chan j := by rw [h]; rfl

theorem Rearmed.edgeOf (i : Nat) : EdgeOf i s t :=
  ⟨by rw [h], by rw [h], by rw [h], by rw [h], fun j _ => h.chan j⟩

end

theorem updCore_rearmed (x : Nat) (f : Core → Core) (s : State) : Rearmed s (updCore x f s) := rfl

theorem updConv_rearmed (x v : Nat) (f : Conv → Conv) (s : State) : Rearmed s (updConv x v f s) := rfl

theorem armNext_rearmed (x v : Nat) (s : State) : Rearmed s (armNext x v s) := by
  unfold armNext
  dsimp only
  split
  · exact updCore_rearmed _ _ s
  · split
    · exact (updCore_rearmed _ _ s).trans (updConv_rearmed _ _ _ _)
    · exact updCore_rearmed _ _ s

theorem armFirst_rearmed (x : Nat) (s : State) : Rearmed s (armFirst x s) := by
  unfold armFirst
  split
  · exact armNext_rearmed _ _ s
  · exact Rearmed.refl s

/-- A core that has an armed converter needs none. -/
theorem armFirst_armed {x v : Nat} {s : State} (h : (s.core x).armed = some v) : armFirst x s = s := by
  unfold armFirst
  rw [h]
  rfl

/-- A hit changes its channel as `keep` says, and beside it cores and converters alone. -/
theorem takeHit_edge (i x t : Nat) (keep : Nat → Chan → Chan) (s : State) :
    EdgeOf i s (takeHit i x t keep s) ∧
      (takeHit i x t keep s).chan i = keep ((armFirst x s).taker i x t) (s.chan i) := by
  have hf := armFirst_rearmed x s
  have hu := updChan_becomes i (keep ((armFirst x s).taker i x t)) (armFirst x s)
  have ha : Rearmed (updChan i (keep ((armFirst x s).taker i x t)) (armFirst x s)) (takeHit i x t keep s) := by
    unfold takeHit
    exact (updCore_rearmed _ _ _).trans (armNext_rearmed _ _ _)
  exact ⟨((hf.edgeOf i).trans hu.edgeOf).trans (ha.edgeOf i), by rw [ha.chan, hu.chan, hf.chan]⟩

/-- A hit of a new core before Tsw is noted in the channel's shadow conversions alone (R72). -/
theorem feedNew_edge (i t : Nat) (rising : Bool) (cn : Coarse) (code : Nat) (s : State) :
    EdgeOf i s (feedNew i t rising cn code s) ∧
      ∃ l, (feedNew i t rising cn code s).chan i = { s.chan i with shadow := l } := by
  unfold feedNew
  split
  · split
    · have k := takeHit_edge
      exact ⟨(k _ _ _ _ _).1, _, (k _ _ _ _ _).2⟩
    · exact ⟨(Rearmed.refl s).edgeOf i, _, rfl⟩
  · exact ⟨(Rearmed.refl s).edgeOf i, _, rfl⟩

theorem feedNew_unplanned {i : Nat} {s : State} (h : (s.chan i).subst = none) (t : Nat) (rising : Bool) (cn : Coarse)
    (code : Nat) : feedNew i t rising cn code s = s := by
  unfold feedNew
  rw [h]

/-- The channel after its edge at `t` has been stamped: `v` the converter, `k` the core, `e` the era (R46, R49, R52). -/
def Chan.stampedBy (k v t : Nat) (rising : Bool) (cn : Coarse) (code e : Nat) (c : Chan) : Chan :=
  { c with
    lastSel := some t, stamps := t :: c.inRotation t, gap := false
    results := c.results ++ [⟨k, v, t, rising, cn, code, false, c.gap, c.ecnt, e⟩] }

theorem stampEdge_eq (i t : Nat) (rising : Bool) (cn : Coarse) (code : Nat) (s : State) :
    stampEdge i t rising cn code s = takeHit i (s.coreAt i t) t (fun v =>
      Chan.stampedBy (s.coreAt i t - coreNo (chanFlight i) 0) v t rising cn code (feedNew i t rising cn code s).tb.era)
        (feedNew i t rising cn code s) := rfl

/-- A stamped edge leaves one more result and otherwise only what is remembered of stamped edges (R46, R49, R52). -/
theorem stampEdge_edge (i t : Nat) (rising : Bool) (cn : Coarse) (code : Nat) (s : State) :
    EdgeOf i s (stampEdge i t rising cn code s) ∧
      ∃ k v l, (stampEdge i t rising cn code s).chan i =
        { (s.chan i).stampedBy k v t rising cn code s.tb.era with shadow := l } := by
  obtain ⟨hf, l, hl⟩ := feedNew_edge i t rising cn code s
  have k := takeHit_edge i (s.coreAt i t) t (fun v => Chan.stampedBy (s.coreAt i t - coreNo (chanFlight i) 0) v t rising cn
    code (feedNew i t rising cn code s).tb.era) (feedNew i t rising cn code s)
  rw [← stampEdge_eq] at k
  exact ⟨hf.trans k.1, _, _, l, k.2.trans (by rw [hl, hf.tb]; rfl)⟩

/-- With no substitution planned the channel's core takes the edge, on its armed converter (R49, R50). -/
theorem stampEdge_armed {i v : Nat} {s : State} (hb : (s.chan i).subst = none)
    (ha : (s.core (s.coreOf i)).armed = some v) (t : Nat) (rising : Bool) (cn : Coarse) (code : Nat) :
    (stampEdge i t rising cn code s).chan i =
      (s.chan i).stampedBy (s.chan i).core v t rising cn code s.tb.era := by
  have hx : s.coreAt i t = s.coreOf i := by unfold State.coreAt; rw [hb]
  have hk : s.coreOf i - coreNo (chanFlight i) 0 = (s.chan i).core := by
    unfold State.coreOf coreNo
    omega
  have ht : s.taker i (s.coreOf i) t = v := by unfold State.taker; rw [ha]
  rw [stampEdge_eq, feedNew_unplanned hb, hx, hk, (takeHit_edge _ _ _ _ _).2, armFirst_armed ha, ht]

/-! ### The rate of R48 -/

/-- The check of the rate of R48 changes nothing of a channel but flags, and clears none. -/
structure Chan.Rated (c d : Chan) : Prop where
  only : d = { c with flags := d.flags, note := d.note, overFlag := d.overFlag }
  sticky : ∀ k, bit c.flags k = true → bit d.flags k = true

theorem Chan.Rated.refl (c : Chan) : c.Rated c := ⟨rfl, fun _ h => h⟩

section
variable {c d : Chan} (h : c.Rated d)
include h

theorem Chan.Rated.queue : d.queue = c.queue := by rw [h.only]
theorem Chan.Rated.ecnt : d.ecnt = c.ecnt := by rw [h.only]
theorem Chan.Rated.lastSel : d.lastSel = c.lastSel := by rw [h.only]
theorem Chan.Rated.mergeCnt : d.mergeCnt = c.mergeCnt := by rw [h.only]
theorem Chan.Rated.missCnt : d.missCnt = c.missCnt := by rw [h.only]
theorem Chan.Rated.results : d.results = c.results := by rw [h.only]

end

/-- The channel after the check, in flight cycle `n`, with the excess `now`. -/
def Chan.rated (n : Nat) (now : Bool) (c : Chan) : Chan := { (if now then c.flag n 3 else c) with overFlag := now }

theorem Chan.rated_rated (n : Nat) (now : Bool) (c : Chan) : c.Rated (c.rated n now) := by
  unfold Chan.rated
  cases now
  · exact ⟨rfl, fun _ h => h⟩
  · exact ⟨rfl, fun _ h => bit_setBit_of 3 h⟩

theorem markSats_edge (i : Nat) (n : BitVec 48) (t : Stamp) (s : State) :
    EdgeOf i s (markSats i n t s) ∧ (markSats i n t s).fl = s.fl :=
  ⟨⟨rfl, rfl, rfl, rfl, fun _ _ => rfl⟩, rfl⟩

/-- The slots that keep an edge over the rate, and the state otherwise as it was (R48, R213). -/
def ratedSlots (now : Bool) (i t : Nat) (s : State) : State :=
  if now then markSats i (s.chan i).ecnt (s.stampAt t - BitVec.ofInt 64 (s.boardSkew i)) s else s

theorem ratedSlots_edge (now : Bool) (i t : Nat) (s : State) :
    EdgeOf i s (ratedSlots now i t s) ∧ (ratedSlots now i t s).fl = s.fl := by
  cases now
  · exact ⟨(Rearmed.refl s).edgeOf i, rfl⟩
  · exact markSats_edge _ _ _ s

theorem checkRate_eq (i t : Nat) (s : State) :
    checkRate i t s = raiseIf ((s.chan i).overAt t && !(s.chan i).overFlag) 17
      (updChan i (Chan.rated (ratedSlots ((s.chan i).overAt t) i t s).cycle ((s.chan i).overAt t))
        (ratedSlots ((s.chan i).overAt t) i t s)) := rfl

/-- The check of the rate of R48 after an edge. -/
theorem checkRate_edge (i t : Nat) (s : State) :
    EdgeOf i s (checkRate i t s) ∧ (s.chan i).Rated ((checkRate i t s).chan i) ∧
      (checkRate i t s).fl.cores = s.fl.cores := by
  rw [checkRate_eq]
  obtain ⟨hm, hfl⟩ := ratedSlots_edge ((s.chan i).overAt t) i t s
  generalize ratedSlots ((s.chan i).overAt t) i t s = u at hm hfl ⊢
  have k := (updChan_becomes i (Chan.rated u.cycle ((s.chan i).overAt t)) u).andSaid
    (raiseIf_said ((s.chan i).overAt t && !(s.chan i).overFlag) 17 _)
  refine ⟨hm.trans k.edgeOf, ?_, k.cores.trans (by rw [hfl])⟩
  rw [k.chan, chan_congr hfl]
  exact Chan.rated_rated _ _ _

/-! ### The fates of an edge -/

/-- The channel after its edge at `t` has merged, in flight cycle `n` (R46). -/
def Chan.mergedAt (n t : Nat) (c : Chan) : Chan :=
  { c.flag n 0 with lastSel := some t, mergeCnt := c.mergeCnt + 1, mrg := true, gap := true }

/-- The channel after its edge at `t` has been missed, in flight cycle `n` (R52). -/
def Chan.missedAt (n t : Nat) (c : Chan) : Chan :=
  { c.flag n 1 with lastSel := some t, missCnt := c.missCnt + 1, drop := true, gap := true }

/-- Loggia counters count lost edges by flight, but those of F32 (R428). -/
def countLost (i : Nat) (s : State) : State := count (32 + chanFlight i) (if 32 + chanFlight i < 64 then 1 else 0) s

/-- The fate of a counted and selected edge is carried out. -/
def meetFate (f : EdgeFate) (i t : Nat) (rising : Bool) (cn : Coarse) (code : Nat) (s : State) : State :=
  match f with
  | .merged => countLost i (updChan i (Chan.mergedAt s.cycle t) s)
  | .missed => countLost i (updChan i (Chan.missedAt s.cycle t) s)
  | .stamped => stampEdge i t rising cn code s

/-- The rate is checked after edges that are counted. -/
def checkCounted (b : Bool) (i t : Nat) (s : State) : State := if b then checkRate i t s else s

theorem checkCounted_edge (b : Bool) (i t : Nat) (s : State) :
    EdgeOf i s (checkCounted b i t s) ∧ (s.chan i).Rated ((checkCounted b i t s).chan i) ∧
      (checkCounted b i t s).fl.cores = s.fl.cores := by
  cases b
  · exact ⟨(Rearmed.refl s).edgeOf i, Chan.Rated.refl _, rfl⟩
  · exact checkRate_edge i t s

/-- A selected edge of an enabled channel is counted, meets its fate, and is checked against the rate. -/
theorem chanEdge_selected {i : Nat} {rising : Bool} {s : State} (he : (s.chan i).en = true) (hf : s.flightsRun = true)
    (hs : (s.chan i).selects rising = true) (t : Nat) (cn : Coarse) (code : Nat) :
    chanEdge i t rising cn code s = checkCounted ((s.chan i).counts rising) i t
      (meetFate ((s.chan i).fate t) i t rising cn code (updChan i (Chan.countEdge t rising) s)) := by
  unfold chanEdge
  dsimp only
  rw [he, hf, hs]
  rfl

theorem chanEdge_disabled {i : Nat} {s : State} (he : (s.chan i).en = false) (t : Nat) (rising : Bool) (cn : Coarse)
    (code : Nat) : chanEdge i t rising cn code s = s := by
  unfold chanEdge
  dsimp only
  rw [he]
  rfl

section
variable (c : Chan) (t : Nat) (rising : Bool)

/-- The edge counter counts the edges of the counted polarity (R47). -/
theorem Chan.countEdge_ecnt : (c.countEdge t rising).ecnt = c.ecnt + (if c.counts rising then 1 else 0) := by
  unfold Chan.countEdge
  split <;> simp

/-- Beside it a counted edge changes what is remembered for R48. -/
theorem Chan.countEdge_only : c.countEdge t rising =
    { c with ecnt := (c.countEdge t rising).ecnt, recent := (c.countEdge t rising).recent } := by
  unfold Chan.countEdge
  split <;> rfl

theorem Chan.countEdge_queue : (c.countEdge t rising).queue = c.queue := by rw [Chan.countEdge_only]
theorem Chan.countEdge_mergeCnt : (c.countEdge t rising).mergeCnt = c.mergeCnt := by rw [Chan.countEdge_only]
theorem Chan.countEdge_missCnt : (c.countEdge t rising).missCnt = c.missCnt := by rw [Chan.countEdge_only]
theorem Chan.countEdge_results : (c.countEdge t rising).results = c.results := by rw [Chan.countEdge_only]
theorem Chan.countEdge_gap : (c.countEdge t rising).gap = c.gap := by rw [Chan.countEdge_only]
theorem Chan.countEdge_core : (c.countEdge t rising).core = c.core := by rw [Chan.countEdge_only]
theorem Chan.countEdge_subst : (c.countEdge t rising).subst = c.subst := by rw [Chan.countEdge_only]

end

section
variable {s : State} {i n : Nat} {rising : Bool} {cn : Coarse} {code : Nat}

/-- A lost edge is counted, and its channel becomes what its fate `f` makes of it. -/
theorem countLost_becomes (f : Chan → Chan) (s : State) : ChanBecomes i (f ((s.chan i).countEdge n rising)) s
    (countLost i (updChan i f (updChan i (Chan.countEdge n rising) s))) :=
  ((updChan_becomes i _ s).upd f).andSaid (count_said _ _ _)

theorem meetFate_merged : ChanBecomes i (((s.chan i).countEdge n rising).mergedAt s.cycle n) s
    (meetFate .merged i n rising cn code (updChan i (Chan.countEdge n rising) s)) :=
  countLost_becomes (Chan.mergedAt s.cycle n) s

theorem meetFate_missed : ChanBecomes i (((s.chan i).countEdge n rising).missedAt s.cycle n) s
    (meetFate .missed i n rising cn code (updChan i (Chan.countEdge n rising) s)) :=
  countLost_becomes (Chan.missedAt s.cycle n) s

/-- A stamped edge gives one result. -/
theorem meetFate_stamped : EdgeOf i s (meetFate .stamped i n rising cn code (updChan i (Chan.countEdge n rising) s)) ∧
    ∃ k v l, (meetFate .stamped i n rising cn code (updChan i (Chan.countEdge n rising) s)).chan i =
      { ((s.chan i).countEdge n rising).stampedBy k v n rising cn code s.tb.era with shadow := l } := by
  have hu := updChan_becomes i (Chan.countEdge n rising) s
  have k := stampEdge_edge i n rising cn code (updChan i (Chan.countEdge n rising) s)
  rw [hu.chan] at k
  exact ⟨hu.edgeOf.trans k.1, k.2⟩

theorem meetFate_armed {v : Nat} (hb : (s.chan i).subst = none) (ha : (s.core (s.coreOf i)).armed = some v) :
    (meetFate .stamped i n rising cn code (updChan i (Chan.countEdge n rising) s)).chan i =
      ((s.chan i).countEdge n rising).stampedBy (s.chan i).core v n rising cn code s.tb.era := by
  have hu := (updChan_becomes i (Chan.countEdge n rising) s).chan
  have hc : (updChan i (Chan.countEdge n rising) s).coreOf i = s.coreOf i := by
    unfold State.coreOf
    rw [hu, Chan.countEdge_core]
  have k := stampEdge_armed (s := updChan i (Chan.countEdge n rising) s) (by rw [hu, Chan.countEdge_subst]; exact hb)
    (by rw [hc]; exact ha) n rising cn code
  rw [hu, Chan.countEdge_core] at k
  exact k

end

theorem edgeArrival_feeds {s : State} {m i : Nat} (h : s.inputChan m = some i) (n : Nat) (rising : Bool) (cn : Coarse)
    (code : Nat) : edgeArrival m n rising cn code s = chanEdge i n rising cn code s := by
  unfold edgeArrival
  rw [h]

/-- An edge at an input that feeds no enabled channel does nothing (R44). -/
theorem edgeArrival_idle {s : State} {m : Nat} (h : (s.inputChan m).all (fun i => !(s.chan i).en) = true) (n : Nat)
    (rising : Bool) (cn : Coarse) (code : Nat) : edgeArrival m n rising cn code s = s := by
  cases hi : s.inputChan m with
  | none =>
    unfold edgeArrival
    rw [hi]
  | some i =>
    rw [hi] at h
    rw [edgeArrival_feeds hi, chanEdge_disabled (by simpa using h)]

/-- An edge that a channel selects meets its fate as a counted edge, and the check of the rate comes last. -/
theorem edgeArrival_selected {s : State} {m i : Nat} {rising : Bool} (hm : s.inputChan m = some i)
    (he : (s.chan i).en = true) (hf : s.flightsRun = true) (hs : (s.chan i).selects rising = true) (n : Nat) (cn : Coarse)
    (code : Nat) {f : EdgeFate} (hfate : (s.chan i).fate n = f) {u : State}
    (hu : meetFate f i n rising cn code (updChan i (Chan.countEdge n rising) s) = u) :
    EdgeOf i u (edgeArrival m n rising cn code s) ∧ (u.chan i).Rated ((edgeArrival m n rising cn code s).chan i) ∧
      (edgeArrival m n rising cn code s).fl.cores = u.fl.cores := by
  rw [edgeArrival_feeds hm, chanEdge_selected he hf hs, hfate, hu]
  exact checkCounted_edge _ i n u

/-- Settles O21: an edge is counted, meets its fate, and is checked against the rate; each leaves what the statement lists. -/
theorem edgeFates : Obligations.EdgeFates := by
  refine ⟨fun s m i n rising cn code hl hm hcode hf he hs => ?_, fun s m n rising cn code hl hm hcode h => ?_,
    inputChan_none, fun c n u h => Chan.fate_merged h n, fun c n u h hn => Chan.fate_missed (Chan.merges_late h hn),
    fun c n h => Chan.fate_missed (Chan.merges_none h n)⟩
  · have hok : decide (m < 526) && decide (code < 168) := by simp [inputChan_some hm, hcode]
    have hq := (s.chan i).countEdge_queue n rising
    have hec := (s.chan i).countEdge_ecnt n rising
    have hmg := (s.chan i).countEdge_mergeCnt n rising
    have hms := (s.chan i).countEdge_missCnt n rising
    have hre := (s.chan i).countEdge_results n rising
    cases hfate : (s.chan i).fate n with
    | merged =>
      have k := meetFate_merged (s := s) (i := i) (n := n) (rising := rising) (cn := cn) (code := code)
      obtain ⟨hk, hr, hco⟩ := edgeArrival_selected hm he hf hs n cn code hfate rfl
      have w := k.edgeOf.trans hk
      rw [k.chan] at hr
      exact Completes.of_kept (f := edgeArrival m n rising cn code) rfl hok hl w.pending
        ⟨w.tb, w.sh, w.mem, w.other, hr.queue.trans hq, hr.ecnt.trans hec, hr.lastSel,
          hr.mergeCnt.trans (congrArg (· + 1) hmg), hr.sticky 0 (bit_setBit_same _ (by decide)), hr.missCnt.trans hms,
          hr.results.trans hre, hco.trans k.cores⟩
    | missed =>
      have k := meetFate_missed (s := s) (i := i) (n := n) (rising := rising) (cn := cn) (code := code)
      obtain ⟨hk, hr, hco⟩ := edgeArrival_selected hm he hf hs n cn code hfate rfl
      have w := k.edgeOf.trans hk
      rw [k.chan] at hr
      exact Completes.of_kept (f := edgeArrival m n rising cn code) rfl hok hl w.pending
        ⟨w.tb, w.sh, w.mem, w.other, hr.queue.trans hq, hr.ecnt.trans hec, hr.lastSel,
          hr.missCnt.trans (congrArg (· + 1) hms), hr.sticky 1 (bit_setBit_same _ (by decide)), hr.mergeCnt.trans hmg,
          hr.results.trans hre, hco.trans k.cores⟩
    | stamped =>
      obtain ⟨kw, x, v, l, kc⟩ := meetFate_stamped (s := s) (i := i) (n := n) (rising := rising) (cn := cn) (code := code)
      obtain ⟨hk, hr, -⟩ := edgeArrival_selected hm he hf hs n cn code hfate rfl
      have w := kw.trans hk
      have hr' := hr
      rw [kc] at hr
      refine Completes.of_kept (f := edgeArrival m n rising cn code) rfl hok hl w.pending
        ⟨w.tb, w.sh, w.mem, w.other, hr.queue.trans hq, hr.ecnt.trans hec, hr.lastSel, hr.mergeCnt.trans hmg,
          hr.missCnt.trans hms, ?_, fun v hb ha => ?_⟩
      · rw [hr.results]
        exact List.dropLast_concat.trans hre
      · rw [meetFate_armed hb ha] at hr'
        rw [hr'.results, hr'.ecnt]
        unfold Chan.stampedBy
        rw [hre, Chan.countEdge_gap]
  · exact exec_of_act (f := edgeArrival m n rising cn code) rfl (by simp [hm, hcode]) hl (by rw [edgeArrival_idle h])

/-! ## The consumers of the queues (R43, R114, R127, R208) -/

section
variable (s : State)

theorem traceStamp_fl (i era : Nat) (w : QWord) : (traceStamp i era w s).fl = s.fl := by
  unfold traceStamp
  split
  · exact (pushStamped_said _ _ s).fl
  · rfl

theorem endStream_fl (st : Status) : (endStream st s).fl = s.fl := by
  unfold endStream
  split
  · exact (complete_said _ _ _).fl
  · rfl

theorem clearPartitions_fl : (clearPartitions s).fl = s.fl := by
  unfold clearPartitions
  exact (endStream_fl _ _).trans (raiseIf_said _ _ _).fl

theorem selfArm_fl : (selfArm s).fl = s.fl := by
  unfold selfArm
  split
  · rfl
  · exact (raise_said _ s).fl

theorem leaveRotation_fl (c : Nat) : (leaveRotation c s).fl = s.fl := by
  unfold leaveRotation
  dsimp only
  split
  · exact (selfArm_fl _).trans ((raise_said _ _).fl.trans (clearPartitions_fl s))
  · exact (raise_said _ _).fl.trans (clearPartitions_fl s)

theorem retireChan_fl (c : Nat) : (retireChan c s).fl = s.fl :=
  (leaveRotation_fl _ c).trans (commitOwn_stored _ _ s).fl

theorem outOfService_fl : (outOfService s).fl = s.fl := by
  unfold outOfService
  exact (raise_said _ _).fl.trans (clearPartitions_fl s)

theorem memFault_fl (c : Nat) : (memFault c s).fl = s.fl := by
  unfold memFault
  split
  · exact (retireChan_fl _ c).trans (detects_stored _ s).fl
  · split
    · rfl
    · exact (outOfService_fl _).trans ((commitOwn_stored _ _ _).fl.trans (detects_stored _ s).fl)

theorem stopWriting_fl (st : GlState) : (stopWriting st s).fl = s.fl := rfl

theorem padCount_fl : (padCount s).fl = s.fl := by
  unfold padCount
  rw [count_fl, updPart_fl]

theorem bufferFull_fl : (bufferFull s).fl = s.fl := by
  unfold bufferFull
  rw [memFault_fl, (raise_said _ _).fl, stopWriting_fl, updPart_fl, padCount_fl]

theorem hand_fl (r : GRec) : (hand r s).fl = s.fl := by
  unfold hand
  split
  · rfl
  · split
    · rfl
    · split
      · exact bufferFull_fl s
      · rfl

theorem galleryEdge_fl (i : Nat) (st : Stamp) (rising : Bool) : (galleryEdge i st rising s).fl = s.fl := by
  unfold galleryEdge
  split
  · exact hand_fl s _
  · rfl

theorem clnStamp_fl (i : Nat) (st : Stamp) (rising : Bool) : (clnStamp i st rising s).fl = s.fl := by
  unfold clnStamp
  split
  · split <;> rfl
  · rfl

theorem tapWord_fl (i : Nat) (e : QEntry) : (tapWord i e s).fl = s.fl := by
  have h : (if s.tapped i then traceStamp i e.era e.word s else s).fl = s.fl := by
    split
    · exact traceStamp_fl s _ _ _
    · rfl
  unfold tapWord
  dsimp only
  split
  · exact (clnStamp_fl _ _ _ _).trans ((galleryEdge_fl _ _ _ _).trans h)
  · exact h

theorem gateStamp_fl (i : Nat) (st : Stamp) : (gateStamp i st s).fl = s.fl := by
  unfold gateStamp
  dsimp only
  split
  · split <;> rfl
  · split <;> rfl

theorem passCloses_fl (i : Nat) : ∀ (n : Nat) (s : State), (passCloses i n s).fl = s.fl
  | 0, _ => rfl
  | n + 1, s => by
    unfold passCloses
    split
    · exact passCloses_fl i n _
    · rfl

theorem toLedger_fl (i : Nat) (w : QWord) : (toLedger i w s).fl = s.fl := by
  unfold toLedger
  split
  · exact gateStamp_fl s _ _
  · exact passCloses_fl i _ _

theorem fbTest_fl (d : Nat) (st : Stamp) : (fbTest d st s).fl = s.fl := by
  unfold fbTest
  split <;> rfl

/-- A loop of steps that leave the flights alone leaves them alone. -/
theorem foldl_fl {β : Type} {f : State → β → State} (h : ∀ s b, (f s b).fl = s.fl) :
    ∀ (l : List β) (s : State), (l.foldl f s).fl = s.fl
  | [], _ => rfl
  | b :: l, s => (foldl_fl h l (f s b)).trans (h s b)

theorem useReal_fl (d : Nat) : (useReal d s).fl = s.fl := by
  unfold useReal
  refine foldl_fl ?_ _ s
  exact fun _ _ => rfl

theorem clearSynthetic_fl (d : Nat) : (clearSynthetic d s).fl = s.fl := by
  unfold clearSynthetic
  exact (repairId_stored _ _ _).fl.trans (useReal_fl s d)

theorem strayFb_fl (lone : Bool) : (strayFb lone s).fl = s.fl := by
  unfold strayFb
  exact (raiseIf_said _ _ _).fl

theorem traceShot_fl (e : Entry) : (traceShot e s).fl = s.fl := by
  unfold traceShot
  split
  · exact (pushStamped_said _ _ s).fl
  · rfl

theorem shotFired_fl (tag : Nat) (st : Stamp) : (shotFired tag st s).fl = s.fl := by
  unfold shotFired
  split
  · rfl
  · exact traceShot_fl _ _

theorem fbStamp_fl (d : Nat) (st : Stamp) : (fbStamp d st s).fl = s.fl := by
  unfold fbStamp
  split
  · split
    · rfl
    · exact strayFb_fl s _
  · split
    · exact strayFb_fl s _
    · split
      · dsimp only
        split
        · exact clearSynthetic_fl _ _
        · rfl
      · split
        · exact shotFired_fl _ _ _
        · exact strayFb_fl s _

theorem toFire_fl (i : Nat) (w : QWord) : (toFire i w s).fl = s.fl := by
  unfold toFire
  split
  · split
    · exact fbTest_fl s _ _
    · split
      · exact fbStamp_fl s _ _
      · rfl
  · rfl

/-- The consumer of a word has no part in the flights. -/
theorem consume_fl (i : Nat) (w : QWord) : (consume i w s).fl = s.fl := by
  unfold consume
  split
  · split
    · exact toLedger_fl s _ _
    · rfl
  · split
    · exact toFire_fl s _ _
    · rfl

end

/-! ## Pops and latches (R64, R73) -/

/-- A word that stands in S15 is popped, and of the flights nothing else changes. -/
theorem queuePop_fl {i : Nat} {e : QEntry} {q : List QEntry} {s : State} (hf : s.flightsRun = true)
    (hq : (s.chan i).queue = e :: q) (hr : e.ready ≤ s.cycle) (hh : (s.chan i).hold = false) :
    (queuePop i s).fl = (popHead i s).fl := by
  have hv : s.valid i = true := by
    unfold State.valid Chan.valid
    rw [hq]
    exact decide_eq_true hr
  unfold queuePop
  rw [hq, hv, hh, hf]
  dsimp only
  rw [if_neg (by decide)]
  split
  · rfl
  · exact (consume_fl _ _ _).trans (tapWord_fl _ _ _)

/-- A channel on HOLD is not popped. -/
theorem queuePop_hold {i : Nat} {s : State} (h : (s.chan i).hold = true) : queuePop i s = s := by
  unfold queuePop
  split
  · rfl
  · rw [h]
    simp

theorem ecnt_high (c : BitVec 48) : (c >>> 32).truncate 16 = BitVec.ofNat 16 (c.toNat / 2 ^ 32) :=
  BitVec.eq_of_toNat_eq (by simp [Nat.shiftRight_eq_div_pow])

/-! ## What writing a persistent word can do to events and faults (R371, R375, R408) -/

/-- No latched event is cleared, and no fault comes to be outstanding but those of unreadable words. -/
structure Bookkept (s t : State) : Prop where
  latched : ∀ n, (s.ev.get n).latched = true → (t.ev.get n).latched = true
  faults : ∀ f ∈ t.av.outst, f ∈ s.av.outst ∨ f.code = 0x0701

theorem Bookkept.trans {s t u : State} (h : Bookkept s t) (k : Bookkept t u) : Bookkept s u where
  latched n hn := k.latched n (h.latched n hn)
  faults f hf := (k.faults f hf).elim (h.faults f) .inr

/-- Events and outstanding faults stay as they are. -/
theorem Bookkept.of_same {s t : State} (he : t.ev = s.ev) (ho : t.av.outst = s.av.outst) : Bookkept s t where
  latched n hn := by rw [he]; exact hn
  faults f hf := .inl (by rw [← ho]; exact hf)

theorem Bookkept.of_ps (p : PStore) (s : State) : Bookkept s { s with ps := p } := .of_same rfl rfl

theorem count_bookkept (n k : Nat) (s : State) : Bookkept s (count n k s) := .of_same rfl rfl

theorem Bookkept.refl (s : State) : Bookkept s s := .of_same rfl rfl

theorem raises_bookkept (ns : List Nat) (s : State) : Bookkept s (raises ns s) where
  latched _ hn := raises_keeps ns hn
  faults f hf := .inl (by rw [← raises_outst ns s]; exact hf)

theorem raise_bookkept (n : Nat) (s : State) : Bookkept s (raise n s) := raises_bookkept [n] s

theorem Avail.Noted.outst {a b : Avail} (h : a.Noted b) : b.outst = a.outst := by rw [h]

/-- Faults detected together are the only ones that come to be outstanding (R409). -/
theorem detects_outst {fs : List Found} {s : State} {f : FaultId} (h : f ∈ (detects fs s).av.outst) :
    f ∈ s.av.outst ∨ ∃ x ∈ fs, f = x.id := by
  unfold detects at h
  split at h
  · exact .inl h
  · dsimp only [settle] at h
    rw [raises_outst] at h
    dsimp only at h
    rw [(Avail.notes_noted (fun f : Found => logEntry s f.id f.action (if f.stays then 0 else 2)) fs _).outst] at h
    refine (List.mem_append.mp h).imp_right fun m => ?_
    obtain ⟨x, hx, rfl⟩ := List.mem_map.mp m
    exact ⟨x, (List.mem_filter.mp hx).1, rfl⟩

theorem detects_bookkept {fs : List Found} (h : ∀ x ∈ fs, x.code = 0x0701) (s : State) : Bookkept s (detects fs s) where
  latched _ hn := detects_keeps fs hn
  faults f hf := (detects_outst hf).imp_right fun ⟨x, hx, e⟩ => by rw [e]; exact h x hx

theorem findUnreadable_bookkept (a : Nat) (s : State) : Bookkept s (findUnreadable a s) := by
  unfold findUnreadable
  dsimp only
  split
  · exact .refl s
  · refine Bookkept.trans ?_ (detects_bookkept (fun x hx => by rw [List.mem_singleton.mp hx]) _)
    exact (Bookkept.of_ps _ s).trans (raise_bookkept 116 _)

theorem checkWord_bookkept (a : Nat) (r : ReadResult) (s : State) : Bookkept s (checkWord a r s) := by
  unfold checkWord
  split
  · exact .refl s
  · split
    · exact .refl s
    · exact .of_ps _ s
  · exact findUnreadable_bookkept a s

theorem checkRead_bookkept (a : Nat) (s : State) : Bookkept s (checkRead a s) := by
  unfold checkRead
  split
  · exact (Bookkept.of_ps _ s).trans (checkWord_bookkept a _ (clearUpset a s))
  · exact .refl s

theorem intoSpare_bookkept : ∀ (n a : Nat) (v : W32) (s : State), Bookkept s (intoSpare n a v s).2
  | 0, _, _, s => .refl s
  | n + 1, a, v, s => by
    unfold intoSpare
    dsimp only
    split
    · exact .refl s
    · split
      · exact (Bookkept.of_ps _ s).trans (raises_bookkept _ _)
      · exact (Bookkept.of_ps _ s).trans ((raises_bookkept _ _).trans (intoSpare_bookkept n a v _))

theorem refuseWrite_bookkept (a : Nat) (old : W32) (s : State) : Bookkept s (refuseWrite a old s) := by
  unfold refuseWrite
  dsimp only
  refine Bookkept.trans ?_ (raise_bookkept 115 _)
  split
  · exact .of_ps _ s
  · exact (Bookkept.of_ps _ s).trans (findUnreadable_bookkept a _)

/-- A repair ends a fault, and latches one event more (R409). -/
theorem repairId_bookkept (id : FaultId) (action : Nat) (s : State) : Bookkept s (repairId id action s) := by
  unfold repairId
  split
  · refine ⟨fun n hn => raises_keeps [193] hn, fun f hf => .inl ?_⟩
    simp only [settle, raise, raises_outst, Avail.note_outst] at hf
    exact (List.mem_filter.mp hf).1
  · exact .refl s

theorem committed_bookkept (a : Nat) (was : Bool) (s : State) : Bookkept s (committed a was s) := by
  unfold committed
  refine Bookkept.trans ?_ (count_bookkept _ _ _)
  split
  · exact repairId_bookkept _ _ s
  · exact .refl s

theorem writeWord_bookkept (a : Nat) (v : W32) (s : State) : Bookkept s (writeWord a v s).2 := by
  unfold writeWord
  dsimp only
  split
  · exact (Bookkept.of_ps _ s).trans (committed_bookkept a _ _)
  · split
    · exact (Bookkept.of_ps _ s).trans ((intoSpare_bookkept 4096 a v _).trans (committed_bookkept a _ _))
    · exact (Bookkept.of_ps _ s).trans ((intoSpare_bookkept 4096 a v _).trans (refuseWrite_bookkept a _ _))

theorem commit_bookkept (a : Nat) (v : W32) (s : State) : Bookkept s (commit a v s).2 := by
  unfold commit
  dsimp only
  refine (checkRead_bookkept a s).trans ?_
  split
  · exact committed_bookkept a false _
  · exact writeWord_bookkept a v _

theorem commitChanged_bookkept (a : Nat) (f : W32 → W32) (s : State) : Bookkept s (commitChanged a f s).2 :=
  (checkRead_bookkept a s).trans (commit_bookkept a _ _)

/-! ## Substitution of cores (R72, R408, R411) -/

/-- No entry of the core table shows core `x` as retired (STATE 3). -/
def State.Unretired (s : State) (x : Nat) : Prop := ∀ c ∈ s.fl.cores, c.2.state = 3 → c.1 ≠ x

section
variable {α : Type} {d : Nat → α} {k : Nat} {v : α} {e : Nat × α}

theorem Tab.mem_of_mem_erase : ∀ {t : Tab α}, e ∈ Tab.erase t k → e ∈ t
  | [], h => h
  | (k', v') :: t, h => by
    unfold Tab.erase at h
    split at h
    · exact List.mem_cons_of_mem _ (Tab.mem_of_mem_erase h)
    · rcases List.mem_cons.mp h with rfl | h
      · exact List.mem_cons_self
      · exact List.mem_cons_of_mem _ (Tab.mem_of_mem_erase h)

theorem Tab.mem_insert : ∀ {t : Tab α}, e ∈ Tab.insert t k v → e = (k, v) ∨ e ∈ t
  | [], h => .inl (List.mem_singleton.mp h)
  | (k', v') :: t, h => by
    unfold Tab.insert at h
    split at h
    · exact List.mem_cons.mp h
    · split at h
      · exact (List.mem_cons.mp h).imp_right (List.mem_cons_of_mem _)
      · rcases List.mem_cons.mp h with rfl | h
        · exact .inr List.mem_cons_self
        · exact (Tab.mem_insert h).imp_right (List.mem_cons_of_mem _)

/-- An entry of a changed table is the changed one or was there before. -/
theorem Tab.mem_upd [DecidableEq α] {f : α → α} {t : Tab α} (h : e ∈ Tab.upd d t k f) :
    e = (k, f (Tab.get d t k)) ∨ e ∈ t := by
  unfold Tab.upd Tab.put at h
  split at h
  · exact .inr (Tab.mem_of_mem_erase h)
  · exact Tab.mem_insert h

/-- What a table reads as is an entry of it, or what an unlisted key reads as. -/
theorem Tab.get_mem (d : Nat → α) (k : Nat) : ∀ t : Tab α, Tab.get d t k = d k ∨ (k, Tab.get d t k) ∈ t
  | [] => .inl rfl
  | (k', v') :: t => by
    unfold Tab.get
    split
    · rename_i h
      exact .inr (by rw [h]; exact List.mem_cons_self)
    · exact (Tab.get_mem d k t).imp_right (List.mem_cons_of_mem _)

end

theorem freshCore_state (x : Nat) : (freshCore x).state ≠ 3 := by
  unfold freshCore
  dsimp only
  split <;> decide

/-- A core that the table does not show as retired is not in STATE 3. -/
theorem State.Unretired.state {s : State} {x : Nat} (h : s.Unretired x) : (s.core x).state ≠ 3 := by
  rcases Tab.get_mem freshCore x s.fl.cores with e | m
  · unfold State.core
    rw [e]
    exact freshCore_state x
  · exact fun k => h _ m k rfl

theorem State.Unretired.congr {s t : State} {x : Nat} (h : s.Unretired x) (e : t.fl.cores = s.fl.cores) :
    t.Unretired x := by
  unfold State.Unretired at *
  rw [e]
  exact h

/-- A change of a core that does not retire `x` keeps it. -/
theorem updCore_unretired {s : State} {x y : Nat} {f : Core → Core} (h : s.Unretired x)
    (hf : y = x → (f (s.core x)).state ≠ 3) : (updCore y f s).Unretired x := by
  intro c hc h3
  rcases Tab.mem_upd hc with rfl | m
  · rintro rfl
    exact hf rfl h3
  · exact h c m h3

/-- Arming a converter retires no core. -/
theorem armNext_unretired {s : State} {x : Nat} (h : s.Unretired x) (y v : Nat) : (armNext y v s).Unretired x := by
  unfold armNext
  dsimp only
  split
  · exact updCore_unretired h fun _ => h.state
  · split
    · exact (updCore_unretired h fun _ => h.state).congr rfl
    · exact updCore_unretired h fun _ => h.state

theorem armFirst_unretired {s : State} {x : Nat} (h : s.Unretired x) (y : Nat) : (armFirst y s).Unretired x := by
  unfold armFirst
  split
  · exact armNext_unretired h y 7
  · exact h

/-- A core that is neither retired nor has a fault, as a substitution judges it (R411). -/
theorem unfit_iff {s : State} {x : Nat} : (∀ y ∈ s.unfit, y.1 ≠ x) ↔
    (∀ f ∈ s.av.outst, f.code = 0x0101 ∨ f.code = 0x0102 → f.unit ≠ x) ∧ s.Unretired x := by
  unfold State.unfit State.Unretired
  simp only [List.mem_append, or_imp, forall_and, List.forall_mem_map, List.mem_filter, decide_eq_true_eq, and_imp]

/-! ### Waiting channels -/

/-- Substitutions are planned, and nothing else. -/
structure Planned (s t : State) : Prop where
  only : t = { s with fl := { s.fl with chans := t.fl.chans } }
  chan : ∀ j, t.chan j = { s.chan j with subst := (t.chan j).subst }

theorem Planned.refl (s : State) : Planned s s := ⟨rfl, fun _ => rfl⟩

theorem Planned.trans {s t u : State} (h : Planned s t) (k : Planned t u) : Planned s u where
  only := by rw [k.only, h.only]
  chan j := by rw [k.chan j, h.chan j]

theorem Planned.coreOf {s t : State} (h : Planned s t) (j : Nat) : t.coreOf j = s.coreOf j := by
  unfold State.coreOf
  rw [h.chan j]

theorem planSwitch_planned (i x : Nat) (tsw : Coarse) (fault : Option Nat) (s : State) :
    Planned s (planSwitch i x tsw fault s) := by
  have k := updChan_becomes i (fun c => { c with
    subst := some { core := x - coreNo (chanFlight i) 0, tsw := tsw, fault := fault } }) s
  refine ⟨rfl, fun j => ?_⟩
  by_cases e : j = i
  · subst e
    unfold planSwitch
    rw [k.chan]
  · unfold planSwitch
    rw [k.other j e]

/-- The channel of an unfit core is placed on a ready spare, if there is one (R411, R412). -/
def replanCore (s : State) (x : Nat × Option Nat) : State :=
  match s.servedBy x.1 with
  | some i =>
    if (s.chan i).subst.isSome then s else
    (match s.readySpare i with
      | some k => planSwitch i k (switchInstant s.tb.coarse) x.2 s
      | none => s)
  | none => s

theorem replanCores_eq (s : State) : replanCores s = s.unfit.foldl replanCore s := rfl

theorem replanCore_planned (s : State) (x : Nat × Option Nat) : Planned s (replanCore s x) := by
  unfold replanCore
  split
  · split
    · exact .refl s
    · split
      · exact planSwitch_planned _ _ _ _ s
      · exact .refl s
  · exact .refl s

/-- The channel that a core serves is served by that core. -/
theorem servedBy_coreOf {s : State} {x i : Nat} (h : s.servedBy x = some i) : s.coreOf i = x := by
  unfold State.servedBy at h
  have k := List.find?_some h
  exact of_decide_eq_true k

/-- A channel that another core serves is not placed anew. -/
theorem replanCore_other {s : State} {x : Nat × Option Nat} {i : Nat} (h : x.1 ≠ s.coreOf i) :
    (replanCore s x).chan i = s.chan i := by
  unfold replanCore
  split
  · rename_i j hj
    have e : i ≠ j := by
      rintro rfl
      exact h (servedBy_coreOf hj).symm
    split
    · rfl
    · split
      · exact updChan_chan_other _ s e
      · rfl
  · rfl

theorem replanned_planned : ∀ (l : List (Nat × Option Nat)) (s : State), Planned s (l.foldl replanCore s)
  | [], s => .refl s
  | x :: l, s => (replanCore_planned s x).trans (replanned_planned l _)

theorem replanned_other {i : Nat} : ∀ {l : List (Nat × Option Nat)} {s : State}, (∀ x ∈ l, x.1 ≠ s.coreOf i) →
    (l.foldl replanCore s).chan i = s.chan i
  | [], _, _ => rfl
  | x :: l, s, h => by
    have hl : ∀ y ∈ l, y.1 ≠ (replanCore s x).coreOf i := fun y hy => by
      rw [(replanCore_planned s x).coreOf]
      exact h y (List.mem_cons_of_mem _ hy)
    exact (replanned_other hl).trans (replanCore_other (h x List.mem_cons_self))

/-! ### Repairs -/

theorem repairs_stored (action : Nat) : ∀ (l : List FaultId) (s : State),
    Stored s (l.foldl (fun s f => repairId f action s) s)
  | [], s => .refl s
  | f :: l, s => (repairId_stored f action s).trans (repairs_stored action l _)

theorem repairs_bookkept (action : Nat) : ∀ (l : List FaultId) (s : State),
    Bookkept s (l.foldl (fun s f => repairId f action s) s)
  | [], s => .refl s
  | f :: l, s => (repairId_bookkept f action s).trans (repairs_bookkept action l _)

theorem endFreed_stored (s : State) : Stored s (endFreed s) := repairs_stored 2 _ s

theorem endFreed_bookkept (s : State) : Bookkept s (endFreed s) := repairs_bookkept 2 _ s

/-! ### The old core -/

/-- A core retired: STATE 3, and P.AV_CORERET and the events beside it (R411). -/
theorem retire_stored (x : Nat) (s : State) :
    Stored (updCore x (fun c => { c with state := 3, chan := 0 }) s) (retire x s) := by
  unfold retire
  exact (commitChanged_stored _ _ _).trans ((raises_stored _ _).trans (settle_stored _))

theorem settle_bookkept (s : State) : Bookkept s (settle s) := .of_same rfl rfl

theorem repair_bookkept (code unit action : Nat) (s : State) : Bookkept s (repair code unit action s) :=
  repairId_bookkept _ action s

theorem retire_bookkept (x : Nat) (s : State) : Bookkept s (retire x s) := by
  have h : Bookkept s (updCore x (fun c => { c with state := 3, chan := 0 }) s) := .of_same rfl rfl
  unfold retire
  exact h.trans ((commitChanged_bookkept _ _ _).trans ((raises_bookkept _ _).trans (settle_bookkept _)))

theorem retire_latched (x : Nat) (s : State) : ((retire x s).ev.get 196).latched = true := by
  unfold retire
  dsimp only
  rw [settle_ev]
  exact raises_latched _ (by simp)

theorem outstanding_false {s : State} {code unit : Nat} (h : ⟨code, unit, 0⟩ ∉ s.av.outst) :
    s.outstanding code unit = false := by
  unfold State.outstanding
  rw [← Bool.not_eq_true, List.contains_iff_mem]
  exact h

/-- A core whose channel has left it for a fault is retired, and its core faults end (R408, R411). -/
def dropFaulty (x : Nat) (s : State) : State := repair 0x0102 x 1 (repair 0x0101 x 1 (retire x s))

section
variable (x : Nat) (s : State)

theorem dropFaulty_stored : Stored (updCore x (fun c => { c with state := 3, chan := 0 }) s) (dropFaulty x s) := by
  unfold dropFaulty
  exact (retire_stored x s).trans ((repair_stored _ _ _ _).trans (repair_stored _ _ _ _))

theorem dropFaulty_bookkept : Bookkept s (dropFaulty x s) := by
  unfold dropFaulty
  exact (retire_bookkept x s).trans ((repair_bookkept _ _ _ _).trans (repair_bookkept _ _ _ _))

theorem dropFaulty_latched : ((dropFaulty x s).ev.get 196).latched = true := by
  unfold dropFaulty
  exact repair_keeps _ (repair_keeps _ (retire_latched x s))

theorem dropFaulty_outst {f : FaultId} (h : f ∈ (dropFaulty x s).av.outst) : f ≠ ⟨0x0101, x, 0⟩ ∧ f ≠ ⟨0x0102, x, 0⟩ := by
  unfold dropFaulty at h
  rw [repair_outst, repair_outst, List.filter_filter, List.mem_filter] at h
  simpa [and_comm] using h.2

end

/-- The old core after a switch: retired for a fault, else it is free (R411). -/
def leaveOld (faulty : Bool) (x : Nat) (s : State) : State := if faulty then dropFaulty x s else settle s

theorem leaveOld_bookkept (faulty : Bool) (x : Nat) (s : State) : Bookkept s (leaveOld faulty x s) := by
  unfold leaveOld
  split
  · exact dropFaulty_bookkept x s
  · exact settle_bookkept s

theorem leaveOld_chans (faulty : Bool) (x : Nat) (s : State) : (leaveOld faulty x s).fl.chans = s.fl.chans := by
  unfold leaveOld
  split
  · rw [(dropFaulty_stored x s).fl]
    rfl
  · rfl

theorem leaveOld_unretired {faulty : Bool} {s : State} {x y : Nat} (h : s.Unretired x)
    (hxy : faulty = true → y ≠ x) : (leaveOld faulty y s).Unretired x := by
  unfold leaveOld
  split
  · rename_i hf
    refine State.Unretired.congr ?_ (congrArg Flights.cores (dropFaulty_stored y s).fl)
    exact updCore_unretired h fun e => absurd e (hxy hf)
  · exact h.congr rfl

/-! ### The switch -/

/-- Channel `i` passes to the new core of `b`, whose first converter is armed; its old core is free (R72). -/
def passChannel (i : Nat) (b : Subst) (s : State) : State :=
  updCore (s.coreOf i) (fun k => { k with state := if k.state = 3 then 3 else 0, chan := 0, armed := none })
    (armFirst (coreNo (chanFlight i) b.core)
      (updCore (coreNo (chanFlight i) b.core)
        (fun k => { k with state := if b.core = chanLocal i then 1 else 2, chan := chanLocal i })
        (updChan i (fun c => { c with core := b.core, subst := none }) s)))

/-- The events of a switch: 19, and 197 where the flight has no spare any more (R72, R411). -/
def raiseSwitch (f before : Nat) (s : State) : State := raiseIf (before ≠ 0 && s.sparesOf f = 0) 197 (raise 19 s)

/-- A switch up to its events. -/
def passed (i : Nat) (b : Subst) (s : State) : State :=
  raiseSwitch (chanFlight i) (s.sparesOf (chanFlight i)) (passChannel i b s)

/-- After a switch a spare may be ready: waiting channels are placed anew, and faults of free cores end (R408, R412). -/
def resettle (s : State) : State := endFreed (replanCores s)

/-- The switch of a channel's core, once the count has reached Tsw (R72). -/
theorem coreSwitch_eq {i : Nat} {b : Subst} {s : State} (hb : (s.chan i).subst = some b) (ht : s.aheadBy b.tsw ≤ 0) :
    coreSwitch i s = resettle
      (leaveOld (b.fault.isSome || (passed i b s).coreFaulty (s.coreOf i)) (s.coreOf i) (passed i b s)) := by
  unfold coreSwitch
  dsimp only
  rw [hb]
  dsimp only
  rw [if_neg (Int.not_lt.mpr ht)]
  rfl

theorem coreSwitch_early {i : Nat} {b : Subst} {s : State} (hb : (s.chan i).subst = some b) (ht : 0 < s.aheadBy b.tsw) :
    coreSwitch i s = s := by
  unfold coreSwitch
  dsimp only
  rw [hb]
  exact if_pos ht

section
variable (i : Nat) (b : Subst) (s : State)

theorem passChannel_rearmed :
    Rearmed (updChan i (fun c => { c with core := b.core, subst := none }) s) (passChannel i b s) := by
  unfold passChannel
  exact (updCore_rearmed _ _ _).trans ((armFirst_rearmed _ _).trans (updCore_rearmed _ _ _))

theorem passChannel_chan : (passChannel i b s).chan i = { s.chan i with core := b.core, subst := none } :=
  ((passChannel_rearmed i b s).chan i).trans (updChan_chan_same i _ s)

theorem passChannel_queue (j : Nat) : ((passChannel i b s).chan j).queue = (s.chan j).queue := by
  rw [(passChannel_rearmed i b s).chan]
  by_cases e : j = i
  · subst e
    rw [updChan_chan_same]
  · rw [updChan_chan_other _ _ e]

theorem passChannel_av : (passChannel i b s).av = s.av := by
  rw [passChannel_rearmed i b s]
  rfl

variable {b s} in
theorem passChannel_unretired (h : s.Unretired (coreNo (chanFlight i) b.core)) :
    (passChannel i b s).Unretired (coreNo (chanFlight i) b.core) := by
  have hs : (if b.core = chanLocal i then 1 else 2) ≠ 3 := by split <;> decide
  have hn : (updCore (coreNo (chanFlight i) b.core)
      (fun k => { k with state := if b.core = chanLocal i then 1 else 2, chan := chanLocal i })
      (updChan i (fun c => { c with core := b.core, subst := none }) s)).Unretired (coreNo (chanFlight i) b.core) :=
    updCore_unretired (h.congr rfl) fun _ => hs
  have ha := armFirst_unretired hn (coreNo (chanFlight i) b.core)
  refine updCore_unretired ha fun _ => ?_
  rw [if_neg ha.state]
  exact Nat.zero_ne_add_one 2

end

theorem Said.outst {s t : State} (h : Said s t) : t.av.outst = s.av.outst := by rw [h]

section
variable (f n : Nat) (s : State)

theorem raiseSwitch_said : Said s (raiseSwitch f n s) := (raise_said 19 s).trans (raiseIf_said _ _ _)

theorem raiseSwitch_latched : ((raiseSwitch f n s).ev.get 19).latched = true :=
  raiseIf_keeps _ _ (raises_latched s (by simp))

end

section
variable (i : Nat) (b : Subst) (s : State)

theorem passed_fl : (passed i b s).fl = (passChannel i b s).fl := (raiseSwitch_said _ _ _).fl

theorem passed_outst : (passed i b s).av.outst = s.av.outst :=
  (raiseSwitch_said _ _ _).outst.trans (congrArg Avail.outst (passChannel_av i b s))

theorem passed_coreFaulty (x : Nat) : (passed i b s).coreFaulty x = s.coreFaulty x := by
  unfold State.coreFaulty State.outstanding
  rw [passed_outst]

theorem passed_latched : ((passed i b s).ev.get 19).latched = true := raiseSwitch_latched _ _ _

/-- What is done with the old core changes no channel. -/
theorem leaveOld_passed_chan (faulty : Bool) (x j : Nat) :
    (leaveOld faulty x (passed i b s)).chan j = (passChannel i b s).chan j := by
  unfold State.chan
  rw [leaveOld_chans, passed_fl]

theorem leaveOld_passed_coreOf (faulty : Bool) (x : Nat) :
    (leaveOld faulty x (passed i b s)).coreOf i = coreNo (chanFlight i) b.core := by
  unfold State.coreOf
  rw [leaveOld_passed_chan, passChannel_chan]

end

section
variable (s : State)

/-- The channels after waiting ones are placed anew: of them only the planned substitutions differ. -/
theorem resettle_chan (j : Nat) : (resettle s).chan j = { s.chan j with subst := ((resettle s).chan j).subst } := by
  have h : (resettle s).chan j = (replanCores s).chan j := chan_congr (endFreed_stored _).fl j
  rw [h]
  exact (replanned_planned _ s).chan j

theorem resettle_cores : (resettle s).fl.cores = s.fl.cores := by
  have h : (replanCores s).fl.cores = s.fl.cores := by
    rw [replanCores_eq, (replanned_planned _ s).only]
  exact (congrArg Flights.cores (endFreed_stored _).fl).trans h

theorem resettle_bookkept : Bookkept s (resettle s) := by
  have h : Bookkept s (replanCores s) := by
    rw [replanCores_eq, (replanned_planned _ s).only]
    exact .of_same rfl rfl
  exact h.trans (endFreed_bookkept _)

variable {s} in
/-- A channel on a fit core is not placed anew. -/
theorem resettle_fit {i : Nat} (h : ∀ x ∈ s.unfit, x.1 ≠ s.coreOf i) : (resettle s).chan i = s.chan i :=
  (chan_congr (endFreed_stored _).fl i).trans (replanned_other h)

end

/-- A core fault is an outstanding fault of that core. -/
theorem coreFaulty_mem {s : State} {x : Nat} (h : s.coreFaulty x = true) :
    ∃ f ∈ s.av.outst, (f.code = 0x0101 ∨ f.code = 0x0102) ∧ f.unit = x := by
  rcases Bool.or_eq_true_iff.mp h with h | h
  · exact ⟨_, List.contains_iff_mem.mp h, .inl rfl, rfl⟩
  · exact ⟨_, List.contains_iff_mem.mp h, .inr rfl, rfl⟩

/-- A new core without a fault stays without one, whatever becomes of the old core of a switch that no fault asked for. -/
theorem leaveOld_fit {i : Nat} {b : Subst} {s : State} (hf : b.fault = none)
    (h : ∀ x ∈ s.unfit, x.1 ≠ coreNo (chanFlight i) b.core) :
    ∀ x ∈ (leaveOld (b.fault.isSome || (passed i b s).coreFaulty (s.coreOf i)) (s.coreOf i) (passed i b s)).unfit,
      x.1 ≠ coreNo (chanFlight i) b.core := by
  obtain ⟨hout, hret⟩ := unfit_iff.mp h
  have hp : (passed i b s).Unretired (coreNo (chanFlight i) b.core) :=
    (passChannel_unretired i hret).congr (by rw [passed_fl])
  refine unfit_iff.mpr ⟨fun f hm hc => ?_, leaveOld_unretired hp fun hold => ?_⟩
  · rcases (leaveOld_bookkept _ _ _).faults f hm with hm | hu
    · exact hout f (by rwa [passed_outst] at hm) hc
    · omega
  · rw [hf, passed_coreFaulty] at hold
    obtain ⟨f, hm, hc, hu⟩ := coreFaulty_mem (x := s.coreOf i) (by simpa using hold)
    rw [← hu]
    exact hout f hm hc

section
variable {i : Nat} {b : Subst} {s : State} (hb : (s.chan i).subst = some b) (ht : s.aheadBy b.tsw ≤ 0)
include hb ht

/-- A switch gives its channel the new core (R72). -/
theorem coreSwitch_core : ((coreSwitch i s).chan i).core = b.core := by
  rw [coreSwitch_eq hb ht, resettle_chan, leaveOld_passed_chan, passChannel_chan]

/-- A switch leaves every queue as it is. -/
theorem coreSwitch_queue (j : Nat) : ((coreSwitch i s).chan j).queue = (s.chan j).queue := by
  rw [coreSwitch_eq hb ht, resettle_chan, leaveOld_passed_chan]
  exact passChannel_queue i b s j

theorem coreSwitch_latched : ((coreSwitch i s).ev.get 19).latched = true := by
  rw [coreSwitch_eq hb ht]
  exact (resettle_bookkept _).latched 19 ((leaveOld_bookkept _ _ _).latched 19 (passed_latched i b s))

/-- A switch that no fault asked for, onto a core without a fault, ends the substitution. -/
theorem coreSwitch_ends (hf : b.fault = none) (h : ∀ x ∈ s.unfit, x.1 ≠ coreNo (chanFlight i) b.core) :
    ((coreSwitch i s).chan i).subst = none := by
  rw [coreSwitch_eq hb ht, resettle_fit (by rw [leaveOld_passed_coreOf]; exact leaveOld_fit hf h), leaveOld_passed_chan,
    passChannel_chan]

/-- After a switch that a fault asked for, the old core is dropped. -/
theorem coreSwitch_faulty (h : b.fault.isSome = true ∨ s.coreFaulty (s.coreOf i) = true) :
    coreSwitch i s = resettle (dropFaulty (s.coreOf i) (passed i b s)) := by
  rw [coreSwitch_eq hb ht, passed_coreFaulty, Bool.or_eq_true_iff.mpr h]
  exact congrArg resettle (if_pos rfl)

end

section
variable (x : Nat) (s : State)

/-- A dropped core is retired, with event 196 and no core fault outstanding. -/
theorem resettle_dropFaulty_state : ((resettle (dropFaulty x s)).core x).state = 3 := by
  unfold State.core
  rw [resettle_cores, (dropFaulty_stored x s).fl]
  exact congrArg Core.state (updCore_core_same x _ s)

theorem resettle_dropFaulty_latched : ((resettle (dropFaulty x s)).ev.get 196).latched = true :=
  (resettle_bookkept _).latched 196 (dropFaulty_latched x s)

theorem resettle_dropFaulty_outstanding {code : Nat} (h : code = 0x0101 ∨ code = 0x0102) :
    (resettle (dropFaulty x s)).outstanding code x = false := by
  refine outstanding_false fun hm => ?_
  rcases (resettle_bookkept _).faults _ hm with hm | hc
  · obtain ⟨h1, h2⟩ := dropFaulty_outst x s hm
    rcases h with rfl | rfl
    · exact h1 rfl
    · exact h2 rfl
  · simp only at hc
    omega

end

/-- A switch that a core fault asked for retires the old core, whose faults end (R408, R411). -/
theorem coreSwitch_retires {i : Nat} {b : Subst} {s : State} (hb : (s.chan i).subst = some b) (ht : s.aheadBy b.tsw ≤ 0)
    (h : b.fault.isSome = true ∨ s.coreFaulty (s.coreOf i) = true) :
    ((coreSwitch i s).ev.get 196).latched = true ∧ ((coreSwitch i s).core (s.coreOf i)).state = 3 ∧
      (coreSwitch i s).outstanding 0x0101 (s.coreOf i) = false ∧
      (coreSwitch i s).outstanding 0x0102 (s.coreOf i) = false := by
  rw [coreSwitch_faulty hb ht h]
  exact ⟨resettle_dropFaulty_latched _ _, resettle_dropFaulty_state _ _,
    resettle_dropFaulty_outstanding _ _ (.inl rfl), resettle_dropFaulty_outstanding _ _ (.inr rfl)⟩

/-- Beside the switch itself, CORE_SWITCH starts the driver's count of void shots again (R417). -/
theorem switchCore_em (i : Nat) (s : State) : ∃ m, switchCore i s = { coreSwitch i s with em := m } := by
  unfold switchCore
  dsimp only
  split
  · exact ⟨_, rfl⟩
  · exact ⟨(coreSwitch i s).em, rfl⟩

/-- Before Tsw CORE_SWITCH does nothing (R72). -/
theorem switchCore_early {i : Nat} {b : Subst} {s : State} (hb : (s.chan i).subst = some b) (ht : 0 < s.aheadBy b.tsw) :
    switchCore i s = s := by
  unfold switchCore
  dsimp only
  rw [coreSwitch_early hb ht, if_neg (fun h => h.2.2.2 rfl)]

/-- Settles O24: a pop and the latch of the counters each change one channel; a switch passes its channel on, and then
judges the old core and the channels that wait. -/
theorem queuesDrainAndCoresSwitch : Obligations.QueuesDrainAndCoresSwitch := by
  refine ⟨fun s i e q hl hi hf hq hr hh => ?_, fun s i hl hi hh => ?_, fun s i b hl hi hb hn ht => ?_,
    fun s i b hl hi hb hfault ht => ?_, fun s i b hl hi hb ht => ?_, fun s i hl hi => ?_⟩
  · refine Completes.of_act (f := queuePop i) rfl (by simp [hi]) hl ?_
    have hfl : ({ queuePop i s with pending := s.pending } : State).fl = (popHead i s).fl := queuePop_fl hf hq hr hh
    have k : ChanBecomes i _ s (popHead i s) := updChan_becomes i _ s
    refine ⟨?_, fun j hj => (chan_congr hfl j).trans (k.other j hj), (congrArg Flights.cores hfl).trans k.cores⟩
    rw [chan_congr hfl, k.chan, hq]
    cases q <;> rfl
  · exact exec_of_act (f := queuePop i) rfl (by simp [hi]) hl (by rw [queuePop_hold hh])
  · refine Completes.of_act (f := switchCore i) rfl (by simp [hi]) hl ?_
    obtain ⟨m, e⟩ := switchCore_em i s
    rw [e]
    exact ⟨coreSwitch_core hb ht, coreSwitch_latched hb ht, coreSwitch_queue hb ht, coreSwitch_ends hb ht hn⟩
  · refine Completes.of_act (f := switchCore i) rfl (by simp [hi]) hl ?_
    obtain ⟨m, e⟩ := switchCore_em i s
    obtain ⟨h196, h3, h1, h2⟩ := coreSwitch_retires hb ht hfault
    rw [e]
    exact ⟨coreSwitch_core hb ht, coreSwitch_latched hb ht, h196, h3, h1, h2, coreSwitch_queue hb ht⟩
  · exact exec_of_act (f := switchCore i) rfl (by simp [hi]) hl (by rw [switchCore_early hb ht])
  · refine Completes.of_act (f := latchCounts i) rfl (by simp [hi]) hl ?_
    have k : ChanBecomes i _ s (latchCounts i s) := updChan_becomes i _ s
    have hc := k.chan
    rw [ecnt_high] at hc
    exact ⟨congrArg Chan.latched hc, hc.trans (congrArg (fun l => { s.chan i with latched := l })
      (congrArg Chan.latched hc).symm), k.other, rfl⟩

end Sys2Proof.Machine
end

section
/-!
PROOFS. Calibration (chapter 3): a word of the persistent store that commits at its first write, and the board skews that
SKEW_SET writes.
-/
namespace Sys2Proof.Machine

/-! ## A write of a sound word (R368) -/

/-- No word has moved to a spare, and word `a` can be read, takes a write and holds no error. -/
structure PStore.Sound (p : PStore) (a : Nat) : Prop where
  unspared : p.spares = []
  readable : (p.cell a).unreadable = false
  verifies : (p.cell a).stuck = 0
  unworn : (p.cell a).wear < 100000000
  clean : ∀ x ∈ p.upset, x.1 ≠ a

section
variable {p : PStore} (h : p.spares = [])
include h

theorem PStore.cell_unspared (a : Nat) : p.cell a = Tab.get freshWord p.words a := by
  unfold PStore.cell
  rw [h]
  rfl

theorem PStore.setCell_unspared (a : Nat) (c : PWord) :
    p.setCell a c = { p with words := Tab.put freshWord p.words a c } := by
  unfold PStore.setCell
  rw [h]
  rfl

theorem PStore.cell_setCell (a b : Nat) (c : PWord) :
    (p.setCell a c).cell b = Tab.get freshWord (Tab.put freshWord p.words a c) b := by
  rw [PStore.setCell_unspared h]
  exact PStore.cell_unspared (p := { p with words := Tab.put freshWord p.words a c }) h b

theorem PStore.cell_setCell_same (a : Nat) (c : PWord) : (p.setCell a c).cell a = c := by
  rw [PStore.cell_setCell h, Tab.get_put_same]

theorem PStore.cell_setCell_other {a b : Nat} (c : PWord) (hb : b ≠ a) : (p.setCell a c).cell b = p.cell b := by
  rw [PStore.cell_setCell h, Tab.get_put_other _ _ hb, PStore.cell_unspared h]

end

theorem PStore.read_congr {p q : PStore} {a : Nat} (h : p.cell a = q.cell a) : p.read a = q.read a := by
  unfold PStore.read
  rw [h]

/-- A word that can be read reads as the data of its cell. -/
theorem PStore.read_readable {p : PStore} {a : Nat} (h : (p.cell a).unreadable = false) : p.read a = (p.cell a).data := by
  unfold PStore.read
  simp only [h, Bool.false_eq_true, if_false]

/-- Of a store without spares, a written word reads as written and every other as before. -/
theorem PStore.read_setCell {p : PStore} (h : p.spares = []) (a : Nat) {c : PWord} (hc : c.unreadable = false) :
    (p.setCell a c).read a = c.data ∧ ∀ b, b ≠ a → (p.setCell a c).read b = p.read b := by
  have e := PStore.cell_setCell_same h a c
  refine ⟨?_, fun b hb => PStore.read_congr (PStore.cell_setCell_other h c hb)⟩
  rw [PStore.read_readable (by rw [e, hc]), e]

/-- A cell that is not worn out and has no failure to come takes a value at the first attempt. -/
theorem PWord.attempts_first {c : PWord} (hs : c.stuck = 0) (hw : c.wear < 100000000) (free : Bool) (v : W32) (n : Nat) :
    c.attempts free v (n + 1) = (true, { data := v, wear := wearAdd c.wear 1, unreadable := false, stuck := 0 }) := by
  have hw : decide (100000000 ≤ c.wear) = false := decide_eq_false (Nat.not_le.mpr hw)
  unfold PWord.attempts
  rw [hw, Bool.and_false, if_neg Bool.false_ne_true, if_pos hs]

theorem checkRead_clean {a : Nat} {s : State} (h : ∀ x ∈ s.ps.upset, x.1 ≠ a) : checkRead a s = s :=
  checkReads_clean (as := [a]) fun x hx => mt List.mem_singleton.mp (h x hx)

/-- `t` is `s` with the value `v` committed to word `a`: the store and the commit counter alone differ, and of the words
that are read no other (R368, R428). -/
def Commits (a : Nat) (v : W32) (s t : State) : Prop :=
  ∃ p : PStore, t = count 242 1 { s with ps := p } ∧ p.read a = v ∧ ∀ b, b ≠ a → p.read b = s.ps.read b

section
variable {a : Nat} {s : State} (h : s.ps.Sound a) (v : W32)
include h

theorem writeWord_sound : ∃ t, writeWord a v s = (true, t) ∧ Commits a v s t := by
  have hc := h.unspared
  obtain ⟨hr, ho⟩ := PStore.read_setCell (p := (clearUpset a s).ps) hc a
    (c := { data := v, wear := wearAdd (s.ps.cell a).wear 1, unreadable := false, stuck := 0 }) rfl
  have hcell : (clearUpset a s).ps.cell a = s.ps.cell a := rfl
  unfold writeWord
  dsimp only
  rw [hcell, PWord.attempts_first h.verifies h.unworn, h.readable, if_pos rfl]
  exact ⟨_, rfl, _, rfl, hr, ho⟩

/-- A write of a sound word commits, be its value new or the one it holds. -/
theorem commit_sound : ∃ t, commit a v s = (true, t) ∧ Commits a v s t := by
  unfold commit
  rw [checkRead_clean h.clean]
  dsimp only
  split
  · next hv =>
    have hd : (s.ps.cell a).data = v := by simpa [h.readable] using hv
    exact ⟨_, rfl, s.ps, rfl, (PStore.read_readable h.readable).trans hd, fun _ _ => rfl⟩
  · exact writeWord_sound h v

end

theorem commits_one {a : Nat} {v : W32} {s t : State} (h : commit a v s = (true, t)) :
    commits [(a, v)] s = (1, true, t) := by
  unfold commits
  rw [h]
  rfl

/-! ## SKEW_SET (R97, R332) -/

/-- The address of the board skew of channel `i` (R97). -/
def skewAddr (i : Nat) : Nat := 0x01001000 + 4 * i

/-- A new set of board skews is in use: the value that the word of channel `i` held, `old`, stays for the stamps pushed
before it (R97). -/
def State.skewReplaced (i : Nat) (old : W32) (s : State) : State :=
  { s with ca := { s.ca with
      skews := s.ca.skews + 1, skewWas := (s.ca.skews + 1, i, old) :: s.ca.skewWas } }

section
variable {tk : Ticket} {p : List Byte} {s : State}

/-- No channel, too many, or one that does not exist. -/
theorem skewSetOwn_badarg (h : pNat p 2 1 = 0 ∨ 32 < pNat p 2 1 ∨ 524 < pNat p 0 2 + pNat p 2 1) :
    skewSetOwn tk p s = reply s (.badarg 2) := if_pos h

/-- One channel whose word commits. -/
theorem skewSetOwn_one {t : State} (hn : pNat p 2 1 = 1) (hi : pNat p 0 2 < 524)
    (hc : commit (skewAddr (pNat p 0 2)) (w32 (pNat p 4 2)) s = (true, t)) (hca : t.ca = s.ca) :
    skewSetOwn tk p s =
      reply (t.skewReplaced (pNat p 0 2) (pread s (skewAddr (pNat p 0 2)))) (.plain .ok) := by
  have hg : ¬(1 = 0 ∨ 32 < 1 ∨ 524 < pNat p 0 2 + 1) := by omega
  have hr : List.range 1 = [0] := rfl
  have h1 := commits_one hc
  unfold skewAddr at h1
  unfold skewSetOwn pByte
  rw [hn]
  dsimp only
  rw [if_neg hg, hr, List.map_singleton, List.map_singleton, Nat.add_zero, Nat.mul_zero, Nat.add_zero, h1, ← hca]
  rfl

end

/-- A SKEW_SET of the length that its count asks for, taken in a mode that admits it, completes with what its own rule
yields. -/
theorem skewSet_completes {s u : State} {m : Nat} {p : List Byte} {a : Answer} (ht : Takes s m 0x0402 p)
    (hmode : restMode s = true) (hlen : p.length = 4 + 2 * pNat p 2 1)
    (ho : skewSetOwn (s.ticket m) p s = reply u a) (hp : u.pending = s.pending) :
    Completes (.skewSet m) s (fun t => Said u t ∧ Answered m a t) := by
  have hlen : (decide (4 ≤ p.length) && p.length == 4 + 2 * pByte p 2) = true := by
    rw [Bool.and_eq_true, decide_eq_true_eq, beq_iff_eq]
    exact ⟨by omega, hlen⟩
  exact Completes.of_lodge (row := anyRow) (mode := fun s _ => restMode s) rfl ht rfl hlen hmode ho hp

/-- Settles O26: the one word of a sound store commits, and a range of channels that do not exist is refused before any
write. -/
theorem skewSetCommits : Obligations.SkewSetCommits := by
  refine ⟨fun s m p ht hmode hlen hn hi hsp hr hst hw hup => ?_, fun s m p ht hmode hlen hbad => ?_⟩
  · have sound : s.ps.Sound (skewAddr (pNat p 0 2)) := ⟨hsp, hr, hst, hw, hup⟩
    obtain ⟨u, hc, q, rfl, hsame, hother⟩ := commit_sound sound (w32 (pNat p 4 2))
    refine (skewSet_completes ht hmode (by omega) (skewSetOwn_one hn hi hc rfl) rfl).mono fun t ⟨k, ka⟩ => ?_
    have hq : t.ps = q := k.ps
    rw [hq]
    exact ⟨hsame, hother, (count_said 242 1 _).trans k, ka⟩
  · exact skewSet_completes ht hmode hlen (skewSetOwn_badarg hbad) rfl

end Sys2Proof.Machine
end

section
/-!
PROOFS. The emitter link (chapter 5): the exchanges of the command channel, and the commands that limit, map and free the
lines.
-/
namespace Sys2Proof.Machine

theorem driver_congr {s t : State} (h : t.em = s.em) (d : Nat) : t.driver d = s.driver d := by
  unfold State.driver
  rw [h]

theorem line_congr {s t : State} (h : t.em = s.em) (x : Nat) : t.line x = s.line x := by
  unfold State.line
  rw [h]

/-! ## Failed exchanges (R146) -/

/-- A driver after a failure of the exchange `e` that is not the third in a row: its word is repeated with its SEQ. -/
def Driver.failed (e : Exchange) (r : Driver) : Driver :=
  { r with
    fails := min 3 (r.fails + 1)
    repeatPoll := if e.queued then r.repeatPoll else some e.seq
    repeatCmd := if e.queued then some e.seq else r.repeatCmd }

theorem exchangeFails_closed {s : State} (h : s.em.exch = none) (crc : Bool) : exchangeFails crc s = s := by
  unfold exchangeFails
  rw [h]

/-- A failure that is not the third in a row ends the exchange and is counted. -/
theorem exchangeFails_open {s : State} {e : Exchange} (he : s.em.exch = some e) (hf : (s.driver e.drv).fails ≠ 2)
    (crc : Bool) :
    exchangeFails crc s = updDriver e.drv (Driver.failed e) { s with em := { s.em with
      exch := none, retry := s.em.retry + 1, crcErr := if crc then s.em.crcErr + 1 else s.em.crcErr } } := by
  unfold exchangeFails
  rw [he]
  simp only [hf, decide_false, Bool.not_false, Bool.and_true, if_false]
  rfl

/-! ## Link cycles (R141, R145) -/

/-- A word that repeats none has the next SEQ of its driver. -/
theorem sendTo_seq (d : Nat) (c : EmCmd) (queued : Bool) (s : State) :
    ((sendTo d c queued none s).driver d).seq = ((s.driver d).seq + 1) % 16 := by
  unfold sendTo count updDriver State.driver
  dsimp only
  rw [Tab.get_upd_same]
  rfl

theorem linkCycle_between {s : State} (h : s.tb.coarse.toNat % 1024 ≠ 0) : linkCycle s = s := if_pos h

/-- A waiting broadcast goes before all else, one of its copies a cycle. -/
theorem linkCycle_broadcast {s : State} {arg n : Nat} {rest : List (Nat × Nat)} (hc : s.tb.coarse.toNat % 1024 = 0)
    (he : s.em.exch = none) (hb : s.em.bcast = (arg, n) :: rest) :
    linkCycle s =
      let seq := if n = 3 then (s.em.bcSeq + 1) % 16 else s.em.bcSeq
      { s with em := { s.em with
        bcSeq := seq, bcast := if n ≤ 1 then rest else (arg, n - 1) :: rest, cmdLast := false
        emc := some ⟨s.uptime, emcWord 0 true 3 seq arg⟩ } } := by
  unfold linkCycle
  rw [if_neg (not_not_intro hc)]
  dsimp only
  rw [exchangeFails_closed he, hb]

/-- No driver is found where none is admitted. -/
theorem nextDriver_none {p : Nat → Bool} (d : Nat) (h : ∀ u, u < 8 → p u = false) : nextDriver p d = none := by
  refine List.findSome?_eq_none_iff.mpr fun j _ => ?_
  simp [h ((d + j) % 8) (Nat.mod_lt _ (by decide))]

/-- The one driver admitted is found from wherever the search begins. -/
theorem nextDriver_only {p : Nat → Bool} {u : Nat} (d : Nat) (hu : u < 8) (h : ∀ v, v < 8 → (p v = true ↔ v = u)) :
    nextDriver p d = some u := by
  have found : nextDriver p d ≠ none := by
    intro hn
    have hj := List.findSome?_eq_none_iff.mp hn ((u + 8 - d % 8) % 8) (List.mem_range.mpr (Nat.mod_lt _ (by decide)))
    have hd : (d + (u + 8 - d % 8) % 8) % 8 = u := by omega
    simp [hd, (h u hu).mpr rfl] at hj
  obtain ⟨v, hv⟩ := Option.ne_none_iff_exists'.mp found
  obtain ⟨j, -, hj⟩ := List.exists_of_findSome?_eq_some hv
  have hlt : (d + j) % 8 < 8 := Nat.mod_lt _ (by decide)
  dsimp only at hj
  split at hj
  · next hp => rw [hv, ← hj, (h _ hlt).mp hp]
  · cases hj

/-- The drivers of a list of one are present in that one. -/
theorem present_only {s : State} {d : Nat} (h : s.present = [d]) {v : Nat} (hv : v < 8) :
    (s.driver v).present = true ↔ v = d := by
  rw [← List.mem_singleton (a := v), ← h, State.present, List.mem_filter, List.mem_range]
  exact ⟨fun hp => ⟨hv, hp⟩, And.right⟩

/-- With nothing queued, the one driver present is polled. -/
theorem linkCycle_poll {s : State} {d : Nat} (hc : s.tb.coarse.toNat % 1024 = 0) (hd : d < 8) (he : s.em.exch = none)
    (hb : s.em.bcast = []) (hp : s.present = [d]) (hq : (s.driver d).queue = []) :
    linkCycle s =
      sendTo d ⟨0, 0⟩ false (s.driver d).repeatPoll { s with em := { s.em with pollNext := (d + 1) % 8 } } := by
  have idle : ∀ u, u < 8 → ((s.driver u).present && !(s.driver u).queue.isEmpty) = false := fun u hu => by
    by_cases e : u = d
    · rw [e, hq]
      exact Bool.and_false _
    · rw [Bool.eq_false_iff.mpr (mt (present_only hp hu).mp e)]
      rfl
  unfold linkCycle
  rw [if_neg (not_not_intro hc)]
  dsimp only
  rw [exchangeFails_closed he, hb]
  dsimp only
  rw [nextDriver_none _ idle, ite_self]
  dsimp only
  rw [nextDriver_only _ hd fun v hv => present_only hp hv]

/-! ## Status words (R142, R144) -/

theorem statusWord_late (w : BitVec 40) (s : State) : statusWord false w s = s := by
  unfold statusWord
  split <;> rfl

theorem statusWord_bad_crc {s : State} {e : Exchange} {w : BitVec 40} (he : s.em.exch = some e)
    (hc : crc8 32 (w.toNat / 256) ≠ w.toNat % 256) : statusWord true w s = exchangeFails true s := by
  unfold statusWord
  rw [he]
  exact if_pos hc

/-- A word whose CRC and echoes match answers the open exchange. -/
theorem statusWord_matches {s : State} {e : Exchange} {w : BitVec 40} (he : s.em.exch = some e)
    (hc : crc8 32 (w.toNat / 256) = w.toNat % 256)
    (hw : bits w.toNat 37 3 = e.drv ∧ bits w.toNat 32 4 = e.cmd.op ∧ bits w.toNat 28 4 = e.seq) :
    statusWord true w s =
      answered e (w.toNat.testBit 36) (bits w.toNat 8 20) { s with em := { s.em with exch := none } } := by
  unfold statusWord
  rw [he]
  exact (if_neg (not_not_intro hc)).trans (if_pos hw)

/-- A driver that has answered the exchange `e`. -/
def Driver.heard (e : Exchange) (r : Driver) : Driver :=
  { r with fails := 0, linkOk := true, answered := true, queue := if e.queued then r.queue.tail else r.queue }

/-- A driver whose answer to a POLL, in TBCLK cycle `now`, shows the state `st` and no FLT. -/
def Driver.polled (st now : Nat) (r : Driver) : Driver :=
  { r with
    dis := st.testBit 19, ovt := st.testBit 17, uvlo := st.testBit 16, selCnt := bits st 0 8, flt := false
    selErr := r.selErr || st.testBit 18, selErrAt := if st.testBit 18 then some now else r.selErrAt
    alarm := decide (bits st 16 2 ≠ 0) }

/-- Without FLT a POLL answer sets what it shows of its driver, and raises events at most. -/
theorem driverState_poll (d st : Nat) (s : State) :
    ∃ ns, driverState d true false st s = raises ns (updDriver d (Driver.polled st s.uptime) s) := by
  unfold driverState
  simp only [Bool.false_and, Bool.true_and, if_true, Bool.false_eq_true, if_false]
  exact ⟨_, rfl⟩

theorem repair_absent {code unit : Nat} {s : State} (h : s.outstanding code unit = false) (action : Nat) :
    repair code unit action s = s := by
  unfold State.outstanding at h
  unfold repair repairId
  rw [h]
  rfl

/-- The answer to a POLL without FLT: the driver is heard, its fault 0x0303 ends, and it shows its state. -/
theorem answered_poll {e : Exchange} (ho : e.cmd.op = 0) (data : Nat) (s : State) :
    ∃ ns, answered e false data s =
      let u := repair 0x0303 e.drv 0 (updDriver e.drv (Driver.heard e) s)
      raises ns (updDriver e.drv (Driver.polled data u.uptime) u) := by
  unfold answered
  rw [ho]
  exact driverState_poll e.drv data _

theorem testBit_bits {x lo w i : Nat} (h : i < w) : (bits x lo w).testBit i = x.testBit (lo + i) := by
  unfold bits
  rw [Nat.testBit_mod_two_pow, Nat.testBit_div_two_pow, decide_eq_true h, Bool.true_and, Nat.add_comm]

theorem bits_bits_low {v w : Nat} (h : w ≤ v) (x lo : Nat) : bits (bits x lo v) 0 w = bits x lo w := by
  unfold bits
  rw [Nat.pow_zero, Nat.div_one, Nat.mod_mod_of_dvd _ (Nat.pow_dvd_pow 2 h)]

/-- What a driver shows after a POLL, in the bits of the status word (R142, R144). -/
theorem Driver.polled_statusWord (x now : Nat) (r : Driver) :
    (Driver.polled (bits x 8 20) now r).dis = x.testBit 27 ∧
      (Driver.polled (bits x 8 20) now r).selErr = (r.selErr || x.testBit 26) ∧
      (Driver.polled (bits x 8 20) now r).ovt = x.testBit 25 ∧
      (Driver.polled (bits x 8 20) now r).uvlo = x.testBit 24 ∧
      (Driver.polled (bits x 8 20) now r).selCnt = bits x 8 8 := by
  have shown (i : Nat) (h : i < 20) : (bits x 8 20).testBit i = x.testBit (8 + i) := testBit_bits h
  exact ⟨shown 19 (by decide), congrArg (r.selErr || ·) (shown 18 (by decide)), shown 17 (by decide), shown 16 (by decide),
    bits_bits_low (by decide) x 8⟩

section
variable {e : Exchange} (ho : e.cmd.op = 0) (data : Nat) (s : State)
include ho

/-- Of the emitter link it changes the one driver only. -/
theorem answered_poll_driver :
    (answered e false data s).driver e.drv = Driver.polled data s.uptime (Driver.heard e (s.driver e.drv)) ∧
      (∀ d, d ≠ e.drv → (answered e false data s).driver d = s.driver d) ∧
      (answered e false data s).em = { s.em with drivers := (answered e false data s).em.drivers } := by
  obtain ⟨ns, hns⟩ := answered_poll ho data s
  rw [hns]
  have hu := repair_stored 0x0303 e.drv 0 (updDriver e.drv (Driver.heard e) s)
  generalize repair 0x0303 e.drv 0 (updDriver e.drv (Driver.heard e) s) = u at hu ⊢
  have ht := (raises_said ns (updDriver e.drv (Driver.polled data u.uptime) u)).em
  refine ⟨?_, fun d hd => ?_, ?_⟩
  · rw [driver_congr ht, updDriver_driver_same, driver_congr hu.em, updDriver_driver_same, hu.uptime]
    rfl
  · rw [driver_congr ht, updDriver_driver_other _ _ hd, driver_congr hu.em, updDriver_driver_other _ _ hd]
  · rw [ht, updDriver, hu.em]
    rfl

/-- Where the driver's fault 0x0303 is not outstanding, nothing else happens but things said. -/
theorem answered_poll_said (h : s.outstanding 0x0303 e.drv = false) :
    Said { s with em := { s.em with drivers := (answered e false data s).em.drivers } } (answered e false data s) := by
  obtain ⟨-, -, hem⟩ := answered_poll_driver ho data s
  obtain ⟨ns, hns⟩ := answered_poll ho data s
  rw [repair_absent (by exact h)] at hns
  have k := raises_said ns (updDriver e.drv (Driver.polled data s.uptime) (updDriver e.drv (Driver.heard e) s))
  rw [← hem, show (answered e false data s).em = _ from hns ▸ k.em, hns]
  exact k

theorem answered_poll_pending : (answered e false data s).pending = s.pending := by
  obtain ⟨ns, hns⟩ := answered_poll ho data s
  rw [hns, (raises_said ns _).pending]
  exact (repair_stored _ _ _ _).pending

end

/-- Settles O31: each command is a failed exchange, a word sent, or an answer that changes its own driver. -/
theorem emitterLinkExchanges : Obligations.EmitterLinkExchanges := by
  refine ⟨fun s hl hc => ?_, fun s arg n rest hl hc he hb => ?_, fun s d hl hc hd he hb hp hq hr => ?_,
    fun s w e hl he hf hw => ?_, fun s w hl => ?_, fun s w e hl he ho hc hd h0 hs hflt => ?_, fun s e hl he hf => ?_⟩
  · exact exec_of_act (f := linkCycle) rfl rfl hl (by rw [linkCycle_between hc])
  · have k := linkCycle_broadcast hc he hb
    exact Completes.of_kept (f := linkCycle) rfl rfl hl (by rw [k]) (by rw [k]; exact ⟨rfl, rfl, rfl⟩)
  · have k := linkCycle_poll hc hd he hb hp hq
    rw [hr] at k
    refine Completes.of_kept (f := linkCycle) rfl rfl hl (by rw [k]; rfl) ?_
    rw [k]
    exact ⟨rfl, rfl, sendTo_seq d ⟨0, 0⟩ false _, rfl⟩
  · have k := (statusWord_bad_crc he hw).trans (exchangeFails_open he hf true)
    refine Completes.of_kept (f := statusWord true w) rfl rfl hl (by rw [k]; rfl) ?_
    rw [k]
    exact ⟨rfl, rfl, rfl, rfl⟩
  · exact exec_of_act (f := statusWord false w) rfl rfl hl (by rw [statusWord_late])
  · have k := statusWord_matches he hc ⟨hd, h0.trans ho.symm, hs⟩
    rw [hflt] at k
    obtain ⟨hr, hother, hem⟩ := answered_poll_driver ho (bits w.toNat 8 20) { s with em := { s.em with exch := none } }
    have said := answered_poll_said ho (bits w.toNat 8 20) { s with em := { s.em with exch := none } }
    have hp := answered_poll_pending ho (bits w.toNat 8 20) { s with em := { s.em with exch := none } }
    rw [← k] at hr hother hem said hp
    refine Completes.of_kept (f := statusWord true w) rfl rfl hl hp ⟨congrArg Emitter.exch hem, ?_, hother, said⟩
    rw [hr]
    exact ⟨rfl, rfl, rfl, rfl, Driver.polled_statusWord _ _ _⟩
  · have k := exchangeFails_open he hf false
    refine Completes.of_kept (f := exchangeFails false) rfl rfl hl (by rw [k]; rfl) ?_
    rw [k]
    exact ⟨rfl, rfl, by rw [updDriver_driver_same]; rfl, rfl⟩

/-! ## EMIT_LIMIT (R151) -/

/-- Only what the FIRE pairs send differs. -/
def FireOnly (s t : State) : Prop := t = { s with em := { s.em with fire := t.em.fire } }

theorem FireOnly.trans {s t u : State} (h : FireOnly s t) (k : FireOnly t u) : FireOnly s u := by
  unfold FireOnly at *
  rw [k, h]

theorem driveFire_fireOnly (d : Nat) (o : FireOut) (s : State) : FireOnly s (driveFire d o s) := by
  unfold driveFire
  split <;> rfl

theorem selectOff_fireOnly (s : State) : FireOnly s (selectOff s) := by
  unfold selectOff
  generalize s.present = ds
  induction ds generalizing s with
  | nil => rfl
  | cons d ds ih => exact (driveFire_fireOnly d _ s).trans (ih _)

/-- `s` with another power limit. -/
def State.limited (n : Nat) (s : State) : State := { s with em := { s.em with plim := n } }

/-- Firing as it is disabled: OFF on every FIRE pair, and the broadcast queued (R151). -/
def State.disabled (s : State) : State := broadcast 1 (selectOff { s with em := { s.em with dis := true } })

theorem emitDisable_enabled {s : State} (h : s.em.dis = false) : emitDisable s = raise 38 s.disabled := by
  unfold emitDisable
  rw [h]
  rfl

theorem State.disabled_only (s : State) :
    s.disabled =
      { s with em := { s.em with dis := true, bcast := s.em.bcast ++ [(1, 3)], fire := s.disabled.em.fire } } := by
  have k := selectOff_fireOnly { s with em := { s.em with dis := true } }
  unfold FireOnly at k
  unfold State.disabled broadcast
  rw [k]

/-- What may differ once firing, enabled so far, is disabled and things are said after it. -/
theorem emitDisable_said {s t : State} (h : s.em.dis = false) (k : Said (emitDisable s) t) :
    t.em.plim = s.em.plim ∧ t.em.bcast = s.em.bcast ++ [(1, 3)] ∧
      Said { s with em := { s.em with dis := true, bcast := t.em.bcast, fire := t.em.fire } } t := by
  have only := s.disabled_only
  rw [emitDisable_enabled h] at k
  have said := (raise_said 38 s.disabled).trans k
  generalize s.disabled = v at only said
  have hplim : v.em.plim = s.em.plim := by rw [only]
  have hbcast : v.em.bcast = s.em.bcast ++ [(1, 3)] := by rw [only]
  rw [said.em]
  refine ⟨hplim, hbcast, ?_⟩
  rw [hbcast]
  exact Said.trans (.of_eq only) said

theorem emitDisable_latched {s : State} (h : s.em.dis = false) : ((emitDisable s).ev.get 38).latched = true := by
  rw [emitDisable_enabled h]
  exact raises_latched s.disabled (List.mem_singleton_self 38)

/-- Firing that was not disabled bars no dwell as it is enabled. -/
theorem emitEnable_enabled {s : State} (h : s.em.dis = false) : emitEnable s = broadcast 0 s := by
  have hem : { s.em with dis := false } = s.em := by rw [← h]
  unfold emitEnable
  rw [h]
  simp only [Bool.false_and, Bool.or_false]
  rw [hem]
  show broadcast 0 { s with sh := { s.sh with dwells := s.sh.dwells.map id } } = broadcast 0 s
  rw [List.map_id]

theorem emitEnable_disabled {s : State} (h : s.em.dis = true) :
    emitEnable s = broadcast 0 { s with
      em := { s.em with dis := false }
      sh := { s.sh with dwells := s.sh.dwells.map (fun d => { d with
        barred := d.barred || decide (stampDiff (stampOf d.t0) (stampOf (s.tb.coarse + 1000)) < 0) }) } } := by
  unfold emitEnable
  rw [h]
  rfl

section
variable {tk : Ticket} {p : List Byte} {s : State}

theorem emitLimitOwn_badarg (h : 36 < pByte p 0 % 64) : emitLimitOwn tk p s = reply s (.badarg 0) := if_pos h

theorem emitLimitOwn_disable (h : pByte p 0 % 64 ≤ 36) (hd : (pByte p 1).testBit 0 = true) :
    emitLimitOwn tk p s = reply (emitDisable (s.limited (pByte p 0 % 64))) (.plain .ok) := by
  unfold emitLimitOwn
  rw [hd]
  exact if_neg (Nat.not_lt.mpr h)

theorem emitLimitOwn_enable (h : pByte p 0 % 64 ≤ 36) (hd : (pByte p 1).testBit 0 = false) :
    emitLimitOwn tk p s = reply (emitEnable (s.limited (pByte p 0 % 64))) (.plain .ok) := by
  unfold emitLimitOwn
  rw [hd]
  exact if_neg (Nat.not_lt.mpr h)

end

/-- An EMIT_LIMIT of four bytes that the Lodge takes completes with what its own rule yields, in every mode. -/
theorem emitLimit_completes {s u : State} {m : Nat} {p : List Byte} {a : Answer} (ht : Takes s m 0x0504 p)
    (hlen : p.length = 4) (ho : emitLimitOwn (s.ticket m) p s = reply u a) (hp : u.pending = s.pending) :
    Completes (.emitLimit m) s (fun t => Said u t ∧ Answered m a t ∧ OnlyDrops u t) :=
  Completes.of_lodge_drops (row := anyRow) (len := fun p => p.length == 4) (mode := anyMode) rfl ht rfl
    (beq_iff_eq.mpr hlen) rfl ho hp

/-! ## Repairs leave the store alone -/

theorem repair_ps (code unit action : Nat) (s : State) : (repair code unit action s).ps = s.ps := by
  unfold repair repairId
  split
  · exact (raise_said 193 _).ps
  · rfl

/-- Line faults that end are repaired one after the other, which leaves the persistent words as they are. -/
theorem settleLines_stored (s : State) : Stored s (settleLines s) ∧ (settleLines s).ps = s.ps := by
  unfold settleLines
  generalize s.av.outst.filter _ = ids
  induction ids generalizing s with
  | nil => exact ⟨.refl s, rfl⟩
  | cons i ids ih =>
    obtain ⟨hs, hp⟩ := ih (repair i.code i.unit 5 s)
    exact ⟨(repair_stored _ _ _ s).trans hs, hp.trans (repair_ps _ _ _ s)⟩

/-! ## LINE_MAP (R160, R337) -/

/-- The address of the map word of logical line `l` (R160). -/
def mapAddr (l : Nat) : Nat := 0x01000800 + 4 * l

/-- A logical line whose map word names an existing physical line maps to it. -/
theorem pline_of_read {s : State} {l x : Nat} (h : s.ps.read (mapAddr l) = w32 x) (hx : x ≤ 271) : s.pline l = x := by
  show (s.ps.read (mapAddr l)).toNat % 512 = x
  rw [h, w32, BitVec.toNat_ofNat]
  omega

theorem pByte_lt (p : List Byte) (i : Nat) : pByte p i < 256 := by
  unfold pByte pNat
  cases p.drop i with
  | nil => decide
  | cons b bs => simpa [beNat] using b.isLt

theorem badMapEntry_one {s : State} {x : Nat} (h : badMapEntry s [x] = none) : x ≤ 271 := by
  have k := List.findIdx?_eq_none_iff.mp h x (List.mem_singleton_self x)
  simp only [Bool.or_eq_false_iff, decide_eq_false_iff_not] at k
  omega

theorem mapEntries_one {p : List Byte} (h : pByte p 2 = 1) : mapEntries p = [pNat p 4 2] := by
  unfold mapEntries
  rw [h]
  rfl

/-- The physical lines of the logical lines that a LINE_MAP does not name. -/
def State.otherLines (s : State) (p : List Byte) : List Nat :=
  ((List.range 256).filter (fun k => k < pByte p 1 || pByte p 1 + pByte p 2 ≤ k)).map s.pline

/-- With one logical line named, a line that every other one leaves free is not among theirs. -/
theorem otherLines_one {s : State} {p : List Byte} {x : Nat} (h1 : pByte p 2 = 1)
    (h : ∀ k, k < 256 → k ≠ pByte p 1 → s.pline k ≠ x) : x ∉ s.otherLines p := by
  intro hx
  obtain ⟨k, hk, rfl⟩ := List.mem_map.mp hx
  obtain ⟨hr, hp⟩ := List.mem_filter.mp hk
  simp only [h1, Bool.or_eq_true, decide_eq_true_eq] at hp
  exact h k (List.mem_range.mp hr) (by omega) rfl

section
variable {tk : Ticket} {p : List Byte} {s : State} (h0 : pByte p 0 = 0)
  (hn : ¬(pByte p 2 = 0 ∨ 32 < pByte p 2 ∨ 256 < pByte p 1 + pByte p 2))
include h0 hn

/-- The first entry that names a line it may not. -/
theorem lineMapOwn_bad_entry {j : Nat} (h : badMapEntry s (mapEntries p) = some j) :
    lineMapOwn tk p s = reply s (.badarg (4 + 2 * j)) := by
  unfold lineMapOwn
  dsimp only
  rw [if_neg (not_not_intro h0), if_neg hn, h]

/-- The first entry that completes a clash. -/
theorem lineMapOwn_clash {j : Nat} (hb : badMapEntry s (mapEntries p) = none)
    (h : mapClash (mapEntries p) (s.otherLines p) 0 = some j) :
    lineMapOwn tk p s = reply s (.badarg (4 + 2 * j)) := by
  unfold State.otherLines at h
  unfold lineMapOwn
  dsimp only
  rw [if_neg (not_not_intro h0), if_neg hn, hb]
  dsimp only
  rw [h]

/-- One entry without a clash, whose word commits. -/
theorem lineMapOwn_one {t : State} (h1 : pByte p 2 = 1) (hb : badMapEntry s (mapEntries p) = none)
    (h : mapClash (mapEntries p) (s.otherLines p) 0 = none)
    (hc : commit (mapAddr (pByte p 1)) (w32 (pNat p 4 2)) s = (true, t)) :
    lineMapOwn tk p s = reply (settleLines t) (.plain .ok) := by
  have hc := commits_one hc
  unfold mapAddr at hc
  unfold State.otherLines at h
  unfold lineMapOwn
  dsimp only
  rw [if_neg (not_not_intro h0), if_neg hn, hb]
  dsimp only
  rw [h, mapEntries_one h1, h1]
  rw [List.range_one, List.map_singleton, List.map_singleton, Nat.add_zero, List.getD_cons_zero, hc]
  rfl

end

/-- A line that no other logical line uses clashes with none. -/
theorem mapClash_one {x : Nat} {others : List Nat} (h : x ∉ others) (j : Nat) : mapClash [x] others j = none := by
  unfold mapClash
  rw [if_neg (mt List.contains_iff_mem.mp h)]
  rfl

/-- A LINE_MAP MAP of the length that its count asks for, taken in a mode that admits it, completes with what its own rule
yields. -/
theorem lineMap_completes {s u : State} {m : Nat} {p : List Byte} {a : Answer} (ht : Takes s m 0x0505 p)
    (hmode : restMode s = true) (hlen : p.length = 4 + 2 * pByte p 2) (h0 : pByte p 0 = 0)
    (ho : lineMapOwn (s.ticket m) p s = reply u a) (hp : u.pending = s.pending) :
    Completes (.lineMap m) s (fun t => Said u t ∧ Answered m a t) := by
  have hne : p ≠ [] := List.ne_nil_of_length_pos (by omega)
  refine Completes.of_lodge (mode := fun s _ => restMode s) (own := lineMapOwn) rfl ht ?_ ?_ hmode ho hp
  · simp [h0]
  · simp [hne, hlen]

/-! ## CLEARFAIL (R160) -/

theorem clearfailOwn_badarg {tk : Ticket} {p : List Byte} {s : State} (h : (s.line (pNat p 2 2)).state ≠ 3) :
    clearfailOwn tk p s = reply s (.badarg 2) := if_pos (.inr h)

/-- Line `x` is untested again, and its driver is to clear the fault. -/
def lineFreed (x : Nat) (s : State) : State :=
  queueCmd (driverOf x) 5 (dlineOf x) (updLine x (fun l => { l with state := 0, fkind := 0, voidRun := 0 }) s)

/-- A queued command changes the drivers only. -/
theorem queueCmd_only (d op arg : Nat) (s : State) :
    queueCmd d op arg s = { s with em := { s.em with drivers := (queueCmd d op arg s).em.drivers } } := by
  unfold queueCmd
  split <;> rfl

theorem lineFreed_ps (x : Nat) (s : State) : (lineFreed x s).ps = s.ps := by
  unfold lineFreed
  rw [queueCmd_only]
  rfl

theorem lineFreed_pending (x : Nat) (s : State) : (lineFreed x s).pending = s.pending := by
  unfold lineFreed
  rw [queueCmd_only]
  rfl

theorem queueCmd_line (d op arg : Nat) (s : State) (x : Nat) : (queueCmd d op arg s).line x = s.line x := by
  rw [queueCmd_only]
  rfl

theorem lineFreed_line (x : Nat) (s : State) :
    ((lineFreed x s).line x).state = 0 ∧ ∀ y, y ≠ x → (lineFreed x s).line y = s.line y := by
  unfold lineFreed
  refine ⟨?_, fun y hy => ?_⟩
  · rw [queueCmd_line, updLine_line_same]
  · rw [queueCmd_line, updLine_line_other _ _ hy]

theorem clearfailOwn_commits {tk : Ticket} {p : List Byte} {s t : State} (hx : pNat p 2 2 ≤ 271)
    (h : (s.line (pNat p 2 2)).state = 3)
    (hc : commitChanged (failAddr (pNat p 2 2)) (· &&& ~~~(failBit (pNat p 2 2))) s = (true, t)) :
    clearfailOwn tk p s = reply (settleLines (lineFreed (pNat p 2 2) t)) (.plain .ok) := by
  have hg : ¬(271 < pNat p 2 2 ∨ (s.line (pNat p 2 2)).state ≠ 3) := by omega
  unfold clearfailOwn
  dsimp only
  rw [if_neg hg, hc]
  rfl

theorem clearfail_completes {s u : State} {m : Nat} {p : List Byte} {a : Answer} (ht : Takes s m 0x0505 p)
    (hmode : deepMode s = true) (hlen : p.length = 4) (h1 : pByte p 0 = 1)
    (ho : clearfailOwn (s.ticket m) p s = reply u a) (hp : u.pending = s.pending) :
    Completes (.clearfail m) s (fun t => Said u t ∧ Answered m a t) := by
  have hne : p ≠ [] := List.ne_nil_of_length_pos (by omega)
  refine Completes.of_lodge (mode := fun s _ => deepMode s) (own := clearfailOwn) rfl ht ?_ ?_ hmode ho hp
  · simp [h1, hne]
  · simp [hlen]

/-- A sound word that is read, changed and committed. -/
theorem commitChanged_sound {a : Nat} {s : State} (h : s.ps.Sound a) (f : W32 → W32) :
    ∃ t, commitChanged a f s = (true, t) ∧ Commits a (f (pread s a)) s t := by
  unfold commitChanged
  rw [checkRead_clean h.clean]
  exact commit_sound h _

/-- Settles O33: each command answers what its own rule yields; the words of the two store commands are sound, so they
commit. -/
theorem emitLimitAndLineMap : Obligations.EmitLimitAndLineMap := by
  refine ⟨fun s m p ht hlen h => ?_, fun s m p ht hlen h hd he => ?_, fun s m p ht hlen h hd he => ?_,
    fun s m p ht hlen h hd he => ?_, fun s m p j ht hm hlen h0 hn hn' hl hb => ?_,
    fun s m p j ht hm hlen h0 hn hn' hl hb hc => ?_, fun s m p ht hm hlen h0 h1 hb hfree hsp hr hst hw hup => ?_,
    fun s m p ht hm hlen h1 hx hs => ?_, fun s m p ht hm hlen h1 hx hs hsp hr hst hw hup => ?_⟩
  · exact (emitLimit_completes ht hlen (emitLimitOwn_badarg h) rfl).mono fun _ ⟨k, ka, _⟩ => ⟨k, ka⟩
  · have own := emitLimitOwn_disable (tk := s.ticket m) (s := s) h hd
    have he : (s.limited (pByte p 0 % 64)).em.dis = false := he
    obtain ⟨-, -, said⟩ := emitDisable_said he (.refl _)
    refine (emitLimit_completes ht hlen own said.pending).mono fun t ⟨k, ka, kd⟩ => ?_
    obtain ⟨hplim, hbcast, said⟩ := emitDisable_said he k
    refine ⟨hplim, congrArg Emitter.dis said.em, hbcast, ?_, ?_, ka⟩
    · rw [kd 38 (by decide)]
      exact emitDisable_latched he
    · rw [hplim]
      exact said
  · have own := emitLimitOwn_enable (tk := s.ticket m) (s := s) h hd
    rw [emitEnable_enabled (s := s.limited (pByte p 0 % 64)) he] at own
    exact (emitLimit_completes ht hlen own rfl).mono fun _ ⟨k, ka, _⟩ => ⟨k, ka⟩
  · have own := emitLimitOwn_enable (tk := s.ticket m) (s := s) h hd
    rw [emitEnable_disabled (s := s.limited (pByte p 0 % 64)) he] at own
    exact (emitLimit_completes ht hlen own rfl).mono fun _ ⟨k, ka, _⟩ => ⟨k, ka⟩
  · exact lineMap_completes ht hm hlen h0 (lineMapOwn_bad_entry h0 (by omega) hb) rfl
  · exact lineMap_completes ht hm hlen h0 (lineMapOwn_clash h0 (by omega) hb hc) rfl
  · have hl := pByte_lt p 1
    have sound : s.ps.Sound (mapAddr (pByte p 1)) := ⟨hsp, hr, hst, hw, hup⟩
    obtain ⟨u, hc, q, rfl, hsame, hother⟩ := commit_sound sound (w32 (pNat p 4 2))
    have clash : mapClash (mapEntries p) (s.otherLines p) 0 = none := by
      rw [mapEntries_one h1]
      exact mapClash_one (otherLines_one h1 hfree) 0
    have hx := badMapEntry_one (mapEntries_one h1 ▸ hb)
    obtain ⟨hset, hps⟩ := settleLines_stored (count 242 1 { s with ps := q })
    refine (lineMap_completes ht hm (by omega) h0 (lineMapOwn_one h0 (by omega) h1 hb clash hc) hset.pending).mono
      fun t ⟨k, ka⟩ => ?_
    have hq : t.ps = q := k.ps.trans hps
    have hread : t.ps.read (mapAddr (pByte p 1)) = w32 (pNat p 4 2) := by rw [hq, hsame]
    exact ⟨hread, pline_of_read hread hx, fun a ha => by rw [hq, hother a ha], k.em.trans hset.em, k.sh.trans hset.sh,
      k.tb.trans hset.tb, k.fl.trans hset.fl, ka⟩
  · exact clearfail_completes ht hm hlen h1 (clearfailOwn_badarg hs) rfl
  · have sound : s.ps.Sound (failAddr (pNat p 2 2)) := ⟨hsp, hr, hst, hw, hup⟩
    obtain ⟨u, hc, q, rfl, hsame, -⟩ := commitChanged_sound sound (· &&& ~~~(failBit (pNat p 2 2)))
    obtain ⟨hset, hps⟩ := settleLines_stored (lineFreed (pNat p 2 2) (count 242 1 { s with ps := q }))
    obtain ⟨hfreed, hother⟩ := lineFreed_line (pNat p 2 2) (count 242 1 { s with ps := q })
    refine (clearfail_completes ht hm hlen h1 (clearfailOwn_commits hx hs hc)
      (hset.pending.trans (lineFreed_pending _ _))).mono fun t ⟨k, ka⟩ => ?_
    have hem := k.em.trans hset.em
    have hq : t.ps = q := k.ps.trans (hps.trans (lineFreed_ps _ _))
    refine ⟨by rw [line_congr hem, hfreed], fun y hy => (line_congr hem y).trans (hother y hy), ?_, ka⟩
    rw [pread, hq, hsame]

end Sys2Proof.Machine
end

section
/-!
PROOFS. The Arcade (chapter 6): what an increment leaves in the pipeline of its channel, and the commands of the histograms.
-/
namespace Sys2Proof.Machine

/-! ## The increment pipeline (R167) -/

/-- A read of any key after a write. -/
theorem Tab.get_put {α : Type} [DecidableEq α] (d : Nat → α) (t : Tab α) (k : Nat) (v : α) (j : Nat) :
    Tab.get d (Tab.put d t k v) j = if k = j then v else Tab.get d t j := by
  by_cases h : k = j
  · rw [if_pos h, ← h, Tab.get_put_same]
  · rw [if_neg h, Tab.get_put_other d v (Ne.symm h)]

/-- The count of bin `c` in the bank `t` and a pipeline over it (R167). -/
def binCount (t : Tab Nat) (c : Nat) : List (Nat × Nat) → Nat
  | [] => Tab.get zeros t c
  | (b, v) :: l => if b = c then v else binCount t c l

theorem AChan.current_eq (a : AChan) (c : Nat) : a.current c = binCount a.acc c a.pipe := by
  unfold AChan.current
  induction a.pipe with
  | nil => rfl
  | cons p l ih =>
    by_cases h : p.1 = c
    · simp [binCount, h]
    · simpa [binCount, h] using ih

/-- Of the results in a channel's pipeline, a new one leaves the three newest to be found, the oldest of them in the bank; one
older than these is lost. -/
theorem AChan.issue_current (a : AChan) (b v c : Nat) :
    (a.issue b v).current c = if b = c then v else binCount a.acc c (a.pipe.take 3) := by
  rw [AChan.current_eq]
  unfold AChan.issue
  match a.pipe with
  | [] | [_] | [_, _] => rfl
  | p :: q :: (b', v') :: l =>
    have acc (t : Tab Nat) : { a.setAcc t with pipe := [(b, v), p, q] }.acc = t := by
      unfold AChan.setAcc AChan.acc
      cases a.accY <;> simp
    simp [acc, binCount, Tab.get_put]

@[simp] theorem count_achan (n k : Nat) (s : State) (i : Nat) : (count n k s).achan i = s.achan i := rfl

/-- An increment of a bin below 65,535 is one result more in its channel's pipeline. -/
theorem AChan.bump_below {n b : Nat} {amb : Bool} {a : AChan} (h : a.current b < 65535) :
    a.bump n b amb = { a.issue b (a.current b + 1) with
      cnt := { a.cnt with ninc := sat24 a.cnt.ninc, namb := if amb then sat24 a.cnt.namb else a.cnt.namb } } := if_pos h

/-- It sets no SAT, so INCREMENT_ISSUE changes its channel and the flight's counter only. -/
theorem incrementIssue_below {s : State} {i x did tag : Nat} {amb : Bool} {r : List Inc} (hr : s.arcadeRuns = true)
    (hi : (s.achan i).incs = .inc x did tag amb :: r) (hb : (s.achan i).current (binOf s.bw x) < 65535) :
    incrementIssue i s =
      count (64 + chanFlight i) 1 (updAChan i (fun a => { a.bump s.cycle (binOf s.bw x) amb with incs := r }) s) := by
  unfold incrementIssue
  simp only [hr, hi, count_achan, updAChan_achan_same, AChan.bump_below hb, Bool.and_not_self, Bool.not_true,
    Bool.false_eq_true, if_false]

/-- The next increment of another bin finds the count that the bank and the three newest results before this one give. -/
theorem incrementIssue_current {s : State} {i x did tag : Nat} {amb : Bool} {r : List Inc} (hr : s.arcadeRuns = true)
    (hi : (s.achan i).incs = .inc x did tag amb :: r) (hb : (s.achan i).current (binOf s.bw x) < 65535) {c : Nat}
    (hc : c ≠ binOf s.bw x) :
    ((incrementIssue i s).achan i).current c = binCount (s.achan i).acc c ((s.achan i).pipe.take 3) := by
  rw [incrementIssue_below hr hi hb, count_achan, updAChan_achan_same, AChan.bump_below hb]
  exact ((s.achan i).issue_current (binOf s.bw x) _ c).trans (if_neg (Ne.symm hc))

/-- A channel about to increment bin 0, with four results in its pipeline: one more than `AChan.issue` leaves there. -/
def overfullChan : AChan :=
  { freshAChan 0 with incs := [.inc 0 0 0 false], pipe := [(1, 1), (2, 1), (3, 1), (4, 1)] }

/-- Refutes O34: its first clause is over all states and does not ask that a pipeline hold three results at most. The increment
of bin 0 in a channel with four loses the fourth newest, and with it the count of bin 4. -/
theorem not_incrementsFillTheBuffers : ¬ Obligations.IncrementsFillTheBuffers := by
  rintro ⟨increment, -⟩
  let s := updAChan 0 (fun _ => overfullChan) State.reset
  have chan : s.achan 0 = overfullChan := updAChan_achan_same 0 _ State.reset
  have hi : (s.achan 0).incs = [.inc 0 0 0 false] := congrArg AChan.incs chan
  have hb : (s.achan 0).current (binOf s.bw 0) < 65535 := by decide
  have hc : 4 ≠ binOf s.bw 0 := by decide
  obtain ⟨t, ht, -, others, -⟩ := increment s 0 0 0 0 false [] rfl rfl (by decide) hi hb
  have kept : (t.achan 0).current 4 = 1 := by
    rw [others 4 hc, chan]
    rfl
  have lost : ((incrementIssue 0 s).achan 0).current 4 = 0 := by
    rw [incrementIssue_current rfl hi hb hc, chan]
    rfl
  have ran : exec (.incrementIssue 0) s = .next (incrementIssue 0 s) :=
    act_live (f := incrementIssue 0) rfl rfl (by rw [incrementIssue_below rfl hi hb]; rfl)
  rw [← Host.Outcome.next.inj (ran.symm.trans ht), lost] at kept
  exact absurd kept (by decide)

/-! ## Buffers and snapshots as the commands leave them -/

theorem achan_congr {s t : State} (h : t.ar = s.ar) (i : Nat) : t.achan i = s.achan i := by
  unfold State.achan
  rw [h]

/-- An entry of a table that was changed throughout is one that no table lists, or has been changed. -/
theorem Tab.get_remap {α : Type} [DecidableEq α] (d : Nat → α) (f : Nat → α → α) (t : Tab α) (k : Nat) :
    Tab.get d (Tab.remap d f t) k = d k ∨ ∃ v, Tab.get d (Tab.remap d f t) k = f k v := by
  refine (Tab.get_mem d k (Tab.remap d f t)).imp_right fun h => ?_
  obtain ⟨⟨j, v⟩, -, e⟩ := List.mem_map.mp (List.mem_filter.mp h).1
  obtain ⟨rfl, hv⟩ := Prod.mk.inj e
  exact ⟨v, hv.symm⟩

/-- Every buffer is empty, and X accumulates (R164). -/
theorem clearBuffers_achan (s : State) (i : Nat) :
    ((clearBuffers s).achan i).binsX = [] ∧ ((clearBuffers s).achan i).binsY = [] ∧
      ((clearBuffers s).achan i).accY = false := by
  have entry := Tab.get_remap freshAChan (fun _ a => { a with
    binsX := [], binsY := [], accY := false, pipe := [], cnt := noCounts, veto := false, opened := none }) s.ar.chans i
  unfold State.achan clearBuffers
  rcases entry with h | ⟨a, h⟩ <;>
    · rw [h]
      exact ⟨rfl, rfl, rfl⟩

/-- An ARM that names 1 to 16 channels below 512, with none armed, arms them. -/
theorem snapArm_arms {tk : Ticket} {p : List Byte} {s : State} (h1 : 1 ≤ pByte p 2) (h16 : pByte p 2 ≤ 16)
    (hc : ∀ c ∈ armChans p, c ≤ 511) (h : s.ar.snapArm = none) :
    snapArm tk p s = reply { s with ar := { s.ar with
      snapArm := some { line := pByte p 1, chans := armChans p, tk := tk, armedAt := s.uptime, did := none }
      slots := (armChans p).map (fun c => emptySlot c none), snapOk := false, snapN := 0 } } (.plain .ok) := by
  have listed : (List.range (pByte p 2)).find? (fun j => 511 < (armChans p).getD j 0) = none := by
    refine List.find?_eq_none.mpr fun j hj => ?_
    have hj : j < (armChans p).length := by simpa [armChans] using hj
    have := hc _ (List.getElem_mem hj)
    simpa [hj] using this
  unfold snapArm
  simp only [listed]
  rw [if_neg (by omega), h]
  rfl

/-- Slot `p[1]` of a completed snapshot. -/
theorem snapSlot_found {p : List Byte} {s : State} {x : Slot} (h : s.ar.snapArm = none) (hok : s.ar.snapOk = true)
    (hx : s.ar.slots[pByte p 1]? = some x) : snapSlot p s = .ok x := by
  unfold snapSlot
  rw [h, hok, hx]
  rfl

/-- With no completed snapshot, and none armed, READ and INFO find none whatever slot they ask for (log 68). -/
theorem snapSlot_stale {p : List Byte} {s : State} (h : s.ar.snapArm = none) (hok : s.ar.snapOk = false) :
    snapSlot p s = .error (.plain .stale) := by
  unfold snapSlot
  rw [h, hok]
  rfl

/-- READ of 1 to 512 bins that are in use. -/
theorem snapRead_found {p : List Byte} {s : State} {x : Slot} (h : snapSlot p s = .ok x) (h1 : 1 ≤ pNat p 4 2)
    (h512 : pNat p 4 2 ≤ 512) (hb : pNat p 2 2 + pNat p 4 2 ≤ s.bins) :
    snapRead p s = reply s
      (.okWith ((List.range (pNat p 4 2)).flatMap (fun j => beBytes 2 (Tab.get zeros x.bins (pNat p 2 2 + j))))) := by
  unfold snapRead
  rw [h]
  exact if_neg (by omega)

theorem snapRead_refused {p : List Byte} {s : State} {a : Answer} (h : snapSlot p s = .error a) :
    snapRead p s = reply s a := by
  unfold snapRead
  rw [h]

theorem snapInfo_found {p : List Byte} {s : State} {x : Slot} (h : snapSlot p s = .ok x) :
    snapInfo p s = reply s (.okWith (beBytes 2 x.chan ++
      [BitVec.ofNat 8 (b2n x.present + 2 * b2n x.cnt.sat + 4 * b2n x.inc + 8 * b2n x.amb + 16 * b2n x.void + 32 * b2n x.short),
        BitVec.ofNat 8 x.line] ++ beBytes 4 x.group ++ beBytes 2 x.pline ++ beBytes 2 x.step ++ beBytes 2 x.nplan ++
      beBytes 2 x.nfired ++ beBytes 2 x.nvoid ++ [0, 0] ++ beBytes 4 x.cnt.ninc ++ beBytes 4 x.cnt.namb ++
      beBytes 4 x.cnt.nearly ++ beBytes 4 x.cnt.nout)) := by
  unfold snapInfo
  rw [h]

/-! ## HIST_CFG and HIST_SNAP (R338, R340) -/

/-- A HIST_CFG whose checks pass writes AR.CFG and empties the buffers. -/
theorem histCfgOwn_takes {tk : Ticket} {p : List Byte} {s : State} (h2 : 2 ≤ pByte p 1 % 16) (h8 : pByte p 1 % 16 ≤ 8)
    (h : s.ar.snapArm = none) (hp : s.passesLeft = false)
    (hj : rejudge s { s.adm with w := windowOf (w32 (put (pByte p 0) 16 2 + pByte p 1 % 16)) } false = none) :
    histCfgOwn tk p s = reply (clearBuffers { s with ar := { s.ar with
      cfg := w32 (put (pByte p 0) 16 2 + pByte p 1 % 16) } }) (.plain .ok) := by
  unfold histCfgOwn
  dsimp only
  rw [if_neg (by omega), h, hp, hj]
  rfl

/-- The length that a HIST_SNAP payload has, by its subcommand (R319). -/
theorem histSnapLen_eq {p : List Byte} (h : p ≠ []) :
    histSnapLen p =
      if pByte p 0 = 0 then decide (4 ≤ p.length) && p.length == 4 + 2 * pByte p 2
      else if pByte p 0 = 1 then p.length == 8
      else if pByte p 0 = 2 then p.length == 4
      else true := by
  obtain ⟨b, l, rfl⟩ := List.exists_cons_of_ne_nil h
  have first : pByte (b :: l) 0 = b.toNat := by simp [pByte, pNat, beNat]
  simp only [histSnapLen, first, ← BitVec.toNat_inj]
  rfl

section
variable {s u : State} {m : Nat} {p : List Byte} {a : Answer} (ht : Takes s m 0x0603 p)
include ht

/-- A HIST_SNAP ARM, READ or INFO that the Lodge takes completes with what its subcommand yields. -/
theorem histSnapArm_completes (h0 : pByte p 0 = 0) (hlen : p.length = 4 + 2 * pByte p 2) (hmode : s.ranges = true)
    (ho : snapArm (s.ticket m) p s = reply u a) (hp : u.pending = s.pending) :
    Completes (.histSnapArm m) s (fun t => Said u t ∧ Answered m a t) := by
  have len : histSnapLen p = true := by
    rw [histSnapLen_eq (List.ne_nil_of_length_pos (by omega)), if_pos h0]
    simp [hlen]
  have own : histSnapOwn (s.ticket m) p s = reply u a := by
    unfold histSnapOwn
    rw [h0]
    exact ho
  exact Completes.of_lodge (mode := histSnapMode) rfl ht (by simp [h0]) len (by simp [histSnapMode, hmode]) own hp

theorem histSnapRead_completes (h1 : pByte p 0 = 1) (hlen : p.length = 8) (ho : snapRead p s = reply u a)
    (hp : u.pending = s.pending) : Completes (.histSnapRead m) s (fun t => Said u t ∧ Answered m a t) := by
  have len : histSnapLen p = true := by
    rw [histSnapLen_eq (List.ne_nil_of_length_pos (by omega))]
    simp [h1, hlen]
  have own : histSnapOwn (s.ticket m) p s = reply u a := by
    unfold histSnapOwn
    rw [h1]
    exact ho
  exact Completes.of_lodge (mode := histSnapMode) rfl ht (beq_iff_eq.mpr h1) len (by simp [histSnapMode, h1]) own hp

theorem histSnapInfo_completes (h2 : pByte p 0 = 2) (hlen : p.length = 4) (ho : snapInfo p s = reply u a)
    (hp : u.pending = s.pending) : Completes (.histSnapInfo m) s (fun t => Said u t ∧ Answered m a t) := by
  have len : histSnapLen p = true := by
    rw [histSnapLen_eq (List.ne_nil_of_length_pos (by omega))]
    simp [h2, hlen]
  have own : histSnapOwn (s.ticket m) p s = reply u a := by
    unfold histSnapOwn
    rw [h2]
    exact ho
  exact Completes.of_lodge (mode := histSnapMode) rfl ht (beq_iff_eq.mpr h2) len (by simp [histSnapMode, h2]) own hp

end

/-- An ARM for which no dwell has swapped completes with STALE, and its store is empty (R178). -/
theorem snapTimeout_said {s : State} {a : SnapArm} (h : s.ar.snapArm = some a) (hd : a.did = none) :
    Said { s with ar := { s.ar with snapArm := none, slots := [], snapOk := false, snapN := 0 } } (snapTimeout s) := by
  unfold snapTimeout snapDrop
  simp only [h, hd, Option.isNone_none, if_true]
  exact complete_said _ _ _

/-- Settles O35: each command answers what its own rule yields, and the time-out completes the ARM. -/
theorem histogramCommands : Obligations.HistogramCommands := by
  refine ⟨fun s m p ht hlen hm h2 h8 ha hp hj => ?_, fun s m p ht h0 hr h1 h16 hlen hc ha => ?_,
    fun s m p x ht h1 hlen ha hok hx hn hn' hb => ?_, fun s m p ht h1 hlen ha hok => ?_,
    fun s m p x ht h2 hlen ha hok hx => ?_, fun s a hl ha hd => ?_⟩
  · refine (Completes.of_lodge (row := anyRow) (len := fun p => p.length == 4) (mode := fun s _ => restMode s)
      (own := histCfgOwn) rfl ht rfl (beq_iff_eq.mpr hlen) hm (histCfgOwn_takes h2 h8 ha hp hj) rfl).mono
      fun t ⟨k, ka⟩ => ?_
    refine ⟨congrArg Arcade.cfg k.ar, fun i => ?_, congrArg Arcade.snapOk k.ar, ?_, ka⟩
    · rw [achan_congr k.ar]
      exact clearBuffers_achan _ i
    · rw [k.ar]
      exact k
  · exact histSnapArm_completes ht h0 hlen hr (snapArm_arms h1 h16 hc ha) rfl
  · exact histSnapRead_completes ht h1 hlen (snapRead_found (snapSlot_found ha hok hx) hn hn' hb) rfl
  · exact histSnapRead_completes ht h1 hlen (snapRead_refused (snapSlot_stale ha hok)) rfl
  · exact histSnapInfo_completes ht h2 hlen (snapInfo_found (snapSlot_found ha hok hx)) rfl
  · have said := snapTimeout_said ha hd
    exact Completes.of_kept (f := snapTimeout) rfl rfl hl said.pending said

end Sys2Proof.Machine
end

section
/-!
PROOFS. Return extraction (chapter 7): the candidates that phase 1 keeps, and the peaks that phase 2 makes records of.
-/
namespace Sys2Proof.Machine

/-! ## Lists put in order -/

section order
variable {α : Type} (le : α → α → Bool)

theorem placeBy_perm (v : α) : ∀ l : List α, (placeBy le v l).Perm (v :: l)
  | [] => List.Perm.refl _
  | x :: xs => by
    unfold placeBy
    split
    · exact List.Perm.refl _
    · exact ((placeBy_perm v xs).cons x).trans (List.Perm.swap v x xs)

theorem orderBy_perm : ∀ l : List α, (orderBy le l).Perm l
  | [] => List.Perm.refl _
  | x :: xs => (placeBy_perm le x _).trans ((orderBy_perm xs).cons x)

variable {le} (total : ∀ x y, le x y = true ∨ le y x = true)
  (trans : ∀ x y z, le x y = true → le y z = true → le x z = true)
include total trans

theorem placeBy_pairwise (v : α) : ∀ {l : List α}, l.Pairwise (fun x y => le x y = true) →
    (placeBy le v l).Pairwise (fun x y => le x y = true)
  | [], _ => List.pairwise_singleton _ v
  | x :: xs, h => by
    obtain ⟨first, rest⟩ := List.pairwise_cons.mp h
    unfold placeBy
    split
    · next le_x => exact List.pairwise_cons.mpr ⟨List.forall_mem_cons.mpr ⟨le_x, fun y hy => trans v x y le_x (first y hy)⟩, h⟩
    · next not_le =>
      refine List.pairwise_cons.mpr ⟨fun y hy => ?_, placeBy_pairwise v rest⟩
      rcases List.mem_cons.mp ((placeBy_perm le v xs).mem_iff.mp hy) with rfl | hy
      · exact (total y x).resolve_left not_le
      · exact first y hy

theorem orderBy_pairwise : ∀ l : List α, (orderBy le l).Pairwise (fun x y => le x y = true)
  | [] => List.Pairwise.nil
  | x :: xs => placeBy_pairwise total trans x (orderBy_pairwise xs)

end order

/-- What is not among the first `k` of an ordered list comes after each of them. -/
theorem rel_of_not_mem_take {α : Type} {R : α → α → Prop} {l : List α} {k : Nat} {x y : α} (h : l.Pairwise R)
    (hx : x ∈ l.take k) (hy : y ∈ l) (hn : y ∉ l.take k) : R x y := by
  rw [← List.take_append_drop k l] at h hy
  exact (List.pairwise_append.mp h).2.2 x hx y ((List.mem_append.mp hy).resolve_left hn)

/-- A list without its repetitions repeats nothing. -/
theorem nodup_eraseDups {α : Type} [BEq α] [LawfulBEq α] : ∀ l : List α, l.eraseDups.Nodup
  | [] => List.nodup_nil
  | a :: l => by
    rw [List.eraseDups_cons, List.nodup_cons]
    exact ⟨by simp [List.mem_eraseDups], nodup_eraseDups _⟩
  termination_by l => l.length
  decreasing_by exact Nat.lt_succ_of_le (List.length_filter_le _ l)

/-! ## Candidates (R187, R190) -/

theorem isPeak_iff (f : Nat → Nat) (top m b : Nat) : isPeak f top m b = true ↔
    m ≤ f b ∧ (b = 0 ∨ f (b - 1) < f b) ∧ (b = top ∨ f (b + 1) ≤ f b) := by
  simp [isPeak, and_assoc]

/-- A filter that answers at a position sees a listed bin. -/
theorem listed_of_boxSum {h : Tab Nat} : ∀ {n b : Nat}, boxSum h b n ≠ 0 → ∃ j v, j < n ∧ (b + j, v) ∈ h
  | 0, _, hs => absurd rfl hs
  | n + 1, b, hs => by
    unfold boxSum at hs
    rcases Tab.get_mem zeros b h with unlisted | listed
    · have rest : boxSum h (b + 1) n ≠ 0 := by
        rw [unlisted] at hs
        simpa [zeros] using hs
      obtain ⟨j, v, hj, hv⟩ := listed_of_boxSum rest
      exact ⟨j + 1, v, Nat.succ_lt_succ hj, by rwa [show b + (j + 1) = b + 1 + j by omega]⟩
    · exact ⟨0, _, Nat.succ_pos n, listed⟩

theorem mem_seen {l top b : Nat} {t : Tab Nat} :
    b ∈ seen l top t ↔ b ≤ top ∧ (b = 0 ∨ ∃ k v j, (k, v) ∈ t ∧ j < l ∧ k - j = b) := by
  unfold seen
  simp only [List.mem_eraseDups, List.mem_filter, List.mem_cons, List.mem_flatMap, List.mem_map, List.mem_range,
    decide_eq_true_eq]
  constructor
  · rintro (rfl | ⟨⟨⟨k, v⟩, hk, j, hj, e⟩, hb⟩)
    · exact ⟨Nat.zero_le top, .inl rfl⟩
    · exact ⟨hb, .inr ⟨k, v, j, hk, hj, e⟩⟩
  · rintro ⟨hb, rfl | ⟨k, v, j, hk, hj, e⟩⟩
    · exact .inl rfl
    · exact .inr ⟨⟨(k, v), hk, j, hj, e⟩, hb⟩

/-- A candidate lies where the filter sees a listed bin, or at position 0. -/
theorem mem_seen_of_isPeak {t : Tab Nat} {n top m b : Nat} (h : isPeak (fun b => boxSum t b n) top m b = true)
    (hb : b ≤ top) : b ∈ seen n top t := by
  obtain ⟨-, above, -⟩ := (isPeak_iff _ _ _ _).mp h
  refine mem_seen.mpr ⟨hb, above.imp_right fun above => ?_⟩
  obtain ⟨j, v, hj, hv⟩ := listed_of_boxSum (Nat.ne_of_gt (Nat.zero_lt_of_lt above))
  exact ⟨b + j, v, j, hv, hj, Nat.add_sub_cancel b j⟩

/-- Looking only where listed bins are seen finds every candidate. -/
theorem seen_candidates_perm (t : Tab Nat) (n top m : Nat) :
    ((seen n top t).filter (isPeak (fun b => boxSum t b n) top m)).Perm
      ((List.range (top + 1)).filter (isPeak (fun b => boxSum t b n) top m)) := by
  have nodup : (seen n top t).Nodup := nodup_eraseDups _
  refine (List.perm_ext_iff_of_nodup (nodup.filter _) (List.nodup_range.filter _)).mpr fun b => ?_
  rw [List.mem_filter, List.mem_filter, List.mem_range, Nat.lt_succ_iff]
  exact ⟨fun ⟨hb, h⟩ => ⟨(mem_seen.mp hb).1, h⟩, fun ⟨hb, h⟩ => ⟨mem_seen_of_isPeak h hb, h⟩⟩

/-! ## The highest candidates (R183, R190) -/

theorem peakBefore_iff {x y : Peak} : peakBefore x y = true ↔ y.s < x.s ∨ x.s = y.s ∧ x.b ≤ y.b := by
  simp [peakBefore]

theorem peakBefore_total (x y : Peak) : peakBefore x y = true ∨ peakBefore y x = true := by
  rw [peakBefore_iff, peakBefore_iff]
  omega

theorem peakBefore_trans (x y z : Peak) (h : peakBefore x y = true) (k : peakBefore y z = true) : peakBefore x z = true := by
  rw [peakBefore_iff] at *
  omega

/-- The peaks at the positions `cs`, in the order of R190. -/
def rankedPeaks (f : Nat → Nat) (top : Nat) (cs : List Nat) : List Peak := orderBy peakBefore (cs.map (peakAt f top))

section ranked
variable {f : Nat → Nat} {top : Nat} {cs : List Nat}

theorem rankedPeaks_perm : (rankedPeaks f top cs).Perm (cs.map (peakAt f top)) := orderBy_perm _ _

theorem rankedPeaks_length : (rankedPeaks f top cs).length = cs.length := by
  rw [rankedPeaks_perm.length_eq, List.length_map]

theorem rankedPeaks_pairwise : (rankedPeaks f top cs).Pairwise (fun x y => peakBefore x y = true) :=
  orderBy_pairwise peakBefore_total peakBefore_trans _

theorem mem_rankedPeaks {p : Peak} : p ∈ rankedPeaks f top cs ↔ ∃ b ∈ cs, peakAt f top b = p := by
  rw [rankedPeaks_perm.mem_iff, List.mem_map]

theorem rankedPeaks_positions : ((rankedPeaks f top cs).map Peak.b).Perm cs := by
  refine (rankedPeaks_perm.map Peak.b).trans (List.Perm.of_eq ?_)
  rw [List.map_map]
  exact List.map_id cs

end ranked

/-- What phase 1 keeps of the candidates `cs` of a filter `f` is the highest 32 of them (R183, R190). -/
theorem highest_kept {f : Nat → Nat} {top : Nat} {cs all : List Nat} (h : cs.Perm all) (hn : all.Nodup) :
    ((rankedPeaks f top cs).take 32).length = min 32 all.length ∧
      (((rankedPeaks f top cs).take 32).map Peak.b).Nodup ∧
      ((rankedPeaks f top cs).take 32).Pairwise (fun x y => peakBefore x y = true) ∧
      (∀ p ∈ (rankedPeaks f top cs).take 32, p.b ∈ all ∧ p = peakAt f top p.b ∧ p.s = f p.b) ∧
      (∀ b ∈ all, peakAt f top b ∉ (rankedPeaks f top cs).take 32 →
        ∀ p ∈ (rankedPeaks f top cs).take 32, peakBefore p (peakAt f top b) = true) := by
  refine ⟨?_, ?_, rankedPeaks_pairwise.take, fun p hp => ?_, fun b hb hnot p hp => ?_⟩
  · rw [List.length_take, rankedPeaks_length, h.length_eq]
  · rw [List.map_take]
    exact ((rankedPeaks_positions.trans h).nodup_iff.mpr hn).take
  · obtain ⟨b, hb, rfl⟩ := mem_rankedPeaks.mp (List.mem_of_mem_take hp)
    exact ⟨h.mem_iff.mp hb, rfl, rfl⟩
  · have ranked : peakAt f top b ∈ rankedPeaks f top cs := mem_rankedPeaks.mpr ⟨b, h.mem_iff.mpr hb, rfl⟩
    exact rel_of_not_mem_take (R := fun x y => peakBefore x y = true) rankedPeaks_pairwise hp ranked hnot

/-- Phase 1 of a lane job changes its phase, its ambient, its peaks and OVER. -/
theorem Lane.phase1Of_eq (nb : Nat) (l : Lane) :
    let f (b : Nat) : Nat := boxSum l.bins b (lenF l.xcfg)
    let m := fld l.xcfg 16 8
    let top := nb - lenF l.xcfg
    l.phase1Of nb = { l with
      phase1 := true, aHist := histAmbient l.bins nb
      peaks := (rankedPeaks f top ((seen (lenF l.xcfg) top l.bins).filter (isPeak f top m))).take 32
      overFlag := decide (32 < ((List.range (top + 1)).filter (isPeak f top m)).length) } := by
  intro f m top
  rw [← (seen_candidates_perm l.bins (lenF l.xcfg) top m).length_eq, ← rankedPeaks_length (f := f) (top := top)]
  rfl

/-- Phase 1 runs on the job at the head of its channel's lanes. -/
theorem extractionPhase1_achan {i : Nat} {l : Lane} {r : List Lane} {s : State} (h : (s.achan i).lanes = l :: r)
    (he : l.passEnd = true) (hp : l.phase1 = false) :
    (extractionPhase1 i s).achan i = { s.achan i with lanes := l.phase1Of s.bins :: r } := by
  unfold extractionPhase1
  rw [updAChan_achan_same, h]
  simp [updFirst, he, hp]

/-! ## Separation (R190) -/

/-- Two peaks lie at least `n` positions apart. -/
def Peak.Apart (n : Nat) (p q : Peak) : Prop := n ≤ (Int.ofNat p.b - Int.ofNat q.b).natAbs

theorem Peak.Apart.symm {n : Nat} {p q : Peak} (h : p.Apart n q) : q.Apart n p := by
  unfold Peak.Apart at *
  omega

theorem Peak.Apart.b_ne {n : Nat} (hn : 1 ≤ n) {p q : Peak} (h : p.Apart n q) : p.b ≠ q.b := by
  rintro e
  unfold Peak.Apart at h
  rw [e] at h
  omega

section separate
variable {n : Nat}

/-- A peak is discarded next to a kept one, and kept otherwise. -/
theorem separate_cons (kept : List Peak) (p : Peak) (ps : List Peak) :
    (∃ q ∈ kept, (Int.ofNat p.b - Int.ofNat q.b).natAbs < n) ∧ separate n kept (p :: ps) = separate n kept ps ∨
      (∀ q ∈ kept, p.Apart n q) ∧ separate n kept (p :: ps) = separate n (kept ++ [p]) ps := by
  have e : separate n kept (p :: ps) =
      if kept.any (fun q => decide ((Int.ofNat p.b - Int.ofNat q.b).natAbs < n)) then separate n kept ps
      else separate n (kept ++ [p]) ps := rfl
  rw [e]
  split
  · next near => exact .inl ⟨by simpa using near, rfl⟩
  · next far => exact .inr ⟨by simpa [Peak.Apart] using far, rfl⟩

theorem mem_separate_of_kept : ∀ {ps kept : List Peak} {q : Peak}, q ∈ kept → q ∈ separate n kept ps
  | [], _, _, h => h
  | p :: ps, kept, q, h => by
    rcases separate_cons (n := n) kept p ps with ⟨-, e⟩ | ⟨-, e⟩ <;> rw [e]
    · exact mem_separate_of_kept h
    · exact mem_separate_of_kept (List.mem_append_left _ h)

theorem mem_of_mem_separate : ∀ {ps kept : List Peak} {q : Peak}, q ∈ separate n kept ps → q ∈ kept ∨ q ∈ ps
  | [], _, _, h => .inl h
  | p :: ps, kept, q, h => by
    rcases separate_cons (n := n) kept p ps with ⟨-, e⟩ | ⟨-, e⟩ <;> rw [e] at h
    · exact (mem_of_mem_separate h).imp_right (List.mem_cons_of_mem p)
    · rcases mem_of_mem_separate h with h | h
      · rcases List.mem_append.mp h with h | h
        · exact .inl h
        · exact .inr (List.mem_singleton.mp h ▸ List.mem_cons_self)
      · exact .inr (List.mem_cons_of_mem p h)

theorem separate_apart : ∀ {ps kept : List Peak}, kept.Pairwise (Peak.Apart n) →
    (separate n kept ps).Pairwise (Peak.Apart n)
  | [], _, h => h
  | p :: ps, kept, h => by
    rcases separate_cons (n := n) kept p ps with ⟨-, e⟩ | ⟨far, e⟩ <;> rw [e]
    · exact separate_apart h
    · refine separate_apart (List.pairwise_append.mpr ⟨h, List.pairwise_singleton _ p, fun q hq x hx => ?_⟩)
      rw [List.mem_singleton.mp hx]
      exact (far q hq).symm

/-- Every peak has a kept one nearer than `n` that is as high: itself, or the one it was discarded for. -/
theorem separate_covers (hn : 1 ≤ n) : ∀ {ps kept : List Peak}, (∀ q ∈ kept, ∀ p ∈ ps, p.s ≤ q.s) →
    ps.Pairwise (fun x y => y.s ≤ x.s) →
    ∀ p ∈ ps, ∃ q ∈ separate n kept ps, (Int.ofNat p.b - Int.ofNat q.b).natAbs < n ∧ p.s ≤ q.s
  | [], _, _, _, _, hp => absurd hp List.not_mem_nil
  | x :: ps, kept, hk, hs, p, hp => by
    obtain ⟨head, tail⟩ := List.pairwise_cons.mp hs
    rcases separate_cons (n := n) kept x ps with ⟨⟨q, hq, near⟩, e⟩ | ⟨-, e⟩
    · rw [e]
      rcases List.mem_cons.mp hp with rfl | hp
      · exact ⟨q, mem_separate_of_kept hq, near, hk q hq p List.mem_cons_self⟩
      · exact separate_covers hn (fun q hq y hy => hk q hq y (List.mem_cons_of_mem x hy)) tail p hp
    · rw [e]
      rcases List.mem_cons.mp hp with rfl | hp
      · exact ⟨p, mem_separate_of_kept (by simp), by omega, Nat.le_refl _⟩
      · refine separate_covers hn (fun q hq y hy => ?_) tail p hp
        rcases List.mem_append.mp hq with hq | hq
        · exact hk q hq y (List.mem_cons_of_mem x hy)
        · rw [List.mem_singleton.mp hq]
          exact head y hy

/-- With a filter of one position or more, no two peaks are kept at one position. -/
theorem separate_positions (hn : 1 ≤ n) (ps : List Peak) : ((separate n [] ps).map Peak.b).Nodup :=
  List.pairwise_map.mpr ((separate_apart List.Pairwise.nil).imp (Peak.Apart.b_ne hn))

end separate

/-! ## The peaks chosen (R191) -/

/-- Among peaks at different positions, those at one position are one peak. -/
theorem eq_of_same_position {ps : List Peak} (h : (ps.map Peak.b).Nodup) {p q : Peak} (hp : p ∈ ps) (hq : q ∈ ps)
    (e : p.b = q.b) : p = q := by
  have apart : ps.Pairwise (fun p q => p.b ≠ q.b) := List.pairwise_map.mp h
  exact List.Pairwise.forall_of_forall_of_flip (R := fun p q => p.b = q.b → p = q) (fun _ _ _ => rfl)
    (apart.imp fun ne e => absurd e ne) (apart.imp fun ne e => absurd e.symm ne) hp hq e

theorem nodup_of_positions {ps : List Peak} (h : (ps.map Peak.b).Nodup) : ps.Nodup :=
  (List.pairwise_map.mp h).imp fun ne e => ne (congrArg Peak.b e)

/-- The nearest and the farthest of the peaks, or the one that is both (R191). -/
def endPeaks (x y : Peak) : List Peak := if x.b = y.b then [x] else [x, y]

theorem endPeaks_nodup (x y : Peak) : (endPeaks x y).Nodup := by
  unfold endPeaks
  split
  · exact List.pairwise_singleton _ x
  · next ne => exact List.pairwise_pair.mpr fun e => ne (congrArg Peak.b e)

theorem mem_endPeaks {ps : List Peak} (h : (ps.map Peak.b).Nodup) {x y : Peak} (hx : x ∈ ps) (hy : y ∈ ps) (p : Peak) :
    p ∈ endPeaks x y ↔ p ∈ ps ∧ (p.b = x.b ∨ p.b = y.b) := by
  have listed : p ∈ endPeaks x y ↔ p = x ∨ p = y := by
    unfold endPeaks
    split
    · next e => rw [List.mem_singleton, ← eq_of_same_position h hx hy e, or_self]
    · rw [List.mem_cons, List.mem_singleton]
  rw [listed]
  constructor
  · rintro (rfl | rfl)
    · exact ⟨hx, .inl rfl⟩
    · exact ⟨hy, .inr rfl⟩
  · rintro ⟨hp, e⟩
    exact e.imp (eq_of_same_position h hp hx) (eq_of_same_position h hp hy)

/-- The nearest and the farthest peak first: the same peaks in another order. -/
theorem ends_first_perm {ps : List Peak} {x y : Peak} (h : (ps.map Peak.b).Nodup) (hx : x ∈ ps) (hy : y ∈ ps) :
    (endPeaks x y ++ ps.filter (fun p => p.b ≠ x.b && p.b ≠ y.b)).Perm ps := by
  have between (p : Peak) : p ∈ ps.filter (fun p => p.b ≠ x.b && p.b ≠ y.b) ↔ p ∈ ps ∧ ¬(p.b = x.b ∨ p.b = y.b) := by
    rw [List.mem_filter, Bool.and_eq_true, decide_eq_true_eq, decide_eq_true_eq, not_or]
  have nodup : (endPeaks x y ++ ps.filter (fun p => p.b ≠ x.b && p.b ≠ y.b)).Nodup := by
    refine List.nodup_append.mpr ⟨endPeaks_nodup x y, (nodup_of_positions h).filter _, fun p hp q hq e => ?_⟩
    exact ((between q).mp hq).2 (e ▸ ((mem_endPeaks h hx hy p).mp hp).2)
  refine (List.perm_ext_iff_of_nodup nodup (nodup_of_positions h)).mpr fun p => ?_
  rw [List.mem_append, mem_endPeaks h hx hy, between, ← and_or_left]
  exact and_iff_left (Decidable.em _)

/-- The order of choice leaves out no peak and doubles none. -/
theorem chooseOrder_perm (sel : Nat) {ps : List Peak} (h : (ps.map Peak.b).Nodup) : (chooseOrder sel ps).Perm ps := by
  have near := orderBy_perm peakNearer ps
  unfold chooseOrder
  dsimp only
  split
  · exact near
  · split
    · next x y hx hy =>
      exact ends_first_perm h (near.mem_iff.mp (List.mem_of_mem_head? hx)) (near.mem_iff.mp (List.mem_of_getLast? hy))
    · next noEnds =>
      have empty : orderBy peakNearer ps = [] := by
        cases listed : orderBy peakNearer ps with
        | nil => rfl
        | cons p qs =>
          have ne : orderBy peakNearer ps ≠ [] := listed ▸ List.cons_ne_nil p qs
          exact (noEnds _ _ (List.head?_eq_some_head ne) (List.getLast?_eq_some_getLast ne)).elim
      rw [empty] at near
      rw [near.symm.eq_nil]
  · exact List.Perm.refl ps

/-- The peaks that pass the threshold, the rain test and the separation (R188, R189, R190). -/
def keptPeaks (s : State) (d : Dwell) (l : Lane) : List Peak :=
  separate (lenF l.xcfg) [] (l.peaks.filter (fun p =>
    decide (l.thr (ambient s d l) ≤ p.s) && (!l.inRain s.bw p || l.dry (ambient s d l) d.nok p)))

/-- NRET of them at most, by the order of choice, the nearest first (R191). -/
def chosenPeaks (s : State) (d : Dwell) (l : Lane) : List Peak :=
  orderBy peakNearer ((chooseOrder (fld l.xcfg 8 2) (keptPeaks s d l)).take (nretOf l.xcfg))

/-- Peaks numbered from 0 and made records. -/
def numbered (mk : Nat → Peak → BitVec 128) (ps : List Peak) : List (BitVec 128) :=
  ((List.range ps.length).zip ps).map (fun jp => mk jp.1 jp.2)

theorem numbered_length (mk : Nat → Peak → BitVec 128) (ps : List Peak) : (numbered mk ps).length = ps.length := by
  simp [numbered]

theorem mem_numbered {mk : Nat → Peak → BitVec 128} {ps : List Peak} {x : BitVec 128} (h : x ∈ numbered mk ps) :
    ∃ p ∈ ps, ∃ j, x = mk j p := by
  obtain ⟨⟨j, p⟩, hm, rfl⟩ := List.mem_map.mp h
  exact ⟨p, (List.of_mem_zip hm).2, j, rfl⟩

theorem numbered_mem {mk : Nat → Peak → BitVec 128} {ps : List Peak} {p : Peak} (h : p ∈ ps) :
    ∃ j, mk j p ∈ numbered mk ps := by
  have second : ((List.range ps.length).zip ps).map Prod.snd = ps := List.map_snd_zip (by simp)
  rw [← second] at h
  obtain ⟨⟨j, q⟩, hm, rfl⟩ := List.mem_map.mp h
  exact ⟨j, List.mem_map.mpr ⟨(j, q), hm, rfl⟩⟩

section phase2
variable {s : State} {d : Dwell} {i : Nat} {l : Lane}

theorem lenF_pos (x : W32) : 1 ≤ lenF x := Nat.one_le_two_pow

theorem chosenPeaks_perm :
    (chosenPeaks s d l).Perm ((chooseOrder (fld l.xcfg 8 2) (keptPeaks s d l)).take (nretOf l.xcfg)) := orderBy_perm _ _

theorem keptPeaks_order_perm : (chooseOrder (fld l.xcfg 8 2) (keptPeaks s d l)).Perm (keptPeaks s d l) :=
  chooseOrder_perm _ (separate_positions (lenF_pos l.xcfg) _)

theorem chosenPeaks_length : (chosenPeaks s d l).length = min (nretOf l.xcfg) (keptPeaks s d l).length := by
  rw [chosenPeaks_perm.length_eq, List.length_take, keptPeaks_order_perm.length_eq]

theorem chosenPeaks_kept {p : Peak} (h : p ∈ chosenPeaks s d l) : p ∈ keptPeaks s d l :=
  keptPeaks_order_perm.mem_iff.mp (List.mem_of_mem_take (chosenPeaks_perm.mem_iff.mp h))

/-- With no more than NRET of them every kept peak is chosen. -/
theorem chosenPeaks_all {p : Peak} (hn : (keptPeaks s d l).length ≤ nretOf l.xcfg) (h : p ∈ keptPeaks s d l) :
    p ∈ chosenPeaks s d l := by
  rw [chosenPeaks_perm.mem_iff, List.take_of_length_le (by rwa [keptPeaks_order_perm.length_eq]),
    keptPeaks_order_perm.mem_iff]
  exact h

/-- Phase 2 of a dwell with shots: the records of the chosen peaks (R191, R199). -/
theorem phase2Of_records (hp : d.nplan ≠ 0) (ho : d.nok ≠ 0) (hd : d.dead.contains (chanFlight i) = false) :
    (phase2Of s d i l).1 = numbered (recordOf s d i (ambient s d l) l
      (l.overFlag || decide (nretOf l.xcfg < (keptPeaks s d l).length))) (chosenPeaks s d l) := by
  have pass : (l.peaks.filter (fun p => decide (l.thr (ambient s d l) ≤ p.s))).filter
      (fun p => !(l.inRain s.bw p && !l.dry (ambient s d l) d.nok p)) = l.peaks.filter (fun p =>
        decide (l.thr (ambient s d l) ≤ p.s) && (!l.inRain s.bw p || l.dry (ambient s d l) d.nok p)) := by
    rw [List.filter_filter]
    exact List.filter_congr fun p _ => by rw [Bool.not_and, Bool.not_not, Bool.and_comm]
  have more : nretOf l.xcfg < (keptPeaks s d l).length ↔ (chosenPeaks s d l).length < (keptPeaks s d l).length := by
    rw [chosenPeaks_length]
    omega
  unfold phase2Of
  rw [if_neg (by rw [hd]; simp [hp, ho]), decide_eq_decide.mpr more]
  dsimp only
  rw [pass]
  rfl

theorem phase2Of_length_le : (phase2Of s d i l).1.length ≤ nretOf l.xcfg := by
  unfold phase2Of
  split
  · exact Nat.zero_le _
  · simp only [List.length_map, List.length_zip, List.length_range, Nat.min_self, (orderBy_perm _ _).length_eq]
    exact List.length_take_le _ _

end phase2

end Sys2Proof.Machine
end

section
/-!
PROOFS. The return stream (chapter 7): what a dwell that enters it leaves alone, late lanes, and the statement about peaks
and records.
-/
namespace Sys2Proof.Machine

/-! ## What entering the return stream can change (R201 to R203, R261, R415) -/

/-- `t` is `s` after items were placed in the streams: beside these the Gallery, the link, the persistent store, events,
faults and what they set of LIMP, and the flights faulted by a lane may differ, nothing else. -/
def Streamed (s t : State) : Prop :=
  t = { s with
    ps := t.ps, ev := t.ev
    ar := { s.ar with
      recCnt := t.ar.recCnt, frameCnt := t.ar.frameCnt, items := t.ar.items, streamOn := t.ar.streamOn
      streamEpoch := t.ar.streamEpoch, laneBad := t.ar.laneBad }
    bl := { s.bl with pmflt := t.bl.pmflt }
    gl := t.gl, lk := t.lk, th := t.th, av := t.av }

theorem Streamed.refl (s : State) : Streamed s s := rfl

theorem Streamed.trans {s t u : State} (h : Streamed s t) (k : Streamed t u) : Streamed s u := by
  unfold Streamed at *
  rw [k, h]

theorem Said.streamed {s t : State} (h : Said s t) : Streamed s t := by
  rw [h]
  rfl

theorem Stored.streamed {s t : State} (h : Stored s t) : Streamed s t := by
  rw [h]
  rfl

section fields
variable {s t : State} (h : Streamed s t)
include h

theorem Streamed.pending : t.pending = s.pending := by rw [h]
theorem Streamed.tb : t.tb = s.tb := by rw [h]
theorem Streamed.fl : t.fl = s.fl := by rw [h]
theorem Streamed.sh : t.sh = s.sh := by rw [h]
theorem Streamed.ms : t.ms = s.ms := by rw [h]
theorem Streamed.chans : t.ar.chans = s.ar.chans := by rw [h]
theorem Streamed.rainCnt : t.ar.rainCnt = s.ar.rainCnt := by rw [h]

end fields

/-- A loop of steps that place items places items. -/
theorem foldl_streamed {β : Type} {f : State → β → State} (h : ∀ s b, Streamed s (f s b)) :
    ∀ (l : List β) (s : State), Streamed s (l.foldl f s)
  | [], s => Streamed.refl s
  | b :: l, s => (h s b).trans (foldl_streamed h l (f s b))

section
variable (s : State)

/-! ### The return stream -/

theorem sendReturn_said (f : Frame) : Said s (sendReturn f s) := by
  unfold sendReturn
  split
  · split
    · split
      · exact enqueue_said _ _ _ s
      · exact dropOut_said 1 s
    · exact dropOut_said 1 s
  · exact enqueue_said _ _ _ s
  · exact Said.refl s

theorem closeReturn_streamed : Streamed s (closeReturn s) := by
  unfold closeReturn
  split
  · exact Streamed.refl s
  · exact Streamed.trans (by rfl) (sendReturn_said _ _).streamed

theorem placeItem_streamed (x : BitVec 128) (service : Bool) : Streamed s (placeItem x service s) := by
  unfold placeItem
  dsimp only
  split
  · exact Streamed.trans (by rfl) (closeReturn_streamed _)
  · rfl

theorem markStream_streamed (e : W16) : Streamed s (markStream e s) :=
  Streamed.trans (by rfl) (placeItem_streamed _ (epochItem e) true)

theorem settleEpoch_streamed : Streamed s (settleEpoch s) := by
  unfold settleEpoch
  split
  · exact markStream_streamed s _
  · exact Streamed.refl s

/-! ### The Gallery -/

theorem endStream_streamed (st : Status) : Streamed s (endStream st s) := by
  unfold endStream
  split
  · exact Streamed.trans (by rfl) (complete_said _ _ _).streamed
  · exact Streamed.refl s

theorem clearPartitions_streamed : Streamed s (clearPartitions s) := by
  unfold clearPartitions
  exact (Streamed.trans (by rfl) (raiseIf_said _ 100 _).streamed).trans (endStream_streamed _ .fault)

theorem selfArm_streamed : Streamed s (selfArm s) := by
  unfold selfArm
  split
  · rfl
  · exact (raise_said _ s).streamed

theorem leaveRotation_streamed (c : Nat) : Streamed s (leaveRotation c s) := by
  have left (st : GlState) : Streamed s (raise 101 { clearPartitions s with
      gl := { (clearPartitions s).gl with retired := some c, state := st } }) :=
    (clearPartitions_streamed s).trans (Streamed.trans (by rfl) (raise_said _ _).streamed)
  unfold leaveRotation
  dsimp only
  split
  · exact (left _).trans (selfArm_streamed _)
  · exact left _

theorem outOfService_streamed : Streamed s (outOfService s) :=
  (clearPartitions_streamed s).trans (Streamed.trans (by rfl) (raise_said _ _).streamed)

theorem memFault_streamed (c : Nat) : Streamed s (memFault c s) := by
  unfold memFault
  split
  · exact ((detect_stored _ _ _ _ s).trans (commitOwn_stored _ _ _)).streamed.trans (leaveRotation_streamed _ c)
  · split
    · exact Streamed.refl s
    · exact ((detect_stored _ _ _ _ s).trans (commitOwn_stored _ _ _)).streamed.trans (outOfService_streamed _)

theorem bufferFull_streamed : Streamed s (bufferFull s) :=
  Streamed.trans (by rfl) ((raise_said 102 _).streamed.trans (memFault_streamed _ _))

theorem hand_streamed (r : GRec) : Streamed s (hand r s) := by
  unfold hand
  split
  · exact Streamed.refl s
  · split
    · rfl
    · split
      · exact bufferFull_streamed s
      · rfl

theorem galleryDwell_streamed (d : Dwell) (recs : List (Nat × List (BitVec 128))) : Streamed s (galleryDwell d recs s) := by
  unfold galleryDwell
  dsimp only
  split
  · exact Streamed.refl s
  · split
    · rfl
    · split
      · rfl
      · exact (Streamed.trans (by rfl) (foldl_streamed (fun s w => hand_streamed s _) _ _)).trans (hand_streamed _ _)

/-! ### Lanes -/

theorem laneGood_streamed (d : Dwell) (f : Nat) : Streamed s (laneGood d f s) := by
  unfold laneGood
  dsimp only
  split
  · exact Streamed.refl s
  · split
    · rfl
    · exact Streamed.trans (by rfl) (repair_stored _ _ _ _).streamed

end

/-! ## Dwells (R202) -/

/-- A dwell placed in the stream, where `b` holds. -/
def Dwell.mark (b : Bool) (d : Dwell) : Dwell := { d with placed := d.placed || b }

/-- Between `s` and `t` dwells, and they alone, were placed in the stream: the streams may differ, and those dwells are
marked. -/
def Entered (s t : State) : Prop :=
  Streamed { s with sh := { s.sh with dwells := t.sh.dwells } } t ∧
    ∃ p : Dwell → Bool, t.sh.dwells = s.sh.dwells.map (fun d => d.mark (p d))

theorem Dwell.mark_false (d : Dwell) : d.mark false = d := by
  unfold Dwell.mark
  rw [Bool.or_false]

theorem Dwell.mark_mark (a b : Bool) (d : Dwell) : (d.mark a).mark b = d.mark (a || b) := by
  unfold Dwell.mark
  rw [Bool.or_assoc]

theorem Streamed.entered {s t : State} (h : Streamed s t) : Entered s t := by
  refine ⟨?_, fun _ => false, ?_⟩
  · rw [h.sh]
    exact h
  · simp only [Dwell.mark_false, List.map_id']
    rw [h.sh]

theorem Entered.trans {s t u : State} (h : Entered s t) (k : Entered t u) : Entered s u := by
  obtain ⟨hs, p, hd⟩ := h
  obtain ⟨ks, q, kd⟩ := k
  refine ⟨?_, fun d => p d || q (d.mark (p d)), ?_⟩
  · unfold Streamed at *
    rw [ks, hs]
  · rw [kd, hd, List.map_map]
    exact List.map_congr_left fun d _ => Dwell.mark_mark _ _ d

theorem updDwell_entered (did : Nat) (s : State) : Entered s (updDwell did (fun d => { d with placed := true }) s) := by
  refine ⟨rfl, fun d => d.did = did, List.map_congr_left fun d _ => ?_⟩
  unfold Dwell.mark
  split <;> simp_all

/-- A dwell is marked between two runs of items. -/
theorem placeDwell_between (d : Dwell) (s : State) :
    ∃ u, Streamed s u ∧ Streamed (updDwell d.did (fun d => { d with placed := true }) u) (placeDwell d s) := by
  have marker : Streamed s (if s.ar.streamEpoch = d.epoch then s else markStream d.epoch s) := by
    split
    · exact Streamed.refl s
    · exact markStream_streamed s _
  unfold placeDwell
  extract_lets u recs v _ w x y
  have records : Streamed u v := foldl_streamed (fun s r => placeItem_streamed s r false) recs u
  have gallery : Streamed v w := Streamed.trans (by rfl) (galleryDwell_streamed _ d d.records)
  exact ⟨x, ((marker.trans records).trans gallery).trans (placeItem_streamed w _ true),
    foldl_streamed (fun s f => laneGood_streamed s d f) _ y⟩

theorem placeDwell_entered (d : Dwell) (s : State) : Entered s (placeDwell d s) := by
  obtain ⟨u, before, after⟩ := placeDwell_between d s
  exact (before.entered.trans (updDwell_entered _ u)).trans after.entered

theorem placeDwells_entered : ∀ (n : Nat) (s : State), Entered s (placeDwells n s)
  | 0, s => (settleEpoch_streamed s).entered
  | n + 1, s => by
    unfold placeDwells
    split
    · split
      · exact (placeDwell_entered _ s).trans (placeDwells_entered n _)
      · exact (settleEpoch_streamed s).entered
    · exact (settleEpoch_streamed s).entered

/-- A dwell that entering the stream may have marked reads as before but for the mark, which is never taken back. -/
theorem Entered.dwell {s t : State} (h : Entered s t) {did : Nat} {d : Dwell} (hd : s.dwell did = some d) :
    ∃ b, t.dwell did = some (d.mark b) := by
  obtain ⟨-, p, e⟩ := h
  refine ⟨p d, ?_⟩
  have same : ((fun d : Dwell => decide (d.did = did)) ∘ fun d : Dwell => d.mark (p d)) = fun d => decide (d.did = did) := rfl
  unfold State.dwell at *
  rw [e, List.find?_map, same, hd]
  rfl

theorem dwell_did {did : Nat} {s : State} {d : Dwell} (hd : s.dwell did = some d) : d.did = did := by
  simpa using List.find?_some hd

theorem dwell_updDwell {did : Nat} {f : Dwell → Dwell} {s : State} {d : Dwell} (hf : ∀ d, (f d).did = d.did)
    (hd : s.dwell did = some d) : (updDwell did f s).dwell did = some (f d) := by
  have same : ((fun d : Dwell => decide (d.did = did)) ∘ fun d : Dwell => if d.did = did then f d else d) =
      fun d => decide (d.did = did) := by
    funext d
    simp only [Function.comp_apply]
    split <;> simp [*]
  have id := dwell_did hd
  unfold State.dwell updDwell at *
  rw [List.find?_map, same, hd, Option.map_some, if_pos id]

theorem dwell_congr {s t : State} (h : t.sh = s.sh) (did : Nat) : t.dwell did = s.dwell did := by
  unfold State.dwell
  rw [h]

theorem placeDwell_dwell {d : Dwell} {s : State} (hd : s.dwell d.did = some d) :
    (placeDwell d s).dwell d.did = some { d with placed := true } := by
  obtain ⟨u, before, after⟩ := placeDwell_between d s
  rw [dwell_congr after.sh]
  refine dwell_updDwell ?_ ?_
  · exact fun _ => rfl
  · rw [dwell_congr before.sh, hd]

/-- The next dwell of the stream enters it when it can. -/
theorem placeDwells_next {d : Dwell} {s : State} (n : Nat) (hn : s.sh.dwells.find? (fun d => !d.placed) = some d)
    (hd : s.dwell d.did = some d) (hp : s.placeable d = true) :
    ((placeDwells (n + 1) s).dwell d.did).map Dwell.placed = some true := by
  unfold placeDwells
  rw [hn]
  simp only [hp, if_true]
  obtain ⟨b, h⟩ := (placeDwells_entered n (placeDwell d s)).dwell (placeDwell_dwell hd)
  rw [h]
  rfl

/-! ## Phase 2 of a lane job (R183) -/

/-- The dwell as channel `i` has been extracted on it, with the records `rs`. -/
def Dwell.extractedOn (i : Nat) (rs : List (BitVec 128)) (d : Dwell) : Dwell :=
  { d with extracted := i :: d.extracted, records := Tab.insert d.records i rs }

/-- The oldest job of channel `i` has ended with the records and the discarded peaks `r`. -/
def jobOver (i : Nat) (r : List (BitVec 128) × Nat) (s : State) : State :=
  let s := updAChan i (fun a => { a with lanes := a.lanes.tail })
    { s with ar := { s.ar with rainCnt := s.ar.rainCnt + w32 r.2 } }
  if r.1.isEmpty then s else count (96 + chanFlight i) r.1.length s

/-- The state as phase 2 of the oldest job of channel `i` has ended, before dwells enter the stream. -/
def afterExtraction (i : Nat) (d : Dwell) (r : List (BitVec 128) × Nat) (s : State) : State :=
  updDwell d.did (Dwell.extractedOn i r.1) (jobOver i r s)

section job
variable {s : State} {i : Nat} {d : Dwell}

theorem achan_of_chans {s t : State} (h : t.ar.chans = s.ar.chans) (i : Nat) : t.achan i = s.achan i := by
  unfold State.achan
  rw [h]

/-- Beside its channel and the counts the end of a job leaves all as it is. -/
theorem jobOver_only (i : Nat) (r : List (BitVec 128) × Nat) (s : State) : jobOver i r s = { s with
    ar := { s.ar with rainCnt := s.ar.rainCnt + w32 r.2, chans := (jobOver i r s).ar.chans }, av := (jobOver i r s).av } := by
  unfold jobOver
  dsimp only
  split <;> rfl

theorem jobOver_achan (r : List (BitVec 128) × Nat) {l : Lane} {rest : List Lane} (hl : (s.achan i).lanes = l :: rest) :
    (jobOver i r s).achan i = { s.achan i with lanes := rest } ∧ ∀ j, j ≠ i → (jobOver i r s).achan j = s.achan j := by
  have chans : (jobOver i r s).ar.chans = (updAChan i (fun a => { a with lanes := a.lanes.tail }) s).ar.chans := by
    unfold jobOver
    dsimp only
    split <;> rfl
  refine ⟨?_, fun j hj => ?_⟩
  · rw [achan_of_chans chans, updAChan_achan_same, hl]
    rfl
  · rw [achan_of_chans chans, updAChan_achan_other _ _ hj]

theorem extractionPhase2_joined {l : Lane} {rest : List Lane} (hl : (s.achan i).lanes = l :: rest) (hp : l.phase1 = true)
    (hd : s.dwell l.did = some d) (hj : d.joined = true) :
    extractionPhase2 i s = placeDwells (s.sh.dwells.length) (afterExtraction i d (phase2Of s d i l) s) := by
  have length : (afterExtraction i d (phase2Of s d i l) s).sh.dwells.length = s.sh.dwells.length := by
    unfold afterExtraction updDwell
    rw [jobOver_only]
    exact List.length_map _
  rw [← length]
  unfold extractionPhase2
  simp only [hl, List.head?_cons, hd, hp, hj, Bool.not_true, Bool.or_self, Bool.false_eq_true, if_false]
  rfl

theorem afterExtraction_dwell (r : List (BitVec 128) × Nat) (hd : s.dwell d.did = some d) :
    (afterExtraction i d r s).dwell d.did = some (d.extractedOn i r.1) := by
  refine dwell_updDwell (fun _ => rfl) ?_
  rw [jobOver_only]
  exact hd

/-- The dwell that was next in the stream still is, and can enter it as its last channel is extracted. -/
theorem afterExtraction_next (r : List (BitVec 128) × Nat) (hj : d.joined = true)
    (hn : s.sh.dwells.find? (fun d => !d.placed) = some d)
    (hall : (s.served d).all (fun j => j == i || d.extracted.contains j) = true) :
    (afterExtraction i d r s).sh.dwells.find? (fun d => !d.placed) = some (d.extractedOn i r.1) ∧
      (afterExtraction i d r s).placeable (d.extractedOn i r.1) = true := by
  have same : ((fun d : Dwell => !d.placed) ∘ fun e : Dwell => if e.did = d.did then e.extractedOn i r.1 else e) =
      fun d => !d.placed := by
    funext e
    simp only [Function.comp_apply]
    split <;> rfl
  have dwells : (afterExtraction i d r s).sh.dwells =
      s.sh.dwells.map (fun e => if e.did = d.did then e.extractedOn i r.1 else e) := by
    unfold afterExtraction updDwell
    rw [jobOver_only]
  have served : (afterExtraction i d r s).served (d.extractedOn i r.1) = s.served d := by
    unfold afterExtraction State.served
    rw [jobOver_only]
    rfl
  refine ⟨?_, ?_⟩
  · rw [dwells, List.find?_map, same, hn, Option.map_some, if_pos rfl]
  · unfold State.placeable
    rw [served]
    simpa [Dwell.extractedOn, hj] using hall

end job

section phase2
variable {s : State} {i : Nat} {l : Lane} {r : List Lane} {d : Dwell} (hl : (s.achan i).lanes = l :: r)
  (hp : l.phase1 = true) (hd : s.dwell l.did = some d) (hj : d.joined = true)
include hl hp hd hj

theorem extractionPhase2_entered : Entered (afterExtraction i d (phase2Of s d i l) s) (extractionPhase2 i s) := by
  rw [extractionPhase2_joined hl hp hd hj]
  exact placeDwells_entered _ _

/-- The job leaves its channel, and no other channel changes. -/
theorem extractionPhase2_achan : (extractionPhase2 i s).achan i = { s.achan i with lanes := r } ∧
    ∀ j, j ≠ i → (extractionPhase2 i s).achan j = s.achan j := by
  obtain ⟨only, -⟩ := extractionPhase2_entered hl hp hd hj
  obtain ⟨own, others⟩ := jobOver_achan (phase2Of s d i l) hl
  have same (j : Nat) : (extractionPhase2 i s).achan j = (jobOver i (phase2Of s d i l) s).achan j :=
    achan_of_chans only.chans j
  exact ⟨(same i).trans own, fun j hj => (same j).trans (others j hj)⟩

/-- Beside channels, dwells and the rain count only the streams and what they reach differ. -/
theorem extractionPhase2_only : Streamed { s with
    ar := { s.ar with
      rainCnt := s.ar.rainCnt + w32 (phase2Of s d i l).2, chans := (extractionPhase2 i s).ar.chans }
    sh := { s.sh with dwells := (extractionPhase2 i s).sh.dwells } } (extractionPhase2 i s) := by
  obtain ⟨only, -⟩ := extractionPhase2_entered hl hp hd hj
  refine Streamed.trans ?_ only
  rw [only.chans]
  unfold afterExtraction
  rw [jobOver_only]
  rfl

theorem extractionPhase2_dwell :
    ∃ b, (extractionPhase2 i s).dwell l.did = some ((d.extractedOn i (phase2Of s d i l).1).mark b) := by
  have id := dwell_did hd
  rw [← id] at hd ⊢
  exact (extractionPhase2_entered hl hp (id ▸ hd) hj).dwell (afterExtraction_dwell _ hd)

/-- The dwell enters the stream where it is the next one, and channel `i` was the last to be extracted. -/
theorem extractionPhase2_placed (hn : s.sh.dwells.find? (fun d => !d.placed) = some d)
    (hall : (s.served d).all (fun j => j == i || d.extracted.contains j) = true) :
    ((extractionPhase2 i s).dwell l.did).map Dwell.placed = some true := by
  have id := dwell_did hd
  obtain ⟨next, can⟩ := afterExtraction_next (phase2Of s d i l) hj hn hall
  obtain ⟨n, hlen⟩ : ∃ n, s.sh.dwells.length = n + 1 :=
    Nat.exists_eq_add_one.mpr (List.length_pos_of_mem (List.mem_of_find?_eq_some hn))
  rw [extractionPhase2_joined hl hp hd hj, hlen, ← id]
  exact placeDwells_next (d := d.extractedOn i (phase2Of s d i l).1) n next (afterExtraction_dwell _ (by rw [id, hd])) can

end phase2

/-! ## Late lanes (R183, R206, R235, R415) -/

theorem bit_setBit_other (x : W32) {j k : Nat} (h : k ≠ j) : bit (setBit x j true) k = bit x k := by
  unfold bit setBit w32
  rw [if_pos rfl, BitVec.getLsbD_or, BitVec.getLsbD_ofNat, Nat.testBit_two_pow_of_ne h.symm, Bool.and_false, Bool.or_false]

/-- Flight `f` is judged by the map, and its lanes are bad; `ds` are the dwells as they note it. -/
def lateMarked (f : Nat) (ds : List Dwell) (s : State) : State :=
  { s with
    bl := { s.bl with pmflt := setBit s.bl.pmflt f true }
    ar := { s.ar with laneBad := Tab.insert s.ar.laneBad f 1 }
    sh := { s.sh with dwells := ds } }

/-- With a lane job on flight `f` LANE_LATE marks the flight for the map, and finds fault 0x0203. -/
theorem laneLate_finds {f i : Nat} {s : State} (hi : i ∈ flightChans f) (hl : (s.achan i).lanes ≠ []) :
    ∃ ns ds, 52 ∈ ns ∧ laneLate f s = detect 0x0203 f 11 true (raises ns (lateMarked f ds s)) := by
  obtain ⟨l, r, hlanes⟩ := List.exists_cons_of_ne_nil hl
  have job : l.did ∈ (flightChans f).filterMap (fun i => (s.achan i).lanes.head?.map Lane.did) :=
    List.mem_filterMap.mpr ⟨i, hi, by rw [hlanes]; rfl⟩
  unfold laneLate
  dsimp only
  rw [if_neg (fun h => List.ne_nil_of_mem job (List.isEmpty_iff.mp h))]
  refine ⟨_, _, ?_, rfl⟩
  split <;> simp

/-- Settles O36: phase 1 takes the first 32 of the ranked candidates, phase 2 numbers the chosen of the kept peaks and
leaves the rest to the stream, and a late lane marks its flight before its fault is found. -/
theorem peaksAndRecords : Obligations.PeaksAndRecords := by
  refine ⟨fun s i l r hl hi hlanes he hp => ?_, isPeak_iff, fun s i l r d hl hi hlanes hp hd hj => ?_,
    fun s d i l => phase2Of_length_le, fun s d i l hplan hok hdead => ?_, fun n ps hn hs => ?_,
    fun s f i hl hf hi hlanes => ?_⟩
  · intro n top f cs
    have achan := extractionPhase1_achan hlanes he hp
    refine Completes.of_kept (f := extractionPhase1 i) rfl (decide_eq_true hi) hl rfl ?_
    rw [achan]
    refine ⟨⟨l.phase1Of s.bins, rfl, ?_⟩, rfl, fun j hj => updAChan_achan_other _ s hj, rfl⟩
    rw [Lane.phase1Of_eq]
    exact ⟨rfl, highest_kept (seen_candidates_perm l.bins n top _) (List.nodup_range.filter _)⟩
  · obtain ⟨own, others⟩ := extractionPhase2_achan hlanes hp hd hj
    have only := extractionPhase2_only hlanes hp hd hj
    obtain ⟨b, dwell⟩ := extractionPhase2_dwell hlanes hp hd hj
    refine Completes.of_kept (f := extractionPhase2 i) rfl (decide_eq_true hi) hl only.pending
      ⟨own, others, only.rainCnt, ?_, ?_, extractionPhase2_placed hlanes hp hd hj, only.tb, only.fl, only.ms, ?_⟩
    · rw [dwell]
      simp [Dwell.mark, Dwell.extractedOn]
    · rw [dwell]
      exact congrArg some (Tab.get_insert_same _ i _ d.records)
    · rw [only.sh]
  · rw [phase2Of_records hplan hok hdead]
    refine ⟨(numbered_length _ _).trans chosenPeaks_length, fun x hx => ?_, fun hn p hp => ?_⟩
    · obtain ⟨p, hp, j, e⟩ := mem_numbered hx
      exact ⟨p, chosenPeaks_kept hp, j, e⟩
    · obtain ⟨j, hj⟩ := numbered_mem (chosenPeaks_all hn hp)
      have none : decide (nretOf l.xcfg < (keptPeaks s d l).length) = false := decide_eq_false (Nat.not_lt.mpr hn)
      rw [none, Bool.or_false]
      exact ⟨j, hj⟩
  · exact ⟨fun q hq => (mem_of_mem_separate hq).resolve_left List.not_mem_nil, separate_apart List.Pairwise.nil,
      separate_covers hn (fun q hq => absurd hq List.not_mem_nil) hs⟩
  · obtain ⟨ns, ds, h52, h⟩ := laneLate_finds hi hlanes
    have found := (raises_stored ns (lateMarked f ds s)).trans (detect_stored 0x0203 f 11 true _)
    refine Completes.of_kept (f := laneLate f) rfl (decide_eq_true hf) hl (by rw [h]; exact found.pending) ?_
    rw [h]
    refine ⟨?_, fun g hg ne => ?_, ?_, detect_outstanding _ _ _ _, detects_keeps _ (raises_latched _ h52), ?_, found.tb,
      found.fl, found.mem⟩
    · rw [found.bl]
      exact bit_setBit_same s.bl.pmflt hf
    · rw [found.bl]
      exact bit_setBit_other s.bl.pmflt ne
    · rw [found.ar]
      exact Tab.get_insert_same zeros f 1 s.ar.laneBad
    · rw [found.ar]
      rfl

end Sys2Proof.Machine
end

section
/-!
PROOFS. Foreign trains (chapter 7): clusters, trackers and REJECT_CFG.
-/
namespace Sys2Proof.Machine

/-! ## Trackers (R194, R196, R197) -/

theorem locker_congr {s t : State} (h : t.ar.lockers = s.ar.lockers) (f : Nat) : t.locker f = s.locker f := by
  unfold State.locker
  rw [h]

/-- Beside things said, only trackers differ. -/
def Tracked (s t : State) : Prop := Said { s with ar := { s.ar with trackers := t.ar.trackers } } t

theorem Tracked.said {s t : State} (h : Tracked s t) : Said { s with ar := { s.ar with trackers := t.ar.trackers } } t := h

theorem Tracked.lockers {s t : State} (h : Tracked s t) : t.ar.lockers = s.ar.lockers := by rw [h.said.ar]

theorem Tracked.pending {s t : State} (h : Tracked s t) : t.pending = s.pending := h.said.pending

theorem Tracked.refl (s : State) : Tracked s s := rfl

theorem Tracked.trans {s t u : State} (h : Tracked s t) (k : Tracked t u) : Tracked s u := by
  unfold Tracked Said at *
  rw [k, h]

theorem setTracker_tracked (f k : Nat) (r : Tracker × List Nat) (s : State) : Tracked s (setTracker f k r s) := by
  have said : Said _ (setTracker f k r s) := raises_said r.2
    { s with ar := { s.ar with trackers := Tab.put freshTracker s.ar.trackers (2 * f + k) r.1 } }
  unfold Tracked
  rw [said.ar]
  exact said

theorem trackHit_tracked (f : Nat) (t : Stamp) (k : Nat) (s : State) : Tracked s (trackHit f t k s) := by
  unfold trackHit
  dsimp only
  split
  · exact Tracked.refl s
  · exact setTracker_tracked _ _ _ s

theorem startTracker_tracked (f p : Nat) (t : Stamp) (s : State) : Tracked s (startTracker f p t s) := by
  unfold startTracker
  split
  · exact setTracker_tracked _ _ _ s
  · exact Tracked.refl s

theorem setTracker_tracker (f k : Nat) (r : Tracker × List Nat) (s : State) (g j : Nat) :
    (setTracker f k r s).tracker g j =
      Tab.get freshTracker (Tab.put freshTracker s.ar.trackers (2 * f + k) r.1) (2 * g + j) := by
  unfold State.tracker setTracker
  rw [(raises_said r.2 _).ar]

theorem setTracker_tracker_same (f k : Nat) (r : Tracker × List Nat) (s : State) :
    (setTracker f k r s).tracker f k = r.1 := by
  rw [setTracker_tracker, Tab.get_put_same]

theorem setTracker_tracker_other {f k g j : Nat} (r : Tracker × List Nat) (s : State) (hk : k < 2) (hj : j < 2)
    (h : g ≠ f ∨ j ≠ k) : (setTracker f k r s).tracker g j = s.tracker g j := by
  rw [setTracker_tracker, Tab.get_put_other _ _ (by omega)]
  rfl

/-- A tracker that does not become FREE keeps its prediction, and the latest 16 hits and misses (R197). -/
theorem Tracker.note_kept {hit : Bool} {x : Tracker} (h : (x.note hit).1.state ≠ 0) :
    (x.note hit).1.tPred = x.tPred ∧ (x.note hit).1.hist = (hit :: x.hist).take 16 := by
  unfold Tracker.note at h ⊢
  dsimp only at h ⊢
  split at h
  · next locks => rw [if_pos locks]; exact ⟨rfl, rfl⟩
  · next stays =>
    rw [if_neg stays]
    split at h
    · next drops => rw [if_pos drops]; exact ⟨rfl, rfl⟩
    · next keeps =>
      rw [if_neg keeps]
      split at h
      · exact absurd rfl h
      · next holds => rw [if_neg holds]; exact ⟨rfl, rfl⟩

theorem trackerMiss_held {f k : Nat} {s : State} (h : (s.tracker f k).state ≠ 0) :
    trackerMiss f k s = setTracker f k (Tracker.note false { s.tracker f k with
      tPred := (s.tracker f k).tPred + periodStamp (s.tracker f k).period }) s := if_neg h

/-! ## Clusters and votes (R195, R196, R198) -/

/-- A locker changed, then trackers: that locker is as changed, and nothing beside lockers and trackers differs but things
said. -/
theorem Tracked.of_updLocker {f : Nat} {g : Locker → Locker} {s t : State} (h : Tracked (updLocker f g s) t) :
    t.locker f = g (s.locker f) ∧ (∀ e, e ≠ f → t.locker e = s.locker e) ∧
      Said { s with ar := { s.ar with lockers := t.ar.lockers, trackers := t.ar.trackers } } t := by
  refine ⟨?_, fun e he => ?_, ?_⟩
  · rw [locker_congr h.lockers, updLocker_locker_same]
  · rw [locker_congr h.lockers, updLocker_locker_other _ _ he]
  · rw [h.lockers]
    exact h

/-- The votes of a cluster leave the pools alone. -/
theorem castVotes_pools (pmin : Nat) (t : Stamp) (l : Locker) :
    (castVotes pmin t l).pool = l.pool ∧ (castVotes pmin t l).outPool = l.outPool := by
  unfold castVotes
  split <;> exact ⟨rfl, rfl⟩

/-- The locker after an OUTSIDE cluster that opens at `u` has left its pool and, where it counts, has voted. -/
def Locker.outClosed (counts : Bool) (pmin : Nat) (u : Stamp) (l : Locker) : Locker :=
  let l := { l with outPool := l.outPool.filter (fun q => !inCluster u q) }
  if counts then castVotes pmin u l else l

theorem Locker.outClosed_pools (counts : Bool) (pmin : Nat) (u : Stamp) (l : Locker) :
    (l.outClosed counts pmin u).outPool = l.outPool.filter (fun q => !inCluster u q) ∧
      (l.outClosed counts pmin u).pool = l.pool := by
  unfold Locker.outClosed
  cases counts
  · exact ⟨rfl, rfl⟩
  · exact (castVotes_pools pmin u _).symm

theorem clusterClose_outside {f : Nat} {u : Stamp} {s : State} (h : earliest (s.locker f).outPool = some u) :
    ∃ counts, clusterClose f true s = updLocker f (Locker.outClosed counts (fld s.ar.ftcfg 10 14) u) s := by
  refine ⟨s.counts (s.locker f).outPool u, ?_⟩
  unfold clusterClose
  simp only [if_true, h]
  rfl

theorem clusterClose_inside {f : Nat} {u : Stamp} {s : State} (h : earliest (s.locker f).pool = some u) :
    Tracked (updLocker f (fun l => { l with pool := (s.locker f).pool.filter (fun q => !inCluster u q) }) s)
      (clusterClose f false s) := by
  unfold clusterClose
  simp only [Bool.false_eq_true, if_false, h]
  split
  · exact (trackHit_tracked f u 0 _).trans (trackHit_tracked f u 1 _)
  · exact Tracked.refl _

/-- The locker as an acquisition interval ends (R196, R198). -/
def Locker.intervalEnded (l : Locker) : Locker :=
  { l with votes := [], idle := false, last := if l.idle then [] else l.last }

theorem acquisitionEnd_tracked (f : Nat) (s : State) :
    Tracked (updLocker f Locker.intervalEnded s) (acquisitionEnd f s) := by
  unfold acquisitionEnd
  extract_lets l u x y p held
  have ended : u = updLocker f Locker.intervalEnded s := rfl
  rw [← ended]
  split
  · exact Tracked.refl u
  · split
    · exact Tracked.refl u
    · split
      · exact startTracker_tracked f p _ u
      · exact Tracked.refl u

/-- With FTEN = 0 an acquisition interval starts no tracker (R198). -/
theorem acquisitionEnd_off {f : Nat} {s : State} (h : s.ftOn = false) :
    (acquisitionEnd f s).ar.trackers = s.ar.trackers := by
  unfold acquisitionEnd
  dsimp only
  rw [if_pos]
  · rfl
  · have off (t : Tab Locker) : State.ftOn { s with ar := { s.ar with lockers := t } } = false := h
    simp [updLocker, off]

/-! ## REJECT_CFG (R198, R204, R339) -/

theorem updLockers_only (g : Locker → Locker) : ∀ (ks : List Nat) (s : State),
    ∃ x, ks.foldl (fun s k => updLocker k g s) s = { s with ar := { s.ar with lockers := x } }
  | [], s => ⟨s.ar.lockers, rfl⟩
  | k :: ks, s => by
    obtain ⟨x, h⟩ := updLockers_only g ks (updLocker k g s)
    exact ⟨x, h⟩

/-- The locker's new configuration changes AR.FTCFG, and trackers and lockers at most. -/
theorem setFtcfg_only (f : W32) (s : State) :
    ∃ x y, setFtcfg f s = { s with ar := { s.ar with ftcfg := f, trackers := x, lockers := y } } := by
  unfold setFtcfg
  dsimp only
  split
  · exact ⟨[], [], rfl⟩
  · split
    · exact ⟨s.ar.trackers, s.ar.lockers, rfl⟩
    · obtain ⟨y, h⟩ := updLockers_only (fun l => { l with votes := [], idle := true }) (List.range 32)
        { s with ar := { s.ar with ftcfg := f } }
      exact ⟨s.ar.trackers, y, h⟩

section
variable {tk : Ticket} {p : List Byte} {s : State}

theorem rejectCfgOwn_badarg {off : Nat}
    (h : rejectBad (pWord p 0 &&& 0xFFFF0333) (pWord p 12 &&& 0x8FFFFCFF) = some off) :
    rejectCfgOwn tk p s = reply s (.badarg off) := by
  unfold rejectCfgOwn
  simp only [h]

/-- Good parameters that do not raise NRET are judged by no admission rule. -/
theorem rejectCfgOwn_takes (h : rejectBad (pWord p 0 &&& 0xFFFF0333) (pWord p 12 &&& 0x8FFFFCFF) = none)
    (hn : fld (pWord p 0 &&& 0xFFFF0333) 4 2 + 1 ≤ s.adm.nret) :
    ∃ x y, rejectCfgOwn tk p s = reply { s with ar := { s.ar with
      xcfg := pWord p 0 &&& 0xFFFF0333, xsun := pWord p 4 &&& 0xFFFF, xrain := pWord p 8 &&& 0xFFFF
      ftcfg := pWord p 12 &&& 0x8FFFFCFF, trackers := x, lockers := y } } (.plain .ok) := by
  obtain ⟨x, y, h'⟩ := setFtcfg_only (pWord p 12 &&& 0x8FFFFCFF) { s with ar := { s.ar with
    xcfg := pWord p 0 &&& 0xFFFF0333, xsun := pWord p 4 &&& 0xFFFF, xrain := pWord p 8 &&& 0xFFFF } }
  refine ⟨x, y, Eq.trans ?_ (congrArg (reply · (.plain .ok)) h')⟩
  unfold rejectCfgOwn
  simp only [h, decide_eq_false (Nat.not_lt.mpr hn), Bool.false_and, Bool.false_eq_true, if_false]

end

/-- A REJECT_CFG of 16 bytes that the Lodge takes completes with what its own rule yields, in every mode. -/
theorem rejectCfg_completes {s u : State} {m : Nat} {p : List Byte} {a : Answer} (ht : Takes s m 0x0602 p)
    (hlen : p.length = 16) (ho : rejectCfgOwn (s.ticket m) p s = reply u a) (hp : u.pending = s.pending) :
    Completes (.rejectCfg m) s (fun t => Said u t ∧ Answered m a t) :=
  Completes.of_lodge (row := anyRow) (len := fun p => p.length == 16) (mode := anyMode) rfl ht rfl
    (beq_iff_eq.mpr hlen) rfl ho hp

/-- Settles O37: a cluster and an interval change their own locker before any tracker, a miss its own tracker, and REJECT_CFG
what it names. -/
theorem foreignTrains : Obligations.ForeignTrains := by
  refine ⟨fun s f u hl hf hu => ?_, fun s f u hl hf hu => ?_, fun s f hl hf => ?_, fun s f k hl hf hk hx => ?_,
    fun s m p ht hlen hbad hn => ?_, fun s m p off ht hlen hbad => ?_⟩
  · obtain ⟨counts, h⟩ := clusterClose_outside hu
    refine Completes.of_kept (f := clusterClose f true) rfl (decide_eq_true hf) hl (by rw [h]; rfl) ?_
    rw [h, updLocker_locker_same]
    obtain ⟨out, pool⟩ := Locker.outClosed_pools counts (fld s.ar.ftcfg 10 14) u (s.locker f)
    exact ⟨out, pool, fun g hg => updLocker_locker_other _ s hg, rfl⟩
  · have h := clusterClose_inside hu
    exact Completes.of_kept (f := clusterClose f false) rfl (decide_eq_true hf) hl h.pending h.of_updLocker
  · have h := acquisitionEnd_tracked f s
    obtain ⟨this, others, said⟩ := h.of_updLocker
    exact Completes.of_kept (f := acquisitionEnd f) rfl (decide_eq_true hf) hl h.pending
      ⟨congrArg Locker.votes this, congrArg Locker.idle this, others, acquisitionEnd_off, said⟩
  · have h := trackerMiss_held hx
    refine Completes.of_kept (f := trackerMiss f k) rfl (by simp [hf, hk]) hl 
      (by rw [h]; exact (setTracker_tracked _ _ _ s).pending) ?_
    rw [h, setTracker_tracker_same]
    exact ⟨Tracker.note_kept, fun g j hj hg => setTracker_tracker_other _ s hk hj hg, setTracker_tracked _ _ _ s⟩
  · obtain ⟨x, y, own⟩ := rejectCfgOwn_takes (tk := s.ticket m) hbad hn
    refine (rejectCfg_completes ht hlen own rfl).mono fun t ⟨said, answered⟩ => ?_
    rw [said.ar]
    exact ⟨rfl, rfl, rfl, rfl, rfl, said, answered⟩
  · exact rejectCfg_completes ht hlen (rejectCfgOwn_badarg hbad) rfl

end Sys2Proof.Machine
end

section
/-!
PROOFS. Counter measurements (chapter 8): what one slot's gates, anchors and starts lead to, and the statements about slots.
-/
namespace Sys2Proof.Machine

/-! ## One slot changed -/

theorem slot_congr {s t : State} (h : t.ms = s.ms) (k : Nat) : t.slot k = s.slot k := by
  unfold State.slot
  rw [h]

section
variable {s t : State} {k : Nat} {f : MSlot → MSlot}

/-- One slot changed, then things said: that slot is as changed, and no other slot and nothing beside slots differs. -/
theorem Said.of_updSlot (h : Said (updSlot k f s) t) :
    t.slot k = f (s.slot k) ∧ (∀ j, j ≠ k → t.slot j = s.slot j) ∧
      Said { s with ms := { s.ms with slots := t.ms.slots } } t := by
  refine ⟨?_, fun j hj => ?_, ?_⟩
  · rw [slot_congr h.ms, updSlot_slot_same]
  · rw [slot_congr h.ms, updSlot_slot_other f s hj]
  · rw [h.ms]
    exact h

/-- A command of slot `k` that changes that slot, and then says things, completes so. -/
theorem Completes.of_updSlot {i : Instr} {u : State → State} (he : exec i s = act (k < 32) u s) (hl : s.live = true)
    (hk : k < 32) (h : Said (updSlot k f s) (u s)) :
    Completes i s (fun t => t.slot k = f (s.slot k) ∧ (∀ j, j ≠ k → t.slot j = s.slot j) ∧
      Said { s with ms := { s.ms with slots := t.ms.slots } } t) :=
  Completes.of_kept he (decide_eq_true hk) hl h.pending h.of_updSlot

/-- A command of slot `k` that changes that slot alone. -/
theorem Completes.of_updSlot_only {i : Instr} (he : exec i s = act (k < 32) (updSlot k f) s) (hl : s.live = true)
    (hk : k < 32) :
    Completes i s (fun t => t.slot k = f (s.slot k) ∧ (∀ j, j ≠ k → t.slot j = s.slot j) ∧
      t = { s with ms := { s.ms with slots := t.ms.slots } }) :=
  Completes.of_kept he (decide_eq_true hk) hl rfl
    ⟨updSlot_slot_same k f s, fun _ hj => updSlot_slot_other f s hj, rfl⟩

end

/-! ## Statistics (R217, R218) -/

/-- Only the statistics and the Allan accumulators of a slot differ. -/
def MSlot.Counted (x y : MSlot) : Prop :=
  y = { x with n := y.n, s1 := y.s1, s2 := y.s2, mn := y.mn, mx := y.mx, sfull := y.sfull, allan := y.allan }

section
variable {x y : MSlot}

theorem MSlot.Counted.refl (x : MSlot) : x.Counted x := rfl

theorem MSlot.Counted.trans {z : MSlot} (h : x.Counted y) (k : y.Counted z) : x.Counted z := by
  unfold MSlot.Counted at *
  rw [k, h]

theorem MSlot.Counted.state (h : x.Counted y) : y.state = x.state := by rw [h]
theorem MSlot.Counted.ngates (h : x.Counted y) : y.ngates = x.ngates := by rw [h]
theorem MSlot.Counted.res (h : x.Counted y) : y.res = x.res := by rw [h]
theorem MSlot.Counted.gateCnt (h : x.Counted y) : y.gateCnt = x.gateCnt := by rw [h]
theorem MSlot.Counted.starts (h : x.Counted y) : y.starts = x.starts := by rw [h]
theorem MSlot.Counted.pairs (h : x.Counted y) : y.pairs = x.pairs := by rw [h]
theorem MSlot.Counted.pairRes (h : x.Counted y) : y.pairRes = x.pairRes := by rw [h]
theorem MSlot.Counted.unpair (h : x.Counted y) : y.unpair = x.unpair := by rw [h]

end

theorem MSlot.stat_counted (v : Int) (x : MSlot) : x.Counted (x.stat v) := by
  unfold MSlot.stat
  split <;> rfl

theorem MSlot.allanStep_counted (ok : Bool) (r : Nat) (x : MSlot) : x.Counted (x.allanStep ok r) := by
  unfold MSlot.allanStep
  split
  · exact .refl x
  · split
    · rfl
    · split
      · rfl
      · exact .refl x

/-- A result that enters the statistics where `b`, and the Allan accumulators after it. -/
theorem MSlot.statStep_counted (b ok : Bool) (v : Int) (r : Nat) (x : MSlot) :
    x.Counted ((if b then x.stat v else x).allanStep ok r) := by
  refine .trans ?_ (MSlot.allanStep_counted ok r _)
  cases b
  · exact .refl x
  · exact x.stat_counted v

/-! ## Gate results (R212, R213, R220, R222) -/

/-- The slot `x`, which has the result of its gate `r`, as the gate ends (R220, R222). -/
def MSlot.gateEnded (r : Nat) (x : MSlot) : MSlot :=
  let y : MSlot := { (x.close r).prune r with judged := r + 1 }
  if y.ngates ≠ 0 ∧ y.ngates.toNat ≤ r + 1 then { y with state := 3 } else y

/-- As a gate ends the slot counts it, keeps the accumulators, and is DONE after the NGATES-th. -/
theorem MSlot.gateEnded_reads (r : Nat) (x : MSlot) :
    let y := x.gateEnded r
    y.res = x.res ∧ y.gateCnt = x.gateCnt ∧ y.judged = r + 1 ∧
      y.state = (if x.ngates ≠ 0 ∧ x.ngates.toNat ≤ r + 1 then 3 else x.state) ∧
      y.ended = ⟨y.n, y.s1, y.s2, y.mn, y.mx, y.unpair, y.gapCnt⟩ := by
  unfold MSlot.gateEnded
  by_cases last : x.ngates ≠ 0 ∧ x.ngates.toNat ≤ r + 1
  · rw [if_pos last]
    dsimp only
    rw [if_pos (by exact last)]
    exact ⟨rfl, rfl, rfl, rfl, rfl⟩
  · rw [if_neg last]
    dsimp only
    rw [if_neg (by exact last)]
    exact ⟨rfl, rfl, rfl, rfl, rfl⟩

/-- A FREQ or PERIOD gate with both anchors has the quotient of R212 as its result. -/
theorem gateOut_quotient {s : State} {x : MSlot} {r : Nat} {p q : Anchor} (ht : x.type = 1 ∨ x.type = 2)
    (hp : anchorAt x.ancA r = some p) (hq : anchorAt x.ancA (r + 1) = some q) :
    (gateOut s x r).x = some (if x.type = 1 then freqOf p q else periodOf p q) := by
  unfold gateOut
  rw [hp, hq]
  rcases ht with h | h <;> simp [h]

/-- A gate with a result `v`, of a slot other than INTERVAL: `v`, limited, is the slot's result, and the gate is counted. -/
theorem MSlot.judge_result {s : State} {x : MSlot} {v : Int} (ht : x.type ≠ 3) (hv : (gateOut s x x.judged).x = some v) :
    ∃ y : MSlot, x.judge s = y.gateEnded x.judged ∧ y.res = (limited v).1 ∧ y.gateCnt = x.gateCnt + 1 ∧
      y.state = x.state ∧ y.ngates = x.ngates := by
  unfold MSlot.judge
  extract_lets r sat ref paired o v' range ok taken added counted y
  have counts : taken.Counted counted := MSlot.statStep_counted _ ok v'.1 r taken
  have found : o.x = some v := hv
  have limits : v'.1 = (limited v).1 := by simp [v', found]
  have gated : y = { counted with
    flags := gateFlags counted.sfull range sat o.nosig o.inc o.mismatch ref, ev69 := counted.ev69 || counted.sfull } :=
    if_neg ht
  refine ⟨y, rfl, ?_⟩
  rw [gated]
  exact ⟨counts.res.trans limits, counts.gateCnt, counts.state, counts.ngates⟩

theorem gateResult_ripe {s : State} {k : Nat} (hx : (s.slot k).state = 2)
    (hr : (s.slot k).ripe (s.slot k).judged = true) :
    Said (updSlot k (fun _ => (s.slot k).judge s) s) (gateResult k s) := by
  unfold gateResult
  rw [if_pos ⟨hx, hr⟩]
  exact raises_said _ _

/-! ## Pairs of INTERVAL (R214) -/

/-- An accepted pair is counted and its difference is the result, whichever gate it lies in. -/
theorem MSlot.acceptPair_reads (g : Option Nat) (d : Int) (x : MSlot) :
    let y := x.acceptPair g d
    y.starts = x.starts ∧ y.pairs = x.pairs + 1 ∧ y.pairRes = d ∧ y.unpair = x.unpair := by
  unfold MSlot.acceptPair
  dsimp only
  split
  · exact ⟨rfl, rfl, rfl, rfl⟩
  · split
    · exact ⟨rfl, rfl, rfl, rfl⟩
    · have counted := MSlot.stat_counted d { x with pairs := x.pairs + 1, pairRes := d }
      exact ⟨counted.starts, counted.pairs, counted.pairRes, counted.unpair⟩

section
variable {s : State} {x : MSlot} {a b : Tapped} {r : List Tapped}

/-- A start without a stop counts as unpaired. -/
theorem MSlot.pair_unpaired (hs : x.starts = a :: r) (h : stopOf s { x with starts := r } a = none) :
    let y := x.pair s a
    y.starts = r ∧ y.unpair = x.unpair + 1 ∧ y.pairs = x.pairs ∧ y.n = x.n := by
  have tail : x.starts.tail = r := by rw [hs]; rfl
  unfold MSlot.pair
  rw [tail]
  dsimp only
  rw [h]
  exact ⟨rfl, rfl, rfl, rfl⟩

/-- A start with a stop within HMAX and without GAP is a pair. -/
theorem MSlot.pair_paired (hs : x.starts = a :: r) (h : stopOf s { x with starts := r } a = some b) (hb : b.gap = false)
    (hd : s.elapsed x.inA a x.inB b ≤ x.hmax.toInt) :
    let y := x.pair s a
    y.starts = r ∧ y.pairs = x.pairs + 1 ∧ y.pairRes = s.elapsed x.inA a x.inB b ∧ y.unpair = x.unpair := by
  have tail : x.starts.tail = r := by rw [hs]; rfl
  have within : ¬ x.hmax.toInt < s.elapsed x.inA a x.inB b := Int.not_lt.mpr hd
  unfold MSlot.pair
  simp only [tail, h]
  rw [if_neg (by exact within), if_neg (by simp [hb])]
  exact MSlot.acceptPair_reads _ _ _

theorem intervalJudge_first {k : Nat} (hx : (s.slot k).state = 2) (hs : (s.slot k).starts = a :: r) :
    Said (updSlot k (fun _ => (s.slot k).pair s a) s) (intervalJudge k s) := by
  unfold intervalJudge
  simp only [hs, hx, if_true]
  exact raises_said _ _

end

/-- Settles O38: each command changes its own slot, as the rules of gates, results and pairs say. -/
theorem gatesAndResults : Obligations.GatesAndResults := by
  refine ⟨fun s k hl hk hx ht hm => ?_, fun s k hl hk hx => ?_, fun s k p q hl hk hx ht hp hq hr => ?_,
    fun s k a r hl hk hx hs hn => ?_, fun s k a b r hl hk hx hs hb hg hd => ?_, fun s k hl hk => ?_⟩
  · refine (Completes.of_updSlot_only rfl hl hk).mono fun t ⟨this, others, only⟩ => ⟨?_, others, only⟩
    rw [this, if_pos ⟨hx, Option.isSome_iff_ne_none.mpr ht, hm⟩]
  · refine (Completes.of_updSlot_only rfl hl hk).mono fun t ⟨this, others, only⟩ => ?_
    rw [if_neg (not_not_intro hx)] at this
    rw [this]
    exact ⟨rfl, rfl, rfl, others, only⟩
  · refine (Completes.of_updSlot rfl hl hk (gateResult_ripe hx hr)).mono fun t ⟨this, others, said⟩ => ?_
    obtain ⟨y, judged, res, cnt, state, ngates⟩ := MSlot.judge_result (by omega) (gateOut_quotient (s := s) ht hp hq)
    obtain ⟨res', cnt', judged', state', ended⟩ := y.gateEnded_reads (s.slot k).judged
    rw [this, judged]
    refine ⟨res'.trans res, cnt'.trans cnt, judged', ?_, ended, others, said⟩
    rw [state', ngates, state, hx]
  · refine (Completes.of_updSlot rfl hl hk (intervalJudge_first hx hs)).mono fun t ⟨this, others, said⟩ => ?_
    obtain ⟨starts, unpair, pairs, n⟩ := MSlot.pair_unpaired hs hn
    rw [this]
    exact ⟨starts, unpair, pairs, n, others, said⟩
  · refine (Completes.of_updSlot rfl hl hk (intervalJudge_first hx hs)).mono fun t ⟨this, others, said⟩ => ?_
    obtain ⟨starts, pairs, res, unpair⟩ := MSlot.pair_paired hs hb hg hd
    rw [this]
    exact ⟨starts, pairs, res, unpair, others, said⟩
  · exact (Completes.of_updSlot_only rfl hl hk).mono fun t latched => latched

end Sys2Proof.Machine
end

section
/-!
PROOFS. SYNC outputs, camera loops and the commands of the measurements (chapter 8, R341 to R343), and the statements about
them.
-/
namespace Sys2Proof.Machine

/-! ## One output changed -/

theorem sync_congr {s t : State} (h : t.ms = s.ms) (n : Nat) : t.sync n = s.sync n := by
  unfold State.sync
  rw [h]

section
variable {s t : State} {n : Nat} {f : Sync → Sync}

/-- One output changed, then things said: that output is as changed, and no other output and nothing beside outputs differs. -/
theorem Said.of_updSync (h : Said (updSync n f s) t) :
    t.sync n = f (s.sync n) ∧ (∀ j, j ≠ n → t.sync j = s.sync j) ∧
      Said { s with ms := { s.ms with syncs := t.ms.syncs } } t := by
  refine ⟨?_, fun j hj => ?_, ?_⟩
  · rw [sync_congr h.ms, updSync_sync_same]
  · rw [sync_congr h.ms, updSync_sync_other f s hj]
  · rw [h.ms]
    exact h

end

/-! ## SYNC pulses (R223) -/

/-- What a pulse leaves of output `n`, and that it changes nothing else. -/
theorem syncPulse_completes {s : State} {n : Nat} {y : Sync} (hl : s.live = true) (hn : n < 4)
    (hy : (syncPulse n s).sync n = y) :
    Completes (.syncPulse n) s (fun t => t.sync n = y ∧ (∀ j, j ≠ n → t.sync j = s.sync j) ∧
      t = { s with ms := { s.ms with syncs := t.ms.syncs } }) :=
  Completes.of_kept rfl (decide_eq_true hn) hl rfl ⟨hy, fun _ hj => updSync_sync_other _ s hj, rfl⟩

/-- A pulse of a PERIODIC output is the j-th after T_start. -/
theorem syncPulse_periodic {s : State} {n : Nat} {t0 : Coarse} (hm : (s.sync n).mode = 1)
    (ht : (s.sync n).tStart = some t0) :
    (syncPulse n s).sync n = { (s.sync n).fire s.slotsRun s.uptime
      (t0 + BitVec.ofNat 54 ((s.sync n).j * (s.sync n).per.toNat / 65536)) with j := (s.sync n).j + 1 } := by
  unfold syncPulse
  simp only [updSync_sync_same, hm, ht]

/-- A pulse of a FRAME output is that of the earliest frame whose pulse is to come. -/
theorem syncPulse_frame {s : State} {n f : Nat} {t0 : Nominal} {fs : List (Nat × Nominal)} (hm : (s.sync n).mode = 2)
    (hp : (s.sync n).pulses = (f, t0) :: fs) :
    (syncPulse n s).sync n =
      { (s.sync n).fire s.slotsRun s.uptime ((s.sync n).pulseAt t0) with pulses := fs } := by
  unfold syncPulse
  simp only [updSync_sync_same, hm, hp]

/-! ## Camera loops (R224) -/

/-- How far the stamp `e` lies after the target of the frame at `t`. -/
def Sync.lateBy (y : Sync) (t : Nominal) (e : Stamp) : Int :=
  stampDiff e (nominalStamp (t + BitVec.ofInt 58 y.tgt.toInt))

/-- The stamp `e` lies in the window of the frame at `t` with length `f`. -/
def Sync.inWindow (y : Sync) (t : Nominal) (f : Nat) (e : Stamp) : Bool :=
  decide (-Int.ofNat (32 * f) ≤ y.lateBy t e) && decide (y.lateBy t e < Int.ofNat (32 * f))

section
variable {y : Sync} {t : Nominal} {f : Nat}

/-- A window that closes without an edge unlocks the loop; the edges before the window are dropped. -/
theorem Sync.update_missed (h : y.edges.filter (y.inWindow t f) = []) :
    ∃ es, (Sync.update t f y).1 = { y with edges := es, good := 0, locked := false } := by
  unfold Sync.update
  extract_lets tgt half inWin
  have empty : inWin = [] := h
  rw [empty]
  exact ⟨_, rfl⟩

/-- A window that closes with the first edge `e` takes OFS down by the error shifted by LG. -/
theorem Sync.update_hit {e : Stamp} {es : List Stamp} (h : y.edges.filter (y.inWindow t f) = e :: es) :
    ∃ es old good locked, (Sync.update t f y).1 = { y with
      edges := es, prevOfs := old, good := good, locked := locked
      ofs := y.ofs - BitVec.ofInt 32 (shiftErr (divHalfUp (y.lateBy t e) 64) y.gain)
      err := BitVec.ofInt 32 (divHalfUp (y.lateBy t e) 64) } := by
  unfold Sync.update
  extract_lets tgt half inWin
  have first : inWin = e :: es := h
  rw [first]
  exact ⟨_, _, _, _, rfl⟩

end

theorem cameraLoopUpdate_first {s : State} {n k f : Nat} {t : Nominal} {fs : List (Nat × Nominal × Nat)}
    (h : (s.sync n).frames = (k, t, f) :: fs) :
    Said (updSync n (fun _ => (Sync.update t f { s.sync n with frames := fs }).1) s) (cameraLoopUpdate n s) := by
  unfold cameraLoopUpdate
  simp only [h]
  exact raises_said _ _

/-- The window of the earliest frame closes: output `n` is as its loop leaves it. -/
theorem cameraLoopUpdate_completes {s : State} {n k f : Nat} {t0 : Nominal} {fs : List (Nat × Nominal × Nat)}
    (hl : s.live = true) (hn : n < 4) (h : (s.sync n).frames = (k, t0, f) :: fs) :
    Completes (.cameraLoopUpdate n) s (fun t =>
      t.sync n = (Sync.update t0 f { s.sync n with frames := fs }).1 ∧ (∀ j, j ≠ n → t.sync j = s.sync j) ∧
        Said { s with ms := { s.ms with syncs := t.ms.syncs } } t) :=
  have said := cameraLoopUpdate_first h
  Completes.of_kept (f := cameraLoopUpdate n) rfl (decide_eq_true hn) hl said.pending said.of_updSync

/-! ## MEAS_CFG of a slot (R219, R341) -/

/-- An OFF slot uses no anchor units (R209). -/
theorem MSlot.units_off {x : MSlot} (h : x.type = 0) (i : Nat) : x.units i = 0 := by
  unfold MSlot.units
  simp [h]

/-- Slot `pByte p 1` as a good MEAS_CFG with payload `p` leaves it (R219). -/
def slotTaken (p : List Byte) (s : State) : MSlot :=
  let x := slotFrom p
  if x.type = 0 then
    { s.slot (pByte p 1) with
      cfg := x.cfg, gate := x.gate, ngates := x.ngates, hmin := x.hmin, hmax := x.hmax, pnom := x.pnom, apply := x.apply
      state := 0 }
  else { x with state := 1, tStart := startInstant x.apply p s, g := (startInstant x.apply p s).getD 0 }

section
variable {p : List Byte} {s : State}

theorem measCfgSlot_badarg {off : Nat} (h : slotBad s p (slotFrom p) = some off) :
    measCfgSlot p s = reply s (.badarg off) := by
  unfold measCfgSlot
  simp only [h]

/-- A slot with good parameters is set where every channel it uses has anchor units to spare. -/
theorem measCfgSlot_takes (hb : slotBad s p (slotFrom p) = none)
    (hu : ∀ i, i < 524 → (slotFrom p).units i = 0 ∨ s.unitsOn (pByte p 1) (slotFrom p) i ≤ 4) :
    measCfgSlot p s = reply (updSlot (pByte p 1) (fun _ => slotTaken p s) s) (.plain .ok) := by
  have spare : (List.range 524).any
      (fun i => (slotFrom p).units i ≠ 0 && 4 < s.unitsOn (pByte p 1) (slotFrom p) i) = false := by
    refine List.any_eq_false.mpr fun i hi => ?_
    rcases hu i (List.mem_range.mp hi) with h | h
    · simp [h]
    · simp [Nat.not_lt.mpr h]
  unfold measCfgSlot
  simp only [hb]
  rw [if_neg (by rw [spare]; decide)]
  rfl

end

/-! ## MEAS_CFG of an output (R223, R342) -/

section
variable {p : List Byte} {s : State}

theorem measCfgSyncOut_badarg {off : Nat} (h : syncBad s p (syncFrom p) = some off) :
    measCfgSyncOut p s = reply s (.badarg off) := by
  unfold measCfgSyncOut
  simp only [h]

/-- An output with good parameters is set; beside the payload's fields only its start and the frames in progress are. -/
theorem measCfgSyncOut_takes (h : syncBad s p (syncFrom p) = none) : ∃ t w ps fs, measCfgSyncOut p s =
    reply (updSync (pByte p 1) (fun _ => { syncFrom p with tStart := t, waiting := w, pulses := ps, frames := fs }) s)
      (.plain .ok) := by
  unfold measCfgSyncOut
  simp only [h]
  exact ⟨_, _, _, _, rfl⟩

end

/-! ## The commands of the measurements -/

/-- A payload of the length of a command's subcommands passes the check of LENGTH (R315). -/
theorem subLen_of_length {n len : Nat} {p : List Byte} (h : p.length = len) (hlen : 0 < len) : subLen n len p = true := by
  obtain ⟨b, l, rfl⟩ := List.exists_cons_of_length_pos (h ▸ hlen)
  simp [subLen, h]

section
variable {s u : State} {m : Nat} {p : List Byte} {a : Answer} (ht : Takes s m 0x0701 p) (hlen : p.length = 40)
  (hmode : s.th.mode ≠ .dormant)
include ht hlen hmode

/-- A MEAS_CFG of a slot or of an output that the Lodge takes outside DORMANT completes with what its row yields. -/
theorem measCfg_completes (h0 : pByte p 0 = 0) (ho : measCfgSlot p s = reply u a) (hp : u.pending = s.pending) :
    Completes (.measCfg m) s (fun t => Said u t ∧ Answered m a t) := by
  have own : measCfgOwn (s.ticket m) p s = reply u a := by
    unfold measCfgOwn
    rw [h0]
    exact ho
  exact Completes.of_lodge rfl ht (by simp [h0]) (subLen_of_length hlen (by decide)) (bne_iff_ne.mpr hmode) own hp

theorem measCfgSync_completes (h1 : pByte p 0 = 1) (ho : measCfgSyncOut p s = reply u a) (hp : u.pending = s.pending) :
    Completes (.measCfgSync m) s (fun t => Said u t ∧ Answered m a t) := by
  have own : measCfgOwn (s.ticket m) p s = reply u a := by
    unfold measCfgOwn
    rw [h1]
    exact ho
  exact Completes.of_lodge rfl ht (by simp [h1]) (subLen_of_length hlen (by decide)) (bne_iff_ne.mpr hmode) own hp

/-- A MEAS_CFG of a slot with good parameters and units to spare sets that slot. -/
theorem measCfg_takes (h0 : pByte p 0 = 0) (hb : slotBad s p (slotFrom p) = none)
    (hu : ∀ i, i < 524 → (slotFrom p).units i = 0 ∨ s.unitsOn (pByte p 1) (slotFrom p) i ≤ 4) :
    Completes (.measCfg m) s (fun t =>
      t.slot (pByte p 1) = slotTaken p s ∧ (∀ j, j ≠ pByte p 1 → t.slot j = s.slot j) ∧
        Said { s with ms := { s.ms with slots := t.ms.slots } } t ∧ Answered m (.plain .ok) t) :=
  (measCfg_completes ht hlen hmode h0 (measCfgSlot_takes hb hu) rfl).mono fun _ ⟨said, answered⟩ =>
    let ⟨this, others, only⟩ := said.of_updSlot
    ⟨this, others, only, answered⟩

end

/-- Settles O39: a pulse, a loop's window and MEAS_CFG set one output or slot, and MEAS_READ reads one. -/
theorem outputsAndMeasurementCommands : Obligations.OutputsAndMeasurementCommands := by
  refine ⟨fun s n t0 hl hn hm h0 => ?_, fun s n f t0 fs hl hn hm hp => ?_, fun s n k f t0 fs hl hn hf out => ?_,
    fun s n k f t0 fs e es hl hn hf he lo hi => ?_, fun s m p ht h0 hlen hmode hb hu hx => ?_,
    fun s m p ht h0 hlen hmode hb hx => ?_, fun s m p off ht h0 hlen hmode hb => ?_,
    fun s m p ht h1 hlen hmode hb => ?_, fun s m p off ht h1 hlen hmode hb => ?_, fun s m p ht hlen hk => ?_⟩
  · exact syncPulse_completes hl hn (syncPulse_periodic hm h0)
  · exact syncPulse_completes hl hn (syncPulse_frame hm hp)
  · refine (cameraLoopUpdate_completes hl hn hf).mono fun t ⟨this, others, said⟩ => ?_
    have missed : (s.sync n).edges.filter ((s.sync n).inWindow t0 f) = [] := by
      refine List.filter_eq_nil_iff.mpr fun e he inside => ?_
      obtain ⟨lo, hi⟩ := Bool.and_eq_true_iff.mp inside
      rcases out e he with h | h
      · exact absurd (of_decide_eq_true lo) (Int.not_le.mpr h)
      · exact absurd (of_decide_eq_true hi) (Int.not_lt.mpr h)
    obtain ⟨es, unlocked⟩ := Sync.update_missed (y := { s.sync n with frames := fs }) missed
    rw [this, unlocked]
    exact ⟨rfl, rfl, rfl, rfl, others, said⟩
  · refine (cameraLoopUpdate_completes hl hn hf).mono fun t ⟨this, others, said⟩ => ?_
    have hit : (s.sync n).edges.filter ((s.sync n).inWindow t0 f) = e :: es.filter ((s.sync n).inWindow t0 f) := by
      rw [he]
      exact List.filter_cons_of_pos (Bool.and_eq_true_iff.mpr ⟨decide_eq_true lo, decide_eq_true hi⟩)
    obtain ⟨_, _, _, _, corrected⟩ := Sync.update_hit (y := { s.sync n with frames := fs }) hit
    rw [this, corrected]
    exact ⟨rfl, rfl, rfl, others, said⟩
  · have taken := measCfg_takes ht hlen hmode h0 hb (fun i hi => .inr (hu i hi))
    rw [show slotTaken p s = _ from if_neg hx] at taken
    exact taken
  · have taken := measCfg_takes ht hlen hmode h0 hb (fun i _ => .inl (MSlot.units_off hx i))
    rw [show slotTaken p s = _ from if_pos hx] at taken
    exact taken
  · exact measCfg_completes ht hlen hmode h0 (measCfgSlot_badarg hb) rfl
  · obtain ⟨t0, w, ps, fs, own⟩ := measCfgSyncOut_takes hb
    refine (measCfgSync_completes ht hlen hmode h1 own rfl).mono fun t ⟨said, answered⟩ => ?_
    obtain ⟨this, others, only⟩ := said.of_updSync
    rw [this]
    exact ⟨rfl, rfl, rfl, rfl, others, only, answered⟩
  · exact measCfgSync_completes ht hlen hmode h1 (measCfgSyncOut_badarg hb) rfl
  · exact Completes.of_lodge (row := anyRow) (len := fun p => p.length == 4) (mode := anyMode) (own := measReadOwn) rfl ht rfl
      (beq_iff_eq.mpr hlen) rfl (if_neg (Nat.not_lt.mpr hk)) rfl

end Sys2Proof.Machine
end

section
/-!
PROOFS. The Balustrade (chapter 9): the decision on a dwell, what a violation brings about, and the envelope; and what a local
trigger changes as it arises.
-/
namespace Sys2Proof.Machine

/-- A command whose effect is a state `u` with the same queue completes with `u`. -/
theorem Completes.of_effect {i : Instr} {s u : State} {ok : Bool} {f : State → State} {P : State → Prop}
    (he : exec i s = act ok f s) (hok : ok = true) (hl : s.live = true) (hu : f s = u) (hp : u.pending = s.pending)
    (hP : P u) : Completes i s P := by
  subst hu
  exact Completes.of_kept he hok hl hp hP

/-! ## Things said beside another Colonnade -/

/-- What was said stays said with the Colonnade replaced. -/
theorem Said.withCl {s t : State} (h : Said s t) (c : Colonnade) : Said { s with cl := c } { t with cl := c } := by
  have e := congrArg (fun u : State => { u with cl := c }) h
  exact e

theorem sendEvent_said (c : Nat) (f : Frame) (s : State) : Said s (sendEvent c f s) := by
  unfold sendEvent
  dsimp only
  split
  · exact (sendHost_said c f s).trans (enqueue_said _ _ _ _)
  · exact sendHost_said c f s

theorem sendEvent_onlyDrops (c : Nat) (f : Frame) (s : State) : OnlyDrops s (sendEvent c f s) := by
  unfold sendEvent
  dsimp only
  split
  · exact (sendHost_onlyDrops c f s).trans (enqueue_onlyDrops _ _ _ _)
  · exact sendHost_onlyDrops c f s

/-- An event that stands stays so while frames are sent and discarded. -/
theorem OnlyDrops.latched {s t : State} (h : OnlyDrops s t) {n : Nat} (hn : n ≠ 134) (hs : (s.ev.get n).latched = true) :
    (t.ev.get n).latched = true := by
  rw [h n hn, hs]

/-! ## Local triggers (R238, R240, R246) -/

/-- The local trigger of cause `cause` and TIME `t`. -/
def State.localTrigger (s : State) (cause : Nat) (t : Coarse) : Trigger :=
  { time := t, src := s.unit, cause := cause, bus := false, isLocal := true, upAt := s.upOf t }

section
variable {cfg : W32} {cause : Nat} {t : Coarse} {s : State}

/-- A local trigger that arises, or does not, changes nothing but the triggers that wait and the words to send. -/
theorem formTrigger_only : formTrigger cfg cause t s = { s with cl := { s.cl with
    triggers := (formTrigger cfg cause t s).cl.triggers, send := (formTrigger cfg cause t s).cl.send
    tseq := (formTrigger cfg cause t s).cl.tseq } } := by
  unfold formTrigger
  dsimp only
  split
  · rfl
  · split
    · rfl
    · split <;> rfl

theorem formTrigger_pending : (formTrigger cfg cause t s).pending = s.pending := by rw [formTrigger_only]

/-- A trigger of an enabled source, the first of its TIME, joins those that wait. -/
theorem formTrigger_triggers (hon : sourceOn cfg cause = true)
    (hone : s.cl.triggers.any (fun x => x.isLocal && x.time == t) = false) :
    (formTrigger cfg cause t s).cl.triggers = s.cl.triggers ++ [s.localTrigger cause t] := by
  unfold formTrigger
  rw [hon, hone]
  dsimp only
  rw [if_neg (by decide), if_neg Bool.false_ne_true]
  split <;> rfl

end

/-! ## The decision (R234, R236) -/

/-- The channels of dwell `d` that violate, by record or by map (R234). -/
def State.violating (s : State) (d : Dwell) : List Nat := ((s.violations d).1.map recChan ++ (s.violations d).2).eraseDups

/-- A dwell is gone. -/
def State.withoutDwell (did : Nat) (s : State) : State :=
  { s with sh := { s.sh with dwells := s.sh.dwells.filter (fun x => x.did ≠ did) } }

/-- A dwell is counted. -/
def State.dwellCounted (s : State) : State := { s with bl := { s.bl with dwellCnt := s.bl.dwellCnt + 1 } }

/-- The Balustrade as a violation is found at up-time `u` (R236). -/
def Balustrade.violated (u : Nat) (b : Balustrade) : Balustrade :=
  { b with violCnt := b.violCnt + 1, viol := true, violAt := some u }

section
variable {d : Dwell} {s : State}

/-- A violation is noted in the Balustrade and may form a trigger; beside these, things are said, event 80 among them. -/
theorem violation_notes (recs : List (BitVec 128)) (maps v : List Nat) :
    Said { s with bl := s.bl.violated s.uptime, cl := (violation d recs maps v s).cl } (violation d recs maps v s) ∧
      ((violation d recs maps v s).ev.get 80).latched = true := by
  have raised := raise_said 80 { s with bl := s.bl.violated s.uptime }
  have latched : ((raise 80 { s with bl := s.bl.violated s.uptime }).ev.get 80).latched = true :=
    raises_latched _ (List.mem_singleton_self 80)
  unfold violation
  extract_lets cfg trig b u w
  have formed := formTrigger_only (cfg := cfg) (cause := 2) (t := u.tb.coarse) (s := u)
  have sent := sendEvent_said 1 (eventFrame 0x0880 w.deg (violationBytes w d recs maps v trig)) w
  have drops := sendEvent_onlyDrops 1 (eventFrame 0x0880 w.deg (violationBytes w d recs maps v trig)) w
  refine ⟨?_, drops.latched (by decide) ?_⟩
  · rw [sent.cl]
    refine Said.trans ?_ sent
    have kept := raised.withCl w.cl
    rw [show w = _ from formed] at kept ⊢
    exact kept
  · rw [show w = _ from formed]
    exact latched

theorem judgeDwell_off (h : s.supervises = false) : judgeDwell d s = s := by
  unfold judgeDwell
  rw [h]
  rfl

/-- With fewer violating channels than MINCH the dwell is counted only. -/
theorem judgeDwell_quiet (h : s.supervises = true) (hv : (s.violating d).length < fld s.bl.cfg 16 5) :
    judgeDwell d s = s.dwellCounted := by
  unfold judgeDwell
  rw [h]
  exact if_neg (Nat.not_le.mpr hv)

theorem judgeDwell_violates (h : s.supervises = true) (hv : fld s.bl.cfg 16 5 ≤ (s.violating d).length) :
    judgeDwell d s = violation d (s.violations d).1 (s.violations d).2 (s.violating d) s.dwellCounted := by
  unfold judgeDwell
  rw [h]
  exact if_pos hv

/-- A decision has no part in the modes. -/
theorem judgeDwell_th : (judgeDwell d s).th = s.th := by
  cases h : s.supervises
  · rw [judgeDwell_off h]
  · rcases Nat.lt_or_ge (s.violating d).length (fld s.bl.cfg 16 5) with hv | hv
    · rw [judgeDwell_quiet h hv]
      rfl
    · rw [judgeDwell_violates h hv]
      exact (violation_notes (s := s.dwellCounted) _ _ _).1.th

/-- The first dwell in the stream is gone and decided; without a change to SURVEY nothing follows. -/
theorem dwellDecision_first (hd : s.sh.dwells.find? (fun d => d.placed) = some d) (hp : s.th.pend ≠ some .survey) :
    dwellDecision s = judgeDwell d (s.withoutDwell d.did) := by
  have stays : (judgeDwell d (s.withoutDwell d.did)).th.pend ≠ some .survey := by
    rw [judgeDwell_th]
    exact hp
  unfold dwellDecision
  rw [hd]
  exact if_neg (fun h => stays h.1)

end

/-! ## The envelope (R229, R230) -/

/-- An ENV_LOAD of good bounds is held for its writes, or finds one running. -/
theorem envLoadOwn_good {tk : Ticket} {p : List Byte} {s : State} (hline : pNat p 0 2 ≤ 271) (hfirst : pNat p 2 2 % 2 = 0)
    (heven : pNat p 4 2 % 2 = 0) (hsome : pNat p 4 2 ≠ 0) (hfit : pNat p 2 2 + pNat p 4 2 ≤ 512) : envLoadOwn tk p s =
    if s.bl.envLoad.isSome then reply s (.plain .busy)
    else reply { s with bl := { s.bl with envLoad := some ⟨pNat p 0 2, pNat p 2 2,
      (List.range (pNat p 4 2)).map (fun j => BitVec.ofNat 16 (pNat p (8 + 2 * j) 2)), tk⟩ } } (.plain .ok) := by
  unfold envLoadOwn
  dsimp only
  rw [if_neg (by omega), if_neg (by omega), if_neg (by omega)]

/-- An ENV_LOAD whose length fits its count, taken by the Lodge, completes with what its own rule yields. -/
theorem envLoad_completes {s u : State} {m : Nat} {p : List Byte} {a : Answer} (ht : Takes s m 0x0801 p)
    (hmin : 8 ≤ p.length) (hlen : p.length = 8 + 2 * pNat p 4 2) (ho : envLoadOwn (s.ticket m) p s = reply u a)
    (hp : u.pending = s.pending) : Completes (.envLoad m) s (fun t => Said u t ∧ Answered m a t) :=
  Completes.of_lodge (row := anyRow) (mode := anyMode) rfl ht rfl
    (Bool.and_eq_true_iff.mpr ⟨decide_eq_true hmin, beq_iff_eq.mpr hlen⟩) rfl ho hp

/-- The words of an ENV_LOAD commit, a new sum is asked for, and its completion is said. -/
theorem envLoadComplete_said {s : State} {e : EnvLoad} (h : s.bl.envLoad = some e) :
    Said { (commits e.words s).2.2 with bl := { s.bl with envLoad := none, sumBusy := true } } (envLoadComplete s) := by
  unfold envLoadComplete
  rw [h]
  dsimp only
  rw [(commits_stored e.words s).bl]
  exact complete_said _ _ _

/-- The words of the envelope that stand in error (R372). -/
def State.envUpset (s : State) : List Nat :=
  (s.ps.upset.map Prod.fst).filter (fun a => 0x01040000 ≤ a && a < 0x01084000)

theorem envsumDone_busy {s : State} (h : s.bl.sumBusy = true) :
    envsumDone s = { checkReads s.envUpset s with
      bl := { s.bl with sumBusy := false, envSum := (checkReads s.envUpset s).envSum } } := by
  unfold envsumDone
  rw [if_pos h, ← (checkReads_stored s.envUpset s).bl]
  rfl

theorem envsumDone_idle {s : State} (h : s.bl.sumBusy = false) : envsumDone s = s := if_neg (Bool.eq_false_iff.mp h)

/-- Settles O40: a decision removes its dwell and judges it, ENV_LOAD holds its entries or is BUSY, and its words and the sum
follow. -/
theorem envelopeAndDecisions : Obligations.EnvelopeAndDecisions := by
  refine ⟨fun s d hl hd hs hp => ?_, fun s d hl hd hs hp hv => ?_, fun s d hl hd hs hp hv => ?_,
    fun s m p ht hmin hlen hline hfirst heven hsome hfit hn => ?_,
    fun s m p ht hmin hlen hline hfirst heven hsome hfit hn => ?_, fun s e hl he => ?_, fun s hl hb => ?_,
    fun s hl hb => ?_⟩
  · refine exec_of_act (f := dwellDecision) rfl rfl hl ?_
    rw [dwellDecision_first hd hp, judgeDwell_off (s := s.withoutDwell d.did) hs]
    rfl
  · refine exec_of_act (f := dwellDecision) rfl rfl hl ?_
    rw [dwellDecision_first hd hp, judgeDwell_quiet (s := s.withoutDwell d.did) hs hv]
    rfl
  · obtain ⟨said, latched⟩ := violation_notes (d := d) (s := (s.withoutDwell d.did).dwellCounted)
      (s.violations d).1 (s.violations d).2 (s.violating d)
    have decided : dwellDecision s = _ :=
      (dwellDecision_first hd hp).trans (judgeDwell_violates (s := s.withoutDwell d.did) hs hv)
    exact Completes.of_effect rfl rfl hl decided said.pending
      ⟨said.bl, said.sh, latched, said.tb, said.fl, said.em, said.ar, said.mem⟩
  · refine envLoad_completes ht hmin hlen ?_ rfl
    rw [envLoadOwn_good hline hfirst heven hsome hfit, hn]
    rfl
  · refine envLoad_completes ht hmin hlen ?_ rfl
    rw [envLoadOwn_good hline hfirst heven hsome hfit, if_pos (Option.isSome_iff_ne_none.mpr hn)]
  · have said := envLoadComplete_said he
    have stored := commits_stored e.words s
    exact Completes.of_kept (f := envLoadComplete) rfl rfl hl (said.pending.trans stored.pending)
      ⟨said.bl, said.ps, said.tb.trans stored.tb, said.fl.trans stored.fl, said.mem.trans stored.mem⟩
  · have stored := checkReads_stored s.envUpset s
    exact Completes.of_effect rfl rfl hl (envsumDone_busy hb) stored.pending ⟨rfl, stored.tb⟩
  · exact exec_of_act (f := envsumDone) rfl rfl hl (by rw [envsumDone_idle hb])

end Sys2Proof.Machine
end

section
/-!
PROOFS. Triggers (chapter 9): what the consumers of a delivered trigger can change, TRGIN, delivery, TRIG_CFG and TRIG words.
-/
namespace Sys2Proof.Machine

/-! ## What the consumers of a trigger can change (R241) -/

/-- `t` is `s` after the Gallery, the schedule and the measurements took a trigger: these, the emitter link, the host link, the
persistent store, events and faults may differ, nothing else. -/
def Consumed (s t : State) : Prop :=
  t = { s with
    ps := t.ps, ev := t.ev, sh := t.sh, em := t.em, ms := t.ms, gl := t.gl, lk := t.lk, th := t.th, av := t.av }

theorem Consumed.refl (s : State) : Consumed s s := rfl

theorem Consumed.trans {s t u : State} (h : Consumed s t) (k : Consumed t u) : Consumed s u := by
  unfold Consumed at *
  rw [k, h]

theorem Said.consumed {s t : State} (h : Said s t) : Consumed s t := by
  rw [h]
  rfl

theorem Stored.consumed {s t : State} (h : Stored s t) : Consumed s t := by
  rw [h]
  rfl

theorem FireOnly.consumed {s t : State} (h : FireOnly s t) : Consumed s t := by
  rw [h]
  rfl

section fields
variable {s t : State} (h : Consumed s t)
include h

theorem Consumed.pending : t.pending = s.pending := by rw [h]
theorem Consumed.tb : t.tb = s.tb := by rw [h]
theorem Consumed.fl : t.fl = s.fl := by rw [h]
theorem Consumed.ar : t.ar = s.ar := by rw [h]
theorem Consumed.bl : t.bl = s.bl := by rw [h]
theorem Consumed.cl : t.cl = s.cl := by rw [h]

end fields

section
variable (s : State)

/-! ### The Gallery -/

theorem endStream_consumed (st : Status) : Consumed s (endStream st s) := by
  unfold endStream
  split
  · exact Consumed.trans (by rfl) (complete_said _ _ _).consumed
  · exact Consumed.refl s

theorem clearPartitions_consumed : Consumed s (clearPartitions s) := by
  unfold clearPartitions
  exact (Consumed.trans (by rfl) (raiseIf_said _ 100 _).consumed).trans (endStream_consumed _ .fault)

theorem selfArm_consumed : Consumed s (selfArm s) := by
  unfold selfArm
  split
  · rfl
  · exact (raise_said _ s).consumed

theorem leaveRotation_consumed (c : Nat) : Consumed s (leaveRotation c s) := by
  have left (st : GlState) : Consumed s (raise 101 { clearPartitions s with
      gl := { (clearPartitions s).gl with retired := some c, state := st } }) :=
    (clearPartitions_consumed s).trans (Consumed.trans (by rfl) (raise_said _ _).consumed)
  unfold leaveRotation
  dsimp only
  split
  · exact (left _).trans (selfArm_consumed _)
  · exact left _

theorem outOfService_consumed : Consumed s (outOfService s) :=
  (clearPartitions_consumed s).trans (Consumed.trans (by rfl) (raise_said _ _).consumed)

theorem memFault_consumed (c : Nat) : Consumed s (memFault c s) := by
  unfold memFault
  split
  · exact ((detect_stored _ _ _ _ s).trans (commitOwn_stored _ _ _)).consumed.trans (leaveRotation_consumed _ c)
  · split
    · exact Consumed.refl s
    · exact ((detect_stored _ _ _ _ s).trans (commitOwn_stored _ _ _)).consumed.trans (outOfService_consumed _)

theorem hand_consumed (r : GRec) : Consumed s (hand r s) := by
  unfold hand
  split
  · exact Consumed.refl s
  · split
    · rfl
    · split
      · exact Consumed.trans (by rfl) ((raise_said 102 _).consumed.trans (memFault_consumed _ _))
      · rfl

theorem putRecord_consumed (w : W64) : Consumed s (putRecord w s) := by
  unfold putRecord
  extract_lets p k lost u v mem mem'
  have marks : Consumed s u := by
    unfold u
    split
    · exact Consumed.trans (by rfl) (raise_said 100 _).consumed
    · exact Consumed.refl s
  have stream : Consumed u v := by
    unfold v
    split
    · rfl
    · exact Consumed.refl u
  exact (marks.trans stream).trans (by rfl)

theorem noteWritten_consumed (r : GRec) (k : Nat) : Consumed s (noteWritten r k s) := by
  have trig : Consumed s (if r.trig then updPart s.gl.part (fun x => { x with t := some k }) s else s) := by
    split <;> rfl
  unfold noteWritten
  dsimp only
  split
  · exact trig.trans (by rfl)
  · exact trig

theorem writeOne_consumed : Consumed s (writeOne s) := by
  unfold writeOne
  split
  · exact Consumed.refl s
  · dsimp only
    split
    · exact Consumed.refl s
    · split
      · exact (putRecord_consumed s _).trans (by rfl)
      · split
        · exact putRecord_consumed s _
        · split
          · rfl
          · exact (Consumed.trans (by rfl) (putRecord_consumed _ _)).trans (noteWritten_consumed _ _ _)

theorem padBlock_consumed : ∀ (n : Nat) (s : State), Consumed s (padBlock n s)
  | 0, s => Consumed.refl s
  | n + 1, s => by
    unfold padBlock
    split
    · exact Consumed.refl s
    · exact (putRecord_consumed s _).trans (padBlock_consumed n _)

theorem rearm_consumed : Consumed s (rearm s) := by
  unfold rearm
  split <;> rfl

theorem captureDone_consumed : Consumed s (captureDone s) := by
  have held : Consumed s (updPart (padBlock 32 s).gl.part (fun x => { x with state := 2 }) (padBlock 32 s)) :=
    (padBlock_consumed 32 s).trans (by rfl)
  unfold captureDone
  dsimp only
  split
  · exact Consumed.refl s
  · split
    · exact (held.trans (Consumed.trans (by rfl) (raise_said 97 _).consumed)).trans (rearm_consumed _)
    · exact held.trans (Consumed.trans (by rfl) (raise_said 97 _).consumed)

theorem drain_consumed : ∀ (n : Nat) (s : State), Consumed s (drain n s)
  | 0, s => Consumed.refl s
  | n + 1, s => by
    unfold drain
    split
    · exact Consumed.refl s
    · split
      · exact (captureDone_consumed s).trans (drain_consumed n _)
      · exact (writeOne_consumed s).trans (drain_consumed n _)

/-- The record of a trigger is handed to the writer whatever state the Gallery is in (R270). -/
theorem galleryTrigger_consumed (x : Trigger) : Consumed s (galleryTrigger x s) := by
  unfold galleryTrigger
  split
  · exact (Consumed.trans (by rfl) (raise_said 96 _).consumed).trans
      ((hand_consumed _ _).trans (drain_consumed _ _))
  · exact (Consumed.trans (by rfl) (raiseIf_said _ 98 _).consumed).trans (hand_consumed _ _)
  · exact (Consumed.trans (by rfl) (raiseIf_said _ 99 _).consumed).trans (hand_consumed _ _)
  · exact Consumed.trans (by rfl) (hand_consumed _ _)
  · exact Consumed.refl s

/-! ### The schedule and the measurements -/

theorem stopSchedule_consumed : Consumed s (stopSchedule s) := by
  unfold stopSchedule
  dsimp only
  split
  · exact Consumed.refl s
  · have off := Consumed.trans (by rfl : Consumed s { s with sh := { s.sh with
        run := none, armed := []
        dwells := (s.sh.dwells.filter (fun d => d.reached ≠ 0)).map (fun (d : Dwell) => { d with firing := false }) } })
      (selectOff_fireOnly _).consumed
    split
    · exact (off.trans (by rfl)).trans (raise_said 24 _).consumed
    · exact off.trans (by rfl)

theorem beginSchedule_consumed (t : Coarse) : Consumed s (beginSchedule t s) := by
  have starts : Consumed s (startSchedule t s) := rfl
  unfold beginSchedule
  dsimp only
  split
  · exact (starts.trans (stopSchedule_consumed _)).trans (raise_said 28 _).consumed
  · exact starts

theorem trigSchedule_consumed (t : Coarse) : Consumed s (trigSchedule t s) := by
  unfold trigSchedule
  split
  · exact (Consumed.trans (by rfl) (beginSchedule_consumed _ _)).trans (complete_said _ _ _).consumed
  · exact Consumed.refl s

theorem startWaiters_consumed (n : Nat) (t : Coarse) : Consumed s (startWaiters n t s) := by
  unfold startWaiters
  split <;> rfl

end

/-! ## Delivery (R240, R241) -/

/-- A trigger is no more waiting. -/
def State.taken (x : Trigger) (s : State) : State := { s with cl := { s.cl with triggers := s.cl.triggers.erase x } }

/-- The Colonnade as `x` is delivered: the deliveries that a later trigger may meet are kept, TRGOUT rises where it is
enabled, and the trigger is counted (R240, R241). -/
def State.delivering (x : Trigger) (s : State) : Colonnade :=
  { s.cl with
    delivered := x :: s.cl.delivered.filter (fun y => ahead x.time y.time ≤ 512000000 || before x.time y.time)
    last := x, trgOut := s.cl.trgOut || bit (s.trgCfgAt x.upAt) 6
    trgCnt := if x.isLocal then s.cl.trgCnt + 1 else s.cl.trgCnt
    trgRx := if x.isLocal then s.cl.trgRx else s.cl.trgRx + 1 }

theorem deliver_consumed (x : Trigger) (s : State) : Consumed { s with cl := s.delivering x } (deliver x s) := by
  unfold deliver
  extract_lets cfg t cl keep u v
  have recorded : Consumed u v := (galleryTrigger_consumed u x).trans (count_said 174 1 _).consumed
  split
  · exact (recorded.trans (trigSchedule_consumed v t)).trans (startWaiters_consumed _ 3 t)
  · exact recorded

section
variable {x : Trigger} {s : State} (hx : firstTrigger s.cl.triggers = some x)
include hx

theorem triggerDelivery_suppressed (h : s.suppressed x = true) : triggerDelivery s =
    { s with cl := { s.cl with triggers := s.cl.triggers.erase x, trgSup := s.cl.trgSup + 1 } } := by
  unfold triggerDelivery
  rw [hx]
  exact if_pos h

theorem triggerDelivery_delivers (h : s.suppressed x = false) : triggerDelivery s = deliver x (s.taken x) := by
  unfold triggerDelivery
  rw [hx]
  exact if_neg (Bool.eq_false_iff.mp h)

end

/-! ## TRGIN (R239) -/

section
variable {s : State} {high : Bool} {e : Coarse} {k : W32}

theorem trgCounts_false (h : high = bit k 7 ∨ bit k 0 = false ∨ s.trgRested k high e = false ∨
    0 < s.aheadBy e + Int.ofNat (inflt k)) : s.trgCounts k high e = false := by
  unfold State.trgCounts activeIn sourceOn
  rcases h with h | h | h | h
  · simp [h]
  · simp [h]
  · simp [h]
  · rw [decide_eq_false (Int.not_le.mpr h), Bool.and_false]

theorem trgCounts_true (ha : high ≠ bit k 7) (hs : bit k 0 = true) (hr : s.trgRested k high e = true)
    (hl : s.aheadBy e + Int.ofNat (inflt k) ≤ 0) : s.trgCounts k high e = true := by
  unfold State.trgCounts activeIn sourceOn
  rw [bne_iff_ne.mpr ha, hr, hs, decide_eq_true hl]
  rfl

/-- TRGIN has the level `high` since `e`; `ready` tells that the inactivity that a further trigger needs has been seen. -/
def State.trginSeen (high : Bool) (e : Coarse) (ready : Bool) (s : State) : State :=
  { s with pins := { s.pins with trgin := high }, cl := { s.cl with trgRun := some (high, e), trgReady := ready } }

variable {c : Coarse} (he : s.trgEdge high c = e) (hk : s.trgCfg e = k)
include he hk

theorem trginTrigger_notes (h : s.trgCounts k high e = false) :
    trginTrigger high c s = s.trginSeen high e (s.trgRested k high e) := by
  unfold trginTrigger
  dsimp only
  rw [he, hk, h, Bool.not_false, Bool.and_true]
  rfl

theorem trginTrigger_forms (h : s.trgCounts k high e = true) :
    trginTrigger high c s = formTrigger k 0 e (s.trginSeen high e false) := by
  unfold trginTrigger
  dsimp only
  rw [he, hk, h, Bool.not_true, Bool.and_false]
  rfl

end

/-! ## TRIG_CFG (R242, R345) -/

section
variable {s u : State} {m : Nat} {p : List Byte} {a : Answer} (ht : Takes s m 0x0802 p) (hlen : p.length = 8)
include ht hlen

/-- A TRIG_CFG WRITE or FIRE that the Lodge takes completes with what its own rule yields. -/
theorem trigCfg_completes (h0 : pByte p 0 = 0) (ho : trigCfgOwn (s.ticket m) p s = reply u a)
    (hp : u.pending = s.pending) : Completes (.trigCfg m) s (fun t => Said u t ∧ Answered m a t) :=
  Completes.of_lodge (row := fun p => pByte p 0 != 1) (len := subLen 2 8) (mode := anyMode) rfl ht (by simp [h0])
    (subLen_of_length hlen (by decide)) rfl ho hp

theorem trigCfgFire_completes (h1 : pByte p 0 = 1) (ho : trigCfgOwn (s.ticket m) p s = reply u a)
    (hp : u.pending = s.pending) : Completes (.trigCfgFire m) s (fun t => Said u t ∧ Answered m a t) :=
  Completes.of_lodge (row := fun p => pByte p 0 == 1) (len := subLen 2 8) (mode := anyMode) rfl ht (by simp [h1])
    (subLen_of_length hlen (by decide)) rfl ho hp

end

section
variable {tk : Ticket} {p : List Byte} {s : State}

theorem trigCfgOwn_write (h0 : pByte p 0 = 0) (hh : pByte p 4 ≠ 0) :
    trigCfgOwn tk p s = reply (setTrgCfg (pWord p 4) s) (.plain .ok) := by
  unfold trigCfgOwn
  rw [h0]
  exact if_neg hh

theorem trigCfgOwn_fire (h1 : pByte p 0 = 1) : trigCfgOwn tk p s =
    if bit s.cl.trgcfg 1 then reply (formTrigger s.cl.trgcfg 1 s.tb.coarse s) (.okWith (beBytes 8 s.tb.coarse.toNat))
    else reply s (.badarg 0) := by
  unfold trigCfgOwn
  rw [h1]
  rfl

end

/-! ## TRIG words (R246) -/

/-- The trigger that a TRIG word carries. -/
def State.wordTrigger (s : State) (w : W64) : Trigger :=
  let t := restoreTime s.tb.coarse (bits w.toNat 16 34)
  ⟨t, wSrc w, wCause w, true, false, s.upOf t⟩

/-- A TRIG word of another unit, the first of its number, adds its trigger where RX is on (R246). -/
theorem trigWordReceive_fresh {s : State} {w : W64} (hw : isWord 2 w = true) (hu : wSrc w ≠ s.unit)
    (hs : ∀ x ∈ s.cl.seen, x.1 ≠ wSrc w ∨ x.2.1 ≠ wRound w ∨ x.2.2 + 16384 < s.uptime)
    (hr : bit (s.trgCfg (s.wordTrigger w).time) 3 = true) : ∃ seen, trigWordReceive w s = { s with cl := { s.cl with
      triggers := s.cl.triggers ++ [s.wordTrigger w], seen := seen, heard := s.cl.heard ||| 2 ^ wSrc w } } := by
  have fresh : (s.cl.seen.filter (fun x => s.uptime ≤ x.2.2 + 16384)).any
      (fun x => x.1 = wSrc w && x.2.1 = wRound w) = false := by
    refine List.any_eq_false.mpr fun x hx same => ?_
    obtain ⟨old, late⟩ := List.mem_filter.mp hx
    obtain ⟨src, round⟩ := Bool.and_eq_true_iff.mp same
    rcases hs x old with h | h | h
    · exact h (of_decide_eq_true src)
    · exact h (of_decide_eq_true round)
    · exact absurd (of_decide_eq_true late) (Nat.not_le.mpr h)
  have own : (!isWord 2 w || wSrc w == s.unit) = false := by simp [hw, hu]
  unfold trigWordReceive
  rw [own]
  dsimp only [heardWord]
  rw [if_neg Bool.false_ne_true, fresh, if_neg Bool.false_ne_true, if_pos (by exact hr)]
  exact ⟨_, rfl⟩

/-- Settles O41: a trigger forms, is counted as suppressed, or is delivered to its consumers; these leave the Colonnade
alone. -/
theorem triggersFormAndDeliver : Obligations.TriggersFormAndDeliver := by
  refine ⟨fun s high c e k hl he hk h => ?_, fun s high c e k hl he hk ha hs hr hf hone => ?_,
    fun s x hl hx h => ?_, fun s x hl hx h => ?_, fun s hl => ?_, fun s m p ht h0 hlen hh => ?_,
    fun s m p ht h1 hlen hon hone => ?_, fun s m p ht h1 hlen hoff => ?_, fun s w hl hw hu hs hr => ?_⟩
  · refine exec_of_act (f := trginTrigger high c) rfl rfl hl ?_
    rw [trginTrigger_notes he hk (trgCounts_false h)]
    rfl
  · have forms := trginTrigger_forms he hk (trgCounts_true ha hs hr hf)
    have only := formTrigger_only (cfg := k) (cause := 0) (t := e) (s := s.trginSeen high e false)
    have one := formTrigger_triggers (cfg := k) (cause := 0) (t := e) (s := s.trginSeen high e false) hs hone
    exact Completes.of_effect rfl rfl hl forms formTrigger_pending ⟨one, only⟩
  · exact exec_of_act (f := triggerDelivery) rfl rfl hl (by rw [triggerDelivery_suppressed hx h])
  · have consumed := deliver_consumed x (s.taken x)
    refine Completes.of_effect rfl rfl hl (triggerDelivery_delivers hx h) consumed.pending ?_
    rw [consumed.cl]
    exact ⟨rfl, rfl, List.mem_cons_self, rfl, rfl, rfl, consumed.tb, consumed.fl, consumed.ar, consumed.bl⟩
  · exact exec_of_act (f := trgoutEnd) rfl rfl hl rfl
  · exact trigCfg_completes ht hlen h0 (trigCfgOwn_write h0 hh) rfl
  · have only := formTrigger_only (cfg := s.cl.trgcfg) (cause := 1) (t := s.tb.coarse) (s := s)
    have one := formTrigger_triggers (cfg := s.cl.trgcfg) (cause := 1) (t := s.tb.coarse) (s := s) hon hone
    refine (trigCfgFire_completes ht hlen h1 ((trigCfgOwn_fire h1).trans (if_pos hon)) formTrigger_pending).mono
      fun t ⟨said, answered⟩ => ⟨?_, ?_, answered⟩
    · rw [said.cl, one]
      rfl
    · rw [said.cl, ← only]
      exact said
  · exact trigCfgFire_completes ht hlen h1 ((trigCfgOwn_fire h1).trans (if_neg (Bool.eq_false_iff.mp hoff))) rfl
  · obtain ⟨seen, received⟩ := trigWordReceive_fresh hw hu hs hr
    exact Completes.of_effect rfl rfl hl received rfl ⟨rfl, rfl⟩

end Sys2Proof.Machine
end

section
/-!
PROOFS. The bus between units (chapter 9): the beginning of a cycle, a master that gives way, a unit's slot, and the words and
losses of R244 to R249.
-/
namespace Sys2Proof.Machine

/-! ## CL.CFG and the role (R244, R350) -/

theorem bit_setBit_clear (x : W32) (k : Nat) : bit (setBit x k false) k = false := by
  unfold bit setBit w32
  rw [if_neg Bool.false_ne_true, BitVec.getLsbD_and, BitVec.getLsbD_not, BitVec.getLsbD_ofNat, Nat.testBit_two_pow_self]
  by_cases h : k < 32 <;> simp [h]

theorem beacons_congr {s t : State} (h : t.cl.cfg = s.cl.cfg) : t.beacons = s.beacons := by
  unfold State.beacons
  rw [h]

/-- A CL.CFG that waited, where one did, has taken effect. -/
def State.clnTaken (s : State) : State :=
  match s.cl.next with
  | some v => setClnCfg v s
  | none => s

theorem clnTaken_none {s : State} (h : s.cl.next = none) : s.clnTaken = s := by
  unfold State.clnTaken
  rw [h]

theorem clnTaken_some {s : State} {v : W32} (h : s.cl.next = some v) : s.clnTaken = setClnCfg v s := by
  unfold State.clnTaken
  rw [h]

theorem clnTaken_only (s : State) : s.clnTaken = { s with cl := s.clnTaken.cl } := by
  unfold State.clnTaken
  split <;> rfl

theorem clnTaken_lost (s : State) : s.clnTaken.cl.lost = s.cl.lost := by
  unfold State.clnTaken
  split <;> rfl

/-- A unit that CL.CFG makes a master counts its cycles from zero; a unit that was one goes on (R350). -/
theorem setClnCfg_cycle (v : W32) (s : State) : (setClnCfg v s).cl.cycle =
    if s.beacons = false ∧ (setClnCfg v s).beacons = true then 0 else s.cl.cycle := by
  have role : (setClnCfg v s).beacons = (bit (v &&& 0xFFFFFF1F) 4 && bit (v &&& 0xFFFFFF1F) 3) := rfl
  rw [role]
  unfold setClnCfg
  dsimp only
  cases s.beacons <;> simp

theorem setClnCfg_follower {v : W32} {s : State} (h : s.beacons = false) :
    (setClnCfg v s).cl.cycle = if (setClnCfg v s).beacons then 0 else s.cl.cycle := by
  simp [setClnCfg_cycle, h]

theorem setClnCfg_master {v : W32} {s : State} (h : s.beacons = true) : (setClnCfg v s).cl.cycle = s.cl.cycle := by
  simp [setClnCfg_cycle, h]

/-! ## A cycle begins (R244, R247) -/

/-- A cycle that begins takes a waiting CL.CFG and finds the bus at the present instant, a round moves on, and a loss ends with
event 89. -/
theorem beginCycle_eq (s : State) : ∃ rnd pulse, beginCycle s = raiseIf s.cl.lost 89 { s with cl := { s.clnTaken.cl with
    busOk := true, lost := false, receipt := some s.tb.coarse, rnd := rnd, pulseFrom := pulse } } := by
  have begins : ∃ rnd pulse, beginCycle s = raiseIf s.clnTaken.cl.lost 89 { s.clnTaken with cl := { s.clnTaken.cl with
      busOk := true, lost := false, receipt := some s.clnTaken.tb.coarse, rnd := rnd, pulseFrom := pulse } } := ⟨_, _, rfl⟩
  obtain ⟨rnd, pulse, e⟩ := begins
  rw [clnTaken_lost] at e
  rw [e, clnTaken_only s]
  exact ⟨rnd, pulse, rfl⟩

theorem beginCycle_cl (s : State) : ∃ rnd pulse, (beginCycle s).cl = { s.clnTaken.cl with
    busOk := true, lost := false, receipt := some s.tb.coarse, rnd := rnd, pulseFrom := pulse } := by
  obtain ⟨rnd, pulse, e⟩ := beginCycle_eq s
  rw [e, (raiseIf_said _ _ _).cl]
  exact ⟨rnd, pulse, rfl⟩

theorem beginCycle_cfg (s : State) : (beginCycle s).cl.cfg = s.clnTaken.cl.cfg := by
  obtain ⟨_, _, e⟩ := beginCycle_cl s
  rw [e]

/-- Beside the Colonnade a cycle that begins only says things. -/
theorem beginCycle_said (s : State) : Said { s with cl := (beginCycle s).cl } (beginCycle s) := by
  obtain ⟨_, _, e⟩ := beginCycle_eq s
  rw [e, (raiseIf_said _ _ _).cl]
  exact raiseIf_said _ _ _

theorem beginCycle_latched {s : State} (h : s.cl.lost = true) : ((beginCycle s).ev.get 89).latched = true := by
  obtain ⟨_, _, e⟩ := beginCycle_eq s
  rw [e, h]
  exact raises_latched _ (List.mem_singleton_self 89)

theorem beginCycle_keeps {s : State} {n : Nat} (h : (s.ev.get n).latched = true) :
    ((beginCycle s).ev.get n).latched = true := by
  obtain ⟨_, _, e⟩ := beginCycle_eq s
  rw [e]
  exact raiseIf_keeps _ _ h

/-! ## BEACON -/

/-- A unit that drives a beacon at up-time `u` counts the cycle. -/
def Colonnade.beaconing (u unit : Nat) (c : Colonnade) : Colonnade :=
  { c with line := some ⟨u, busWord 1 unit (put c.cycle.toNat 41 16)⟩, cycle := c.cycle + 1 }

theorem beacon_begins {s : State} (h : s.beacons = true) : beacon s =
    let u := heardWord s.unit (beginCycle s)
    if u.beacons then { u with cl := u.cl.beaconing u.uptime u.unit } else u := by
  unfold beacon
  rw [h]
  dsimp only
  rw [if_neg (by decide)]
  cases (heardWord s.unit (beginCycle s)).beacons <;> rfl

/-- The Colonnade after a BEACON: a cycle has begun, and under the CL.CFG that it took the unit may beacon no more. -/
theorem beacon_cl {s : State} (h : s.beacons = true) : ∃ c : Colonnade,
    (∃ rnd pulse, c = { s.clnTaken.cl with
      busOk := true, lost := false, receipt := some s.tb.coarse, rnd := rnd, pulseFrom := pulse
      heard := s.clnTaken.cl.heard ||| 2 ^ s.unit }) ∧
      (beacon s).cl = if s.clnTaken.beacons then c.beaconing s.uptime s.clnTaken.unit else c := by
  obtain ⟨rnd, pulse, cl⟩ := beginCycle_cl s
  refine ⟨(heardWord s.unit (beginCycle s)).cl, ⟨rnd, pulse, ?_⟩, ?_⟩
  · unfold heardWord
    rw [cl]
  · have cfg : (heardWord s.unit (beginCycle s)).cl.cfg = s.clnTaken.cl.cfg := beginCycle_cfg s
    have unit : (heardWord s.unit (beginCycle s)).unit = s.clnTaken.unit := congrArg (fun c => fld c 0 3) cfg
    have now : (heardWord s.unit (beginCycle s)).uptime = s.uptime := (beginCycle_said s).uptime
    rw [beacon_begins h]
    dsimp only
    rw [beacons_congr cfg, unit, now]
    split <;> rfl

/-- A beacon beside the Colonnade only says things. -/
theorem beacon_said {s : State} (h : s.beacons = true) : Said { s with cl := (beacon s).cl } (beacon s) := by
  rw [beacon_begins h]
  dsimp only
  split <;> exact (beginCycle_said s).withCl _

/-! ## A master gives way (R244) -/

/-- The Colonnade of a master that gives way: a follower, with no MARK and no round asked for. -/
def Colonnade.yielded (c : Colonnade) : Colonnade := { c with cfg := setBit c.cfg 3 false, markAsk := none, askRound := false }

theorem yieldMaster_said (s : State) : Said { s with cl := s.cl.yielded } (yieldMaster s) := by
  unfold yieldMaster
  dsimp only
  split
  · exact ((raise_said 90 _).trans (answer_said _ _ _ _)).trans (answerBadop_said _ _)
  · exact raise_said 90 _

theorem yieldMaster_latched (s : State) : ((yieldMaster s).ev.get 90).latched = true := by
  have raised (u : State) : ((raise 90 u).ev.get 90).latched = true := raises_latched u (List.mem_singleton_self 90)
  unfold yieldMaster
  dsimp only
  split
  · exact ((answer_onlyDrops _ _ _ _).trans (answerBadop_onlyDrops _ _)).latched (by decide) (raised _)
  · exact raised _

theorem Colonnade.yielded_beacons {s : State} {c : Colonnade} (h : s.cl = c.yielded) : s.beacons = false := by
  unfold State.beacons
  rw [h]
  exact Bool.and_eq_false_iff.mpr (.inr (bit_setBit_clear c.cfg 3))

/-! ## BEACON_RECEIVE -/

/-- The unit that a beacon of unit `u` makes begin a cycle: as it is where it does not beacon, else as a follower. -/
def State.follows (u : Nat) (s : State) : State := if s.beacons then yieldMaster (heardWord u s) else heardWord u s

section
variable {s : State} {w : W64} (hw : isWord 1 w = true)
include hw

/-- A beacon that a unit does not ignore begins a cycle. -/
theorem beaconReceive_begins (h : s.beacons = false ∨ wSrc w < s.unit) :
    beaconReceive w s = beginCycle (s.follows (wSrc w)) := by
  have role : (heardWord (wSrc w) s).beacons = s.beacons := rfl
  unfold beaconReceive State.follows
  rw [hw]
  dsimp only
  rw [role, if_neg (by decide)]
  cases hb : s.beacons
  · rfl
  · exact if_pos (h.resolve_left (by simp [hb]))

/-- A master does not follow a unit of a higher number, nor its own (R244). -/
theorem beaconReceive_ignores (hb : s.beacons = true) (h : s.unit ≤ wSrc w) :
    beaconReceive w s = heardWord (wSrc w) s := by
  have role : (heardWord (wSrc w) s).beacons = s.beacons := rfl
  unfold beaconReceive
  rw [hw]
  dsimp only
  rw [role, hb]
  exact if_neg (Nat.not_lt.mpr h)

end

section
variable (u : Nat) (s : State)

/-- Giving way changes the Colonnade, and beside it only says things. -/
theorem follows_said : Said { s with cl := (s.follows u).cl } (s.follows u) := by
  unfold State.follows
  split
  · rw [(yieldMaster_said _).cl]
    exact yieldMaster_said _
  · rfl

/-- What giving way leaves of the Colonnade. -/
theorem follows_cl : (s.follows u).cl =
    if s.beacons then (heardWord u s).cl.yielded else (heardWord u s).cl := by
  unfold State.follows
  split
  · exact (yieldMaster_said _).cl
  · rfl

/-- No unit that follows a beacon beacons itself. -/
theorem follows_beacons : (s.follows u).beacons = false := by
  have cl := follows_cl u s
  cases h : s.beacons
  · rw [h] at cl
    rw [beacons_congr (s := s) (by rw [cl]; rfl), h]
  · rw [h] at cl
    exact Colonnade.yielded_beacons cl

/-- Beside the Colonnade a beacon that begins a cycle only says things. -/
theorem followed_said : Said { s with cl := (beginCycle (s.follows u)).cl } (beginCycle (s.follows u)) :=
  ((follows_said u s).withCl _).trans (beginCycle_said _)

end

theorem follows_next (u : Nat) (s : State) : (s.follows u).cl.next = s.cl.next := by
  rw [follows_cl]
  split <;> rfl

/-- A beacon that a unit does not ignore completes as the beginning of a cycle. -/
theorem beaconReceive_completes {s : State} {w : W64} (hl : s.live = true) (hw : isWord 1 w = true)
    (h : s.beacons = false ∨ wSrc w < s.unit) :
    Completes (.beaconReceive w) s (fun t => t = beginCycle (s.follows (wSrc w))) :=
  Completes.of_effect rfl rfl hl (beaconReceive_begins hw h) (followed_said (wSrc w) s).pending rfl

/-- The Colonnade as a cycle begins at a beacon of unit `u`. -/
theorem followed_cl (u : Nat) (s : State) : ∃ rnd pulse, (beginCycle (s.follows u)).cl = { (s.follows u).clnTaken.cl with
    busOk := true, lost := false, receipt := some s.tb.coarse, rnd := rnd, pulseFrom := pulse } := by
  obtain ⟨rnd, pulse, cl⟩ := beginCycle_cl (s.follows u)
  rw [(follows_said u s).tb] at cl
  exact ⟨rnd, pulse, cl⟩

theorem follows_master {u : Nat} {s : State} (h : s.beacons = true) : ((s.follows u).ev.get 90).latched = true := by
  unfold State.follows
  rw [if_pos h]
  exact yieldMaster_latched _

/-! ## BEACON_LOSS -/

/-- The state as a loss of the bus is declared. -/
def State.busLost (s : State) : State := raise 88 { s with cl := { s.cl with busOk := false, lost := true } }

theorem beaconLoss_declares {s : State} (hb : s.beacons = false) (hl : s.cl.lost = false) :
    beaconLoss s = s.busLost.clnTaken := by
  unfold beaconLoss
  rw [hb, hl, Bool.or_false, if_neg Bool.false_ne_true]
  rfl

theorem busLost_said (s : State) : Said { s with cl := { s.cl with busOk := false, lost := true } } s.busLost :=
  raise_said 88 _

theorem busLost_raised (s : State) : Raised 88 s s.busLost :=
  raise_raised 88 { s with cl := { s.cl with busOk := false, lost := true } }

theorem beaconLoss_none {s : State} (h : s.beacons = true ∨ s.cl.lost = true) : beaconLoss s = s :=
  if_pos (Bool.or_eq_true_iff.mpr h)

/-! ## Words sent and received -/

/-- The first TRIG word that waits leaves in the slot, and no other word does (R246). -/
theorem unitSlot_trig {s : State} {c : Coarse} {cause q k : Nat} {r : List (Coarse × Nat × Nat × Nat)}
    (he : s.clEn = true) (hr : s.cl.receipt ≠ none) (hs : s.cl.send = (c, cause, q, k) :: r) :
    unitSlot s = sendTrig c cause q k r s := by
  unfold unitSlot
  rw [he, Option.isNone_eq_false_iff.mpr (Option.isSome_iff_ne_none.mpr hr), if_neg (by decide), hs]

/-- A MARK word of another unit opens the window of its marker (R249). -/
theorem markWordReceive_opens {s : State} {w : W64} (hw : isWord 7 w = true) (hu : wSrc w ≠ s.unit) :
    markWordReceive w s = { s with cl := { s.cl with
      markWin := some (s.tb.coarse, wSrc w), heard := s.cl.heard ||| 2 ^ wSrc w } } := by
  have own : (!isWord 7 w || wSrc w == s.unit) = false := by simp [hw, hu]
  unfold markWordReceive
  rw [own]
  rfl

/-- Settles O42: a cycle begins at a beacon, sent or received; a slot, a word, a loss and an expiry change the Colonnade
alone. -/
theorem busCycles : Obligations.BusCycles := by
  refine ⟨fun s hl hb hn => ?_, fun s w hl hw hb hn => ?_, fun s w hl hw hb hu hn => ?_, fun s w hl hw hb hu => ?_,
    fun s hl hb hs hn => ?_, fun s hl h => ?_, fun s c cause q k r hl he hr hs => ?_, fun s w hl hw hu => ?_,
    fun s w b hl => ?_, fun s v hl hb hn => ?_, fun s w v hl hw hn h => ?_, fun s v hl hb hs hn => ?_,
    fun s u hl hu => ?_⟩
  · have said := beacon_said hb
    obtain ⟨c, ⟨rnd, pulse, rfl⟩, cl⟩ := beacon_cl hb
    rw [clnTaken_none hn, if_pos hb] at cl
    have cfg := congrArg Colonnade.cfg cl
    exact Completes.of_kept (f := beacon) rfl rfl hl said.pending ⟨congrArg Colonnade.line cl, congrArg Colonnade.cycle cl,
      congrArg Colonnade.busOk cl, congrArg Colonnade.receipt cl, congrArg Colonnade.heard cl, cfg, said⟩
  · refine (beaconReceive_completes hl hw (.inl hb)).mono fun t e => ?_
    obtain ⟨rnd, pulse, cl⟩ := followed_cl (wSrc w) s
    have same := (follows_cl (wSrc w) s).trans (if_neg (Bool.eq_false_iff.mp hb))
    rw [clnTaken_none ((follows_next _ s).trans hn), same] at cl
    have cfg := congrArg Colonnade.cfg cl
    subst e
    exact ⟨congrArg Colonnade.busOk cl, congrArg Colonnade.lost cl, congrArg Colonnade.receipt cl,
      congrArg Colonnade.heard cl, cfg,
      fun lost => beginCycle_latched ((congrArg Colonnade.lost same).trans lost), followed_said _ s⟩
  · refine (beaconReceive_completes hl hw (.inr hu)).mono fun t e => ?_
    obtain ⟨rnd, pulse, cl⟩ := followed_cl (wSrc w) s
    have role := beacons_congr (beginCycle_cfg (s.follows (wSrc w)))
    have taken := clnTaken_none ((follows_next (wSrc w) s).trans hn)
    rw [taken, follows_beacons] at role
    rw [taken, (follows_cl _ s).trans (if_pos hb)] at cl
    subst e
    exact ⟨role, congrArg Colonnade.busOk cl, congrArg Colonnade.receipt cl, congrArg Colonnade.markAsk cl,
      congrArg Colonnade.askRound cl, beginCycle_keeps (follows_master hb), followed_said _ s⟩
  · exact exec_of_act (f := beaconReceive w) rfl rfl hl (by rw [beaconReceive_ignores hw hb hu]; rfl)
  · have said := busLost_said s
    have declares := beaconLoss_declares hb hs
    rw [clnTaken_none (by rw [said.cl]; exact hn)] at declares
    exact Completes.of_effect rfl rfl hl declares said.pending ⟨said, busLost_raised s⟩
  · exact exec_of_act (f := beaconLoss) rfl rfl hl (by rw [beaconLoss_none h])
  · exact Completes.of_effect rfl rfl hl (unitSlot_trig he hr hs) rfl ⟨rfl, rfl, rfl, rfl, rfl⟩
  · exact exec_of_act (f := markWordReceive w) rfl rfl hl (by rw [markWordReceive_opens hw hu])
  · refine exec_of_act (f := clnWordDiscard w b) rfl rfl hl ?_
    unfold clnWordDiscard
    split <;> rfl
  · have said := beacon_said hb
    obtain ⟨c, ⟨rnd, pulse, rfl⟩, cl⟩ := beacon_cl hb
    have taken := clnTaken_some hn
    have cycle : s.clnTaken.cl.cycle = s.cl.cycle := by rw [taken, setClnCfg_master hb]
    have cfg : (beacon s).cl.cfg = s.clnTaken.cl.cfg := by rw [cl]; split <;> rfl
    have unit : (beacon s).unit = s.clnTaken.unit := congrArg (fun c => fld c 0 3) cfg
    refine Completes.of_kept (f := beacon) rfl rfl hl said.pending ?_
    rw [beacons_congr cfg, unit, cfg, ← cycle]
    refine ⟨by rw [taken]; rfl, ?_, ?_, ?_, ?_, ?_, said⟩ <;> rw [cl, taken] <;> split <;> rfl
  · refine (beaconReceive_completes hl hw h).mono fun t e => ?_
    obtain ⟨rnd, pulse, cl⟩ := followed_cl (wSrc w) s
    have role := beacons_congr (beginCycle_cfg (s.follows (wSrc w)))
    have taken := clnTaken_some ((follows_next (wSrc w) s).trans hn)
    have cycle := setClnCfg_follower (v := v) (follows_beacons (wSrc w) s)
    have same : (s.follows (wSrc w)).cl.cycle = s.cl.cycle := by rw [follows_cl]; split <;> rfl
    rw [taken] at cl role
    rw [same, ← role] at cycle
    subst e
    exact ⟨congrArg Colonnade.cfg cl, congrArg Colonnade.next cl, congrArg Colonnade.busOk cl,
      congrArg Colonnade.receipt cl, (congrArg Colonnade.cycle cl).trans cycle,
      fun hb => beginCycle_keeps (follows_master hb), followed_said _ s⟩
  · have said := busLost_said s
    have declares := beaconLoss_declares hb hs
    rw [clnTaken_some (by rw [said.cl]; exact hn)] at declares
    have kept := said.withCl (setClnCfg v s.busLost).cl
    exact Completes.of_effect rfl rfl hl declares said.pending
      ⟨rfl, rfl, congrArg Colonnade.busOk said.cl, congrArg Colonnade.lost said.cl, busLost_raised s, kept⟩
  · exact exec_of_act (f := heardExpiry u) rfl (decide_eq_true hu) hl rfl

end Sys2Proof.Machine
end

section
/-!
PROOFS. The Gallery's writer (chapter 10): where a record goes, what storing one changes, and how a capture ends.
-/
namespace Sys2Proof.Machine

/-! ## What the Gallery's work can change -/

/-- `t` is `s` after the Gallery was at work: the Gallery and things said may differ, nothing else. -/
def Recorded (s t : State) : Prop := Said { s with gl := t.gl } t

section
variable {s t u : State}

theorem Recorded.refl (s : State) : Recorded s s := rfl

theorem Recorded.trans (h : Recorded s t) (k : Recorded t u) : Recorded s u := by
  unfold Recorded Said at *
  rw [k, h]

theorem Recorded.pending (h : Recorded s t) : t.pending = s.pending := Said.pending (s := { s with gl := t.gl }) h

theorem Recorded.of_gl (g : Gallery) (s : State) : Recorded s { s with gl := g } := rfl

theorem Said.recorded (h : Said s t) : Recorded s t := by
  rw [h]
  rfl

/-- Of the Gallery only the pending EVT records can differ after things were said. -/
theorem Said.gl (h : Said s t) : t.gl = { s.gl with evts := t.gl.evts } := congrArg State.gl h

theorem partn_congr (h : t.gl.parts = s.gl.parts) (p : Nat) : t.partn p = s.partn p := by
  unfold State.partn
  rw [h]

theorem Said.partn (h : Said s t) (p : Nat) : t.partn p = s.partn p := partn_congr (by rw [h]) p

theorem Said.mark (h : Said s t) (m : Nat) : t.mark m = s.mark m := by
  unfold State.mark
  rw [h]

end

/-! ## Where a record goes (R254, R268) -/

/-- The 32 positions of a block lie side by side. -/
theorem recAddr_in_block (s : State) (p : Nat) : ∃ b : Nat → Nat, ∀ k, s.recAddr p k = b (k / 32) + 8 * (k % 32) := by
  obtain ⟨m, hm⟩ : ∃ m, s.pSize = 32 * m :=
    ⟨s.capacity / (512 * s.nPart) * 16, by unfold State.pSize; omega⟩
  have block (k : Nat) : (p * s.pSize + k % s.pSize) / 32 = p * m + k / 32 % m := by
    rw [hm, ← Nat.mod_mul_right_div_self k 32 m, Nat.mul_left_comm, Nat.mul_add_div (by decide)]
  have slot (k : Nat) : (p * s.pSize + k % s.pSize) % 32 = k % 32 := by
    rw [hm, Nat.mul_left_comm, Nat.mul_add_mod, Nat.mod_mul_right_mod]
  refine ⟨fun j => 2 ^ 34 * s.blockChan (p * m + j % m) + 256 * ((p * m + j % m) / s.memChans.length), fun k => ?_⟩
  unfold State.recAddr
  dsimp only
  rw [block, slot]

theorem recBytes_length (w : W64) : (recBytes w).length = 8 := by
  unfold recBytes
  rw [List.length_map, List.length_range]

/-- Bytes that read alike in two memories are read alike together. -/
theorem Memory.readAll_congr {m m' : Memory} : ∀ {n a : Nat}, (∀ c, a ≤ c → c < a + n → m'.read c = m.read c) →
    Memory.readAll n m' a = Memory.readAll n m a
  | 0, _, _ => rfl
  | n + 1, a, h => by
    unfold Memory.readAll
    rw [h a (by omega) (by omega), Memory.readAll_congr fun c hc hn => h c (by omega) (by omega)]

/-! ## One record recordStored (R256, R268, R275, R277) -/

/-- The count of positions of the partition being written. -/
def State.wc (s : State) : Nat := (s.partn s.gl.part).wc

/-- The address of the next position. -/
def State.nextAddr (s : State) : Nat := s.recAddr s.gl.part s.wc

/-- Record `w` recordStored at the next position, into memory `mem`. -/
def recordStored (w : W64) (mem : Memory) (s : State) : State :=
  count 172 1 (updPart s.gl.part (fun x => { x with wc := s.wc + 1 }) { s with gl := { s.gl with
    mem := Memory.writeAll (recBytes w) mem s.nextAddr, wcount := s.gl.wcount + 1 } })

/-- A mark whose position the writer is about to overtake (R275). -/
def State.overtakes (s : State) (m : Nat × Nat) : Bool := m.1 == s.gl.part && decide (m.2 < oldest s.pSize s.wc)

/-- A segment begins at the next position: the marks and the STREAM that need its old contents lose them (R275, R277). -/
def segmentBegun (s : State) : State :=
  streamAt s.gl.part s.wc (if s.anyMark s.overtakes = true then raise 100 (dropMarks s.overtakes s) else s)

section
variable {s : State} (w : W64) (mem : Memory)

theorem recordStored_said : Said { s with gl := (recordStored w mem s).gl } (recordStored w mem s) := rfl

theorem recordStored_partn : (recordStored w mem s).partn s.gl.part = { s.partn s.gl.part with wc := s.wc + 1 } :=
  updPart_partn_same _ _ _

theorem recordStored_partn_other {p : Nat} (h : p ≠ s.gl.part) : (recordStored w mem s).partn p = s.partn p :=
  updPart_partn_other _ _ h

theorem recordStored_wc : (recordStored w mem s).wc = s.wc + 1 := congrArg Part.wc (recordStored_partn w mem)

theorem recordStored_readAll : Memory.readAll 8 (recordStored w mem s).gl.mem s.nextAddr = recBytes w := by
  have h := Memory.readAll_writeAll (recBytes w) mem s.nextAddr
  rw [recBytes_length] at h
  exact h

theorem recordStored_read_other {a : Nat} (h : a < s.nextAddr ∨ s.nextAddr + 8 ≤ a) :
    (recordStored w mem s).gl.mem.read a = mem.read a :=
  Memory.read_writeAll_other (recBytes w) (by rw [recBytes_length]; exact h)

end

section
variable {s : State} (w : W64)

/-- Within a segment nothing is erased and nothing lost. -/
theorem putRecord_inside (h : s.wc % 512 ≠ 0) : putRecord w s = recordStored w s.gl.mem s := by
  unfold State.wc at h
  unfold putRecord
  simp only [h, false_and, if_false]
  rfl

theorem segmentBegun_said (s : State) : Said { s with gl := { s.gl with
    marks := (segmentBegun s).gl.marks, stream := (segmentBegun s).gl.stream } } (segmentBegun s) := by
  unfold segmentBegun
  split
  · have h := raise_said 100 (dropMarks s.overtakes s)
    rw [h]
    rfl
  · rfl

theorem segmentBegun_gl (s : State) : (segmentBegun s).gl = { s.gl with
    marks := (segmentBegun s).gl.marks, stream := (segmentBegun s).gl.stream, evts := (segmentBegun s).gl.evts } :=
  (segmentBegun_said s).gl

theorem segmentBegun_partn (s : State) (p : Nat) : (segmentBegun s).partn p = s.partn p := by
  refine partn_congr ?_ p
  rw [segmentBegun_gl]

theorem segmentBegun_part (s : State) : (segmentBegun s).gl.part = s.gl.part := by rw [segmentBegun_gl]

theorem segmentBegun_wc (s : State) : (segmentBegun s).wc = s.wc := by
  unfold State.wc
  rw [segmentBegun_part, segmentBegun_partn]

theorem segmentBegun_recAddr (s : State) (p k : Nat) : (segmentBegun s).recAddr p k = s.recAddr p k := by
  unfold State.recAddr State.pSize State.capacity State.nPart State.blockChan State.memChans
  rw [segmentBegun_gl]

/-- At the start of a segment its old contents are erased. -/
theorem putRecord_segment (h : s.wc % 512 = 0) :
    putRecord w s = recordStored w (s.gl.mem.wipe (s.inSegment s.gl.part s.wc)) (segmentBegun s) := by
  have seg : (segmentBegun s).inSegment = s.inSegment := by
    funext p k a
    unfold State.inSegment
    simp only [segmentBegun_recAddr]
  have mem : (segmentBegun s).gl.mem = s.gl.mem := by rw [segmentBegun_gl]
  unfold recordStored State.nextAddr
  rw [segmentBegun_part, segmentBegun_wc, ← seg, ← mem]
  unfold State.wc at h
  unfold putRecord
  simp only [h, true_and, if_true]
  rfl

end

/-- `t` is `s` after record `w` began a segment: of the segment's old contents nothing is left. -/
structure SegmentBegun (w : W64) (s t : State) : Prop where
  wc : (t.partn s.gl.part).wc = s.wc + 1
  bytes : Memory.readAll 8 t.gl.mem s.nextAddr = recBytes w
  kept : ∀ a, a < s.nextAddr ∨ s.nextAddr + 8 ≤ a → t.gl.mem.read a =
    if s.inSegment s.gl.part s.wc a = true then Memory.empty a else s.gl.mem.read a
  others : ∀ p, p ≠ s.gl.part → t.partn p = s.partn p
  recorded : Recorded s t

theorem putRecord_begins {s : State} (w : W64) (h : s.wc % 512 = 0) : SegmentBegun w s (putRecord w s) := by
  rw [putRecord_segment w h]
  have part := segmentBegun_part s
  have addr : (segmentBegun s).nextAddr = s.nextAddr := by
    unfold State.nextAddr
    rw [part, segmentBegun_wc, segmentBegun_recAddr]
  have wc := congrArg Part.wc (recordStored_partn (s := segmentBegun s) w (s.gl.mem.wipe (s.inSegment s.gl.part s.wc)))
  rw [part] at wc
  constructor
  case wc => rw [wc]; exact congrArg (· + 1) (segmentBegun_wc s)
  case bytes => rw [← addr]; exact recordStored_readAll w _
  case kept =>
    intro a ha
    rw [recordStored_read_other _ _ (by rw [addr]; exact ha), Memory.read_wipe]
  case others =>
    intro p hp
    rw [recordStored_partn_other _ _ (part.symm ▸ hp), segmentBegun_partn]
  case recorded => exact ((Recorded.of_gl _ s).trans (segmentBegun_said s).recorded).trans rfl

/-! ## What a record leaves behind (R269, R274) -/

theorem Tab.find_insert {α : Type} (k : Nat) (v : α) : ∀ t : Tab α,
    (Tab.insert t k v).find? (fun x => x.1 = k) = some (k, v)
  | [] => by simp [Tab.insert]
  | (k', v') :: t => by
    have ih := Tab.find_insert k v t
    unfold Tab.insert
    split
    · simp
    · split
      · simp
      · rename_i hne
        rw [List.find?_cons_of_neg (by simpa using Ne.symm hne), ih]

section
variable (r : GRec) (k : Nat) (s : State)

theorem noteWritten_only : noteWritten r k s = { s with gl := { s.gl with
    parts := (noteWritten r k s).gl.parts, marks := (noteWritten r k s).gl.marks } } := by
  unfold noteWritten
  dsimp only
  split <;> split <;> rfl

theorem noteWritten_parts : (noteWritten r k s).gl.parts =
    (if r.trig then updPart s.gl.part (fun x => { x with t := some k }) s else s).gl.parts := by
  unfold noteWritten
  dsimp only
  split <;> rfl

/-- The record written may fix T of its partition, and nothing else of it. -/
theorem noteWritten_partn : (noteWritten r k s).partn s.gl.part =
    { s.partn s.gl.part with t := if r.trig then some k else (s.partn s.gl.part).t } := by
  rw [partn_congr (noteWritten_parts r k s)]
  split
  · exact updPart_partn_same _ _ s
  · rfl

theorem noteWritten_partn_other {p : Nat} (h : p ≠ s.gl.part) : (noteWritten r k s).partn p = s.partn p := by
  rw [partn_congr (noteWritten_parts r k s)]
  split
  · exact updPart_partn_other _ s h
  · rfl

/-- A MARK record sets its mark to the pair of partition and position. -/
theorem noteWritten_mark {m : Nat} (h : r.mark = some m) : (noteWritten r k s).mark m = some (s.gl.part, k) := by
  unfold noteWritten
  rw [h]
  unfold State.mark
  dsimp only
  rw [Tab.find_insert]
  split <;> rfl

end

/-! ## GALLERY_RECORD_WRITE (R258) -/

section
variable {s : State} {r : GRec} {rs : List GRec} (hb : s.gl.buf = r :: rs) (hw : s.gl.writing = true)
  (hc : s.captured = false)
include hb hw hc

/-- Inside a segment that the current BASE serves, the record itself is recordStored. -/
theorem writeOne_stores (hk : s.wc % 512 ≠ 0) (hn : needsBase s.gl.base r = false) (h0 : r.word ≠ 0) :
    writeOne s = noteWritten r s.wc (recordStored r.word s.gl.mem { s with gl := { s.gl with buf := rs } }) := by
  rw [← putRecord_inside (s := { s with gl := { s.gl with buf := rs } }) r.word hk]
  unfold State.wc at hk
  unfold writeOne
  simp only [hb, hw, hc, hk, hn, h0, Bool.not_true, Bool.or_self, Bool.false_eq_true, false_and, if_false]
  rfl

/-- At the start of a segment the BASE is recordStored, and the record waits. -/
theorem writeOne_opens (hk : s.wc % 512 = 0) (h0 : r.word ≠ 0) :
    writeOne s = { putRecord (baseRec (s.baseFor r).1 ((s.baseFor r).2 / 2 ^ 16)) s with gl :=
      { (putRecord (baseRec (s.baseFor r).1 ((s.baseFor r).2 / 2 ^ 16)) s).gl with
        base := some (s.baseFor r), buf := r :: rs } } := by
  unfold State.wc at hk
  unfold writeOne
  simp only [hb, hw, hc, hk, h0, Bool.not_true, Bool.or_self, Bool.false_eq_true, ne_eq, not_false_eq_true, or_true, and_self,
    if_true, if_false]

/-- Where another BASE is needed, PAD is recordStored, and the record waits. -/
theorem writeOne_pads (hk : s.wc % 512 ≠ 0) (hn : needsBase s.gl.base r = true) :
    writeOne s = recordStored padRec s.gl.mem s := by
  rw [← putRecord_inside padRec hk]
  unfold State.wc at hk
  unfold writeOne
  simp only [hb, hw, hc, hk, hn, Bool.not_true, Bool.or_self, Bool.false_eq_true, false_and, if_false, if_true]

end

theorem writeOne_idle {s : State} (h : s.gl.buf = [] ∨ s.gl.writing = false ∨ s.captured = true) : writeOne s = s := by
  unfold writeOne
  split
  · rfl
  · rename_i hb
    rw [hb] at h
    have stop : (!s.gl.writing || s.captured) = true := by
      rcases h with h | h | h
      · cases h
      · simp [h]
      · simp [h]
    exact if_pos stop

/-- `t` is `s` after the writer recordStored `r`, the first of the records handed, at the next position. -/
structure RecordWritten (r : GRec) (rs : List GRec) (s t : State) : Prop where
  buf : t.gl.buf = rs
  wc : t.wc = s.wc + 1
  wcount : t.gl.wcount = s.gl.wcount + 1
  part : t.gl.part = s.gl.part
  bytes : Memory.readAll 8 t.gl.mem s.nextAddr = recBytes r.word
  kept : ∀ a, a < s.nextAddr ∨ s.nextAddr + 8 ≤ a → t.gl.mem.read a = s.gl.mem.read a
  trig : r.trig = true → (t.partn s.gl.part).t = some s.wc
  mark : ∀ m, r.mark = some m → t.mark m = some (s.gl.part, s.wc)
  others : ∀ p, p ≠ s.gl.part → t.partn p = s.partn p
  recorded : Recorded s t

theorem writeOne_written {s : State} {r : GRec} {rs : List GRec} (hb : s.gl.buf = r :: rs) (hw : s.gl.writing = true)
    (hc : s.captured = false) (hk : s.wc % 512 ≠ 0) (hn : needsBase s.gl.base r = false) (h0 : r.word ≠ 0) :
    RecordWritten r rs s (writeOne s) := by
  rw [writeOne_stores hb hw hc hk hn h0]
  generalize hu : recordStored r.word s.gl.mem { s with gl := { s.gl with buf := rs } } = u
  have part : u.gl.part = s.gl.part := by rw [← hu]; rfl
  have bytes : Memory.readAll 8 u.gl.mem s.nextAddr = recBytes r.word := by rw [← hu]; exact recordStored_readAll _ _
  have kept : ∀ a, a < s.nextAddr ∨ s.nextAddr + 8 ≤ a → u.gl.mem.read a = s.gl.mem.read a := by
    rw [← hu]
    exact fun a h => recordStored_read_other _ _ h
  have here : u.partn s.gl.part = { s.partn s.gl.part with wc := s.wc + 1 } := by rw [← hu]; exact recordStored_partn _ _
  have only := noteWritten_only r s.wc u
  have noted := noteWritten_partn r s.wc u
  rw [part, here] at noted
  have part' : (noteWritten r s.wc u).gl.part = s.gl.part := by rw [only]; exact part
  have mem : (noteWritten r s.wc u).gl.mem = u.gl.mem := by rw [only]
  constructor
  case buf => rw [only, ← hu]; rfl
  case wc =>
    show ((noteWritten r s.wc u).partn (noteWritten r s.wc u).gl.part).wc = s.wc + 1
    rw [part', noted]
  case wcount => rw [only, ← hu]; rfl
  case part => exact part'
  case bytes => rw [mem, bytes]
  case kept => rw [mem]; exact kept
  case trig => intro h; rw [noted, if_pos h]
  case mark => intro m hm; rw [noteWritten_mark r s.wc u hm, part]
  case others =>
    intro p hp
    rw [noteWritten_partn_other _ _ _ (part ▸ hp), ← hu]
    exact recordStored_partn_other _ _ hp
  case recorded => rw [only, ← hu]; rfl

/-! ## PAD to the end of the block (R271) -/

/-- The position after the block that the partition being written has reached. -/
def State.blockEnd (s : State) : Nat := (s.wc + 31) / 32 * 32

/-- `t` is `s` with PAD at every position up to the end of the block: those bytes, the count of positions of the partition being
written and the count of records differ, and the trace, nothing else. -/
structure Padded (s t : State) : Prop where
  gl : t.gl = { s.gl with mem := t.gl.mem, parts := t.gl.parts, wcount := t.gl.wcount }
  partn : t.partn s.gl.part = { s.partn s.gl.part with wc := s.blockEnd }
  kept : ∀ a, (∀ k, s.wc ≤ k → k < s.blockEnd → a < s.recAddr s.gl.part k ∨ s.recAddr s.gl.part k + 8 ≤ a) →
    t.gl.mem.read a = s.gl.mem.read a
  pads : ∀ k, s.wc ≤ k → k < s.blockEnd → Memory.readAll 8 t.gl.mem (s.recAddr s.gl.part k) = recBytes padRec
  recorded : Recorded s t

/-- At the end of a block there is nothing to fill. -/
theorem Padded.full {s : State} (h : s.wc % 32 = 0) : Padded s s where
  gl := rfl
  partn := by
    have e : s.blockEnd = s.wc := by unfold State.blockEnd; omega
    rw [e]
    rfl
  kept _ _ := rfl
  pads k h1 h2 := by unfold State.blockEnd at h2; omega
  recorded := .refl s

/-- One PAD recordStored, and then the rest of them. -/
theorem Padded.cons {s t : State} (hk : s.wc % 32 ≠ 0) (h : Padded (recordStored padRec s.gl.mem s) t) : Padded s t := by
  generalize hu : recordStored padRec s.gl.mem s = u at h
  have wc : u.wc = s.wc + 1 := by rw [← hu]; exact recordStored_wc _ _
  have part : u.gl.part = s.gl.part := by rw [← hu]; rfl
  have addr : u.recAddr = s.recAddr := by rw [← hu]; rfl
  have till : u.blockEnd = s.blockEnd := by unfold State.blockEnd; rw [wc]; omega
  have gl := h.gl
  have partn := h.partn
  have kept := h.kept
  have pads := h.pads
  rw [wc, part, addr, till] at kept pads
  rw [part, till] at partn
  obtain ⟨b, hb⟩ := recAddr_in_block s s.gl.part
  constructor
  case gl => rw [gl, ← hu]; rfl
  case partn => rw [partn, ← hu, recordStored_partn]
  case kept =>
    intro a ha
    rw [kept a fun k h1 h2 => ha k (by omega) h2, ← hu]
    exact recordStored_read_other _ _ (ha s.wc (by omega) (by unfold State.blockEnd; omega))
  case pads =>
    intro k h1 h2
    by_cases he : k = s.wc
    · subst he
      rw [← recordStored_readAll (s := s) padRec s.gl.mem, hu]
      refine Memory.readAll_congr fun c hc hn => kept c fun j h3 h4 => .inl ?_
      unfold State.blockEnd at h4
      have block : j / 32 = s.wc / 32 := by omega
      rw [hb, block]
      rw [hb] at hn
      omega
    · exact pads k (by omega) h2
  case recorded => exact Recorded.trans (by rw [← hu]; rfl) h.recorded

theorem padBlock_padded : ∀ (n : Nat) (s : State), s.blockEnd ≤ s.wc + n → Padded s (padBlock n s)
  | 0, s, h => .full (by unfold State.blockEnd at h; omega)
  | n + 1, s, h => by
    show Padded s (if s.wc % 32 = 0 then s else padBlock n (putRecord padRec s))
    by_cases hk : s.wc % 32 = 0
    · rw [if_pos hk]
      exact .full hk
    · rw [if_neg hk, putRecord_inside padRec (by omega)]
      refine Padded.cons hk (padBlock_padded n _ ?_)
      unfold State.blockEnd at *
      rw [recordStored_wc]
      omega

/-! ## CAPTURE_DONE (R271) -/

/-- The partition being written is full up to its block, and HELD. -/
def partHeld (s : State) : State := updPart s.gl.part (fun x => { x with state := 2 }) (padBlock 32 s)

theorem padBlock_whole (s : State) : Padded s (padBlock 32 s) := padBlock_padded 32 s (by unfold State.blockEnd; omega)

theorem partHeld_partn (s : State) : (partHeld s).partn s.gl.part = { s.partn s.gl.part with state := 2, wc := s.blockEnd } := by
  unfold partHeld
  rw [updPart_partn_same, (padBlock_whole s).partn]

theorem partHeld_gl (s : State) : (partHeld s).gl = { s.gl with
    mem := (padBlock 32 s).gl.mem, parts := (partHeld s).gl.parts, wcount := (partHeld s).gl.wcount } := by
  have h := (padBlock_whole s).gl
  unfold partHeld updPart
  rw [h]

theorem partHeld_recorded (s : State) : Recorded s (partHeld s) := (padBlock_whole s).recorded.trans (.of_gl _ _)

/-- A capture that has reached T + POST leaves its partition HELD, and stops, or with REARM = 1 goes on elsewhere. -/
theorem captureDone_captured {s : State} (h : s.captured = true) : captureDone s =
    if bit s.gl.cfg 9 then
      rearm (raise 97 { partHeld s with gl := { (partHeld s).gl with state := .rearm, ev98 := false, ev99 := false } })
    else raise 97 (stopWriting .done (partHeld s)) := by
  have hp : (padBlock 32 s).gl.part = s.gl.part := by rw [(padBlock_whole s).gl]
  have hc : (partHeld s).gl.cfg = s.gl.cfg := by rw [partHeld_gl]
  unfold captureDone
  rw [h, ← hc]
  unfold partHeld
  rw [← hp]
  rfl

theorem freePart_free {s : State} {p : Nat} (h : s.freePart = some p) : (s.partn p).state = 0 := by
  unfold State.freePart at h
  simpa using List.find?_some h

section
variable (s : State)

theorem rearm_recorded : Recorded s (rearm s) := by
  unfold rearm
  split <;> rfl

theorem rearm_ev : (rearm s).ev = s.ev := by
  unfold rearm
  split <;> rfl

theorem rearm_state : (rearm s).gl.state = .rearm := by
  unfold rearm
  split <;> rfl

/-- A re-arm takes a FREE partition only. -/
theorem rearm_partn {p : Nat} (h : (s.partn p).state ≠ 0) : (rearm s).partn p = s.partn p := by
  unfold rearm
  split
  · rename_i q hq
    exact updPart_partn_other _ _ fun e => h (e ▸ freePart_free hq)
  · rfl

end

theorem captureDone_recorded (s : State) : Recorded s (captureDone s) := by
  by_cases h : s.captured = true
  · rw [captureDone_captured h]
    split
    · exact (partHeld_recorded s).trans (((Recorded.of_gl _ _).trans (raise_said 97 _).recorded).trans (rearm_recorded _))
    · exact (partHeld_recorded s).trans ((Recorded.of_gl _ _).trans (raise_said 97 _).recorded)
  · unfold captureDone
    rw [if_pos (by simpa using h)]
    exact .refl s

/-- `t` is `s` after the partition being written was filled up to its block and HELD, and event 97 raised. -/
structure Captured (s t : State) : Prop where
  partn : t.partn s.gl.part = { s.partn s.gl.part with state := 2, wc := s.blockEnd }
  mem : t.gl.mem = (padBlock 32 s).gl.mem
  done : bit s.gl.cfg 9 = false → t.gl.state = .done ∧ t.gl.writing = false
  rearmed : bit s.gl.cfg 9 = true → t.gl.state = .rearm
  latched : (t.ev.get 97).latched = true

theorem captureDone_ends {s : State} (h : s.captured = true) : Captured s (captureDone s) := by
  have mem : (partHeld s).gl.mem = (padBlock 32 s).gl.mem := by rw [partHeld_gl]
  have partn := partHeld_partn s
  rw [captureDone_captured h]
  cases hr : bit s.gl.cfg 9
  · rw [if_neg (by decide)]
    have said := raise_said 97 (stopWriting .done (partHeld s))
    constructor
    case partn => rw [said.partn]; exact partn
    case mem => rw [said.mem]; exact mem
    case done => intro _; rw [said.gl]; exact ⟨rfl, rfl⟩
    case rearmed => intro h; cases hr.symm.trans h
    case latched => exact raises_latched _ (by simp)
  · rw [if_pos rfl]
    generalize hu : { partHeld s with gl := { (partHeld s).gl with state := GlState.rearm, ev98 := false, ev99 := false } } = u
    have said := raise_said 97 u
    have partn' : (raise 97 u).partn s.gl.part = { s.partn s.gl.part with state := 2, wc := s.blockEnd } := by
      rw [said.partn, ← hu]
      exact partn
    constructor
    case partn => rw [rearm_partn _ (by rw [partn']; exact (by decide : (2 : Nat) ≠ 0)), partn']
    case mem => rw [rearm_mem, said.mem, ← hu]; exact mem
    case done => intro h; cases hr.symm.trans h
    case rearmed => intro _; exact rearm_state _
    case latched => rw [rearm_ev]; exact raises_latched _ (by simp)

/-- Settles O44: the writer stores the record, a BASE or PAD at the next position, and a capture that ends is filled with PAD up
to its block. -/
theorem recordsReachMemory : Obligations.RecordsReachMemory := by
  refine ⟨fun s r rs hl hb hw hc hk hn h0 => ?_, fun s r rs hl hb hw hc hk h0 => ?_, fun s r rs hl hb hw hc hk hn => ?_,
    fun s hl h => ?_, fun s hl hw hs hp => ?_, fun s hl hc => ?_⟩
  · have w := writeOne_written hb hw hc hk hn h0
    refine Completes.of_kept (f := writeOne) rfl rfl hl w.recorded.pending ?_
    have wc := w.wc
    unfold State.wc at wc
    rw [w.part] at wc
    exact ⟨w.buf, wc, w.wcount, w.bytes, w.kept, w.trig, w.mark, w.others, w.recorded⟩
  · have b := putRecord_begins (baseRec (s.baseFor r).1 ((s.baseFor r).2 / 2 ^ 16)) hk
    refine Completes.of_effect (f := writeOne) rfl rfl hl (writeOne_opens hb hw hc hk h0) b.recorded.pending ?_
    exact ⟨rfl, rfl, b.wc, b.bytes, b.kept, b.others, b.recorded.trans (.of_gl _ _)⟩
  · refine Completes.of_effect (f := writeOne) rfl rfl hl (writeOne_pads hb hw hc hk hn) rfl ?_
    exact ⟨hb, rfl, congrArg Part.wc (recordStored_partn _ _), recordStored_readAll _ _,
      fun a h => recordStored_read_other _ _ h, rfl⟩
  · exact exec_of_act (f := writeOne) rfl rfl hl (by rw [writeOne_idle h])
  · exact exec_of_act (f := captureReady) rfl rfl hl (by rw [captureReady, if_pos ⟨hw, hs, hp⟩])
  · have done := captureDone_ends hc
    have recorded := captureDone_recorded s
    have padded := padBlock_whole s
    refine Completes.of_kept (f := captureDone) rfl rfl hl recorded.pending ?_
    rw [done.partn, done.mem]
    exact ⟨rfl, rfl, done.done, done.rearmed, padded.kept, padded.pads, done.latched, recorded⟩

end Sys2Proof.Machine
end

section
/-!
PROOFS. Arming the Gallery, DISARM, MARK_SET and the sources of records (chapter 10).
-/
namespace Sys2Proof.Machine

/-! ## ARM (R266, R346) -/

section
variable {s : State} {tk : Ticket} {p : List Byte}

theorem armOwn_refused {a : Answer} (h : s.armFails (pNat p 0 8) (pNat p 8 8) = some a) : armOwn tk p s = reply s a := by
  unfold armOwn
  simp only [h]

/-- An ARM that nothing refuses takes the free partition with the PRE and POST of its payload. -/
theorem armOwn_arms {q : Nat} (h : s.armFails (pNat p 0 8) (pNat p 8 8) = none) (hq : s.freePart = some q) :
    armOwn tk p s = reply (armPart q { s with gl := { s.gl with pre := pNat p 0 8, post := pNat p 8 8 } })
      (.okWith ([BitVec.ofNat 8 q, 0, 0, 0] ++ beBytes 8 s.pSize)) := by
  have free : State.freePart { s with gl := { s.gl with pre := pNat p 0 8, post := pNat p 8 8 } } = some q := hq
  unfold armOwn
  simp only [h, free]
  rfl

theorem armPart_partn (q : Nat) (s : State) :
    (armPart q s).partn q = { freshPart q with state := 1, pre := s.gl.pre, post := s.gl.post } := updPart_partn_same _ _ _

theorem armPart_partn_other {q r : Nat} (s : State) (h : r ≠ q) : (armPart q s).partn r = s.partn r :=
  updPart_partn_other _ _ h

end

/-! ## The end of writing (R272) -/

theorem putRecord_recorded (w : W64) (s : State) : Recorded s (putRecord w s) := by
  by_cases h : s.wc % 512 = 0
  · exact (putRecord_begins w h).recorded
  · rw [putRecord_inside w h]
    rfl

theorem noteWritten_recorded (r : GRec) (k : Nat) (s : State) : Recorded s (noteWritten r k s) := by
  rw [noteWritten_only]
  rfl

theorem writeOne_recorded (s : State) : Recorded s (writeOne s) := by
  unfold writeOne
  split
  · exact .refl s
  · dsimp only
    split
    · exact .refl s
    · split
      · exact (putRecord_recorded _ s).trans (.of_gl _ _)
      · split
        · exact putRecord_recorded _ s
        · split
          · rfl
          · exact ((Recorded.of_gl _ s).trans (putRecord_recorded _ _)).trans (noteWritten_recorded _ _ _)

theorem drain_recorded : ∀ (n : Nat) (s : State), Recorded s (drain n s)
  | 0, s => .refl s
  | n + 1, s => by
    unfold drain
    split
    · exact .refl s
    · split
      · exact (captureDone_recorded s).trans (drain_recorded n _)
      · exact (writeOne_recorded s).trans (drain_recorded n _)

theorem padBlock_recorded (s : State) : Recorded s (padBlock 32 s) := (padBlock_whole s).recorded

/-- However writing ends, it ends in IDLE with nothing waiting; the Gallery alone was at work. -/
theorem endWriting_stops {s : State} (h : s.gl.state ≠ .out) : ∃ u, Recorded s u ∧ endWriting s = stopWriting .idle u := by
  have drained : Recorded s (captureDone (drain s.drainBound s)) := (drain_recorded _ s).trans (captureDone_recorded _)
  unfold endWriting
  rw [if_neg h]
  split
  · exact ⟨s, .refl s, rfl⟩
  · dsimp only
    split
    · exact ⟨_, drained, rfl⟩
    · exact ⟨_, (drained.trans (padBlock_recorded _)).trans (.of_gl _ _), rfl⟩

theorem endWriting_unwritten {s : State} (h : s.gl.state ≠ .out) (hw : s.gl.writing = false) :
    endWriting s = stopWriting .idle s := by
  unfold endWriting
  rw [if_neg h, hw]
  rfl

theorem disarm_completes {s : State} {m : Nat} (ht : Takes s m 0x0804 []) (hs : s.gl.state ≠ .out) :
    Completes (.disarm m) s (fun t => Said (endWriting s) t ∧
      Answered m (.okWith [if s.gl.writing then BitVec.ofNat 8 (endWriting s).gl.part else 0xFF, 0, 0, 0]) t) := by
  obtain ⟨u, recorded, e⟩ := endWriting_stops hs
  exact Completes.of_lodge (row := anyRow) (len := fun p => p.isEmpty) (mode := anyMode) (own := disarmOwn) rfl ht rfl rfl rfl
    rfl (by rw [e]; exact recorded.pending)

/-! ## MARK_SET (R274, R348) -/

/-- With nothing held, MARK_SET is a command of the Lodge as any other. -/
theorem markSet_released {s : State} {m : Nat} (h : s.gl.holding = false) : exec (.markSet m) s =
    act (m < 32) (lodge m 0x0805 anyRow (fun p => p.length == 4) anyMode markSetOwn) s := by
  show execMarkSet m s = _
  unfold execMarkSet act
  simp only [h, Bool.false_eq_true, if_false]

theorem markSet_completes {s u : State} {m : Nat} {p : List Byte} {a : Answer} (ht : Takes s m 0x0805 p) (hlen : p.length = 4)
    (hh : s.gl.holding = false) (ho : markSetOwn (s.ticket m) p s = reply u a) (hp : u.pending = s.pending) :
    Completes (.markSet m) s (fun t => Said u t ∧ Answered m a t) :=
  Completes.of_lodge (markSet_released hh) ht rfl (beq_iff_eq.mpr hlen) rfl ho hp

section
variable {s : State} {tk : Ticket} {p : List Byte}

theorem markSetOwn_badarg (h : 15 < pByte p 0) : markSetOwn tk p s = reply s (.badarg 0) := if_pos h

theorem markSetOwn_stale (h : pByte p 0 ≤ 15) (hw : s.gl.writing = false) : markSetOwn tk p s = reply s (.plain .stale) := by
  unfold markSetOwn
  rw [hw]
  exact if_neg (Nat.not_lt.mpr h)

/-- The record that MARK_SET `m` hands to the writer. -/
def State.markHanded (s : State) (m : Nat) : GRec := { timed s (markRec m s.tb.coarse) s.tb.coarse with mark := some m }

/-- The state in which the record of mark `m` is the only one handed. -/
def State.markQueued (s : State) (m : Nat) : State :=
  { s with gl := { s.gl with marks := s.gl.marks.filter (fun x => x.1 ≠ m), buf := [s.markHanded m] } }

/-- A MARK record is not the empty word that opens an epoch. -/
theorem markRec_ne_zero (m : Nat) (c : Coarse) : markRec m c ≠ 0 := by
  intro e
  have e : (markRec m c).toNat = 0 := by rw [e]; rfl
  unfold markRec tagOf put at e
  rw [BitVec.toNat_ofNat] at e
  have hc := Nat.mod_lt c.toNat (Nat.two_pow_pos 39)
  omega

theorem drain_nothing {n : Nat} {s : State} (h : s.gl.buf = []) : drain n s = s := by
  cases n with
  | zero => rfl
  | succ n => exact if_pos (by rw [h]; simp)

/-- The only record handed is written at once. -/
theorem drain_written {n : Nat} {r : GRec} (hb : s.gl.buf = [r]) (hw : s.gl.writing = true) (hc : s.captured = false)
    (h : (writeOne s).gl.buf = []) : drain (n + 1) s = writeOne s := by
  show (if _ then _ else drain n (if s.captured then _ else writeOne s)) = _
  rw [hb, hw, hc, if_neg (by simp), if_neg (by simp), drain_nothing h]

/-- MARK_SET answers the position that its mark names once every record handed is written. -/
theorem markSetOwn_marks {u : State} (h : pByte p 0 ≤ 15) (hw : s.gl.writing = true) (hb : s.gl.buf = [])
    (hh : s.gl.holding = false) {q k : Nat}
    (hd : drain (s.markQueued (pByte p 0)).drainBound (s.markQueued (pByte p 0)) = u)
    (hm : u.mark (pByte p 0) = some (q, k)) :
    markSetOwn tk p s = reply u (.okWith ([BitVec.ofNat 8 q, 0, 0, 0] ++ beBytes 8 k)) := by
  have handed : hand (s.markHanded (pByte p 0))
      { s with gl := { s.gl with marks := s.gl.marks.filter (fun x => x.1 ≠ pByte p 0) } } = s.markQueued (pByte p 0) := by
    unfold hand State.markQueued
    simp [hw, hb, hh]
  refine (if_neg (Nat.not_lt.mpr h)).trans ((if_neg (by simp [hw])).trans ?_)
  extract_lets _ _ v w
  have hv : v = s.markQueued (pByte p 0) := handed
  have drained : w = u := by rw [← hd, ← hv]
  rw [drained, hm]

end

/-! ## EVT_RECORD_SLOT and EPOCH_HOLD_RELEASE (R259, R262) -/

section
variable {s : State}

/-- A record handed while nothing is held and the write buffer has room joins the buffer. -/
theorem hand_buffered (r : GRec) (hw : s.gl.writing = true) (hh : s.gl.holding = false) (hb : s.gl.buf.length < 65535) :
    hand r s = { s with gl := { s.gl with buf := s.gl.buf ++ [r] } } := by
  unfold hand
  simp [hw, hh, Nat.not_le.mpr hb]

theorem evtRecordSlot_hands {n occ : Nat} {c : Coarse} (he : s.nextEvt = some (n, (occ, c))) (hw : s.gl.writing = true)
    (hh : s.gl.holding = false) (hb : s.gl.buf.length < 65535) : evtRecordSlot s = { s with gl := { s.gl with
      evts := Tab.erase s.gl.evts n, evtNext := (n + 1) % 512, buf := s.gl.buf ++ [timed s (evtRec n occ c) c] } } := by
  unfold evtRecordSlot
  rw [hw, if_neg (by decide), he]
  exact hand_buffered _ hw hh hb

theorem evtRecordSlot_none (h : s.nextEvt = none) : evtRecordSlot s = s := by
  unfold evtRecordSlot
  rw [h]
  exact ite_self s

theorem epochHoldRelease_hands (hh : s.gl.holding = true) (hb : s.gl.buf.length + s.gl.hold.length < 65536) :
    epochHoldRelease s = { s with gl := { s.gl with
      holding := false, hold := []
      buf := s.gl.buf ++ { word := 0, time := none, epoch := s.tb.epoch, mark := none, trig := false } :: s.gl.hold } } := by
  unfold epochHoldRelease
  rw [if_pos hh]
  refine if_neg ?_
  simp only [List.length_append, List.length_cons]
  omega

end

/-- Settles O45: ARM and DISARM answer what their own rules yield, the one record of a MARK_SET is written at once, and the slot
and the release hand records to the write buffer. -/
theorem armingAndMarking : Obligations.ArmingAndMarking := by
  refine ⟨fun s m p q ht hlen hm ha hq => ?_, fun s m p a ht hlen hm ha => ?_, fun s m ht hs => ?_, fun s m ht hw hs => ?_,
    fun s m p ht hlen hh h => ?_, fun s m p ht hlen hh h hw => ?_, fun s m p ht hlen hh h hw hc hb hk hn => ?_,
    fun s m hl hm hh => ?_, fun s n occ c hl he hw hh hb => ?_, fun s hl he => ?_, fun s hl hh hb => ?_⟩
  · refine (Completes.of_lodge (row := anyRow) (len := fun p => p.length == 16) (mode := watchMode) rfl ht rfl
      (beq_iff_eq.mpr hlen) hm (armOwn_arms ha hq) rfl).mono fun t ⟨said, answered⟩ => ?_
    have gl := said.gl
    refine ⟨congrArg Gallery.part gl, congrArg Gallery.writing gl, congrArg Gallery.state gl, congrArg Gallery.buf gl,
      congrArg Gallery.base gl, said.mem, ?_, ?_, ?_, answered⟩
    · rw [said.partn]; exact armPart_partn q _
    · intro r hr; rw [said.partn]; exact armPart_partn_other _ hr
    · exact (Recorded.of_gl _ s).trans said.recorded
  · exact Completes.of_lodge (row := anyRow) (len := fun p => p.length == 16) (mode := watchMode) rfl ht rfl
      (beq_iff_eq.mpr hlen) hm (armOwn_refused ha) rfl
  · obtain ⟨u, recorded, e⟩ := endWriting_stops hs
    refine (disarm_completes ht hs).mono fun t ⟨said, _⟩ => ?_
    rw [e] at said
    have gl := said.gl
    exact ⟨congrArg Gallery.state gl, congrArg Gallery.writing gl, congrArg Gallery.buf gl, congrArg Gallery.hold gl,
      (recorded.trans (.of_gl _ u)).trans said.recorded⟩
  · refine (disarm_completes ht hs).mono fun t ⟨said, answered⟩ => ?_
    rw [endWriting_unwritten hs hw] at said
    rw [hw] at answered
    have gl := said.gl
    exact ⟨said.mem, (congrArg Gallery.parts gl :), answered⟩
  · exact markSet_completes ht hlen hh (markSetOwn_badarg h) rfl
  · exact markSet_completes ht hlen hh (markSetOwn_stale h hw) rfl
  · have w : RecordWritten (s.markHanded (pByte p 0)) [] (s.markQueued (pByte p 0)) (writeOne (s.markQueued (pByte p 0))) :=
      writeOne_written rfl hw hc hk hn (markRec_ne_zero _ _)
    have mark := w.mark (pByte p 0) rfl
    have recorded : Recorded s (writeOne (s.markQueued (pByte p 0))) := (Recorded.of_gl _ s).trans w.recorded
    have own := markSetOwn_marks (tk := s.ticket m) h hw hb hh (drain_written rfl hw hc w.buf) mark
    refine (markSet_completes ht hlen hh own recorded.pending).mono fun t ⟨said, answered⟩ => ?_
    rw [said.mark, said.mem]
    exact ⟨mark, answered, w.bytes, w.kept, recorded.trans said.recorded⟩
  · refine exec_of_act (f := fun s => if s.gl.holding then s else _) rfl (decide_eq_true hm) hl ?_
    rw [if_pos hh]
  · exact exec_of_act (f := evtRecordSlot) rfl rfl hl (by rw [evtRecordSlot_hands he hw hh hb])
  · exact exec_of_act (f := evtRecordSlot) rfl rfl hl (by rw [evtRecordSlot_none he])
  · exact exec_of_act (f := epochHoldRelease) rfl rfl hl (by rw [epochHoldRelease_hands hh hb])

end Sys2Proof.Machine
end

section
/-!
PROOFS. The Gallery's memory channels (chapter 10): training, checks, retirement and the STREAM.
-/
namespace Sys2Proof.Machine

/-! ## Faults that a commit leaves outstanding (R375, R408) -/

/-- Every outstanding fault but those of unreadable words stays outstanding. -/
def KeepsFaults (s t : State) : Prop := ∀ f ∈ s.av.outst, f.code ≠ 0x0701 → f ∈ t.av.outst

theorem KeepsFaults.trans {s t u : State} (h : KeepsFaults s t) (k : KeepsFaults t u) : KeepsFaults s u :=
  fun f hf hc => k f (h f hf hc) hc

theorem KeepsFaults.of_same {s t : State} (h : t.av.outst = s.av.outst) : KeepsFaults s t := fun f hf _ => by
  rw [h]
  exact hf

theorem KeepsFaults.refl (s : State) : KeepsFaults s s := .of_same rfl

section
variable (s : State)

theorem KeepsFaults.of_ps (p : PStore) : KeepsFaults s { s with ps := p } := .of_same rfl

theorem raises_keepsFaults (ns : List Nat) : KeepsFaults s (raises ns s) := .of_same (raises_outst ns s)

/-- Faults that are found join those that are outstanding (R409). -/
theorem detects_keepsFaults (fs : List Found) : KeepsFaults s (detects fs s) := by
  intro f hf _
  unfold detects
  split
  · exact hf
  · dsimp only [settle]
    rw [raises_outst]
    dsimp only
    rw [(Avail.notes_noted (fun f : Found => logEntry s f.id f.action (if f.stays then 0 else 2)) fs _).outst]
    exact List.mem_append_left _ hf

theorem findUnreadable_keepsFaults (a : Nat) : KeepsFaults s (findUnreadable a s) := by
  unfold findUnreadable
  dsimp only
  split
  · exact .refl s
  · exact (KeepsFaults.of_ps s _).trans ((raises_keepsFaults _ [116]).trans (detects_keepsFaults _ _))

theorem checkWord_keepsFaults (a : Nat) (r : ReadResult) : KeepsFaults s (checkWord a r s) := by
  unfold checkWord
  split
  · exact .refl s
  · split
    · exact .refl s
    · exact .of_ps s _
  · exact findUnreadable_keepsFaults s a

theorem checkRead_keepsFaults (a : Nat) : KeepsFaults s (checkRead a s) := by
  unfold checkRead
  split
  · exact (KeepsFaults.of_ps s _).trans (checkWord_keepsFaults (clearUpset a s) a _)
  · exact .refl s

theorem intoSpare_keepsFaults : ∀ (n a : Nat) (v : W32) (s : State), KeepsFaults s (intoSpare n a v s).2
  | 0, _, _, s => .refl s
  | n + 1, a, v, s => by
    unfold intoSpare
    dsimp only
    split
    · exact .refl s
    · split
      · exact (KeepsFaults.of_ps s _).trans (raises_keepsFaults _ _)
      · exact (KeepsFaults.of_ps s _).trans ((raises_keepsFaults _ _).trans (intoSpare_keepsFaults n a v _))

theorem refuseWrite_keepsFaults (a : Nat) (old : W32) : KeepsFaults s (refuseWrite a old s) := by
  unfold refuseWrite
  dsimp only
  refine KeepsFaults.trans ?_ (raises_keepsFaults _ [115])
  split
  · exact .of_ps s _
  · exact (KeepsFaults.of_ps s _).trans (findUnreadable_keepsFaults _ a)

/-- The end of an unreadable word's fault ends no other. -/
theorem repairWord_keepsFaults (a action : Nat) : KeepsFaults s (repairId (wordFault a) action s) := by
  intro f hf hc
  unfold repairId
  split
  · simp only [settle, raise, raises_outst, Avail.note_outst]
    exact List.mem_filter.mpr ⟨hf, decide_eq_true fun e => hc (by rw [e]; rfl)⟩
  · exact hf

theorem committed_keepsFaults (a : Nat) (was : Bool) : KeepsFaults s (committed a was s) := by
  unfold committed
  split
  · exact repairWord_keepsFaults s a 0
  · exact .refl s

theorem writeWord_keepsFaults (a : Nat) (v : W32) : KeepsFaults s (writeWord a v s).2 := by
  unfold writeWord
  dsimp only
  split
  · exact (KeepsFaults.of_ps s _).trans (committed_keepsFaults _ a _)
  · split
    · exact (KeepsFaults.of_ps s _).trans ((intoSpare_keepsFaults 4096 a v _).trans (committed_keepsFaults _ a _))
    · exact (KeepsFaults.of_ps s _).trans ((intoSpare_keepsFaults 4096 a v _).trans (refuseWrite_keepsFaults _ a _))

theorem commitOwn_keepsFaults (a : Nat) (v : W32) : KeepsFaults s (commitOwn a v s) := by
  unfold commitOwn commit
  dsimp only
  refine (checkRead_keepsFaults s a).trans ?_
  split
  · exact committed_keepsFaults _ a false
  · exact writeWord_keepsFaults _ a v

end

/-- A memory fault that is found stays outstanding through the commit that follows. -/
theorem commitOwn_outstanding {code unit : Nat} {s : State} (h : s.outstanding code unit = true) (hc : code ≠ 0x0701) (a : Nat)
    (v : W32) : (commitOwn a v s).outstanding code unit = true :=
  List.contains_iff_mem.mpr (commitOwn_keepsFaults s a v _ (List.contains_iff_mem.mp h) hc)

/-! ## The STREAM and the partitions (R277, R278) -/

section
variable (s : State)

/-- However a STREAM ends, its end is said, and no STREAM runs. -/
theorem endStream_said (st : Status) : Said { s with gl := { s.gl with stream := none } } (endStream st s) := by
  unfold endStream
  split
  · exact complete_said _ _ _
  · rename_i h
    rw [← h]
    exact .refl s

/-- The Gallery once writing has ended, every partition is FREE, every mark is invalid and no STREAM runs. -/
def Gallery.cleared (g : Gallery) : Gallery :=
  { g with
    state := .idle, writing := false, buf := [], hold := [], holding := false, evts := [], marks := []
    parts := Tab.remap freshPart (fun _ x => { x with state := 0 }) g.parts, stream := none }

theorem clearPartitions_said : Said { s with gl := s.gl.cleared } (clearPartitions s) := by
  unfold clearPartitions
  extract_lets lost free _ u
  have raised := raiseIf_said lost 100 u
  refine Said.trans ?_ (endStream_said (raiseIf lost 100 u) .fault)
  rw [raised]
  rfl

theorem clearPartitions_recorded : Recorded s (clearPartitions s) := (Recorded.of_gl _ s).trans (clearPartitions_said s).recorded

/-- Every partition is FREE. -/
theorem Gallery.cleared_partn {t : State} (h : t.gl.parts = s.gl.cleared.parts) (p : Nat) : (t.partn p).state = 0 := by
  unfold State.partn
  rw [h]
  rcases Tab.get_remap freshPart (fun _ x => { x with state := 0 }) s.gl.parts p with e | ⟨x, e⟩
  · exact congrArg Part.state e
  · exact congrArg Part.state e

/-! ## Out of service, and retirement (R252, R278) -/

theorem outOfService_said : Said { s with gl := { s.gl.cleared with state := .out } } (outOfService s) := by
  refine Said.trans ?_ (raise_said 103 _)
  rw [clearPartitions_said s]
  rfl

theorem outOfService_latched : ((outOfService s).ev.get 103).latched = true := raises_latched _ (by simp)

variable {s}

/-- A Gallery that writes nothing stays unarmed as a channel leaves the rotation. -/
theorem leaveRotation_unwritten {c : Nat} (h : s.gl.writing = false) : ∃ st, leaveRotation c s =
    raise 101 { clearPartitions s with gl := { (clearPartitions s).gl with retired := some c, state := st } } := by
  unfold leaveRotation
  rw [h]
  exact ⟨_, rfl⟩

theorem leaveRotation_said {c : Nat} (h : s.gl.writing = false) : ∃ st,
    Said { s with gl := { s.gl.cleared with retired := some c, state := st } } (leaveRotation c s) := by
  obtain ⟨st, e⟩ := leaveRotation_unwritten (c := c) h
  refine ⟨st, ?_⟩
  rw [e]
  refine Said.trans ?_ (raise_said 101 _)
  rw [clearPartitions_said s]
  rfl

theorem leaveRotation_latched {c : Nat} (h : s.gl.writing = false) : ((leaveRotation c s).ev.get 101).latched = true := by
  obtain ⟨st, e⟩ := leaveRotation_unwritten (c := c) h
  rw [e]
  exact raises_latched _ (by simp)

/-- The first faulty channel leaves the rotation. -/
theorem memFault_first {c : Nat} (h : s.gl.retired = none) : ∃ v, Stored s v ∧ memFault c s = leaveRotation c v := by
  unfold memFault
  rw [h]
  exact ⟨_, (detect_stored _ _ _ _ s).trans (commitOwn_stored _ _ _), rfl⟩

/-- The second one is outstanding, and puts the Gallery out of service. -/
theorem memFault_second {c r : Nat} (h : s.gl.retired = some r) (hr : r ≠ c) (ho : s.gl.state ≠ .out) :
    ∃ v, v.outstanding 0x0602 c = true ∧ memFault c s = outOfService v := by
  unfold memFault
  rw [h]
  exact ⟨_, commitOwn_outstanding (detect_outstanding 0x0602 c 0 s) (by decide) _ _, if_neg (by simp [hr, ho])⟩

/-! ## MEMORY_CHECK (R408) -/

/-- `s` with the failed checks of channel `c` counted from zero again. -/
def State.recounted (c : Nat) (s : State) : State :=
  { s with gl := { s.gl with checks := Tab.put zeros s.gl.checks c 0 } }

section
variable {c : Nat} (ht : s.gl.trained = true) (hf : s.gl.selfRefresh = false) (ho : s.gl.state ≠ .out)
  (hr : s.gl.retired ≠ some c)
include ht hf ho hr

/-- A check that passes clears the channel's count, and a first failure counts. -/
theorem memoryCheck_counts {ok : Bool} (h : ok = true ∨ Tab.get zeros s.gl.checks c = 0) : memoryCheck c ok s =
    { s with gl := { s.gl with checks := Tab.put zeros s.gl.checks c (if ok then 0 else 1) } } := by
  unfold memoryCheck
  rcases h with rfl | h
  · simp [ht, hf, ho, hr]
  · cases ok <;> simp [ht, hf, ho, hr, h]

/-- The second failure in a row is a fault. -/
theorem memoryCheck_faults (h : Tab.get zeros s.gl.checks c = 1) : memoryCheck c false s = memFault c (s.recounted c) := by
  unfold memoryCheck State.recounted
  simp [ht, hf, ho, hr, h]

end

/-! ## MEMORY_TRAINING_END (R252) -/

section
variable {r : Training} (hs : s.th.startup = true) (ht : s.gl.trained = false) (ho : s.gl.state ≠ .out)
include hs ht ho

theorem memoryTrainingEnd_good (hm : r.same = true) (hd : r.density ∈ [2, 4, 8, 16]) (hf : r.failed = []) :
    memoryTrainingEnd r s = { s with gl := { s.gl with trained := true, density := r.density } } := by
  unfold memoryTrainingEnd
  rw [hf, hm, List.contains_iff_mem.mpr hd]
  simp [hs, ht, ho]

theorem memoryTrainingEnd_differs (hm : r.same = false) :
    memoryTrainingEnd r s = outOfService { s with gl := { s.gl with trained := true } } := by
  unfold memoryTrainingEnd
  simp [hs, ht, ho, hm]

end

/-! ## MR4_READ, REFRESH and ZQ_CALIBRATION (R253) -/

theorem mr4Read_hot {hot : Bool} (hh : hot = true) (ht : s.gl.trained = true) (hf : s.gl.selfRefresh = false) :
    mr4Read hot s = raise 104 s := if_pos (by rw [hh, ht, hf]; rfl)

theorem mr4Read_cool {hot : Bool} (h : hot = false ∨ s.gl.trained = false ∨ s.gl.selfRefresh = true) : mr4Read hot s = s :=
  if_neg (by rcases h with h | h | h <;> simp [h])

/-- A command without effect changes nothing, of a live part or of one held in reset. -/
theorem act_same (s : State) : act true (fun s => s) s = .next s := by
  unfold act
  rw [if_pos rfl, ite_self]

/-! ## CAP_READ_STREAM_END and GL_WCOUNT_LO_READ (R277, R280) -/

theorem streamEnd_ends {x : Stream} (hx : s.gl.stream = some x) (h : x.left = 0 ∨ x.lost = true) :
    ∃ st, streamEnd s = endStream st s := by
  unfold streamEnd
  rw [hx]
  dsimp only
  split
  · exact ⟨_, rfl⟩
  · rename_i hl
    exact ⟨_, if_pos (h.resolve_left hl)⟩

theorem streamEnd_runs {x : Stream} (hx : s.gl.stream = some x) (hl : x.left ≠ 0) (h : x.lost = false) : streamEnd s = s := by
  unfold streamEnd
  rw [hx]
  exact (if_neg hl).trans (if_neg (by simp [h]))

theorem wcount_high (n : W64) : ((n >>> 32).truncate 32).toNat = n.toNat / 2 ^ 32 := by
  have h : n.toNat / 2 ^ 32 < 2 ^ 32 := by omega
  rw [BitVec.truncate_eq_setWidth, BitVec.toNat_setWidth, BitVec.toNat_ushiftRight, Nat.shiftRight_eq_div_pow,
    Nat.mod_eq_of_lt h]

end

/-- Settles O46: training and checks set the count and the density, or take a channel out of rotation, and the other commands
change only what they name. -/
theorem memoryCareAndRetirement : Obligations.MemoryCareAndRetirement := by
  refine ⟨fun s r hl hs ht ho hm hd hf => ?_, fun s r hl hs ht ho hm => ?_, fun s c ok hl hc ht hf ho hr h => ?_,
    fun s c hl hc ht hf ho hr h hw => ?_, fun s c r hl hc ht hf ho hr hrc h => ?_, fun s hot hl hh ht hf => ?_,
    fun s hot hl h => ?_, fun s => ⟨?_, ?_⟩, fun s x hl hx h => ?_, fun s x hl hx hn h => ?_, fun s hl => ?_⟩
  · exact exec_of_act (f := memoryTrainingEnd r) rfl rfl hl (by rw [memoryTrainingEnd_good hs ht ho hm hd hf])
  · have said := outOfService_said { s with gl := { s.gl with trained := true } }
    have gl := said.gl
    exact Completes.of_effect (f := memoryTrainingEnd r) rfl rfl hl (memoryTrainingEnd_differs hs ht ho hm) said.pending
      ⟨congrArg Gallery.state gl, congrArg Gallery.trained gl, congrArg Gallery.writing gl, congrArg Gallery.marks gl,
        outOfService_latched _⟩
  · exact exec_of_act (f := memoryCheck c ok) rfl (decide_eq_true hc) hl (by rw [memoryCheck_counts ht hf ho hr h])
  · have faults := memoryCheck_faults ht hf ho (by rw [hr]; simp) h
    have consumed := memFault_consumed (s.recounted c) c
    have mem := memFault_mem c (s.recounted c)
    obtain ⟨v, stored, leaves⟩ := memFault_first (s := s.recounted c) (c := c) hr
    rw [leaves] at faults consumed mem
    have unwritten : v.gl.writing = false := by rw [stored]; exact hw
    obtain ⟨st, said⟩ := leaveRotation_said (c := c) unwritten
    have gl := said.gl
    refine Completes.of_effect (f := memoryCheck c false) rfl (decide_eq_true hc) hl faults consumed.pending ?_
    exact ⟨congrArg Gallery.retired gl, Gallery.cleared_partn v (congrArg Gallery.parts gl :), congrArg Gallery.marks gl,
      leaveRotation_latched unwritten, mem, consumed.tb, consumed.fl⟩
  · have faults := memoryCheck_faults ht hf ho (by rw [hr]; simpa using hrc) h
    have consumed := memFault_consumed (s.recounted c) c
    obtain ⟨v, found, out⟩ := memFault_second (s := s.recounted c) hr hrc ho
    rw [out] at faults consumed
    have said := outOfService_said v
    refine Completes.of_effect (f := memoryCheck c false) rfl (decide_eq_true hc) hl faults consumed.pending ?_
    refine ⟨congrArg Gallery.state said.gl, ?_, outOfService_latched v, consumed.tb, consumed.fl⟩
    unfold State.outstanding
    rw [said.outst]
    exact found
  · exact Completes.of_effect (f := mr4Read hot) rfl rfl hl (mr4Read_hot hh ht hf) (raise_said 104 s).pending
      ⟨raise_said 104 s, raise_raised 104 s⟩
  · exact exec_of_act (f := mr4Read hot) rfl rfl hl (by rw [mr4Read_cool h])
  · exact act_same s
  · exact act_same s
  · obtain ⟨st, ends⟩ := streamEnd_ends hx h
    have said := endStream_said s st
    exact Completes.of_effect (f := streamEnd) rfl rfl hl ends said.pending said
  · exact exec_of_act (f := streamEnd) rfl rfl hl (by rw [streamEnd_runs hx hn h])
  · exact Completes.of_act (f := latchWcount) rfl rfl hl ⟨rfl, wcount_high _⟩

end Sys2Proof.Machine
end

section
/-!
PROOFS. CAP_READ (chapter 10): what its subcommands answer and change.
-/
namespace Sys2Proof.Machine

/-! ## The rows of CAP_READ (R276, R349, R395) -/

section
variable {s u : State} {m : Nat} {p : List Byte} {a : Answer} (ht : Takes s m 0x0806 p) (hlen : p.length = 12)
  (hmode : s.th.mode ≠ .dormant)
include ht hlen hmode

/-- A CAP_READ that the Lodge takes outside DORMANT completes with what its own rule yields. -/
theorem capRow_completes {i : Instr} {row : List Byte → Bool} (he : exec i s = act (m < 32) (capRow m row) s)
    (hrow : row p = true) (ho : capReadOwn (s.ticket m) p s = reply u a) (hp : u.pending = s.pending) :
    Completes i s (fun t => Said u t ∧ Answered m a t) :=
  Completes.of_lodge he ht hrow (subLen_of_length hlen (by decide)) (bne_iff_ne.mpr hmode) ho hp

end

section
variable {s : State} {tk : Ticket} {p : List Byte}

theorem capReadOwn_info (hs : s.th.startup = false) (h : pByte p 0 = 0) : capReadOwn tk p s = capReadInfo p s := by
  simp [capReadOwn, hs, h]

theorem capReadOwn_read (hs : s.th.startup = false) (h : pByte p 0 = 1) : capReadOwn tk p s = capReadRead p s := by
  simp [capReadOwn, hs, h]

theorem capReadOwn_stream (hs : s.th.startup = false) (h : pByte p 0 = 2) : capReadOwn tk p s = capReadStream tk p s := by
  simp [capReadOwn, hs, h]

theorem capReadOwn_release (hs : s.th.startup = false) (h : pByte p 0 = 3) : capReadOwn tk p s = capRelease p s := by
  simp [capReadOwn, hs, h]

/-! ## INFO (R349) -/

theorem beBytes_length : ∀ n v : Nat, (beBytes n v).length = n
  | 0, _ => rfl
  | n + 1, v => congrArg (· + 1) (beBytes_length n v)

theorem capReadInfo_badarg (h : s.nPart ≤ pByte p 2) : capReadInfo p s = reply s (.badarg 2) := if_pos h

/-- INFO of a partition begins with its state, its count of positions and its oldest retained position. -/
theorem capReadInfo_tells (h : pByte p 2 < s.nPart) : ∃ d, capReadInfo p s = reply s (.okWith d) ∧
    d.take 20 = wBytes (s.partn (pByte p 2)).image ++ beBytes 8 (s.partn (pByte p 2)).wc ++
      beBytes 8 (oldest s.pSize (s.partn (pByte p 2)).wc) := by
  have begins (w : W32) (a b : Nat) (rest : List Byte) :
      (wBytes w ++ beBytes 8 a ++ beBytes 8 b ++ rest).take 20 = wBytes w ++ beBytes 8 a ++ beBytes 8 b :=
    List.take_left' (by simp only [wBytes, List.length_append, beBytes_length])
  refine ⟨_, if_neg (Nat.not_le.mpr h), ?_⟩
  simp only [List.append_assoc]
  rw [← List.append_assoc, ← List.append_assoc, begins]
  simp only [List.append_assoc]

/-! ## READ and STREAM (R276, R277) -/

theorem capReadRead_sends {q k : Nat} (h : capStart s p 168 = .ok (q, k)) :
    capReadRead p s = reply (count 173 (pNat p 8 4) s) (.okWith (s.recordsOut q k (pNat p 8 4))) := by
  unfold capReadRead
  rw [h]

theorem capReadRead_refused {a : Answer} (h : capStart s p 168 = .error a) : capReadRead p s = reply s a := by
  unfold capReadRead
  rw [h]

theorem capReadStream_spi (h : tk.src.path = spiPath) : capReadStream tk p s = reply s (.badarg 0) := if_pos h

theorem capReadStream_busy (h : tk.src.path ≠ spiPath) (hx : s.gl.stream ≠ none) :
    capReadStream tk p s = reply s (.plain .busy) :=
  (if_neg h).trans (if_pos (Option.isSome_iff_ne_none.mpr hx))

theorem capReadStream_starts {q k : Nat} (h : tk.src.path ≠ spiPath) (hk : capStart s p (2 ^ 32 - 1) = .ok (q, k))
    (hx : s.gl.stream = none) : capReadStream tk p s = reply { s with gl := { s.gl with
      stream := some { part := q, pos := k, left := pNat p 8 4, sent := 0, tk := tk, lost := false } } } (.plain .ok) := by
  unfold capReadStream
  rw [if_neg h, hx, hk]
  rfl

/-! ## RELEASE (R275, R276) -/

theorem capRelease_badarg (h : s.nPart ≤ pByte p 2 ∨ (s.partn (pByte p 2)).state ≠ 2) :
    capRelease p s = reply s (.badarg 2) := if_pos h

/-- Partition `q` released: it is FREE, and its marks are gone. -/
def State.released (q : Nat) (s : State) : State :=
  dropMarks (fun m => m.1 == q) (updPart q (fun x => { x with state := 0 }) s)

theorem released_partn (q : Nat) : (s.released q).partn q = { s.partn q with state := 0 } :=
  (updPart_partn_same q (fun x => { x with state := 0 }) s :)

theorem released_partn_other {q r : Nat} (h : r ≠ q) : (s.released q).partn r = s.partn r :=
  (updPart_partn_other (fun x => { x with state := 0 }) s h :)

/-- No mark names a released partition. -/
theorem released_mark (q j k : Nat) : (s.released q).mark j ≠ some (q, k) := by
  intro h
  obtain ⟨x, hx, e⟩ := Option.map_eq_some_iff.mp h
  have kept := (List.mem_filter.mp (List.mem_of_find?_eq_some hx)).2
  rw [e] at kept
  simp at kept

/-- Where no re-arm waits, a RELEASE of a HELD partition does nothing else. -/
theorem capRelease_frees (hq : pByte p 2 < s.nPart) (h2 : (s.partn (pByte p 2)).state = 2)
    (hr : s.gl.state ≠ .rearm ∨ s.gl.writing = true) : capRelease p s = reply (s.released (pByte p 2)) (.plain .ok) := by
  have waits : ¬(s.gl.state = .rearm ∧ s.gl.writing = false) := by
    rintro ⟨hs, hw⟩
    exact hr.elim (· hs) fun h => Bool.noConfusion (hw.symm.trans h)
  refine (if_neg (not_or.mpr ⟨Nat.not_le.mpr hq, fun h => h h2⟩)).trans ?_
  exact congrArg (reply · (.plain .ok)) (if_neg waits)

end

/-- Settles O47: each row of CAP_READ answers what its own rule yields. -/
theorem captureReads : Obligations.CaptureReads := by
  refine ⟨fun s m p ht h0 hlen hm hs hq => ?_, fun s m p ht h0 hlen hm hs hq => ?_, fun s m p q k ht h1 hlen hm hs hk => ?_,
    fun s m p a ht h1 hlen hm hs hk => ?_, fun s m p q k ht h2 hlen hm hs hp hk hx => ?_,
    fun s m p ht h2 hlen hm hs hp hx => ?_, fun s m p ht h2 hlen hm hs hp => ?_, fun s m p ht h3 hlen hm hs hq hh hr => ?_,
    fun s m p ht h3 hlen hm hs h => ?_⟩
  · obtain ⟨d, tells, begins⟩ := capReadInfo_tells hq
    have own := (capReadOwn_info (tk := s.ticket m) hs h0).trans tells
    exact (capRow_completes ht hlen hm rfl (by simp [h0]) own rfl).mono
      fun t ⟨said, answered⟩ => ⟨said, d, answered, begins⟩
  · exact capRow_completes ht hlen hm rfl (by simp [h0]) ((capReadOwn_info hs h0).trans (capReadInfo_badarg hq)) rfl
  · have own := (capReadOwn_read (tk := s.ticket m) hs h1).trans (capReadRead_sends hk)
    exact (capRow_completes ht hlen hm rfl (by simp [h1]) own (count_pending _ _ s)).mono
      fun t ⟨said, answered⟩ => ⟨(count_said _ _ s).trans said, answered⟩
  · exact capRow_completes ht hlen hm rfl (by simp [h1]) ((capReadOwn_read hs h1).trans (capReadRead_refused hk)) rfl
  · have own := (capReadOwn_stream hs h2).trans (capReadStream_starts hp hk hx)
    exact capRow_completes ht hlen hm rfl (by simp [h2]) own rfl
  · have own := (capReadOwn_stream hs h2).trans (capReadStream_busy hp hx)
    exact capRow_completes ht hlen hm rfl (by simp [h2]) own rfl
  · have own := (capReadOwn_stream hs h2).trans (capReadStream_spi hp)
    exact capRow_completes ht hlen hm rfl (by simp [h2]) own rfl
  · have own := (capReadOwn_release (tk := s.ticket m) hs h3).trans (capRelease_frees hq hh hr)
    refine (capRow_completes ht hlen hm rfl (by simp [h3]) own rfl).mono fun t ⟨said, answered⟩ => ?_
    refine ⟨?_, fun r hne => ?_, fun j k => ?_, ?_, answered⟩
    · rw [said.partn, released_partn]
    · rw [said.partn, released_partn_other hne]
    · rw [said.mark]
      exact released_mark _ j k
    · rw [said.gl]
      exact said
  · have own := (capReadOwn_release (tk := s.ticket m) hs h3).trans (capRelease_badarg h)
    exact capRow_completes ht hlen hm rfl (by simp [h3]) own rfl

end Sys2Proof.Machine
end

section
/-!
PROOFS. Frames received on the host ports and the SPI port (chapter 11).
-/
namespace Sys2Proof.Machine

/-! ## Mailboxes that hold a command of a listed opcode -/

/-- Commands of no listed opcode that are answered in passing leave the mailbox of any other command as it is (R315). -/
theorem answerBadop_listed : ∀ (k : Nat) {s : State} {m : Nat}, opcodes.contains (s.box m).op = true →
    (answerBadop k s).box m = s.box m
  | 0, _, _, _ => rfl
  | k + 1, s, m, h => by
    unfold answerBadop
    split
    · next n _ =>
      split
      · next unlisted =>
        have hne : m ≠ n := by
          rintro rfl
          exact Bool.noConfusion (h.symm.trans unlisted.2)
        have kept := answer_box_other (.plain .badop) s.start s hne
        rw [answerBadop_listed k (kept.symm ▸ h), kept]
      · rfl
    · rfl

/-! ## Polcor frames (R293, R294) -/

section
variable {b : List Byte} {src : Peer} {s : State}

theorem polcorFrame_bad_crc (hs : frameShape src.path b = true) (hc : frameCrc b = false) :
    polcorFrame b src s = { s with lk := { s.lk with crcErr := s.lk.crcErr + 1 } } := by
  simp [polcorFrame, hs, hc]

theorem polcorFrame_command (hs : frameShape src.path b = true) (hc : frameCrc b = true) (hk : frameCommand b = true) :
    polcorFrame b src s = judgeCommand b src s := by
  simp [polcorFrame, hs, hc, hk]

theorem judgeCommand_accepted (hd : isDisable b = false) (hv : (s.box (fBox b)).verdict (fSeq b) = .accepted) :
    judgeCommand b src s = acceptCommand (fBox b) b src s := by
  simp [judgeCommand, hd, hv]

/-- A command for a mailbox that still executes another one is counted and answered BUSY; the mailbox is left alone. -/
theorem judgeCommand_busy (hd : isDisable b = false) (hv : (s.box (fBox b)).verdict (fSeq b) = .busy) :
    (judgeCommand b src s).box (fBox b) = s.box (fBox b) ∧
      Said { s with lk := { s.lk with busyCnt := s.lk.busyCnt + 1 } } (judgeCommand b src s) := by
  simp only [judgeCommand, hd, hv, Bool.false_and, Bool.false_eq_true, if_false]
  exact ⟨box_congr (sendResponse_boxes _ _ _) _, sendResponse_said _ _ _⟩

/-- Mailbox `m` holds the command that the frame `b` from `src` brings (R294). -/
def State.holding (m : Nat) (b : List Byte) (src : Peer) (s : State) : State :=
  updBox m (fun _ => {
    state := .executing, l := fSeq b, op := fOp b, payload := fBody b, src := src, order := s.lk.accepted + 1
    answer := none, compl := none }) { s with lk := { s.lk with accepted := s.lk.accepted + 1 } }

theorem acceptCommand_eq (hh : s.av.halt = false) (m : Nat) :
    ∃ n, acceptCommand m b src s = answerBadop 32 (count (192 + m) 1 (count n 1 (s.holding m b src))) :=
  ⟨if src.path = spiPath then 169 else 166 + src.path, if_neg (ne_true_of_eq_false hh)⟩

theorem holding_box (m : Nat) : (s.holding m b src).box m =
    { state := .executing, l := fSeq b, op := fOp b, payload := fBody b, src := src, order := s.lk.accepted + 1
      answer := none, compl := none } :=
  updBox_box_same m _ _

theorem holding_said (m : Nat) :
    Said { s with lk := { s.lk with accepted := s.lk.accepted + 1 } } (s.holding m b src) := rfl

/-- A mailbox of a Lodge that is not halted takes a command of a listed opcode and holds it for the Lodge. -/
theorem acceptCommand_takes (hh : s.av.halt = false) (ho : opcodes.contains (fOp b) = true) (m : Nat) :
    (acceptCommand m b src s).box m = (s.holding m b src).box m ∧
      Said { s with lk := { s.lk with accepted := s.lk.accepted + 1 } } (acceptCommand m b src s) := by
  obtain ⟨n, e⟩ := acceptCommand_eq (b := b) (src := src) hh m
  rw [e]
  have counted := (count_said n 1 (s.holding m b src)).trans (count_said (192 + m) 1 _)
  have same : (count (192 + m) 1 (count n 1 (s.holding m b src))).box m = (s.holding m b src).box m := rfl
  have listed : opcodes.contains ((s.holding m b src).box m).op = true := by
    rw [holding_box]
    exact ho
  exact ⟨(answerBadop_listed 32 (same ▸ listed)).trans same, ((holding_said m).trans counted).trans (answerBadop_said 32 _)⟩

end

/-! ## Frames of a host port (R286, R287) -/

section
variable {p : Nat} {f : RxFrame} {ip : RxIp} {s : State}

theorem frameReceive_down (h : (s.port p).up = false) : frameReceive p f s = s := by
  simp [frameReceive, h]

theorem frameReceive_bad_fcs (h : (s.port p).up = true) (hf : f.fcsOk = false) :
    frameReceive p f s = badFrame (wakePort p s) := by
  simp [frameReceive, h, hf]

/-- An untagged IPv4 frame for the port's own address is judged as a packet. -/
theorem frameReceive_ipv4 (h : (s.port p).up = true) (hf : f.fcsOk = true) (hm : f.dstMac = Config.mac p) (hv : f.vid = none)
    (ht : f.type = .ipv4 ip) : frameReceive p f s = ipFrame p f ip (wakePort p s) := by
  simp [frameReceive, h, hf, hm, hv, ht, PortRegs.badTag]

/-- A whole IPv4 packet without options for address `a` (R283, R286). -/
structure WholeIp (ip : RxIp) (a : W32) : Prop where
  hdrOk : ip.hdrOk = true
  ihl : ip.ihl = 5
  unfragmented : ip.fragmented = false
  dst : ip.dst = a

/-- A packet that is not UDP is discarded: ICMP without a count, any other into LK.BADFRAME. -/
theorem ipFrame_not_udp (h : WholeIp ip (s.lk.regs.port p).ip) (hp : ip.proto ≠ .udp) :
    ipFrame p f ip s = { s with lk := { s.lk with
      badFrame := if ip.proto = .other then s.lk.badFrame + 1 else s.lk.badFrame } } := by
  cases hk : ip.proto with
  | udp => exact absurd hk hp
  | icmp => simp [ipFrame, h.hdrOk, h.ihl, h.unfragmented, h.dst, hk]
  | other => simp [ipFrame, h.hdrOk, h.ihl, h.unfragmented, h.dst, hk, badFrame]

/-- A UDP packet of an accepted host for the command port brings a Polcor frame. -/
theorem ipFrame_udp (h : WholeIp ip (s.lk.regs.port p).ip) (hp : ip.proto = .udp) (hc : ip.udpSumOk = true)
    (hd : ip.dstPort = s.lk.regs.udpBase) (ha : s.lk.regs.accepts p ip.src = true) :
    ipFrame p f ip s = polcorFrame f.payload { path := p, ip := ip.src, mac := f.srcMac, port := ip.srcPort } s := by
  simp [ipFrame, h.hdrOk, h.ihl, h.unfragmented, h.dst, hp, hc, hd, ha]

end

theorem wakePort_port (p : Nat) (s : State) : (wakePort p s).port p = { s.port p with lpi := false } :=
  updPort_port_same p _ s

/-! ## ARP and ICMP (R285, R288) -/

@[simp] theorem updPath_port (p : Nat) (f : PathQ → PathQ) (s : State) (j : Nat) : (updPath p f s).port j = s.port j := rfl

@[simp] theorem updPort_path (p : Nat) (f : Port → Port) (s : State) (j : Nat) : (updPort p f s).path j = s.path j := rfl

/-- What joins a class 2 queue of a host port waits at its end, and nothing else differs. -/
theorem enqueue_host {p : Nat} (hp : p < 2) (o : Out) (s : State) :
    enqueue p 2 o s = updPath p (fun _ => { s.path p with c2 := (s.path p).c2 ++ [o] }) s :=
  if_neg (by unfold spiPath; omega)

section
variable {p : Nat} {a : ArpMsg} {e : EchoMsg} {s : State} (hu : (s.port p).up = true)
include hu

theorem arpReceive_request (hr : a.request = true) (ht : a.targetIp = (s.lk.regs.port p).ip) :
    arpReceive p a s = arpOut p (some a.senderMac) a.senderIp (wakePort p s) := by
  have ht : a.targetIp = ((wakePort p s).lk.regs.port p).ip := ht
  simp [arpReceive, hu, hr, ht]

theorem arpReceive_reply (hr : a.request = false) (hz : (s.lk.regs.port p).resolves = true)
    (hd : a.senderIp = (s.lk.regs.port p).dest) :
    arpReceive p a s = updPort p (fun x => { x with arp := some a.senderMac, unres := false }) (wakePort p s) := by
  have hz : ((wakePort p s).lk.regs.port p).resolves = true := hz
  have hd : a.senderIp = ((wakePort p s).lk.regs.port p).dest := hd
  simp [arpReceive, hu, hr, hz, hd]

/-- The first echo request of an accepted host is answered. -/
theorem icmpEcho_first (ha : s.lk.regs.accepts p e.src = true) (hn : e.data.length ≤ 1472) (hm : (s.port p).icmpMs = none) :
    icmpEcho p e s =
      enqueue p 2 (.echo e) (updPort p (fun x => { x with icmpMs := some s.uptime }) (wakePort p s)) := by
  have ha : (wakePort p s).lk.regs.accepts p e.src = true := ha
  have hm : ((wakePort p s).port p).icmpMs = none := by rw [wakePort_port]; exact hm
  simp [icmpEcho, hu, ha, hm, Nat.not_lt.mpr hn]
  rfl

theorem icmpEcho_refused (ha : s.lk.regs.accepts p e.src = false) : icmpEcho p e s = refuseHost (wakePort p s) := by
  have ha : (wakePort p s).lk.regs.accepts p e.src = false := ha
  simp [icmpEcho, hu, ha]

end

/-- A refused frame is counted, and nothing else differs but the time of the last event 132 and what is said of it. -/
theorem refuseHost_said (s : State) :
    Said { s with lk := { s.lk with rejHost := s.lk.rejHost + 1, rejMs := (refuseHost s).lk.rejMs } } (refuseHost s) := by
  have counted : ∃ v, Said { s with lk := { s.lk with rejHost := s.lk.rejHost + 1, rejMs := v } } (refuseHost s) :=
    ⟨_, raiseIf_said _ 132 _⟩
  obtain ⟨v, said⟩ := counted
  have e : (refuseHost s).lk.rejMs = v := by rw [said]
  rw [e]
  exact said

/-! ## SPI_WRITE (R307) -/

/-- The state in which a frame written over SPI is judged. -/
def State.spiJudged (b : List Byte) (ok : Bool) (s : State) : State :=
  { s with lk := { s.lk with spiOut := s.spiByte :: List.replicate b.length 0, spiBad := !ok } }

theorem spiWrite_command {b : List Byte} {s : State} (hs : frameShape spiPath b = true) (hc : frameCrc b = true)
    (hk : frameCommand b = true) :
    spiWrite b s = judgeCommand b { noPeer with path := spiPath } (s.spiJudged b true) := by
  have e : spiWrite b s = polcorFrame b { noPeer with path := spiPath }
      (s.spiJudged b (frameShape spiPath b && frameCrc b && frameCommand b)) := rfl
  rw [e, polcorFrame_command hs hc hk, hs, hc, hk]
  rfl

theorem spiWrite_bad_crc {b : List Byte} {s : State} (hs : frameShape spiPath b = true) (hc : frameCrc b = false) :
    spiWrite b s = { s with lk := { s.lk with
      crcErr := s.lk.crcErr + 1, spiBad := true, spiOut := s.spiByte :: List.replicate b.length 0 } } := by
  have e : spiWrite b s = polcorFrame b { noPeer with path := spiPath }
      (s.spiJudged b (frameShape spiPath b && frameCrc b && frameCommand b)) := rfl
  rw [e, polcorFrame_bad_crc hs hc, hs, hc]
  rfl

/-- Settles O48: what arrives is filtered, judged and, where a mailbox accepts it, held for the Lodge. -/
theorem framesAreReceived : Obligations.FramesAreReceived := by
  refine ⟨fun s p f hl hp hu => ?_, fun s p f hl hp hu hf => ?_, fun s p f ip hl hp hu hf hm hv ht h1 h2 h3 h4 h5 => ?_,
    fun s p f ip hl hp hu hf hm hv ht h1 h2 h3 h4 h5 h6 h7 ha hs hc hk hd hb hh ho => ?_,
    fun s b hl hs hc hk hd hb hh ho => ?_, fun s b hl hs hc hk hd hb => ?_, fun s b hl hs hc => ?_,
    fun s p a hl hp hu hr ht => ?_, fun s p a hl hp hu hr hz hd => ?_, fun s p x hl hp hu ha hn hm => ?_,
    fun s p x hl hp hu ha => ?_⟩
  · exact exec_of_act (f := frameReceive p f) rfl (decide_eq_true hp) hl (by rw [frameReceive_down hu])
  · exact Completes.of_effect (f := frameReceive p f) rfl (decide_eq_true hp) hl (frameReceive_bad_fcs hu hf) rfl
      ⟨rfl, wakePort_port p s⟩
  · have e := (frameReceive_ipv4 hu hf hm hv ht).trans (ipFrame_not_udp ⟨h1, h2, h3, h4⟩ h5)
    exact Completes.of_effect (f := frameReceive p f) rfl (decide_eq_true hp) hl e rfl ⟨rfl, wakePort_port p s⟩
  · have packet : ipFrame p f ip (wakePort p s) = _ := ipFrame_udp ⟨h1, h2, h3, h4⟩ h5 h6 h7 ha
    have e := (frameReceive_ipv4 hu hf hm hv ht).trans
      (packet.trans ((polcorFrame_command hs hc hk).trans (judgeCommand_accepted hd hb)))
    obtain ⟨held, said⟩ := acceptCommand_takes (s := wakePort p s) (b := f.payload)
      (src := { path := p, ip := ip.src, mac := f.srcMac, port := ip.srcPort }) hh ho (fBox f.payload)
    refine Completes.of_effect (f := frameReceive p f) rfl (decide_eq_true hp) hl e said.pending ⟨?_, ?_⟩
    · exact held.trans (holding_box _)
    · rw [said.ports]
      exact said
  · have e := (spiWrite_command hs hc hk).trans (judgeCommand_accepted (s := s.spiJudged b true) hd hb)
    obtain ⟨held, said⟩ := acceptCommand_takes (s := s.spiJudged b true) (b := b)
      (src := { noPeer with path := spiPath }) hh ho (fBox b)
    have out : (acceptCommand (fBox b) b { noPeer with path := spiPath } (s.spiJudged b true)).lk.spiOut =
        (s.spiJudged b true).lk.spiOut := by rw [said]
    refine Completes.of_effect (f := spiWrite b) rfl rfl hl e said.pending ⟨?_, ?_⟩
    · exact held.trans (holding_box _)
    · rw [out]
      exact said
  · obtain ⟨held, said⟩ := judgeCommand_busy (s := s.spiJudged b true) (src := { noPeer with path := spiPath }) hd hb
    have out : (judgeCommand b { noPeer with path := spiPath } (s.spiJudged b true)).lk.spiOut =
        (s.spiJudged b true).lk.spiOut := by rw [said]
    refine Completes.of_effect (f := spiWrite b) rfl rfl hl (spiWrite_command hs hc hk) said.pending ⟨held, ?_⟩
    rw [out]
    exact said
  · exact Completes.of_effect (f := spiWrite b) rfl rfl hl (spiWrite_bad_crc hs hc) rfl rfl
  · have e := (arpReceive_request hu hr ht).trans (enqueue_host hp _ _)
    refine Completes.of_effect (f := arpReceive p a) rfl (decide_eq_true hp) hl e rfl ?_
    rw [updPath_path_same]
    exact ⟨rfl, rfl, rfl, rfl⟩
  · refine Completes.of_effect (f := arpReceive p a) rfl (decide_eq_true hp) hl (arpReceive_reply hu hr hz hd) rfl ⟨?_, rfl⟩
    rw [updPort_port_same, wakePort_port]
  · have e := (icmpEcho_first hu ha hn hm).trans (enqueue_host hp _ _)
    refine Completes.of_effect (f := icmpEcho p x) rfl (decide_eq_true hp) hl e rfl ⟨?_, ?_, rfl⟩
    · rw [updPath_path_same]
      rfl
    · rw [updPath_port, updPort_port_same]
  · have said := refuseHost_said (wakePort p s)
    refine Completes.of_effect (f := icmpEcho p x) rfl (decide_eq_true hp) hl (icmpEcho_refused hu ha) said.pending ?_
    rw [said.ports]
    exact said

end Sys2Proof.Machine
end

section
/-!
PROOFS. Frames sent on the host ports (chapter 11): the classes of FRAME_TRANSMIT, ARP requests and notifications.
-/
namespace Sys2Proof.Machine

/-! ## What sending changes (R290, R306, R428) -/

/-- Only what a frame leaves behind on its way out differs: the wires, the violation frames kept, the time of the last
notification, the event counts and the Loggia counters. -/
def Departed (s t : State) : Prop :=
  t = { s with
    av := { s.av with lcnt := t.av.lcnt }
    lk := { s.lk with
      ports := t.lk.ports, kept := t.lk.kept, lastNotify := t.lk.lastNotify, evSeq := t.lk.evSeq
      evSeqSpi := t.lk.evSeqSpi } }

theorem Departed.refl (s : State) : Departed s s := rfl

theorem Departed.trans {s t u : State} (h : Departed s t) (k : Departed t u) : Departed s u := by
  unfold Departed at *
  rw [k, h]

section
variable {s t : State} (h : Departed s t)
include h

theorem Departed.pending : t.pending = s.pending := by rw [h]
theorem Departed.uptime : t.uptime = s.uptime := by rw [h]
theorem Departed.tb : t.tb = s.tb := by rw [h]
theorem Departed.ev : t.ev = s.ev := by rw [h]
theorem Departed.boxes : t.lk.boxes = s.lk.boxes := by rw [h]
theorem Departed.paths : t.lk.paths = s.lk.paths := by rw [h]
theorem Departed.regs : t.lk.regs = s.lk.regs := by rw [h]
theorem Departed.change : t.lk.change = s.lk.change := by rw [h]
theorem Departed.path (p : Nat) : t.path p = s.path p := by unfold State.path; rw [h.paths]
theorem Departed.box (m : Nat) : t.box m = s.box m := box_congr h.boxes m

end

section
variable (p : Nat) (f : Frame) (o : Out) (s : State)

theorem stampEvent_departed : Departed s (stampEvent p f s).2 := by
  unfold stampEvent
  repeat' split
  all_goals rfl

theorem stampEvent_ports : (stampEvent p f s).2.lk.ports = s.lk.ports := by
  unfold stampEvent
  repeat' split
  all_goals rfl

/-- Nothing of a frame but its event count changes as it leaves. -/
theorem stampEvent_frame : (stampEvent p f s).1 = { f with seq := (stampEvent p f s).1.seq, counted := true } := by
  unfold stampEvent
  repeat' split
  · next h => rw [← h]
  all_goals rfl

theorem stampEvent_counted (h : f.counted = true) : stampEvent p f s = (f, s) := if_pos h

theorem countFrame_departed : Departed s (countFrame p o s) := by
  unfold countFrame
  repeat' split
  all_goals rfl

theorem countFrame_ports : (countFrame p o s).lk.ports = s.lk.ports := by
  unfold countFrame
  repeat' split
  all_goals rfl

theorem keepFrame_departed : Departed s (keepFrame f s) := by
  unfold keepFrame
  repeat' split
  all_goals rfl

theorem keepFrame_ports : (keepFrame f s).lk.ports = s.lk.ports := by
  unfold keepFrame
  repeat' split
  all_goals rfl

end

/-! ## Responses that have left (R294, R310) -/

/-- Where no LINK_CFG waits, no answer that leaves lets one take effect. -/
theorem linkCfgGone_unchanged {s : State} (h : s.lk.change = []) (m : Nat) (q : W16) : linkCfgGone m q s = s := by
  unfold linkCfgGone
  rw [h]
  rfl

/-- The mailbox whose response has left is idle. -/
def State.idled (m : Nat) (s : State) : State := updBox m (fun b => { b with state := .idle }) s

theorem frameGone_other {f : Frame} {s : State} (h : s.answers f = false) : frameGone f s = s :=
  if_neg (ne_true_of_eq_false h)

theorem frameGone_answer {f : Frame} {s : State} (h : s.answers f = true) (hc : s.lk.change = []) :
    frameGone f s = s.idled f.mb :=
  (if_pos h).trans (linkCfgGone_unchanged (s := s.idled f.mb) hc _ _)

theorem answers_congr {s t : State} (h : t.lk.boxes = s.lk.boxes) (f : Frame) : t.answers f = s.answers f := by
  unfold State.answers
  rw [box_congr h]

/-! ## A frame leaves a host port -/

/-- `o` stands on the wire of port `p` as `s` sends it. -/
def State.wired (p : Nat) (o : Out) (s u : State) : State :=
  updPort p (fun x => { x with lpi := false, wire := some (s.wireOf p o) }) u

/-- A Polcor frame has left port `p`, and its mailbox has not heard of it. -/
def State.launched (p : Nat) (f : Frame) (s : State) : State :=
  let r := stampEvent p f s
  keepFrame r.1 (countFrame p (.polcor r.1) (s.wired p (.polcor r.1) r.2))

theorem leave_polcor (p : Nat) (f : Frame) (s : State) :
    leave p (.polcor f) s = frameGone (stampEvent p f s).1 (s.launched p f) := rfl

theorem launched_departed (p : Nat) (f : Frame) (s : State) : Departed s (s.launched p f) :=
  (stampEvent_departed p f s).trans
    (Departed.trans (t := s.wired p _ _) rfl ((countFrame_departed p _ _).trans (keepFrame_departed _ _)))

theorem port_congr {s t : State} (h : t.lk.ports = s.lk.ports) (p : Nat) : t.port p = s.port p := by
  unfold State.port
  rw [h]

theorem launched_wire (p : Nat) (f : Frame) (s : State) :
    ((s.launched p f).port p).wire = some (s.wireOf p (.polcor (stampEvent p f s).1)) := by
  unfold State.launched
  dsimp only
  rw [port_congr ((keepFrame_ports _ _).trans (countFrame_ports _ _ _)), State.wired, updPort_port_same]

/-- A frame that is no mailbox's own answer frees none. -/
theorem leave_event {f : Frame} (h : f.own = false) (p : Nat) (s : State) : leave p (.polcor f) s = s.launched p f := by
  have frame := stampEvent_frame p f s
  exact frameGone_other (by rw [frame]; simp [State.answers, h])

/-- An answer that leaves frees its mailbox. -/
theorem leave_answer {f : Frame} {s : State} (hf : f.counted = true) (ha : s.answers f = true) (hc : s.lk.change = [])
    (p : Nat) : leave p (.polcor f) s = (s.launched p f).idled f.mb := by
  have departed := launched_departed p f s
  rw [leave_polcor, stampEvent_counted p f s hf]
  exact frameGone_answer ((answers_congr departed.boxes f).trans ha) (departed.change.trans hc)

/-- An ARP message leaves. -/
theorem leave_arp (p : Nat) (a : ArpMsg) (s : State) :
    leave p (.arp a) s = countFrame p (.arp a) (s.wired p (.arp a) s) := rfl

/-! ## The classes of FRAME_TRANSMIT (R302) -/

/-- The class 2 tokens of path `p` counted up to now. -/
def State.refilled (p : Nat) (s : State) : State := updPath p (fun q => { q with tokens := s.tokens p, since := s.uptime }) s

/-- The head of class 1 has been taken from its queue, which leaves `r`. -/
def State.tookFirst (p : Nat) (r : List Out) (s : State) : State := updPath p (fun q => { q with c1 := r }) (s.refilled p)

/-- The head of class 2 has been taken from its queue, which leaves `r`, and paid for with `cost` tokens. -/
def State.tookSecond (p : Nat) (r : List Out) (cost : Nat) (s : State) : State :=
  updPath p (fun q => { q with c2 := r, tokens := s.tokens p - cost }) (s.refilled p)

theorem refilled_path (p : Nat) (s : State) :
    (s.refilled p).path p = { s.path p with tokens := s.tokens p, since := s.uptime } :=
  updPath_path_same p _ s

theorem tookFirst_path (p : Nat) (r : List Out) (s : State) :
    (s.tookFirst p r).path p = { s.path p with c1 := r, tokens := s.tokens p, since := s.uptime } := by
  rw [State.tookFirst, updPath_path_same, refilled_path]

theorem tookSecond_path (p : Nat) (r : List Out) (cost : Nat) (s : State) :
    (s.tookSecond p r cost).path p = { s.path p with c2 := r, tokens := s.tokens p - cost, since := s.uptime } := by
  rw [State.tookSecond, updPath_path_same, refilled_path]

section
variable {p : Nat} {s : State} {o : Out} {r : List Out}

theorem transmit_class1 (h : (s.path p).c1 = o :: r) : transmit p s = leave p o (s.tookFirst p r) := by
  unfold transmit
  dsimp only
  rw [updPath_path_same, h]
  rfl

theorem transmit_class2 (h1 : (s.path p).c1 = []) (h2 : (s.path p).c2 = o :: r) (ht : o.size p * 80000 ≤ s.tokens p) :
    transmit p s = leave p o (s.tookSecond p r (o.size p * 80000)) := by
  unfold transmit
  dsimp only
  rw [updPath_path_same, h1, h2]
  exact if_pos ht

theorem transmit_nothing (h1 : (s.path p).c1 = []) (h2 : (s.path p).c2 = []) (h3 : (s.path p).c3 = [])
    (hs : s.gl.stream = none) : transmit p s = s.refilled p := by
  unfold transmit sendLow sendCapture
  dsimp only
  rw [updPath_path_same, h1, h2]
  dsimp only
  rw [h3]
  dsimp only [updPath_gl]
  rw [hs]
  rfl

end

theorem frameTransmit_up {p : Nat} {s : State} (hp : p < 2) (hu : (s.port p).up = true) : frameTransmit p s = transmit p s :=
  if_pos ⟨hp, hu⟩

/-- Frames of the SPI queue leave by READ transfers, and a port that is down sends nothing (R289, R307). -/
theorem frameTransmit_silent {p : Nat} {s : State} (h : p = spiPath ∨ (s.port p).up = false) : frameTransmit p s = s := by
  unfold frameTransmit
  rcases h with rfl | h
  · exact if_neg fun k => absurd k.1 (by decide)
  · exact if_neg fun k => ne_true_of_eq_false h k.2

/-! ## ARP requests (R285) -/

theorem askArp_asks {p : Nat} {s : State} (hp : p < 2) (hu : (s.port p).up = true)
    (hr : (s.lk.regs.port p).resolves = true) :
    askArp p s = updPath p (fun _ => { s.path p with
        c2 := (s.path p).c2 ++ [.arp ⟨true, (s.lk.regs.port p).ip, Config.mac p, (s.lk.regs.port p).dest, 0⟩] })
      (updPort p (fun x => { x with unres := x.arp.isNone }) s) := by
  unfold askArp arpOut
  rw [hu, hr, enqueue_host hp]
  rfl

theorem askArp_silent {p : Nat} {s : State} (h : (s.port p).up = false ∨ (s.lk.regs.port p).resolves = false) :
    askArp p s = s := by
  unfold askArp
  rcases h with h | h <;> simp [h]

theorem arpUnresolved_silent {p : Nat} {s : State}
    (h : (s.port p).up = false ∨ (s.port p).unres = false ∨ (s.port p).arp ≠ none) : arpUnresolved p s = s := by
  unfold arpUnresolved raiseIf
  rcases h with h | h | h <;> simp [h]

/-! ## Notifications (R298) -/

/-- The notification frame that leaves next. -/
def State.notice (s : State) : Frame :=
  eventFrame 0x0990 s.deg (s.nowBytes ++ beBytes 2 s.tb.epoch.toNat ++ [0, 0] ++
    (List.range 16).flatMap (fun g => beBytes 4 (s.latchWord g)))

/-- The raises so far have been notified. -/
def State.notified (s : State) : State := { s with lk := { s.lk with notify := false, lastNotify := some s.uptime } }

theorem notification_due {s : State} {p : Nat} (hn : s.lk.notify = true) (hd : s.notifyDue = true)
    (ha : s.lk.active = some p) (he : s.lk.regs.evSpi = false) :
    notification s = enqueue p 2 (.polcor s.notice) s.notified := by
  have host : sendHost 2 s.notice s.notified = enqueue p 2 (.polcor s.notice) s.notified := by
    unfold sendHost
    rw [show s.notified.lk.active = some p from ha]
  have e : notification s = sendEvent 2 s.notice s.notified := if_neg (by simp [hn, hd])
  have spi : (enqueue p 2 (.polcor s.notice) s.notified).lk.regs.evSpi = false := by
    rw [(enqueue_said _ _ _ _).regs]
    exact he
  rw [e]
  unfold sendEvent
  rw [host]
  exact if_neg (ne_true_of_eq_false spi)

theorem notification_silent {s : State} (h : s.lk.notify = false ∨ s.notifyDue = false) : notification s = s := by
  unfold notification
  rcases h with h | h <;> simp [h]

/-! ## Where a frame goes (R285, R289) -/

section
variable {s : State} {p : Nat} {f : Frame} (hf : f.dst = none)
include hf

theorem wireOf_static (hr : (s.lk.regs.port p).resolves = false) :
    (s.wireOf p (.polcor f)).dst.toNat =
      (s.lk.regs.port p).dmacHi.toNat % 2 ^ 16 * 2 ^ 32 + (s.lk.regs.port p).dmacLo.toNat := by
  have e : (s.wireOf p (.polcor f)).dst = s.destMac p := by simp [State.wireOf, State.target, hf]
  have low := (s.lk.regs.port p).dmacLo.isLt
  simp only [e, State.destMac, hr, Bool.false_eq_true, if_false, BitVec.toNat_ofNat]
  omega

theorem wireOf_resolved {a : BitVec 48} (hr : (s.lk.regs.port p).resolves = true) (ha : (s.port p).arp = some a) :
    (s.wireOf p (.polcor f)).dst = a := by
  simp [State.wireOf, State.target, hf, State.destMac, hr, ha]

theorem wireOf_addresses :
    (s.wireOf p (.polcor f)).ip.map (·.dst) = some (s.lk.regs.port p).dest ∧
      (s.wireOf p (.polcor f)).ip.map (·.src) = some (s.lk.regs.port p).ip := by
  simp [State.wireOf, State.target, hf]

end

/-- Settles O49: class 1 goes first, class 2 within its tokens, and what leaves stands on the wire of its port. -/
theorem framesAreSent : Obligations.FramesAreSent := by
  refine ⟨fun s p f r hl hp hu h1 _ ho => ?_, fun s p a r hl hp hu h1 h2 ht => ?_,
    fun s p f r hl hp hu h1 h2 ht ha hf hc => ?_, fun s p hl hp hu h1 h2 h3 hs => ?_, fun s p hl hp h => ?_,
    fun s p hl hp hu hr => ?_, fun s p hl hp h => ?_, fun s p hl hp hu hn ha => ?_, fun s p hl hp h => ?_,
    fun s p hl hn hd ha hp he => ?_, fun s hl h => ?_, fun s p f hf hr => ?_, fun s p f a hf hr ha => ?_⟩
  · have departed := launched_departed p f (s.tookFirst p r)
    have e := (frameTransmit_up hp hu).trans ((transmit_class1 h1).trans (leave_event ho p _))
    refine Completes.of_effect (f := frameTransmit p) rfl (decide_eq_true (by omega)) hl e departed.pending ?_
    rw [departed.path, tookFirst_path]
    exact ⟨rfl, rfl, rfl, _, launched_wire p f _, stampEvent_frame p f _⟩
  · have e := (frameTransmit_up hp hu).trans ((transmit_class2 h1 h2 ht).trans (leave_arp p a _))
    have departed := countFrame_departed p (.arp a)
      ((s.tookSecond p r ((Out.arp a).size p * 80000)).wired p (.arp a) (s.tookSecond p r ((Out.arp a).size p * 80000)))
    refine Completes.of_effect (f := frameTransmit p) rfl (decide_eq_true (by omega)) hl e departed.pending ?_
    rw [departed.path, port_congr (countFrame_ports _ _ _), State.wired, updPort_path, updPort_port_same, tookSecond_path]
    exact ⟨rfl, rfl, rfl, rfl⟩
  · have departed := launched_departed p f (s.tookSecond p r ((Out.polcor f).size p * 80000))
    have wire := launched_wire p f (s.tookSecond p r ((Out.polcor f).size p * 80000))
    have e := (frameTransmit_up hp hu).trans ((transmit_class2 h1 h2 ht).trans
      (leave_answer (s := s.tookSecond p r _) hf ha hc p))
    rw [stampEvent_counted p f _ hf] at wire
    refine Completes.of_effect (f := frameTransmit p) rfl (decide_eq_true (by omega)) hl e departed.pending ?_
    have path := (departed.path p).trans (tookSecond_path p r _ s)
    exact ⟨congrArg PathQ.c2 path, (congrArg PathQ.c3 path :), wire,
      (updBox_box_same _ _ _).trans (by rw [departed.box]; rfl), fun m hm => (updBox_box_other _ _ hm).trans (departed.box m)⟩
  · have e := (frameTransmit_up hp hu).trans (transmit_nothing h1 h2 h3 hs)
    exact Completes.of_effect (f := frameTransmit p) rfl (decide_eq_true (by omega)) hl e rfl
      ⟨updPath_path_same p _ s, rfl⟩
  · exact exec_of_act (f := frameTransmit p) rfl (decide_eq_true hp) hl (by rw [frameTransmit_silent h])
  · refine Completes.of_effect (f := askArp p) rfl (decide_eq_true hp) hl (askArp_asks hp hu hr) rfl ?_
    rw [updPath_path_same, updPath_port, updPort_port_same]
    exact ⟨rfl, rfl, rfl⟩
  · exact exec_of_act (f := askArp p) rfl (decide_eq_true hp) hl (by rw [askArp_silent h])
  · have e : arpUnresolved p s = raise 133 s := by simp [arpUnresolved, raiseIf, hu, hn, ha]
    exact Completes.of_effect (f := arpUnresolved p) rfl (decide_eq_true hp) hl e (raise_said 133 s).pending
      ⟨raise_said 133 s, raise_raised 133 s⟩
  · exact exec_of_act (f := arpUnresolved p) rfl (decide_eq_true hp) hl (by rw [arpUnresolved_silent h])
  · have e := (notification_due hn hd ha he).trans (enqueue_host hp _ _)
    refine Completes.of_effect (f := notification) rfl rfl hl e rfl ?_
    rw [updPath_path_same]
    exact ⟨rfl, rfl, ⟨s.notice, rfl, rfl, rfl, rfl⟩, rfl⟩
  · exact exec_of_act (f := notification) rfl rfl hl (by rw [notification_silent h])
  · exact ⟨wireOf_static hf hr, rfl, wireOf_addresses hf⟩
  · exact wireOf_resolved hf hr ha

end Sys2Proof.Machine
end

section
/-!
PROOFS. The host ports (chapter 11): links, failover, and LINK_CFG with the answer it waits for.
-/
namespace Sys2Proof.Machine

/-! ## What a port that goes down leaves alone -/

/-- Port states, settings, the active port and all but the frames of the link stay as they are; no event that stands is
cleared, and no fault ends. -/
structure Steady (s t : State) : Prop where
  pending : t.pending = s.pending
  tb : t.tb = s.tb
  sh : t.sh = s.sh
  regs : t.lk.regs = s.lk.regs
  ports : t.lk.ports = s.lk.ports
  active : t.lk.active = s.lk.active
  failCnt : t.lk.failCnt = s.lk.failCnt
  change : t.lk.change = s.lk.change
  latched : ∀ n, (s.ev.get n).latched = true → (t.ev.get n).latched = true
  faults : ∀ f ∈ s.av.outst, f ∈ t.av.outst

theorem Steady.trans {s t u : State} (h : Steady s t) (k : Steady t u) : Steady s u where
  pending := k.pending.trans h.pending
  tb := k.tb.trans h.tb
  sh := k.sh.trans h.sh
  regs := k.regs.trans h.regs
  ports := k.ports.trans h.ports
  active := k.active.trans h.active
  failCnt := k.failCnt.trans h.failCnt
  change := k.change.trans h.change
  latched n hn := k.latched n (h.latched n hn)
  faults f hf := k.faults f (h.faults f hf)

theorem Steady.of_said {s t : State} (h : Said s t)
    (k : ∀ n, (s.ev.get n).latched = true → (t.ev.get n).latched = true) : Steady s t where
  pending := h.pending
  tb := h.tb
  sh := h.sh
  regs := h.regs
  ports := h.ports
  active := by rw [h]
  failCnt := by rw [h]
  change := by rw [h]
  latched := k
  faults f hf := by rw [h.outst]; exact hf

theorem Steady.outstanding {s t : State} (h : Steady s t) {code unit : Nat} (k : s.outstanding code unit = true) :
    t.outstanding code unit = true :=
  List.contains_iff_mem.mpr (h.faults _ (List.contains_iff_mem.mp k))

/-- Queued frames and mailboxes are all that may differ. -/
theorem Steady.of_link (s : State) (b : Tab Mailbox) (q : Tab PathQ) (w : List Frame) (k : List (Nat × Frame)) :
    Steady s { s with lk := { s.lk with boxes := b, paths := q, waiting := w, kept := k } } :=
  ⟨rfl, rfl, rfl, rfl, rfl, rfl, rfl, rfl, fun _ h => h, fun _ h => h⟩

theorem Steady.refl (s : State) : Steady s s := .of_link s _ _ _ _

theorem raise_steady (n : Nat) (s : State) : Steady s (raise n s) := .of_said (raise_said n s) fun _ h => raises_keeps [n] h

theorem dropOut_steady (n : Nat) (s : State) : Steady s (dropOut n s) := by
  refine .of_said (dropOut_said n s) fun k h => ?_
  unfold dropOut
  split
  · exact h
  · exact raiseIf_keeps _ 134 h

theorem detect_steady (code unit action : Nat) (s : State) : Steady s (detect code unit action true s) := by
  have stored := detect_stored code unit action true s
  refine ⟨stored.pending, stored.tb, stored.sh, stored.regs, ?_, ?_, ?_, ?_, fun n h => detects_keeps _ h, fun f hf => ?_⟩
  · rw [stored]
  · rw [stored]
  · rw [stored]
  · rw [stored]
  · rw [detect_outst]
    exact List.mem_append_left _ hf

theorem frameGone_steady (f : Frame) {s : State} (hc : s.lk.change = []) : Steady s (frameGone f s) := by
  cases h : s.answers f with
  | false =>
    rw [frameGone_other h]
    exact .refl s
  | true =>
    rw [frameGone_answer h hc]
    exact .of_link s _ _ _ _

theorem foldl_steady {α : Type} {g : State → α → State} (hg : ∀ (x : α) {u : State}, u.lk.change = [] → Steady u (g u x)) :
    ∀ (l : List α) {s : State}, s.lk.change = [] → Steady s (l.foldl g s)
  | [], s, _ => .refl s
  | x :: l, _, hc => (hg x hc).trans (foldl_steady hg l ((hg x hc).change.trans hc))

/-- The frames that no other port can send are discarded; without a LINK_CFG that waits, only their mailboxes hear of it. -/
theorem dropOwn_steady (p : Nat) {s : State} (hc : s.lk.change = []) : Steady s (dropOwn p s) := by
  unfold dropOwn
  refine Steady.trans (.of_link s _ _ _ _) (foldl_steady (fun o u hu => ?_) _ hc)
  cases o with
  | polcor f => exact frameGone_steady f hu
  | arp a => exact .refl u
  | echo e => exact .refl u

/-! ## A port goes down (R305, R306) -/

/-- Port `p` is down. -/
def State.unplugged (p : Nat) (s : State) : State := updPort p (fun x => { x with up := false }) s

/-- Port `p` is down, what it alone could send is discarded, and its fault is found. -/
def State.downed (p : Nat) (s : State) : State := detect 0x0501 p 9 true (dropOwn p (raise 128 (s.unplugged p)))

section
variable {p : Nat} {s : State} (hc : s.lk.change = [])
include hc

theorem downed_steady : Steady (s.unplugged p) (s.downed p) := by
  have raised := raise_steady 128 (s.unplugged p)
  exact raised.trans ((dropOwn_steady p (raised.change.trans hc)).trans (detect_steady 0x0501 p 9 _))

theorem downed_latched : ((s.downed p).ev.get 128).latched = true := by
  have raised := raise_steady 128 (s.unplugged p)
  have dropped := dropOwn_steady p (raised.change.trans hc)
  exact (dropped.trans (detect_steady 0x0501 p 9 _)).latched 128 (raises_latched _ (List.mem_singleton_self 128))

theorem downed_other {q : Nat} (hq : q ≠ p) : (s.downed p).port q = s.port q := by
  rw [port_congr (downed_steady hc).ports, State.unplugged, updPort_port_other _ _ hq]

end

theorem downed_outstanding {p : Nat} {s : State} : (s.downed p).outstanding 0x0501 p = true := detect_outstanding 0x0501 p 9 _

theorem unplugged_up (p : Nat) (s : State) : ((s.unplugged p).port p).up = false := by
  rw [State.unplugged, updPort_port_same]

/-! ## The active port (R306) -/

/-- `s` with another active port and another count of failovers. -/
def State.activeIs (q : Option Nat) (n : W32) (s : State) : State := { s with lk := { s.lk with active := q, failCnt := n } }

theorem Steady.activeIs {s t : State} (h : Steady s t) (q : Option Nat) (n : W32) :
    Steady (s.activeIs q n) (t.activeIs q n) where
  pending := h.pending
  tb := h.tb
  sh := h.sh
  regs := h.regs
  ports := h.ports
  active := rfl
  failCnt := rfl
  change := h.change
  latched := h.latched
  faults := h.faults

/-- A port that becomes active takes queued frames over, and nothing else differs. -/
theorem becomeActive_only {q : Nat} (hq : q < 2) (again : List Frame) (s : State) :
    becomeActive q again s =
      { s with lk := { s.lk with active := some q, waiting := [], paths := (becomeActive q again s).lk.paths } } := by
  unfold becomeActive announce arpOut
  rw [enqueue_host hq]
  cases s.lk.active <;> rfl

theorem becomeActive_steady {q : Nat} (hq : q < 2) (again : List Frame) (s : State) :
    Steady (s.activeIs (some q) s.lk.failCnt) (becomeActive q again s) := by
  rw [becomeActive_only hq]
  exact .of_link (s.activeIs (some q) s.lk.failCnt) _ _ _ _

/-- A failover that is counted and told by event 130. -/
theorem failover_steady {q : Nat} (hq : q < 2) (again : List Frame) (s : State) :
    Steady (s.activeIs (some q) (s.lk.failCnt + 1))
      (raise 130 (becomeActive q again (s.activeIs s.lk.active (s.lk.failCnt + 1)))) :=
  (becomeActive_steady hq again (s.activeIs s.lk.active (s.lk.failCnt + 1))).trans (raise_steady 130 _)

/-- Frames that no port can send wait or are discarded, and no port is active. -/
theorem noPort_steady (p : Nat) (s : State) : Steady (s.activeIs none s.lk.failCnt) (noPort p s) := by
  unfold noPort
  exact (Steady.of_link (s.activeIs none s.lk.failCnt) _ _ _ _).trans
    ((dropOut_steady _ _).trans ((raise_steady 131 _).trans (detect_steady 0x0502 0xFFFF 0 _)))

theorem noPort_latched (p : Nat) (s : State) : ((noPort p s).ev.get 131).latched = true :=
  (detect_steady 0x0502 0xFFFF 0 _).latched 131 (raises_latched _ (List.mem_singleton_self 131))

theorem noPort_outstanding (p : Nat) (s : State) : (noPort p s).outstanding 0x0502 0xFFFF = true :=
  detect_outstanding 0x0502 0xFFFF 0 _

/-- Where the port that is down was the active one, the other takes over, or none is active (R306). -/
def State.relieved (p : Nat) (s : State) : State :=
  if s.lk.active ≠ some p then s
  else if (s.port (1 - p)).up then
    raise 130 (becomeActive (1 - p) s.resend { s with lk := { s.lk with failCnt := s.lk.failCnt + 1 } })
  else noPort p s

theorem goDown_eq (p : Nat) (s : State) : goDown p s = (s.downed p).relieved p := by
  unfold goDown State.downed State.unplugged State.relieved
  rfl

section
variable {p : Nat} {s : State}

theorem relieved_standby (ha : s.lk.active ≠ some p) : s.relieved p = s := if_pos ha

theorem relieved_failover (ha : s.lk.active = some p) (hu : (s.port (1 - p)).up = true) :
    s.relieved p = raise 130 (becomeActive (1 - p) s.resend (s.activeIs s.lk.active (s.lk.failCnt + 1))) :=
  (if_neg (not_not_intro ha)).trans (if_pos hu)

theorem relieved_alone (ha : s.lk.active = some p) (hu : (s.port (1 - p)).up = false) : s.relieved p = noPort p s :=
  (if_neg (not_not_intro ha)).trans (if_neg (ne_true_of_eq_false hu))

end

section
variable {p : Nat} {s : State} (hc : s.lk.change = [])
include hc

/-- What is left where a port goes down that is not the active one. -/
theorem goDown_standby (ha : s.lk.active ≠ some p) : goDown p s = s.downed p := by
  rw [goDown_eq]
  exact relieved_standby fun e => ha ((downed_steady hc).active.symm.trans e)

variable (hp : p < 2) (ha : s.lk.active = some p)
include hp ha

/-- What is left where the active port goes down while the other is down too (R305, R306, R408). -/
theorem goDown_alone_leaves (hu : (s.port (1 - p)).up = false) :
    Steady ((s.unplugged p).activeIs none s.lk.failCnt) (goDown p s) ∧ ((goDown p s).ev.get 131).latched = true ∧
      (goDown p s).outstanding 0x0502 0xFFFF = true := by
  have downed := downed_steady (p := p) hc
  have other : ((s.downed p).port (1 - p)).up = false := by rw [downed_other hc (by omega)]; exact hu
  rw [goDown_eq, relieved_alone (downed.active.trans ha) other]
  generalize s.downed p = v at downed
  have counted : v.lk.failCnt = s.lk.failCnt := downed.failCnt
  rw [← counted]
  exact ⟨(downed.activeIs none v.lk.failCnt).trans (noPort_steady p v), noPort_latched p v, noPort_outstanding p v⟩

/-- What is left where the active port goes down and the other takes over (R305, R306, R408). -/
theorem goDown_failover_leaves (hu : (s.port (1 - p)).up = true) :
    Steady ((s.unplugged p).activeIs (some (1 - p)) (s.lk.failCnt + 1)) (goDown p s) ∧
      ((goDown p s).ev.get 128).latched = true ∧ ((goDown p s).ev.get 130).latched = true ∧
      (goDown p s).outstanding 0x0501 p = true := by
  have downed := downed_steady (p := p) hc
  have h128 := downed_latched (p := p) hc
  have found := downed_outstanding (p := p) (s := s)
  have other : ((s.downed p).port (1 - p)).up = true := by rw [downed_other hc (by omega)]; exact hu
  rw [goDown_eq, relieved_failover (downed.active.trans ha) other]
  generalize s.downed p = v at downed h128 found
  have taken := failover_steady (q := 1 - p) (by omega) v.resend v
  have steady := (downed.activeIs (some (1 - p)) (v.lk.failCnt + 1)).trans taken
  have counted : v.lk.failCnt = s.lk.failCnt := downed.failCnt
  rw [← counted]
  exact ⟨steady, taken.latched 128 h128, raises_latched _ (List.mem_singleton_self 130), taken.outstanding found⟩

end

theorem Steady.down {p : Nat} {s t : State} {q : Option Nat} {n : W32} (h : Steady ((s.unplugged p).activeIs q n) t) :
    (t.port p).up = false := by
  rw [port_congr h.ports]
  exact unplugged_up p s

/-! ## A port comes up (R305, R306) -/

/-- A port that asks for its destination stays up, and its queue and what it knows are all that may differ. -/
theorem askArp_only {p : Nat} (hp : p < 2) (s : State) :
    askArp p s = { s with lk := { s.lk with ports := (askArp p s).lk.ports, paths := (askArp p s).lk.paths } } ∧
      ((askArp p s).port p).up = (s.port p).up := by
  by_cases h : (s.port p).up = true ∧ (s.lk.regs.port p).resolves = true
  · rw [askArp_asks hp h.1 h.2, updPath_port, updPort_port_same]
    exact ⟨rfl, rfl⟩
  · rw [askArp_silent ((Decidable.not_and_iff_not_or_not.mp h).imp eq_false_of_ne_true eq_false_of_ne_true)]
    exact ⟨rfl, rfl⟩

/-- Port `p` is up: event 129, and the faults of its link have ended. -/
def State.linked (p : Nat) (s : State) : State :=
  repair 0x0502 0xFFFF 0 (repair 0x0501 p 9 (raise 129 (updPort p (fun x => { x with up := true, lpi := false }) s)))

section
variable (p : Nat) (s : State)

theorem linked_stored : Stored (updPort p (fun x => { x with up := true, lpi := false }) s) (s.linked p) :=
  (raise_stored 129 _).trans ((repair_stored 0x0501 p 9 _).trans (repair_stored 0x0502 0xFFFF 0 _))

theorem linked_latched : ((s.linked p).ev.get 129).latched = true :=
  repair_keeps 0 (repair_keeps 9 (raises_latched _ (List.mem_singleton_self 129)))

theorem linked_outstanding : (s.linked p).outstanding 0x0501 p = false := by
  refine outstanding_false fun h => ?_
  rw [State.linked, repair_outst, repair_outst] at h
  have h := (List.mem_filter.mp (List.mem_filter.mp h).1).2
  simp at h

theorem linked_up : ((s.linked p).port p).up = true := by
  have stored := linked_stored p s
  have ports : (s.linked p).lk.ports = (updPort p (fun x => { x with up := true, lpi := false }) s).lk.ports := by
    rw [stored]
  rw [port_congr ports, updPort_port_same]

end

/-- A port that comes up while none is active becomes active (R306). -/
def State.activated (p : Nat) (s : State) : State := if s.lk.active.isNone then becomeActive p [] s else s

theorem activated_only {p : Nat} (hp : p < 2) (s : State) :
    s.activated p = { s with lk := { s.lk with
      active := if s.lk.active = none then some p else s.lk.active, waiting := (s.activated p).lk.waiting
      paths := (s.activated p).lk.paths } } := by
  by_cases h : s.lk.active = none
  · have e : s.activated p = becomeActive p [] s := if_pos (Option.isNone_iff_eq_none.mpr h)
    rw [e, if_pos h, becomeActive_only hp]
  · have e : s.activated p = s := if_neg (mt Option.isNone_iff_eq_none.mp h)
    rw [e, if_neg h]

theorem portUp_comes {p : Nat} {s : State} (hy : (s.port p).phy = true) (hu : (s.port p).up = false) :
    portUp p s = askArp p ((s.linked p).activated p) := if_neg (by simp [hy, hu])

/-- A port that comes up: what its link has raised and repaired, the active port, and the queues. -/
theorem portUp_only {p : Nat} {s : State} (hp : p < 2) (hy : (s.port p).phy = true) (hu : (s.port p).up = false) :
    portUp p s = { s.linked p with lk := { (s.linked p).lk with
      active := if (s.linked p).lk.active = none then some p else (s.linked p).lk.active, ports := (portUp p s).lk.ports
      waiting := (portUp p s).lk.waiting, paths := (portUp p s).lk.paths } } ∧ ((portUp p s).port p).up = true := by
  have only := activated_only hp (s.linked p)
  obtain ⟨asked, up⟩ := askArp_only hp ((s.linked p).activated p)
  have ports : ((s.linked p).activated p).lk.ports = (s.linked p).lk.ports := by rw [only]
  rw [portUp_comes hy hu]
  refine ⟨?_, up.trans ?_⟩
  · rw [asked, only]
  · rw [port_congr ports, linked_up]

theorem portUp_stays {p : Nat} {s : State} (h : (s.port p).phy = false ∨ (s.port p).up = true) : portUp p s = s :=
  if_pos (by rcases h with h | h <;> simp [h])

/-! ## LINK_CFG (R310, R322) -/

/-- The answer that a command of the Lodge yields is given, and commands of no listed opcode are answered in passing. -/
theorem lodge_answers {m op : Nat} {row len : List Byte → Bool} {mode : State → List Byte → Bool}
    {own : Ticket → List Byte → State → Reply} {s u : State} {p : List Byte} {a : Answer} (h : Takes s m op p)
    (hrow : row p = true) (hlen : len p = true) (hmode : mode s p = true) (ho : own (s.ticket m) p s = reply u a) :
    lodge m op row len mode own s = answerBadop 32 (answer m a s.start u) := by
  obtain ⟨-, -, hr, hn, hop, hpl⟩ := h
  unfold lodge
  simp only [hr, hn, hop, hpl, hrow, hlen, hmode, ho, reply, Bool.not_true, and_self, if_true, if_false,
    Bool.false_eq_true]

/-- A mailbox whose answer waits on a port that is up still executes its command (R294). -/
theorem respond_executing {m : Nat} {s : State} (hp : (s.box m).src.path < 2) (hu : (s.port (s.box m).src.path).up = true)
    (a : Answer) : ((respond m a s).box m).state = .executing := by
  have waits : idleNow s (s.box m).src = false := by
    have host : (s.box m).src.path ≠ spiPath := by unfold spiPath; omega
    simp [idleNow, host, hu]
  unfold respond
  dsimp only
  rw [box_congr (sendResponse_boxes _ _ _), updBox_box_same]
  exact if_neg (ne_true_of_eq_false waits)

theorem answer_responds (m : Nat) (a : Answer) (now : Start) (s : State) :
    ∃ v : State, answer m a now s = respond m a v ∧ v.lk = s.lk :=
  ⟨_, rfl, by split <;> rfl⟩

theorem answer_executing {m : Nat} {s : State} (hp : (s.box m).src.path < 2) (hu : (s.port (s.box m).src.path).up = true)
    (a : Answer) (now : Start) : ((answer m a now s).box m).state = .executing := by
  obtain ⟨v, e, link⟩ := answer_responds m a now s
  have box : v.box m = s.box m := box_congr (congrArg Link.boxes link) m
  have port := port_congr (congrArg Link.ports link) (s.box m).src.path
  rw [e]
  exact respond_executing (by rw [box]; exact hp) (by rw [box, port]; exact hu) a

section
variable {s u : State} {m : Nat} {b : List Byte} {a : Answer} (ht : Takes s m 0x0003 b) (hlen : b.length = 84)
  (ho : linkCfgOwn (s.ticket m) b s = reply u a)
include ht hlen ho

/-- A LINK_CFG completes with what its own rule yields, where the port of its answer is up or nothing waits to take
effect. -/
theorem linkCfg_completes (hp : u.pending = s.pending)
    (hw : u.lk.change = [] ∨ (u.box m).src.path < 2 ∧ (u.port (u.box m).src.path).up = true) :
    Completes (.linkCfg m) s (fun t => Said u t ∧ Answered m a t) := by
  have e := lodge_answers (row := anyRow) (len := fun p => p.length == 84) (mode := anyMode) ht rfl
    (beq_iff_eq.mpr hlen) rfl ho
  have said := (answer_said m a s.start u).trans (answerBadop_said 32 _)
  have box := answerBadop_box 32 (answer m a s.start u) m (by rw [answer_box]; exact Option.some_ne_none a)
  have quiet : linkCfg m s = answerBadop 32 (answer m a s.start u) := by
    unfold linkCfg
    dsimp only
    rw [e]
    split
    · next idle =>
      rcases hw with hc | ⟨hb, hu⟩
      · exact linkCfgGone_unchanged (by rw [said]; exact hc) _ _
      · rw [box, answer_executing hb hu] at idle
        exact absurd idle.1 (by decide)
    · rfl
  refine Completes.of_effect (f := linkCfg m) rfl (decide_eq_true ht.1) ht.2.1 quiet (said.pending.trans hp) ⟨said, ?_⟩
  unfold Answered
  rw [box, answer_box]

end

section
variable {s : State} {tk : Ticket} {b : List Byte} (hc : s.lk.change = [])
  (hm : s.lk.regs.deepChange (linkImage b s.lk.regs) = false ∨ restMode s = true)
include hc hm

theorem linkCfgOwn_badarg {off : Nat} (hb : linkBad b (linkImage b s.lk.regs) = some off) :
    linkCfgOwn tk b s = reply s (.badarg off) := by
  have ahead : s.linkAhead = s.lk.regs := by rw [State.linkAhead, hc]; rfl
  rcases hm with h | h <;> simp [linkCfgOwn, ahead, h, hb]

/-- Good settings that no admission judges and no word of the store keeps wait for the answer. -/
theorem linkCfgOwn_waits (hb : linkBad b (linkImage b s.lk.regs) = none)
    (hj : s.lk.regs.rejudged (linkImage b s.lk.regs) = false) (h0 : (pByte b 0).testBit 0 = false) :
    linkCfgOwn tk b s = reply { s with lk := { s.lk with change := [(tk.mb, tk.seq, b)] } } (.plain .ok) := by
  have ahead : s.linkAhead = s.lk.regs := by rw [State.linkAhead, hc]; rfl
  rcases hm with h | h <;> simp [linkCfgOwn, ahead, h, hb, hj, h0, commits, hc]

end

/-- Settles O50: the steps of a port that comes up or goes down, and LINK_CFG as it waits. -/
theorem portsAndFailover : Obligations.PortsAndFailover := by
  refine ⟨fun s p hl hp he => ?_, fun s p hl hp he => ?_, fun s p hl hp => ?_, fun s p hl hp hy hu => ?_,
    fun s p hl hp h => ?_, fun s p hl hp hu hy hc ha ho => ?_, fun s p hl hp hu hy hc ha ho => ?_,
    fun s p hl hp hu hy hc ha => ?_, fun s p hl hp hu hk hc ha ho => ?_, fun s p hl hp h => ?_,
    fun s m b ht hlen hc hm hb hj h0 hp hu => ?_, fun s m b off ht hlen hc hm hb => ?_⟩
  · exact Completes.of_effect (f := phyUp p) rfl (decide_eq_true hp) hl (if_pos he) rfl
      ⟨updPort_port_same _ _ _, fun q hq => updPort_port_other _ _ hq, rfl⟩
  · exact exec_of_act (f := phyUp p) rfl (decide_eq_true hp) hl (by rw [phyUp, if_neg (ne_true_of_eq_false he)])
  · exact Completes.of_kept (f := updPort p _) rfl (decide_eq_true hp) hl rfl
      ⟨updPort_port_same _ _ _, fun q hq => updPort_port_other _ _ hq, rfl⟩
  · have stored := linked_stored p s
    obtain ⟨e, up⟩ := portUp_only hp hy hu
    have active : (s.linked p).lk.active = s.lk.active := by rw [stored]; rfl
    have outst : (portUp p s).av.outst = (s.linked p).av.outst := by rw [e]
    refine Completes.of_kept (f := portUp p) rfl (decide_eq_true hp) hl (by rw [e]; exact stored.pending)
      ⟨up, ?_, ?_, ?_, ?_, ?_, ?_, ?_⟩
    · rw [e]
      exact linked_latched p s
    · rw [e, active]
    · unfold State.outstanding
      rw [outst]
      exact linked_outstanding p s
    · rw [e]
      exact stored.regs
    · rw [e]
      exact stored.boxes
    · rw [e]
      exact stored.tb
    · rw [e]
      exact stored.sh
  · exact exec_of_act (f := portUp p) rfl (decide_eq_true hp) hl (by rw [portUp_stays h])
  · have e : portDown p s = goDown p s := if_pos (by simp [hu, hy])
    obtain ⟨steady, h128, h130, found⟩ := goDown_failover_leaves hc hp ha ho
    exact Completes.of_effect (f := portDown p) rfl (decide_eq_true hp) hl e steady.pending
      ⟨steady.down, steady.active, steady.failCnt, h128, h130, found, steady.regs, steady.tb, steady.sh⟩
  · have e : portDown p s = goDown p s := if_pos (by simp [hu, hy])
    obtain ⟨steady, h131, found⟩ := goDown_alone_leaves hc hp ha ho
    exact Completes.of_effect (f := portDown p) rfl (decide_eq_true hp) hl e steady.pending
      ⟨steady.down, steady.active, steady.failCnt, h131, found, steady.regs, steady.tb, steady.sh⟩
  · have e : portDown p s = s.downed p := (if_pos (by simp [hu, hy])).trans (goDown_standby hc ha)
    have steady := downed_steady (p := p) hc
    refine Completes.of_effect (f := portDown p) rfl (decide_eq_true hp) hl e steady.pending
      ⟨?_, steady.active, steady.failCnt, downed_latched hc, downed_outstanding, steady.regs, steady.tb, steady.sh⟩
    rw [port_congr steady.ports]
    exact unplugged_up p s
  · have e : keepaliveExpiry p s = goDown p s := if_pos (by simp [hu, hk])
    obtain ⟨steady, -, h130, found⟩ := goDown_failover_leaves hc hp ha ho
    exact Completes.of_effect (f := keepaliveExpiry p) rfl (decide_eq_true hp) hl e steady.pending
      ⟨steady.down, steady.active, steady.failCnt, h130, found, steady.regs, steady.tb, steady.sh⟩
  · have e : keepaliveExpiry p s = s := if_neg (by rcases h with h | h <;> simp [h])
    exact exec_of_act (f := keepaliveExpiry p) rfl (decide_eq_true hp) hl (by rw [e])
  · exact linkCfg_completes ht hlen (linkCfgOwn_waits hc hm hb hj h0) rfl (.inr ⟨hp, hu⟩)
  · exact linkCfg_completes ht hlen (linkCfgOwn_badarg hc hm hb) rfl (.inl hc)

end Sys2Proof.Machine
end

section
/-!
PROOFS. The SPI management port (chapter 11), and the commands IDENT and PING.
-/
namespace Sys2Proof.Machine

/-! ## The bytes of a READ (R307) -/

theorem padTo_take_short {xs : List Byte} {k : Nat} (h : k ≤ xs.length) : (padTo k xs).take k = xs.take k :=
  List.take_append_of_le_length h

theorem padTo_take_long {xs : List Byte} {k : Nat} (h : xs.length ≤ k) :
    (padTo k xs).take k = xs ++ List.replicate (k - xs.length) 0 :=
  List.take_of_length_le (by simp only [padTo, List.length_append, List.length_replicate]; omega)

/-- What a READ clocks out after the status byte: a turnaround byte, two of length and the head frame. -/
def State.spiReply (s : State) : List Byte := (0 : Byte) :: beBytes 2 s.headBytes.length ++ s.headBytes

theorem spiReply_length (s : State) : s.spiReply.length = s.headBytes.length + 3 := by
  simp only [State.spiReply, List.length_append, List.length_cons, beBytes_length]
  omega

theorem spiReply_nothing {s : State} (h : s.spiHead = none) : s.spiReply = List.replicate 3 0 := by
  have empty : s.headBytes = [] := by rw [State.headBytes, h]
  rw [State.spiReply, empty]
  rfl

/-! ## What a READ leaves (R302, R307) -/

theorem spiRead_nothing {s : State} (h : s.spiHead = none) (k : Nat) :
    spiRead k s = misoOut s.spiByte (List.replicate k 0) s := by
  have zeros : (padTo k s.spiReply).take k = List.replicate k 0 := by
    rw [spiReply_nothing h, padTo, List.length_replicate, List.replicate_append_replicate, List.take_replicate]
    congr 1
    omega
  have e : spiRead k s = misoOut s.spiByte ((padTo k s.spiReply).take k) s := by
    unfold spiRead
    rw [h]
    rfl
  rw [e, zeros]

section
variable {s u : State} {k c : Nat} {f : Frame} (h : s.spiHead = some (c, f, u))
include h

/-- The head frame has been given its event count, and nothing else differs. -/
theorem spiHead_departed : Departed s u ∧ u.lk.ports = s.lk.ports := by
  unfold State.spiHead at h
  split at h
  · split at h
    · next g _ =>
      cases h
      exact ⟨stampEvent_departed spiPath g s, stampEvent_ports spiPath g s⟩
    · cases h
  · cases h

/-- A READ that stops inside the head frame keeps it at the head. -/
theorem spiRead_part (hk : k < s.headBytes.length + 3) :
    spiRead k s = misoOut s.spiByte (s.spiReply.take k)
      { s with lk := { s.lk with spiPart := if k ≤ 3 then s.lk.spiPart else some c } } := by
  have short : (padTo k s.spiReply).take k = s.spiReply.take k := padTo_take_short (by rw [spiReply_length]; omega)
  rw [← short]
  unfold spiRead
  rw [h]
  exact if_neg (Nat.not_le.mpr hk)

/-- A READ that takes all of the head frame removes it. -/
theorem spiRead_whole (hk : s.headBytes.length + 3 ≤ k) :
    spiRead k s = spiRemove c f
      (misoOut s.spiByte (s.spiReply ++ List.replicate (k - (s.headBytes.length + 3)) 0) u) := by
  have long : (padTo k s.spiReply).take k = s.spiReply ++ List.replicate (k - (s.headBytes.length + 3)) 0 := by
    rw [padTo_take_long (by rw [spiReply_length]; exact hk), spiReply_length]
  rw [← long]
  unfold spiRead
  rw [h]
  exact if_pos hk

end

/-- A queue that has lost its head has lost it, whatever its tokens. -/
theorem cls_pop (q : PathQ) (c t n : Nat) : ({ q.pop c with tokens := t, since := n } : PathQ).cls c = (q.cls c).tail := by
  match c with
  | 0 => rfl
  | 1 => rfl
  | 2 => rfl
  | _ + 3 => rfl

/-- The head frame `f` of class `c` has left the SPI queue, a frame of class 2 paid for with its tokens. -/
def State.spiPopped (c : Nat) (f : Frame) (s : State) : State :=
  updPath spiPath
    (fun q => { q.pop c with
      tokens := s.tokens spiPath - (if c = 2 then (f.bytes spiPath).length else 0) * 80000, since := s.uptime })
    { s with lk := { s.lk with spiPart := none } }

/-- Where no LINK_CFG waits, a frame that has been read whole leaves nothing behind but its Loggia counts. -/
theorem spiRemove_counts {s : State} (hc : s.lk.change = []) (c : Nat) (f : Frame) :
    spiRemove c f s = countFrame spiPath (.polcor f) (s.spiPopped c f) := by
  have counted := countFrame_departed spiPath (.polcor f) (s.spiPopped c f)
  unfold spiRemove spiGone
  dsimp only
  split
  · exact linkCfgGone_unchanged (counted.change.trans hc) _ _
  · rfl

/-! ## IDENT and PING (R320, R321) -/

theorem identOwn_answers (tk : Ticket) (p : List Byte) (s : State) :
    identOwn tk p s = reply s (.okWith (wBytes (regValue s 0) ++ wBytes (regValue s 4) ++ beBytes 8 Config.serial.toNat ++
      beBytes 6 (Config.mac 0).toNat ++ beBytes 6 (Config.mac 1).toNat ++
      [BitVec.ofNat 8 s.th.mode.code, BitVec.ofNat 8 ((s.th.origin.map Mode.code).getD 0xFF), BitVec.ofNat 8 s.unit, 0])) := by
  unfold identOwn
  cases s.th.origin <;> rfl

/-- Settles O51: a READ sends the head frame and removes it when it is through; nothing else takes a frame. -/
theorem spiTransfersAndIdentity : Obligations.SpiTransfersAndIdentity := by
  refine ⟨fun s k hl h => ?_, fun s u k c f hl h hk => ?_, fun s u k c f hl h hk hc => ?_, fun s hl => ?_,
    fun s i k hl h2 h3 h5 => ?_, fun s m ht => ?_, fun s m p ht hlen => ?_⟩
  · exact exec_of_act (f := spiRead k) rfl rfl hl (by rw [spiRead_nothing h]; rfl)
  · exact Completes.of_effect (f := spiRead k) rfl rfl hl (spiRead_part h hk) rfl ⟨rfl, rfl⟩
  · obtain ⟨stamped, ports⟩ := spiHead_departed h
    generalize hv : misoOut s.spiByte (s.spiReply ++ List.replicate (k - (s.headBytes.length + 3)) 0) u = v
    have left := countFrame_departed spiPath (.polcor f) (v.spiPopped c f)
    have kept := countFrame_ports spiPath (.polcor f) (v.spiPopped c f)
    have whole := spiRead_whole h hk
    rw [hv, spiRemove_counts (by rw [← hv]; exact stamped.change.trans hc)] at whole
    refine Completes.of_effect (f := spiRead k) rfl rfl hl whole (left.pending.trans (by rw [← hv]; exact stamped.pending))
      ⟨?_, ?_, ?_, ?_, ?_, ?_, ?_, ?_⟩
    · rw [left, ← hv]
      rfl
    · rw [left]
      rfl
    · rw [left.path, State.spiPopped, updPath_path_same, cls_pop, ← hv]
      exact congrArg (fun q : PathQ => (q.cls c).tail) (stamped.path spiPath)
    · rw [left.boxes, ← hv]
      exact stamped.boxes
    · rw [left.regs, ← hv]
      exact stamped.regs
    · rw [kept, ← hv]
      exact ports
    · rw [left.tb, ← hv]
      exact stamped.tb
    · rw [left.ev, ← hv]
      exact stamped.ev
  · exact exec_of_act (f := spiStatus) rfl rfl hl rfl
  · have e : spiOther i k s = misoOut s.spiByte (List.replicate k 0) s := if_neg fun h => h.elim h2 (·.elim h3 h5)
    exact exec_of_act (f := spiOther i k) rfl rfl hl (by rw [e]; rfl)
  · exact Completes.of_lodge rfl ht rfl rfl rfl (identOwn_answers _ _ s) rfl
  · exact Completes.of_lodge (row := anyRow) (mode := anyMode) (own := pingOwn)
      (len := fun p => decide (p.length + 16 ≤ pathLimit (s.box m).src.path)) rfl ht rfl (decide_eq_true hlen) rfl rfl rfl

end Sys2Proof.Machine
end

section
/-!
PROOFS. The fault log (chapter 15) and the persistent words that it is written to (chapter 13).
-/
namespace Sys2Proof.Machine

/-! ## A store in which words have moved to spares (R369) -/

/-- The spare slots are listed in the order of their numbers. -/
def PStore.Sorted (p : PStore) : Prop := (p.spares.map Prod.fst).Pairwise (· < ·)

/-- Slot `k` with another cell. -/
def respare (k : Nat) (c : PWord) (e : Nat × Spare) : Nat × Spare := if e.1 = k then (e.1, { e.2 with cell := c }) else e

theorem respare_key (k : Nat) (c : PWord) (e : Nat × Spare) : (respare k c e).1 = e.1 := by
  unfold respare
  split <;> rfl

theorem respare_tag (k : Nat) (c : PWord) (e : Nat × Spare) : (respare k c e).2.tag = e.2.tag := by
  unfold respare
  split <;> rfl

/-- Where the slots are in order, the cell of a listed slot is replaced in place. -/
theorem insert_respare {k : Nat} {x : Spare} (c : PWord) : ∀ {t : Tab Spare}, (t.map Prod.fst).Pairwise (· < ·) → (k, x) ∈ t →
    Tab.insert t k { x with cell := c } = t.map (respare k c)
  | (j, y) :: t, hs, hm => by
    obtain ⟨hj, ht⟩ := List.pairwise_cons.mp hs
    have below : ∀ e ∈ t, j < e.1 := fun e he => hj e.1 (List.mem_map_of_mem he)
    rcases List.mem_cons.mp hm with h | h
    · cases h
      have rest : t.map (respare k c) = t :=
        (List.map_congr_left fun e he => if_neg (Nat.ne_of_gt (below e he))).trans (List.map_id t)
      rw [List.map_cons, rest]
      simp [Tab.insert, respare]
    · have hk := below _ h
      have hjk : respare k c (j, y) = (j, y) := if_neg (Nat.ne_of_lt hk)
      rw [List.map_cons, hjk, ← insert_respare c ht h]
      simp [Tab.insert, Nat.lt_asymm hk, Nat.ne_of_gt hk]

/-- A slot further on holds a word before one ahead of it (R369). -/
theorem holder_cons (e : Nat × Spare) (t : Tab Spare) (a : Nat) :
    holder (e :: t) a = (holder t a).or (if e.2.tag = a then some e else none) := by
  have ahead : ∀ (t : Tab Spare) (r : Option (Nat × Spare)),
      t.foldl (fun r kv => if kv.2.tag = a then some kv else r) r = (holder t a).or r := by
    intro t
    induction t with
    | nil => exact fun _ => rfl
    | cons kv t ih =>
      intro r
      unfold holder
      rw [List.foldl_cons, List.foldl_cons, ih, ih (if kv.2.tag = a then some kv else none), Option.or_assoc]
      congr 1
      split <;> rfl
  exact ahead t _

/-- The slot that holds a word is listed, and its tag names the word. -/
theorem holder_listed {a : Nat} {e : Nat × Spare} : ∀ {t : Tab Spare}, holder t a = some e → e ∈ t ∧ e.2.tag = a
  | kv :: t, h => by
    rw [holder_cons, Option.or_eq_some_iff] at h
    rcases h with h | ⟨-, h⟩
    · exact (holder_listed h).imp_left (List.mem_cons_of_mem kv)
    · split at h
      · next tag =>
        cases h
        exact ⟨List.mem_cons_self, tag⟩
      · cases h

/-- A cell that is replaced moves no word to another slot. -/
theorem holder_respare (k : Nat) (c : PWord) (a : Nat) :
    ∀ t : Tab Spare, holder (t.map (respare k c)) a = (holder t a).map (respare k c)
  | [] => rfl
  | e :: t => by
    rw [List.map_cons, holder_cons, holder_cons, respare_tag, holder_respare k c a t, Option.map_or]
    congr 1
    split <;> rfl

/-- A word that a slot holds has the slot's cell. -/
theorem PStore.cell_held {p : PStore} {a : Nat} {e : Nat × Spare} (h : holder p.spares a = some e) : p.cell a = e.2.cell := by
  rw [PStore.cell, h]

/-- A word that no slot holds has its own cell. -/
theorem PStore.cell_own {p : PStore} {a : Nat} (h : holder p.spares a = none) : p.cell a = Tab.get freshWord p.words a := by
  rw [PStore.cell, h]

/-- Entries of one key are one, where the keys ascend. -/
theorem key_unique {α : Type} {e f : Nat × α} :
    ∀ {t : List (Nat × α)}, (t.map Prod.fst).Pairwise (· < ·) → e ∈ t → f ∈ t → e.1 = f.1 → e = f
  | x :: t, hs, he, hf, h => by
    obtain ⟨first, rest⟩ := List.pairwise_cons.mp hs
    have later (y) (hy : y ∈ t) : x.1 < y.1 := first _ (List.mem_map_of_mem hy)
    rcases List.mem_cons.mp he with rfl | he'
    · rcases List.mem_cons.mp hf with rfl | hf'
      · rfl
      · exact absurd h (Nat.ne_of_lt (later f hf'))
    · rcases List.mem_cons.mp hf with rfl | hf'
      · exact absurd h.symm (Nat.ne_of_lt (later e he'))
      · exact key_unique rest he' hf' h

section
variable {p : PStore} (hs : p.Sorted)
include hs

/-- Two listed slots of one number are one. -/
theorem PStore.Sorted.unique {e f : Nat × Spare} (he : e ∈ p.spares) (hf : f ∈ p.spares) (h : e.1 = f.1) : e = f :=
  key_unique hs he hf h

theorem PStore.Sorted.setCell (a : Nat) (c : PWord) : (p.setCell a c).Sorted := by
  unfold PStore.setCell
  split
  · next k x h =>
    have keys : (p.spares.map (respare k c)).map Prod.fst = p.spares.map Prod.fst := by
      rw [List.map_map]
      exact List.map_congr_left fun e _ => respare_key k c e
    rw [PStore.Sorted, insert_respare c hs (holder_listed h).1, keys]
    exact hs
  · exact hs

/-- A word's cell that is replaced reads back, and no other word's cell changes. -/
theorem PStore.Sorted.cell_setCell (a b : Nat) (c : PWord) : (p.setCell a c).cell b = if b = a then c else p.cell b := by
  cases h : holder p.spares a with
  | none =>
    have set : p.setCell a c = { p with words := Tab.put freshWord p.words a c } := by rw [PStore.setCell, h]
    rw [set]
    by_cases e : b = a
    · subst e
      rw [if_pos rfl]
      exact (PStore.cell_own (p := { p with words := Tab.put freshWord p.words b c }) h).trans (Tab.get_put_same _ _ _ _)
    · unfold PStore.cell
      rw [if_neg e, Tab.get_put_other _ _ e]
  | some kx =>
    obtain ⟨listed, tag⟩ := holder_listed h
    have set : p.setCell a c = { p with spares := p.spares.map (respare kx.1 c) } := by
      rw [PStore.setCell, h, ← insert_respare c hs listed]
    have held (b : Nat) : holder (p.setCell a c).spares b = (holder p.spares b).map (respare kx.1 c) := by
      rw [set]
      exact holder_respare kx.1 c b p.spares
    by_cases e : b = a
    · subst e
      rw [if_pos rfl, PStore.cell_held ((held b).trans (congrArg _ h)), respare, if_pos rfl]
    · rw [if_neg e]
      cases hb : holder p.spares b with
      | none => rw [PStore.cell_own ((held b).trans (congrArg _ hb)), PStore.cell_own hb, set]
      | some jz =>
        obtain ⟨listed', tag'⟩ := holder_listed hb
        have other : jz.1 ≠ kx.1 := fun same => e (by rw [← tag', ← tag, hs.unique listed' listed same])
        rw [PStore.cell_held ((held b).trans (congrArg _ hb)), PStore.cell_held hb, respare, if_neg other]

end

/-! ## A word that takes a write (R368) -/

/-- A cell takes the next write: no failure of its verification is to come, and it is not worn out. -/
structure PWord.Fresh (c : PWord) : Prop where
  verifies : c.stuck = 0
  unworn : c.wear < 100000000

/-- What may have become of the store as word `a` was read or written: the slots stay in order, no other word's cell
changes, and the word can be written as before. -/
structure PStore.Touched (a : Nat) (p q : PStore) : Prop where
  sorted : q.Sorted
  other : ∀ b, b ≠ a → q.cell b = p.cell b
  fresh : (p.cell a).Fresh → (q.cell a).Fresh

theorem PStore.Touched.trans {a : Nat} {p q r : PStore} (h : PStore.Touched a p q) (k : PStore.Touched a q r) :
    PStore.Touched a p r where
  sorted := k.sorted
  other b hb := (k.other b hb).trans (h.other b hb)
  fresh f := k.fresh (h.fresh f)

/-- Words and spares that stay as they are. -/
theorem PStore.Touched.of_same {a : Nat} {p q : PStore} (hs : p.Sorted) (hw : q.words = p.words) (hp : q.spares = p.spares) :
    PStore.Touched a p q := by
  have cells (b : Nat) : q.cell b = p.cell b := by rw [PStore.cell, PStore.cell, hw, hp]
  refine ⟨?_, fun b _ => cells b, fun f => ?_⟩
  · rw [PStore.Sorted, hp]
    exact hs
  · rw [cells a]
    exact f

theorem PStore.Touched.setCell {a : Nat} {p : PStore} (hs : p.Sorted) {c : PWord} (hc : (p.cell a).Fresh → c.Fresh) :
    PStore.Touched a p (p.setCell a c) where
  sorted := hs.setCell a c
  other b hb := by rw [hs.cell_setCell, if_neg hb]
  fresh f := by
    rw [hs.cell_setCell, if_pos rfl]
    exact hc f

theorem detects_ps (fs : List Found) (s : State) : (detects fs s).ps = s.ps := by
  unfold detects
  split
  · rfl
  · exact (raises_said _ _).ps

theorem repairId_ps (id : FaultId) (action : Nat) (s : State) : (repairId id action s).ps = s.ps := by
  unfold repairId
  split
  · exact (raise_said 193 _).ps
  · rfl

theorem committed_ps (a : Nat) (was : Bool) (s : State) : (committed a was s).ps = s.ps := by
  unfold committed
  split
  · exact repairId_ps _ _ s
  · rfl

section
variable {a : Nat} {s : State} (hs : s.ps.Sorted)
include hs

theorem findUnreadable_touched : PStore.Touched a s.ps (findUnreadable a s).ps := by
  unfold findUnreadable
  dsimp only
  split
  · exact .of_same hs rfl rfl
  · rw [detects_ps, (raise_said 116 _).ps]
    have set := PStore.Touched.setCell (a := a) hs (c := { s.ps.cell a with unreadable := true }) fun f => ⟨f.verifies, f.unworn⟩
    exact set.trans (.of_same set.sorted rfl rfl)

theorem checkRead_touched : PStore.Touched a s.ps (checkRead a s).ps := by
  have clear : PStore.Touched a s.ps (clearUpset a s).ps := .of_same hs rfl rfl
  unfold checkRead checkWord
  split
  · split
    · exact clear
    · split
      · exact clear
      · exact .of_same hs rfl rfl
    · exact clear.trans (findUnreadable_touched (s := clearUpset a s) hs)
  · exact .of_same hs rfl rfl

variable (hf : (s.ps.cell a).Fresh) (v : W32)
include hf

/-- A write of a word that takes it: the word reads as written, and no other word's cell changes. -/
theorem writeWord_fresh : (writeWord a v s).2.ps.Sorted ∧ (writeWord a v s).2.ps.read a = v ∧
    ∀ b, b ≠ a → (writeWord a v s).2.ps.cell b = s.ps.cell b := by
  have clear : PStore.Touched a s.ps (clearUpset a s).ps := .of_same hs rfl rfl
  have cell : (clearUpset a s).ps.cell a = s.ps.cell a := rfl
  have wrote : (writeWord a v s).2.ps = (clearUpset a s).ps.setCell a
      { data := v, wear := wearAdd (s.ps.cell a).wear 1, unreadable := false, stuck := 0 } := by
    unfold writeWord
    dsimp only
    rw [cell, PWord.attempts_first hf.verifies hf.unworn, if_pos rfl, committed_ps]
  have read := clear.sorted.cell_setCell a a
    { data := v, wear := wearAdd (s.ps.cell a).wear 1, unreadable := false, stuck := 0 }
  rw [if_pos rfl] at read
  rw [wrote]
  refine ⟨clear.sorted.setCell a _, ?_, fun b hb => ?_⟩
  · rw [PStore.read_readable (by rw [read]), read]
  · rw [clear.sorted.cell_setCell, if_neg hb]
    exact clear.other b hb

/-- A commit of a word that takes a write, whatever error stood in it: the word reads as committed, and no other word's
cell changes. -/
theorem commitOwn_fresh : (commitOwn a v s).ps.Sorted ∧ (commitOwn a v s).ps.read a = v ∧
    ∀ b, b ≠ a → (commitOwn a v s).ps.cell b = s.ps.cell b := by
  have checked := checkRead_touched (a := a) hs
  unfold commitOwn commit
  dsimp only
  split
  · next same =>
    rw [Bool.and_eq_true, Bool.not_eq_true', beq_iff_eq] at same
    obtain ⟨readable, data⟩ := same
    rw [committed_ps]
    exact ⟨checked.sorted, (PStore.read_readable readable).trans data, checked.other⟩
  · obtain ⟨sorted, read, other⟩ := writeWord_fresh checked.sorted (checked.fresh hf) v
    exact ⟨sorted, read, fun b hb => (other b hb).trans (checked.other b hb)⟩

end

/-- Words that the part commits of its own accord, one after the other. -/
def commitsOwn (ws : List (Nat × W32)) (s : State) : State := ws.foldl (fun s w => commitOwn w.1 w.2 s) s

theorem commitsOwn_stored : ∀ (ws : List (Nat × W32)) (s : State), Stored s (commitsOwn ws s)
  | [], s => .refl s
  | w :: ws, s => (commitOwn_stored w.1 w.2 s).trans (commitsOwn_stored ws _)

/-- Different words that take a write all read as committed, and no other word's cell changes. -/
theorem commitsOwn_fresh : ∀ {ws : List (Nat × W32)} {s : State}, s.ps.Sorted → (ws.map Prod.fst).Nodup →
    (∀ w ∈ ws, (s.ps.cell w.1).Fresh) → (commitsOwn ws s).ps.Sorted ∧
    (∀ w ∈ ws, (commitsOwn ws s).ps.read w.1 = w.2) ∧
      ∀ b, b ∉ ws.map Prod.fst → (commitsOwn ws s).ps.cell b = s.ps.cell b
  | [], s, hs, _, _ => ⟨hs, fun w hw => absurd hw List.not_mem_nil, fun _ _ => rfl⟩
  | (a, v) :: ws, s, hs, hn, hf => by
    obtain ⟨ha, hn⟩ := List.nodup_cons.mp hn
    obtain ⟨sorted, read, other⟩ := commitOwn_fresh hs (hf _ List.mem_cons_self) v
    have apart : ∀ w ∈ ws, w.1 ≠ a := by
      rintro w hw rfl
      exact ha (List.mem_map.mpr ⟨w, hw, rfl⟩)
    obtain ⟨sorted, reads, others⟩ := commitsOwn_fresh (ws := ws) sorted hn fun w hw => by
      rw [other w.1 (apart w hw)]
      exact hf w (List.mem_cons_of_mem _ hw)
    refine ⟨sorted, fun w hw => ?_, fun b hb => ?_⟩
    · rcases List.mem_cons.mp hw with rfl | hw
      · exact (PStore.read_congr (others a ha)).trans read
      · exact reads w hw
    · rw [List.map_cons, List.mem_cons, not_or] at hb
      exact (others b hb.2).trans (other b hb.1)

/-! ## FAULT_LOG_ENTRY (R422) -/

/-- The words of the log entry `e` of index `i`. -/
def entryWords (e : LogEntry) (i : Nat) : List (Nat × W32) :=
  (List.range 4).map (fun j => (logAddr i + 4 * j, pWord e.bytes (4 * j)))

/-- An entry counts as written: the next index, and a token less. -/
def State.entryLogged (s : State) : State :=
  { s with av := { s.av with logNext := s.av.logNext + 1, tokens := s.av.tokens - 1 } }

/-- The first of the entries that wait has left the queue, which leaves `r`, and the tokens are counted up to now. -/
def State.logTaken (r : List LogEntry) (s : State) : State := fillTokens { s with av := { s.av with log := r } }

theorem writeLog_eq (e : LogEntry) (s : State) :
    writeLog e s = commitOwn logNextAddr (s.av.logNext + 1) (commitsOwn (entryWords e s.av.logNext.toNat) s).entryLogged := by
  have words : (List.range 4).foldl
      (fun s' j => commitOwn (logAddr s.av.logNext.toNat + 4 * j) (pWord e.bytes (4 * j)) s') s =
        commitsOwn (entryWords e s.av.logNext.toNat) s := by
    rw [commitsOwn, entryWords, List.foldl_map]
  have stored := commitsOwn_stored (entryWords e s.av.logNext.toNat) s
  have next : (commitsOwn (entryWords e s.av.logNext.toNat) s).av.logNext = s.av.logNext := by rw [stored]
  unfold writeLog State.entryLogged
  dsimp only
  rw [words, next]

section
variable {s : State} {e : LogEntry} {r : List LogEntry} (h : s.av.log = e :: r)
include h

theorem faultLogEntry_lost (ht : (fillTokens s).av.tokens = 0) :
    faultLogEntry s = { s with av := { s.av with
      log := r, logLost := s.av.logLost + 1, tokens := 0, tokenAt := (s.logTaken r).av.tokenAt } } := by
  have out : (s.logTaken r).av.tokens = 0 := ht
  unfold faultLogEntry
  rw [h]
  refine (if_pos out).trans ?_
  rw [← out]
  rfl

theorem faultLogEntry_writes (ht : (fillTokens s).av.tokens ≠ 0) : faultLogEntry s = writeLog e (s.logTaken r) := by
  unfold faultLogEntry
  rw [h]
  exact if_neg ht

end

/-- An entry that is written advances the index and takes a token; beside that, it is words committed. -/
theorem writeLog_stored (e : LogEntry) (s : State) :
    ∃ w, Stored s w ∧ Stored w.entryLogged (writeLog e s) := by
  rw [writeLog_eq]
  exact ⟨_, commitsOwn_stored _ s, commitOwn_stored _ _ _⟩

theorem logNextAddr_below (i j : Nat) : logNextAddr ≠ logAddr i + 4 * j := by
  unfold logNextAddr logAddr
  omega

theorem entryWords_addresses (e : LogEntry) (i a : Nat) :
    a ∈ (entryWords e i).map Prod.fst ↔ ∃ j, j < 4 ∧ a = logAddr i + 4 * j := by
  simp [entryWords, eq_comm]

theorem entryWords_apart (e : LogEntry) (i : Nat) : ((entryWords e i).map Prod.fst).Nodup := by
  rw [entryWords, List.map_map]
  refine List.Pairwise.map _ (fun x y apart same => apart ?_) List.nodup_range
  have address : logAddr i + 4 * x = logAddr i + 4 * y := same
  omega

/-- Where the words of an entry and of the next index take a write, they read as written and every other word as before. -/
theorem writeLog_fresh {e : LogEntry} {s : State} (hs : s.ps.Sorted)
    (hf : ∀ a, a = logNextAddr ∨ (∃ j, j < 4 ∧ a = logAddr s.av.logNext.toNat + 4 * j) → (s.ps.cell a).Fresh) :
    (∀ j, j < 4 → (writeLog e s).ps.read (logAddr s.av.logNext.toNat + 4 * j) = pWord e.bytes (4 * j)) ∧
      (writeLog e s).ps.read logNextAddr = s.av.logNext + 1 ∧
      ∀ a, a ≠ logNextAddr → (∀ j, j < 4 → a ≠ logAddr s.av.logNext.toNat + 4 * j) →
        (writeLog e s).ps.read a = s.ps.read a := by
  have addresses := entryWords_addresses e s.av.logNext.toNat
  obtain ⟨sorted, reads, others⟩ := commitsOwn_fresh hs (entryWords_apart e s.av.logNext.toNat) fun w hw =>
    hf w.1 (.inr ((addresses w.1).mp (List.mem_map.mpr ⟨w, hw, rfl⟩)))
  have below : logNextAddr ∉ (entryWords e s.av.logNext.toNat).map Prod.fst := fun h => by
    obtain ⟨j, -, hj⟩ := (addresses _).mp h
    exact logNextAddr_below _ j hj
  have next := hf logNextAddr (.inl rfl)
  rw [← others logNextAddr below] at next
  rw [writeLog_eq]
  generalize commitsOwn (entryWords e s.av.logNext.toNat) s = w at sorted reads others next
  obtain ⟨-, read, other⟩ := commitOwn_fresh (s := w.entryLogged) sorted next (s.av.logNext + 1)
  refine ⟨fun j hj => ?_, read, fun a ha hw => ?_⟩
  · rw [PStore.read_congr (other _ (logNextAddr_below _ j).symm)]
    exact reads (logAddr s.av.logNext.toNat + 4 * j, pWord e.bytes (4 * j))
      (List.mem_map.mpr ⟨j, List.mem_range.mpr hj, rfl⟩)
  · rw [PStore.read_congr (other a ha)]
    exact PStore.read_congr (others a fun h => by
      obtain ⟨j, hj, e⟩ := (addresses a).mp h
      exact hw j hj e)

/-! ## FAULT_LOG (R360) -/

/-- How far back the first index of a FAULT_LOG lies (log 44). -/
def State.logBack (s : State) (p : List Byte) : Int := signed 32 (s.av.logNext.toNat + 2 ^ 32 - pNat p 0 4)

/-- The words of `k` entries from the first index of a FAULT_LOG on. -/
def logWords (p : List Byte) (k : Nat) : List Nat :=
  (List.range k).flatMap (fun j => (List.range 4).map (fun w => logAddr (pNat p 0 4 + j) + 4 * w))

section
variable {s : State} {p : List Byte} (reads : Reads) (tk : Ticket)

theorem faultLogOwn_badarg (h : pByte p 4 = 0 ∨ 64 < pByte p 4) : faultLogOwn reads tk p s = reply s (.badarg 4) := if_pos h

variable (h1 : 1 ≤ pByte p 4) (h64 : pByte p 4 ≤ 64)
include h1 h64

theorem faultLogOwn_stale (h : Int.ofNat (s.av.logNext.toNat - (s.av.logNext.toNat - 2048)) < s.logBack p) :
    faultLogOwn reads tk p s = reply s (.plain .stale) :=
  (if_neg (by omega)).trans (if_pos h)

/-- The entries that exist are read, which finds the errors that stand in their words, and answered. -/
theorem faultLogOwn_reads (h : s.logBack p ≤ Int.ofNat (s.av.logNext.toNat - (s.av.logNext.toNat - 2048))) :
    faultLogOwn reads tk p s =
      reply (checkReads (logWords p (min (pByte p 4) (s.logBack p).toNat)) (strike reads s))
        (.okWith (beBytes 4 s.av.logNext.toNat ++ beBytes 4 (s.av.logNext.toNat - 2048) ++
          beBytes 4 (min (pByte p 4) (s.logBack p).toNat) ++
          (logWords p (min (pByte p 4) (s.logBack p).toNat)).flatMap (fun a =>
            wBytes ((checkReads (logWords p (min (pByte p 4) (s.logBack p).toNat)) (strike reads s)).ps.read a)))) := by
  have few : ¬(pByte p 4 = 0 ∨ 64 < pByte p 4) := by omega
  refine (if_neg few).trans ((if_neg (Int.not_lt.mpr h)).trans ?_)
  rw [logWords, List.flatMap_assoc]
  rfl

end

/-- A FAULT_LOG of eight bytes that the Lodge takes completes with what its own rule yields, in every mode. -/
theorem faultLog_completes {s u : State} {m : Nat} {p : List Byte} {reads : Reads} {a : Answer} (ht : Takes s m 0x0B02 p)
    (hlen : p.length = 8) (ho : faultLogOwn reads (s.ticket m) p s = reply u a) (hp : u.pending = s.pending) :
    Completes (.faultLog m reads) s (fun t => Said u t ∧ Answered m a t) :=
  Completes.of_lodge (row := anyRow) (len := fun p => p.length == 8) (mode := anyMode) rfl ht rfl (beq_iff_eq.mpr hlen) rfl
    ho hp

theorem strike_stored (reads : Reads) (s : State) : Stored s (strike reads s) := .of_ps _ s

end Sys2Proof.Machine
end

section
/-!
PROOFS. The restart and halt of the Lodge, and the restart of a flight (chapter 15).
-/
namespace Sys2Proof.Machine

/-! ## FLRST (R414) -/

/-- The channels of `l` are changed by `g`, one after the other. -/
def updAChans (g : AChan → AChan) (l : List Nat) (s : State) : State := l.foldl (fun s i => updAChan i g s) s

theorem updAChans_cons (g : AChan → AChan) (i : Nat) (l : List Nat) (s : State) :
    updAChans g (i :: l) s = updAChans g l (updAChan i g s) := rfl

theorem updAChans_only (g : AChan → AChan) : ∀ (l : List Nat) (s : State), ∃ a, updAChans g l s = { s with ar := a }
  | [], s => ⟨s.ar, rfl⟩
  | i :: l, s => by
    obtain ⟨a, e⟩ := updAChans_only g l (updAChan i g s)
    exact ⟨a, by rw [updAChans_cons, e]; rfl⟩

theorem updAChans_other (g : AChan → AChan) {j : Nat} : ∀ {l : List Nat} (s : State), j ∉ l →
    (updAChans g l s).achan j = s.achan j
  | [], _, _ => rfl
  | i :: l, s, h => by
    rw [List.mem_cons, not_or] at h
    rw [updAChans_cons, updAChans_other g _ h.2, updAChan_achan_other g s h.1]

/-- A listed channel has been changed, last of all. -/
theorem updAChans_changed (g : AChan → AChan) {j : Nat} {l : List Nat} (s : State) (h : j ∈ l) :
    ∃ a, (updAChans g l s).achan j = g a := by
  induction l generalizing s with
  | nil => exact absurd h List.not_mem_nil
  | cons i l ih =>
    rw [updAChans_cons]
    by_cases again : j ∈ l
    · exact ih (updAChan i g s) again
    · rw [updAChans_other g _ again, (List.mem_cons.mp h).resolve_right again]
      exact ⟨s.achan i, updAChan_achan_same i g s⟩

/-- The channels that a FLRST clears: those of its flight, and none for the flight of emitters (R414). -/
def flrstChans (f : Nat) : List Nat := if f < 32 then flightChans f else []

theorem mem_flrstChans {f i : Nat} : i ∈ flrstChans f ↔ f < 32 ∧ i ∈ flightChans f := by
  unfold flrstChans
  split <;> simp [*]

section
variable {f : Nat} {s : State}

/-- A FLRST that begins: the flight is being restarted, its consumer path is told in the ledger and the dwells, and the
channels of a flight of receivers are cleared. -/
theorem flrst_begins (hd : s.restartDue f = true) (hf : f ∉ s.fl.flrst) (hp : s.passing f = false) :
    ∃ w : State, flrst f s = updAChans AChan.clear (flrstChans f) w ∧
      w = { s with fl := { s.fl with flrst := f :: s.fl.flrst }, ar := w.ar, sh := w.sh } ∧
      w.ar.chans = s.ar.chans ∧ w.sh.shotNum = s.sh.shotNum := by
  have go : ¬(!s.restartDue f || s.fl.flrst.contains f || s.passing f) = true := by simp [hd, hf, hp]
  unfold flrst flrstChans
  rw [if_neg go]
  by_cases h : f < 32
  · simp only [h, if_true]
    exact ⟨_, rfl, rfl, rfl, rfl⟩
  · simp only [h, if_false]
    exact ⟨_, rfl, rfl, rfl, rfl⟩

theorem flrst_idle (h : s.restartDue f = false ∨ f ∈ s.fl.flrst ∨ s.passing f = true) : flrst f s = s :=
  if_pos (by rcases h with h | h | h <;> simp [h])

/-- The end of a FLRST, but for the faults that it repairs. -/
def State.restarted (f : Nat) (s : State) : State :=
  updAChans (fun a => { a with opened := none }) (flrstChans f)
    { s with fl := { s.fl with flrst := s.fl.flrst.filter (fun g => g ≠ f) } }

theorem flrstEnd_ends (hf : f ∈ s.fl.flrst) :
    flrstEnd f s = repair 0x0204 f 4 (repair 0x0202 f 4 (repair 0x0201 f 4 (s.restarted f))) := by
  have go : ¬(!s.fl.flrst.contains f) = true := by simp [hf]
  unfold flrstEnd State.restarted flrstChans
  rw [if_neg go]
  by_cases h : f < 32
  · simp only [h, if_true]
    rfl
  · simp only [h, if_false]
    rfl

theorem flrstEnd_idle (hf : f ∉ s.fl.flrst) : flrstEnd f s = s := if_pos (by simp [hf])

end

theorem AChan.clear_empty (a : AChan) : a.clear.incs = [] ∧ a.clear.waits = [] ∧ a.clear.acc = [] := by
  unfold AChan.clear AChan.acc AChan.setAcc
  cases a.accY <;> simp

/-- A fault that is repaired is outstanding no more, and none comes to be so. -/
theorem repair_ended (code unit action : Nat) (s : State) : (repair code unit action s).outstanding code unit = false :=
  outstanding_false fun h => by
    rw [repair_outst] at h
    simpa using (List.mem_filter.mp h).2

theorem repair_outstanding_false {code unit : Nat} {s : State} (h : s.outstanding code unit = false) (code' unit' action : Nat) :
    (repair code' unit' action s).outstanding code unit = false :=
  outstanding_false fun k => by
    rw [repair_outst] at k
    exact ne_true_of_eq_false h (List.contains_iff_mem.mpr (List.mem_filter.mp k).1)

theorem Said.outstanding {s t : State} (h : Said s t) (code unit : Nat) : t.outstanding code unit = s.outstanding code unit := by
  unfold State.outstanding
  rw [h.outst]

/-! ## What a restart of the Lodge carries over (R420, R421) -/

/-- The restart of the Lodge, the time base, the flights and the Gallery memory stay as they are; no event that stands is
cleared but that of discarded frames, and no fault ends but those of words. -/
structure Carried (s t : State) : Prop where
  pending : t.pending = s.pending
  tb : t.tb = s.tb
  fl : t.fl = s.fl
  mem : t.gl.mem = s.gl.mem
  restart : t.av.restart = s.av.restart
  halt : t.av.halt = s.av.halt
  cut : t.av.cut = s.av.cut
  restarts : t.av.restarts = s.av.restarts
  latched : ∀ n, n ≠ 134 → (s.ev.get n).latched = true → (t.ev.get n).latched = true
  faults : KeepsFaults s t

theorem Carried.trans {s t u : State} (h : Carried s t) (k : Carried t u) : Carried s u where
  pending := k.pending.trans h.pending
  tb := k.tb.trans h.tb
  fl := k.fl.trans h.fl
  mem := k.mem.trans h.mem
  restart := k.restart.trans h.restart
  halt := k.halt.trans h.halt
  cut := k.cut.trans h.cut
  restarts := k.restarts.trans h.restarts
  latched n hn hs := k.latched n hn (h.latched n hn hs)
  faults := h.faults.trans k.faults

theorem Carried.outstanding {s t : State} (h : Carried s t) {code unit : Nat} (hc : code ≠ 0x0701)
    (k : s.outstanding code unit = true) : t.outstanding code unit = true :=
  List.contains_iff_mem.mpr (h.faults _ (List.contains_iff_mem.mp k) hc)

theorem Carried.of_said {s t : State} (h : Said s t) (k : OnlyDrops s t) : Carried s t where
  pending := h.pending
  tb := h.tb
  fl := h.fl
  mem := h.mem
  restart := by rw [h]
  halt := by rw [h]
  cut := by rw [h]
  restarts := by rw [h]
  latched _ hn hs := k.latched hn hs
  faults := .of_same h.outst

theorem Carried.of_stored {s t : State} (h : Stored s t)
    (k : ∀ n, (s.ev.get n).latched = true → (t.ev.get n).latched = true) (hf : KeepsFaults s t) : Carried s t where
  pending := h.pending
  tb := h.tb
  fl := h.fl
  mem := h.mem
  restart := by rw [h]
  halt := by rw [h]
  cut := by rw [h]
  restarts := by rw [h]
  latched n _ hs := k n hs
  faults := hf

theorem Carried.of_units (s : State) (a : Shots) (b : Balustrade) : Carried s { s with sh := a, bl := b } :=
  ⟨rfl, rfl, rfl, rfl, rfl, rfl, rfl, rfl, fun _ _ h => h, fun _ h _ => h⟩

theorem Carried.refl (s : State) : Carried s s := .of_units s _ _

theorem foldl_carried {α : Type} {g : State → α → State} (hg : ∀ u x, Carried u (g u x)) :
    ∀ (l : List α) (s : State), Carried s (l.foldl g s)
  | [], s => .refl s
  | x :: l, s => (hg s x).trans (foldl_carried hg l _)

theorem complete_carried (tk : Ticket) (a : Answer) (s : State) : Carried s (complete tk a s) :=
  .of_said (complete_said tk a s) (complete_onlyDrops tk a s)

theorem completeNow_carried (tk : Ticket) (a : Answer) (s : State) : Carried s (completeNow tk a s) :=
  .of_said (completeNow_said tk a s) (completeNow_onlyDrops tk a s)

theorem respond_carried (m : Nat) (a : Answer) (s : State) : Carried s (respond m a s) :=
  .of_said (respond_said m a s) ((OnlyDrops.of_ev rfl).trans (sendResponse_onlyDrops _ _ _))

theorem commits_carried : ∀ (ws : List (Nat × W32)) (s : State), Carried s (commits ws s).2.2
  | [], s => .refl s
  | (a, v) :: ws, s => by
    have first : Carried s (commit a v s).2 :=
      .of_stored (commit_stored a v s) (commit_bookkept a v s).latched (commitOwn_keepsFaults s a v)
    unfold commits
    split
    · next t e =>
      rw [e] at first
      exact first.trans (commits_carried ws t)
    · next t e =>
      rw [e] at first
      exact first

theorem cancelAdmission_carried (s : State) : Carried s (cancelAdmission s) := by
  unfold cancelAdmission
  split
  · exact (Carried.of_units s _ _).trans (complete_carried _ faulted _)
  · exact .refl s

theorem cancelAdmission_none (s : State) : (cancelAdmission s).sh.admission = none := by
  unfold cancelAdmission
  split
  · rw [(complete_said _ faulted _).sh]
  · next h => exact h

theorem cancelEnvLoad_carried (k : Nat) (s : State) : Carried s (cancelEnvLoad k s) := by
  unfold cancelEnvLoad
  split
  · exact (commits_carried _ s).trans ((Carried.of_units _ _ _).trans (complete_carried _ faulted _))
  · exact .refl s

theorem cancelEnvLoad_none (k : Nat) (s : State) : (cancelEnvLoad k s).bl.envLoad = none := by
  unfold cancelEnvLoad
  split
  · exact congrArg Balustrade.envLoad (complete_said _ faulted _).bl
  · next h => exact h

theorem cancelEnvLoad_sh (k : Nat) (s : State) : (cancelEnvLoad k s).sh = s.sh := by
  unfold cancelEnvLoad
  split
  · exact (complete_said _ faulted _).sh.trans (commits_stored _ s).sh
  · rfl

/-- Where the Lodge is executing a command that no operand names, it takes no other: none is cut short. -/
theorem cutWords_running (k : Nat) (s : State) : cutWords (s.executing none) k s = s := by
  cases h : s.executing none with
  | none => rfl
  | some m =>
    have busy : s.lodgeRuns = false := by
      unfold State.executing at h
      unfold State.lodgeRuns State.midCommand
      split at h
      · next r => simp [r]
      · split at h <;> simp_all
    exact if_neg (ne_true_of_eq_false busy)

/-! ## A mismatch that restarts the Lodge (R419, R420) -/

/-- A mismatch has been counted among those of the last 60 s. -/
def State.mismatched (s : State) : State :=
  { s with av := { s.av with mismatches := s.uptime :: s.av.mismatches.filter (fun t => s.uptime ≤ t + 60000000000) } }

/-- The restart has begun, and nothing is cancelled yet. -/
def State.restartBegun (cut : Option Nat) (s : State) : State :=
  let w := count 240 1 (raise 195 (detect 0x0401 0 7 true s))
  { w with av := { w.av with restart := true, restarts := w.av.restarts + 1, cut := cut } }

/-- What the Lodge was admitting and loading is given up (R420). -/
def State.givenUp (k : Nat) (s : State) : State := cancelEnvLoad k (cancelAdmission s)

theorem givenUp_carried (k : Nat) (s : State) : Carried s (s.givenUp k) :=
  (cancelAdmission_carried s).trans (cancelEnvLoad_carried k _)

theorem givenUp_admission (k : Nat) (s : State) : (s.givenUp k).sh.admission = none :=
  (congrArg Shots.admission (cancelEnvLoad_sh k _)).trans (cancelAdmission_none s)

theorem givenUp_envLoad (k : Nat) (s : State) : (s.givenUp k).bl.envLoad = none := cancelEnvLoad_none k _

theorem restartLodge_eq (cut : Option Nat) (k : Nat) (s : State) :
    restartLodge cut k s = (s.restartBegun cut).givenUp k := by
  unfold restartLodge State.restartBegun State.givenUp
  rfl

/-- What stands as a restart begins: fault 0x0401, event 195, and one restart more. -/
structure RestartBegun (cut : Option Nat) (s t : State) : Prop where
  pending : t.pending = s.pending
  tb : t.tb = s.tb
  fl : t.fl = s.fl
  mem : t.gl.mem = s.gl.mem
  restart : t.av.restart = true
  halt : t.av.halt = s.av.halt
  cut : t.av.cut = cut
  restarts : t.av.restarts = s.av.restarts + 1
  latched : (t.ev.get 195).latched = true
  outstanding : t.outstanding 0x0401 0 = true

theorem restartBegun_begun (cut : Option Nat) (s : State) : RestartBegun cut s (s.restartBegun cut) := by
  have stored : Stored s (count 240 1 (raise 195 (detect 0x0401 0 7 true s))) :=
    (detect_stored 0x0401 0 7 true s).trans ((raise_stored 195 _).trans (count_stored 240 1 _))
  have latched : ((count 240 1 (raise 195 (detect 0x0401 0 7 true s))).ev.get 195).latched = true :=
    raises_latched _ (List.mem_singleton_self 195)
  have found : (count 240 1 (raise 195 (detect 0x0401 0 7 true s))).outstanding 0x0401 0 = true := by
    have said := (raise_said 195 (detect 0x0401 0 7 true s)).trans (count_said 240 1 _)
    exact (said.outstanding _ _).trans (detect_outstanding 0x0401 0 7 s)
  unfold State.restartBegun
  generalize count 240 1 (raise 195 (detect 0x0401 0 7 true s)) = w at stored latched found
  exact ⟨stored.pending, stored.tb, stored.fl, stored.mem, rfl, by rw [stored], rfl, by rw [stored], latched, found⟩

theorem RestartBegun.givenUp {cut : Option Nat} {s t : State} (h : RestartBegun cut s t) (k : Nat) :
    RestartBegun cut s (t.givenUp k) where
  pending := (givenUp_carried k t).pending.trans h.pending
  tb := (givenUp_carried k t).tb.trans h.tb
  fl := (givenUp_carried k t).fl.trans h.fl
  mem := (givenUp_carried k t).mem.trans h.mem
  restart := (givenUp_carried k t).restart.trans h.restart
  halt := (givenUp_carried k t).halt.trans h.halt
  cut := (givenUp_carried k t).cut.trans h.cut
  restarts := (givenUp_carried k t).restarts.trans h.restarts
  latched := (givenUp_carried k t).latched 195 (by decide) h.latched
  outstanding := (givenUp_carried k t).outstanding (by decide) h.outstanding

section
variable {s : State} (hh : s.av.halt = false)
include hh

theorem lockstepMismatch_restarts (h : (s.av.mismatches.filter (fun u => s.uptime ≤ u + 60000000000)).length < 2) (a b : Nat) :
    lockstepMismatch none a b s = restartLodge (s.executing none) b s.mismatched := by
  have few : ¬3 ≤ (s.uptime :: s.av.mismatches.filter (fun u => s.uptime ≤ u + 60000000000)).length := by
    rw [List.length_cons]
    omega
  unfold lockstepMismatch
  rw [if_neg (ne_true_of_eq_false hh)]
  dsimp only
  rw [cutWords_running]
  exact if_neg few

theorem lockstepMismatch_halts (h : 2 ≤ (s.av.mismatches.filter (fun u => s.uptime ≤ u + 60000000000)).length) (a b : Nat) :
    lockstepMismatch none a b s = haltLodge b s.mismatched := by
  have third : 3 ≤ (s.uptime :: s.av.mismatches.filter (fun u => s.uptime ≤ u + 60000000000)).length := by
    rw [List.length_cons]
    omega
  unfold lockstepMismatch
  rw [if_neg (ne_true_of_eq_false hh)]
  dsimp only
  rw [cutWords_running]
  exact if_pos third

end

/-! ## The third mismatch halts the Lodge (R421) -/

/-- Every command that waits is answered FAULT. -/
def State.allFaulted (s : State) : State := ((List.range 32).filter s.waits).foldl (fun s m => respond m faulted s) s

/-- Every deferred operation but a STREAM completes with FAULT, and what fell due in a restart with its own result. -/
def State.allCompleted (s : State) : State :=
  let s := s.deferred.foldl (fun s tk => completeNow tk faulted s) s
  s.lk.due.foldl (fun s (d : Ticket × Answer) => completeNow d.1 d.2 s) s

/-- The Lodge stands still. -/
def State.lodgeHalted (s : State) : State :=
  { s with
    av := { s.av with halt := true, restart := false, cut := none }, cl := { s.cl with markAsk := none }
    lk := { s.lk with due := [], clearing := none } }

theorem haltLodge_eq (k : Nat) (s : State) :
    haltLodge k s = ((detect 0x0402 0 8 true s).givenUp k).allFaulted.allCompleted.lodgeHalted := by
  simp only [haltLodge, State.givenUp, State.allFaulted, State.allCompleted, State.lodgeHalted]

theorem allFaulted_carried (s : State) : Carried s s.allFaulted :=
  foldl_carried (fun u m => respond_carried m faulted u) _ s

theorem allCompleted_carried (s : State) : Carried s s.allCompleted :=
  (foldl_carried (fun u tk => completeNow_carried tk faulted u) _ s).trans
    (foldl_carried (fun u (d : Ticket × Answer) => completeNow_carried d.1 d.2 u) _ _)

theorem waits_congr {s t : State} {m : Nat} (hs : (t.box m).state = (s.box m).state) (ha : (t.box m).answer = (s.box m).answer) :
    t.waits m = s.waits m := by
  unfold State.waits
  rw [hs, ha]

/-- A completion takes no command from the Lodge and gives it none. -/
theorem completeNow_waits (tk : Ticket) (a : Answer) (s : State) (m : Nat) : (completeNow tk a s).waits m = s.waits m := by
  have stored : ∀ u : State, u.lk.boxes = (if (s.box tk.mb).l = tk.seq ∧ (s.box tk.mb).op = tk.op then
      updBox tk.mb (fun b => { b with compl := some a }) s else s).lk.boxes → u.waits m = s.waits m := by
    intro u hu
    have box := box_congr hu m
    split at box
    · by_cases e : m = tk.mb
      · subst e
        rw [updBox_box_same] at box
        exact waits_congr (by rw [box]) (by rw [box])
      · rw [updBox_box_other _ _ e] at box
        exact waits_congr (by rw [box]) (by rw [box])
    · exact waits_congr (by rw [box]) (by rw [box])
  unfold completeNow
  dsimp only
  split
  · exact stored _ (enqueue_boxes _ _ _ _)
  · exact stored _ (sendHost_boxes _ _ _)

theorem foldl_waits {α : Type} {g : State → α → State} {m : Nat} (hg : ∀ u x, (g u x).waits m = u.waits m) :
    ∀ (l : List α) (s : State), (l.foldl g s).waits m = s.waits m
  | [], _ => rfl
  | x :: l, s => (foldl_waits hg l (g s x)).trans (hg s x)

theorem allCompleted_waits (s : State) (m : Nat) : s.allCompleted.waits m = s.waits m :=
  (foldl_waits (fun u (d : Ticket × Answer) => completeNow_waits d.1 d.2 u m) _ _).trans
    (foldl_waits (fun u tk => completeNow_waits tk faulted u m) _ s)

theorem respond_answer (m : Nat) (a : Answer) (s : State) : ((respond m a s).box m).answer = some a := by
  unfold respond
  dsimp only
  rw [box_congr (sendResponse_boxes _ _ _), updBox_box_same]

theorem respond_other {m n : Nat} (a : Answer) (s : State) (h : n ≠ m) : (respond m a s).box n = s.box n := by
  unfold respond
  dsimp only
  rw [box_congr (sendResponse_boxes _ _ _), updBox_box_other _ _ h]

/-- A mailbox that is answered, or that waited for nothing, waits no more once others are answered too. -/
theorem responds_waits {m : Nat} {l : List Nat} (s : State) (h : m ∈ l ∨ s.waits m = false) :
    (l.foldl (fun s m => respond m faulted s) s).waits m = false := by
  induction l generalizing s with
  | nil => exact h.resolve_left List.not_mem_nil
  | cons n l ih =>
    rw [List.foldl_cons]
    by_cases e : m = n
    · subst e
      exact ih _ (.inr (by simp [State.waits, respond_answer]))
    · have box := respond_other faulted s e
      refine ih _ (h.imp (fun hm => (List.mem_cons.mp hm).resolve_left e) fun hw => ?_)
      exact (waits_congr (by rw [box]) (by rw [box])).trans hw

theorem allFaulted_waits {m : Nat} (hm : m < 32) (s : State) : s.allFaulted.waits m = false := by
  refine responds_waits s ?_
  cases h : s.waits m with
  | true => exact .inl (List.mem_filter.mpr ⟨List.mem_range.mpr hm, h⟩)
  | false => exact .inr rfl

/-- What a halt leaves: fault 0x0402 and no command waiting; the time base, the flights and the Gallery memory as they
were. -/
structure Halted (s t : State) : Prop where
  pending : t.pending = s.pending
  halt : t.av.halt = true
  outstanding : t.outstanding 0x0402 0 = true
  waits : ∀ m, m < 32 → t.waits m = false
  tb : t.tb = s.tb
  fl : t.fl = s.fl
  mem : t.gl.mem = s.gl.mem

theorem haltLodge_halts (k : Nat) (s : State) : Halted s (haltLodge k s) := by
  have stored := detect_stored 0x0402 0 8 true s
  have found := detect_outstanding 0x0402 0 8 s
  rw [haltLodge_eq]
  generalize detect 0x0402 0 8 true s = u at stored found
  have silent (m : Nat) (hm : m < 32) : (u.givenUp k).allFaulted.allCompleted.waits m = false :=
    (allCompleted_waits _ m).trans (allFaulted_waits hm _)
  have carried := (givenUp_carried k u).trans ((allFaulted_carried _).trans (allCompleted_carried _))
  generalize (u.givenUp k).allFaulted.allCompleted = v at silent carried
  exact ⟨carried.pending.trans stored.pending, rfl, carried.outstanding (by decide) found, silent, carried.tb.trans stored.tb,
    carried.fl.trans stored.fl, carried.mem.trans stored.mem⟩

/-! ## The end of a restart (R301, R419) -/

/-- The restart has ended, and its fault with it. -/
def State.resumed (s : State) : State :=
  repair 0x0401 0 7 { s with av := { s.av with restart := false, cut := none }, lk := { s.lk with due := [] } }

theorem resumed_stored (s : State) :
    Stored { s with av := { s.av with restart := false, cut := none }, lk := { s.lk with due := [] } } s.resumed :=
  repair_stored 0x0401 0 7 _

theorem resumed_outstanding (s : State) : s.resumed.outstanding 0x0401 0 = false := repair_ended 0x0401 0 7 _

/-- What a command that was cut short was marking and clearing is given up. -/
def State.unasked (s : State) : State :=
  { s with cl := { s.cl with markAsk := none }, lk := { s.lk with clearing := none } }

section
variable {s : State} (hr : s.av.restart = true) (hd : s.lk.due = [])
include hr hd

theorem lodgeRestartEnd_cut {m : Nat} (hc : s.av.cut = some m) :
    lodgeRestartEnd s = answerBadop 32 (respond m faulted s.resumed.unasked) := by
  have go : ¬(!s.av.restart) = true := by simp [hr]
  unfold lodgeRestartEnd State.resumed State.unasked
  rw [if_neg go, hc, hd]
  rfl

theorem lodgeRestartEnd_uncut (hc : s.av.cut = none) : lodgeRestartEnd s = answerBadop 32 s.resumed := by
  have go : ¬(!s.av.restart) = true := by simp [hr]
  unfold lodgeRestartEnd State.resumed
  rw [if_neg go, hc, hd]
  rfl

end

theorem lodgeRestartEnd_idle {s : State} (hr : s.av.restart = false) : lodgeRestartEnd s = s := if_pos (by simp [hr])

/-- What stores no word says what it does, the faults that it ends and the mode beside that. -/
theorem Stored.said {s t : State} (h : Stored s t) (hp : t.ps = s.ps) : Said { s with th := t.th, av := t.av } t := by
  unfold Stored at h
  rw [hp] at h
  unfold Said
  rw [h]

theorem resumed_said (s : State) : Said { s with th := s.resumed.th, av := s.resumed.av } s.resumed :=
  (resumed_stored s).said (repair_ps 0x0401 0 7 _)

theorem Said.withAv {s t : State} (h : Said s t) : Said { s with av := t.av } t := by
  have same := congrArg (fun w : State => { w with av := t.av }) h
  exact same

theorem restarted_only (f : Nat) (s : State) : ∃ a, s.restarted f =
    { s with fl := { s.fl with flrst := s.fl.flrst.filter (fun g => g ≠ f) }, ar := a } :=
  updAChans_only _ _ _

theorem flrstEnd_stored {f : Nat} {s : State} (hf : f ∈ s.fl.flrst) : Stored (s.restarted f) (flrstEnd f s) := by
  rw [flrstEnd_ends hf]
  exact (repair_stored 0x0201 f 4 _).trans ((repair_stored 0x0202 f 4 _).trans (repair_stored 0x0204 f 4 _))

/-! ## The obligation -/

/-- Settles O58: a restart is a fault, an event and a count, and what is given up; a halt leaves no command waiting; the
fault log takes the words of an entry and the next index, and gives them again. -/
theorem restartsAndTheFaultLog : Obligations.RestartsAndTheFaultLog := by
  refine ⟨fun s c a b hl hc h => ?_, fun s a b hl hh few => ?_, fun s a b hl hh third => ?_, fun s hl hr => ?_,
    fun s m hl hr hc hd => ?_, fun s hl hr hc hd => ?_, fun s f hl hf due begun passing => ?_, fun s f hl hf h => ?_,
    fun s f hl hf begun => ?_, fun s f hl hf h => ?_, fun s hl h => ?_, fun s e r hl h ht => ?_, fun s e r hl h ht => ?_,
    fun s e r hl h ht hs fresh => ?_, fun s m p reads ht hlen h1 h64 h => ?_, fun s m p reads ht hlen h1 h64 h => ?_,
    fun s m p reads ht hlen h => ?_⟩
  · have idle : lockstepMismatch c a b s = s := if_pos h
    exact exec_of_act (f := lockstepMismatch c a b) rfl hc hl (by rw [idle])
  · have begun := (restartBegun_begun (s.executing none) s.mismatched).givenUp b
    exact Completes.of_effect (f := lockstepMismatch none a b) rfl rfl hl
      ((lockstepMismatch_restarts hh few a b).trans (restartLodge_eq _ b _)) begun.pending
      ⟨begun.restart, begun.halt.trans hh, begun.cut, begun.restarts, begun.latched, begun.outstanding,
        givenUp_admission b _, givenUp_envLoad b _, begun.tb, begun.fl, begun.mem⟩
  · have halted := haltLodge_halts b s.mismatched
    exact Completes.of_effect (f := lockstepMismatch none a b) rfl rfl hl (lockstepMismatch_halts hh third a b) halted.pending
      ⟨halted.halt, halted.outstanding, halted.waits, halted.tb, halted.fl, halted.mem⟩
  · exact exec_of_act (f := lodgeRestartEnd) rfl rfl hl (by rw [lodgeRestartEnd_idle hr])
  · have stored := resumed_stored s
    have ended := resumed_outstanding s
    have effect := lodgeRestartEnd_cut hr hd hc
    generalize s.resumed = w at stored ended effect
    have answered := respond_answer m faulted w.unasked
    have said := (respond_said m faulted w.unasked).trans (answerBadop_said 32 _)
    have box := answerBadop_box 32 _ m (by rw [answered]; exact Option.some_ne_none _)
    refine Completes.of_effect (f := lodgeRestartEnd) rfl rfl hl effect (said.pending.trans stored.pending)
      ⟨?_, ?_, ?_, said.tb.trans stored.tb, said.sh.trans stored.sh, said.mem.trans stored.mem⟩
    · exact (congrArg (fun t : State => t.av.restart) said).trans (by rw [State.unasked, stored])
    · exact (said.outstanding _ _).trans ended
    · unfold Answered
      rw [box, answered]
  · have stored := resumed_stored s
    have ended := resumed_outstanding s
    have kept := resumed_said s
    have effect := lodgeRestartEnd_uncut hr hd hc
    generalize s.resumed = w at stored ended kept effect
    have said := answerBadop_said 32 w
    generalize answerBadop 32 w = t at effect said
    refine Completes.of_effect (f := lodgeRestartEnd) rfl rfl hl effect (said.pending.trans stored.pending) ⟨?_, ?_, ?_⟩
    · rw [said, stored]
    · exact (said.outstanding _ _).trans ended
    · have all := (kept.trans said).withAv
      rw [said.th]
      exact all
  · obtain ⟨w, effect, only, chans, shot⟩ := flrst_begins due begun passing
    obtain ⟨a, cleared⟩ := updAChans_only AChan.clear (flrstChans f) w
    have changed := fun i => updAChans_changed AChan.clear (j := i) (l := flrstChans f) w
    have others := fun i => updAChans_other AChan.clear (j := i) (l := flrstChans f) w
    have same := fun i => achan_of_chans chans i
    generalize updAChans AChan.clear (flrstChans f) w = t at effect cleared changed others
    have fl : t.fl = { s.fl with flrst := f :: s.fl.flrst } := by rw [cleared, only]
    refine Completes.of_effect (f := flrst f) rfl (decide_eq_true hf) hl effect (by rw [cleared, only]) ⟨?_, ?_, ?_, ?_, ?_⟩
    · rw [fl]
      exact List.mem_cons_self
    · intro h32 i hi
      obtain ⟨b, e⟩ := changed i (mem_flrstChans.mpr ⟨h32, hi⟩)
      rw [e]
      exact AChan.clear_empty b
    · intro i hi
      exact (others i fun h => hi (mem_flrstChans.mp h).2).trans (same i)
    · rw [cleared]
      exact shot
    · rw [cleared, only]
  · exact exec_of_act (f := flrst f) rfl (decide_eq_true hf) hl (by rw [flrst_idle h])
  · have stored := flrstEnd_stored begun
    obtain ⟨a, only⟩ := restarted_only f s
    rw [only] at stored
    refine Completes.of_effect (f := flrstEnd f) rfl (decide_eq_true hf) hl rfl stored.pending
      ⟨?_, ?_, ?_, ?_, stored.sh, stored.tb, stored.mem⟩
    · rw [stored.fl]
      simp
    · rw [flrstEnd_ends begun]
      exact repair_outstanding_false (repair_outstanding_false (repair_ended 0x0201 f 4 _) 0x0202 f 4) 0x0204 f 4
    · rw [flrstEnd_ends begun]
      exact repair_outstanding_false (repair_ended 0x0202 f 4 _) 0x0204 f 4
    · rw [flrstEnd_ends begun]
      exact repair_ended 0x0204 f 4 _
  · exact exec_of_act (f := flrstEnd f) rfl (decide_eq_true hf) hl (by rw [flrstEnd_idle h])
  · have idle : faultLogEntry s = s := by
      unfold faultLogEntry
      rw [h]
    exact exec_of_act (f := faultLogEntry) rfl rfl hl (by rw [idle])
  · exact Completes.of_effect (f := faultLogEntry) rfl rfl hl (faultLogEntry_lost h ht) rfl rfl
  · obtain ⟨w, words, logged⟩ := writeLog_stored e (s.logTaken r)
    refine Completes.of_effect (f := faultLogEntry) rfl rfl hl (faultLogEntry_writes h ht) (logged.pending.trans words.pending)
      ⟨?_, ?_, ?_, logged.tb.trans words.tb, logged.fl.trans words.fl, logged.sh.trans words.sh, logged.mem.trans words.mem⟩
    · rw [logged, words]
      rfl
    · rw [logged, words]
      rfl
    · rw [logged, words]
      rfl
  · obtain ⟨w, words, logged⟩ := writeLog_stored e (s.logTaken r)
    exact Completes.of_effect (f := faultLogEntry) rfl rfl hl (faultLogEntry_writes h ht) (logged.pending.trans words.pending)
      (writeLog_fresh (s := s.logTaken r) hs fun a ha => ⟨(fresh a ha).1, (fresh a ha).2⟩)
  · have stored := (strike_stored reads s).trans
      (checkReads_stored (logWords p (min (pByte p 4) (s.logBack p).toNat)) (strike reads s))
    refine (faultLog_completes ht hlen (faultLogOwn_reads reads _ h1 h64 h) stored.pending).mono fun t ht => ⟨?_, ht.2⟩
    have keep : ∀ u : State, u.pending = s.pending → Said u t → Said { u with pending := s.pending } t := by
      intro u hu said
      rw [← hu]
      exact said
    exact keep _ stored.pending ht.1
  · exact faultLog_completes ht hlen (faultLogOwn_stale reads _ h1 h64 h) rfl
  · exact faultLog_completes ht hlen (faultLogOwn_badarg reads _ h) rfl

end Sys2Proof.Machine
end

section
/-!
PROOFS. Every command and every step: the shape of `exec`, and what holds of all commands alike (the queue, parts held in reset,
the Gallery memory, the mode and the epoch).
-/
namespace Sys2Proof.Machine

/-! ## The shape of `exec` -/

/-- The rows that act on a part held in reset too: the reset pins and the JTAG port (logs 24, 48). -/
def actsHeld : Instr → Bool
  | .powerUp _ _ _ | .pwrgoodFall _ | .rstNAssert _ | .jtagIdcode _ | .jtagSample _ _ | .jtagBypass _ _ => true
  | _ => false

/-- Every other row is one effect, had by a part that is not held in reset. -/
theorem exec_eq_act {i : Instr} (h : actsHeld i = false) : ∃ f : State → State, ∀ s, exec i s = act i.wellFormed f s := by
  cases i
  all_goals first
    | exact ⟨_, fun _ => rfl⟩
    | exact nomatch h

/-- Every row is one effect and leaves the queue alone, `act` being the effect that a part held in reset does not have. -/
theorem exec_eq_actAlways (i : Instr) : ∃ f : State → State, ∀ s, exec i s = actAlways i.wellFormed f s := by
  cases i
  all_goals exact ⟨_, fun _ => rfl⟩

/-- A well-formed command answers a next state with the same queue, any other the fault of log 25. -/
theorem exec_wellFormed (i : Instr) (s : State) :
    (i.wellFormed = true → ∃ t, exec i s = .next t ∧ t.pending = s.pending) ∧
    (i.wellFormed = false → exec i s = .fault .noSuchUnit) := by
  obtain ⟨f, hf⟩ := exec_eq_actAlways i
  rw [hf]
  exact ⟨fun hw => ⟨_, if_pos hw, rfl⟩, fun hw => if_neg (by simp [hw])⟩

/-- Settles O3: every row is one effect behind its own check of the units it names. -/
theorem wellFormedCommandsComplete : Obligations.WellFormedCommandsComplete := exec_wellFormed

theorem step_nil {s : State} (h : s.pending = []) : step s = .next (idle s) := by
  unfold step
  rw [h]

theorem step_cons {s : State} {c : Instr} {rest : List Instr} (h : s.pending = c :: rest) :
    step s = exec c { s with pending := rest } := by
  unfold step
  rw [h]

/-- Settles O4: an idle step keeps the empty queue, any other runs a well-formed command on the rest of the queue. -/
theorem queueDrainsOnePerStep : Obligations.QueueDrainsOnePerStep := by
  intro s hs
  cases h : s.pending with
  | nil =>
    refine ⟨idle s, step_nil h, h, ?_⟩
    have same : (idle s).pending = s.pending := rfl
    unfold State.queueOk at hs ⊢
    rw [same]
    exact hs
  | cons c rest =>
    unfold State.queueOk at hs
    rw [h, List.all_cons, Bool.and_eq_true] at hs
    obtain ⟨t, exec, queue⟩ := (exec_wellFormed c { s with pending := rest }).1 hs.1
    refine ⟨t, (step_cons h).trans exec, queue, ?_⟩
    unfold State.queueOk
    rw [queue]
    exact hs.2

/-- Settles O1. -/
theorem stepRunsFrontCommand : Obligations.StepRunsFrontCommand := fun _ _ _ => step_cons rfl

/-- Settles O5. -/
theorem resetQueueOk : Obligations.ResetQueueOk := ⟨rfl, rfl, rfl, rfl⟩

/-- Settles O11: a part held in reset has no effect but those of `actsHeld`. -/
theorem heldInResetNothingHappens : Obligations.HeldInResetNothingHappens := by
  intro i s held hw hi
  have h : actsHeld i = false := by
    unfold actsHeld
    split <;> simp_all
  obtain ⟨f, hf⟩ := exec_eq_act h
  rw [hf]
  exact act_held hw held

end Sys2Proof.Machine
end

section
/-!
PROOFS. One TBCLK cycle: a step with no command waiting (log 4), and the queues that are full as a flight cycle ends (R68).
-/
namespace Sys2Proof.Machine

/-- A fault that stays is outstanding after the detection that found it (R409). -/
theorem mem_detects_outst {fs : List Found} {x : Found} (hx : x ∈ fs) (hs : x.stays = true) (s : State) :
    x.id ∈ (detects fs s).av.outst := by
  have some : fs.isEmpty = false := by
    cases fs with
    | nil => cases hx
    | cons _ _ => rfl
  unfold detects
  rw [some, if_neg Bool.false_ne_true]
  dsimp only [settle]
  rw [raises_outst]
  dsimp only
  rw [(Avail.notes_noted (fun f : Found => logEntry s f.id f.action (if f.stays then 0 else 2)) fs _).outst]
  by_cases old : x.id ∈ s.av.outst
  · exact List.mem_append_left _ old
  · exact List.mem_append_right _ (List.mem_map_of_mem (List.mem_filter.mpr ⟨hx, by simp [hs, old]⟩))

/-- A channel whose queue is full is listed. -/
theorem fullAfter_listed {s : State} {i n : Nat} (h : (s.chan i).fullAfter n = true) : (i, s.chan i) ∈ s.fl.chans := by
  refine (Tab.get_mem freshChan i s.fl.chans).resolve_left fun e => ?_
  have e : s.chan i = freshChan i := e
  rw [e] at h
  exact nomatch h

/-- A queue that is FULL with HOLD = 0 as its flight cycle ends is a fault of its flight (R68). -/
theorem checkFull_finds {s : State} {i n : Nat} (hf : s.flightsRun = true) (h : (s.chan i).fullAfter n = true) :
    (checkFull n s).outstanding 0x0201 (chanFlight i) = true := by
  have listed : chanFlight i ∈
      ((s.fl.chans.filter (fun c => c.2.fullAfter n)).map (fun c => chanFlight c.1)).eraseDups :=
    List.mem_eraseDups.mpr (List.mem_map.mpr ⟨_, List.mem_filter.mpr ⟨fullAfter_listed h, h⟩, rfl⟩)
  refine List.contains_iff_mem.mpr ?_
  unfold checkFull
  rw [hf, Bool.not_true, if_neg Bool.false_ne_true]
  cases old : s.outstanding 0x0201 (chanFlight i) with
  | true => exact detects_keepsFaults s _ _ (List.contains_iff_mem.mp old) (by simp)
  | false =>
    have fresh := List.mem_filter (p := fun f => !s.outstanding 0x0201 f) |>.mpr ⟨listed, by simp [old]⟩
    exact mem_detects_outst (x := ⟨0x0201, chanFlight i, 4, true, 0⟩) (List.mem_map.mpr ⟨_, fresh, rfl⟩) rfl s

/-- Away from the wrap the count and the up-time advance, and the queues are judged where a flight cycle ends (R28, R68). -/
theorem tbCycle_counts {s : State} (h : s.tb.coarse.toNat + 1 < 2 ^ 54) :
    tbCycle s = if s.ticked.cycle = s.cycle then s.ticked else checkFull s.cycle s.ticked := by
  have last : decide (s.tb.coarse.toNat = 2 ^ 54 - 1) = false := decide_eq_false (by omega)
  unfold tbCycle
  rw [last, Bool.false_and]
  rfl

/-- An idle step in which no self-test, EVT_CLEAR or LIMP change waits is a TBCLK cycle alone. -/
theorem tick_quiet {s : State} (hl : s.live = true) (ht : (tbCycle s).fl.tested = true)
    (hc : (tbCycle s).lk.clearing = none) (hm : (tbCycle s).th.limpLater = false) : tick s = tbCycle s := by
  have tested : finishSelfTest { badCores := [], badUnits := [] } (tbCycle s) = tbCycle s := if_pos ht
  have clear : clearNext (tbCycle s) = tbCycle s := by
    unfold clearNext
    rw [hc]
  have late : lateChange (tbCycle s) = tbCycle s := if_neg (by simp [hm])
  unfold tick
  rw [if_pos hl]
  dsimp only
  rw [tested, clear, ite_self, late]

/-- Settles O2: the step is one `tbCycle`, which counts, and finds the full queues where a flight cycle ends with it. -/
theorem emptyQueueStepIsOneCycle : Obligations.EmptyQueueStepIsOneCycle := by
  refine ⟨fun s hp hl ht hc hm hk hq => ?_, fun s i hp hl ht hc hm hk hf he hfull => ?_, fun s hp hl => ?_⟩
  · have cycle : tbCycle s = s.ticked := by
      rw [tbCycle_counts hk, checkFull_none (s := s.ticked) hq, ite_self]
    have idles : tick s = s.ticked := (tick_quiet hl (by rw [cycle]; exact ht) (by rw [cycle]; exact hc)
      (by rw [cycle]; exact hm)).trans cycle
    rw [step_nil hp]
    unfold idle
    rw [idles]
    rfl
  · have next : s.ticked.cycle ≠ s.cycle := by
      have before : s.cycle = (s.uptime + s.tb.align) / 2 := rfl
      have after : s.ticked.cycle = (s.uptime + 1 + s.tb.align) / 2 := rfl
      omega
    have cycle : tbCycle s = checkFull s.cycle s.ticked := by rw [tbCycle_counts hk, if_neg next]
    have stored := checkFull_stored s.cycle s.ticked
    have idles : tick s = checkFull s.cycle s.ticked := (tick_quiet hl (by rw [cycle, stored.fl]; exact ht)
      (by rw [cycle, stored]; exact hc) (by rw [cycle, stored]; exact hm)).trans cycle
    refine ⟨_, step_nil hp, ?_⟩
    unfold idle
    rw [idles]
    exact ⟨stored.uptime, congrArg TimeBase.coarse stored.tb, checkFull_finds (s := s.ticked) hf hfull⟩
  · rw [step_nil hp]
    have held : tick s = s := if_neg (by simp [hl])
    unfold idle
    rw [held]

end Sys2Proof.Machine
end

section
/-!
PROOFS. What only some commands change: the mode in force, the epoch, and the bytes of the Gallery memory; and the canonical form
of that memory, which every step keeps.
-/
namespace Sys2Proof.Machine

/-- What an effect and the queue put back leave alone, a command of that effect leaves alone. -/
theorem act_keeps {α : Type} {g : State → α} {i : Instr} {f : State → State} {s t : State}
    (hq : ∀ s q, g { s with pending := q } = g s) (he : ∀ s, exec i s = act i.wellFormed f s) (h : exec i s = .next t)
    (hf : ∀ s, g (f s) = g s) : g t = g s := by
  rw [he] at h
  unfold act at h
  split at h
  · cases h
    rw [hq]
    split
    · exact hf s
    · rfl
  · cases h

/-- As `act_keeps`, for the rows that act on a part held in reset too. -/
theorem actAlways_keeps {α : Type} {g : State → α} {i : Instr} {f : State → State} {s t : State}
    (hq : ∀ s q, g { s with pending := q } = g s) (he : ∀ s, exec i s = actAlways i.wellFormed f s)
    (h : exec i s = .next t) (hf : ∀ s, g (f s) = g s) : g t = g s := by
  rw [he] at h
  unfold actAlways at h
  split at h
  · cases h
    exact (hq _ _).trans (hf s)
  · cases h

/-- Settles O8: the effect of every other row leaves the mode alone, by the laws of KeepsMode. -/
theorem onlyModeCommandsChangeMode : Obligations.OnlyModeCommandsChangeMode := by
  intro i s t hi h
  cases i
  case modeSet | modeSetComplete | limpEntry | limpReturn | powerUp | pwrgoodFall | rstNAssert => exact hi.elim
  case jtagIdcode | jtagSample | jtagBypass =>
    refine actAlways_keeps (g := fun s => s.th.mode) (fun _ _ => rfl) (fun _ => rfl) h ?_
    simp
  all_goals
    refine act_keeps (g := fun s => s.th.mode) (fun _ _ => rfl) (fun _ => rfl) h ?_
    simp

/-- Settles O9: the effect of every other row leaves the epoch alone, by the laws of KeepsEpoch. -/
theorem onlyEpochCommandsChangeEpoch : Obligations.OnlyEpochCommandsChangeEpoch := by
  intro i s t hi h
  cases i
  case coarseWrap | epochSet | epochSetApply | powerUp | pwrgoodFall | rstNAssert => exact hi.elim
  case jtagIdcode | jtagSample | jtagBypass =>
    refine actAlways_keeps (g := fun s => s.tb.epoch) (fun _ _ => rfl) (fun _ => rfl) h ?_
    simp
  all_goals
    refine act_keeps (g := fun s => s.tb.epoch) (fun _ _ => rfl) (fun _ => rfl) h ?_
    simp

/-! ## Gallery memory -/

/-- The rows that may store a record, or that reset the part. -/
def storesRecords : Instr → Bool
  | .galleryRecordWrite | .captureDone | .triggerDelivery | .markSet _ | .disarm _ | .modeSet _ | .modeSetComplete _
  | .powerUp _ _ _ | .pwrgoodFall _ | .rstNAssert _ => true
  | _ => false

/-- The effect of every other row leaves the Gallery memory alone, by the laws of KeepsMemory. -/
theorem exec_mem {i : Instr} {s t : State} (hi : storesRecords i = false) (h : exec i s = .next t) :
    t.gl.mem = s.gl.mem := by
  cases i
  case galleryRecordWrite | captureDone | triggerDelivery | markSet | disarm | modeSet | modeSetComplete | powerUp
    | pwrgoodFall | rstNAssert => exact nomatch hi
  case jtagIdcode | jtagSample | jtagBypass =>
    refine actAlways_keeps (g := fun s => s.gl.mem) (fun _ _ => rfl) (fun _ => rfl) h ?_
    simp
  all_goals
    refine act_keeps (g := fun s => s.gl.mem) (fun _ _ => rfl) (fun _ => rfl) h ?_
    simp

/-- Settles O7: no other row changes the memory at all. -/
theorem onlyGalleryCommandsStore : Obligations.OnlyGalleryCommandsStore := by
  intro i s t hi h a
  have other : storesRecords i = false := by
    unfold storesRecords
    split <;> simp_all
  rw [exec_mem other h]

/-! ## The canonical form of the memory -/

/-- The Gallery memory is in canonical form. -/
def Canonical (s : State) : Prop := s.gl.mem.wf = true

section canonical
variable {s : State} (h : Canonical s)
include h

theorem Canonical.of_mem {t : State} (e : t.gl.mem = s.gl.mem) : Canonical t := by
  unfold Canonical
  rw [e]
  exact h

theorem Canonical.putRecord (w : W64) : Canonical (putRecord w s) := by
  by_cases k : s.wc % 512 = 0
  · rw [putRecord_segment w k]
    exact Memory.writeAll_wf _ _ (Memory.wipe_wf _ h)
  · rw [putRecord_inside w k]
    exact Memory.writeAll_wf _ _ h

theorem Canonical.writeOne : Canonical (writeOne s) := by
  unfold Machine.writeOne
  split
  · exact h
  next r rs _ =>
    dsimp only
    split
    · exact h
    · split
      · exact h.putRecord _
      · split
        · exact h.putRecord _
        · split
          · exact h
          · exact (Canonical.putRecord (s := { s with gl := { s.gl with buf := rs } }) h r.word).of_mem (by simp)

end canonical

theorem Canonical.padBlock : ∀ (n : Nat) {s : State}, Canonical s → Canonical (padBlock n s)
  | 0, _, h => h
  | n + 1, s, h => by
    unfold Machine.padBlock
    split
    · exact h
    · exact Canonical.padBlock n (h.putRecord _)

theorem Canonical.captureDone {s : State} (h : Canonical s) : Canonical (captureDone s) := by
  unfold Machine.captureDone
  split
  · exact h
  · exact (Canonical.padBlock 32 h).of_mem (by simp)

theorem Canonical.drain : ∀ (n : Nat) {s : State}, Canonical s → Canonical (drain n s)
  | 0, _, h => h
  | n + 1, s, h => by
    unfold Machine.drain
    split
    · exact h
    · split
      · exact Canonical.drain n h.captureDone
      · exact Canonical.drain n h.writeOne

theorem Canonical.endWriting {s : State} (h : Canonical s) : Canonical (endWriting s) := by
  unfold Machine.endWriting
  split
  · exact h
  · split
    · exact h.of_mem (by simp)
    · have closed := (Canonical.drain s.drainBound h).captureDone
      dsimp only
      split
      · exact closed.of_mem (by simp)
      · exact (Canonical.padBlock 32 closed).of_mem (by simp)

/-- A trigger is recorded, and what was handed before it is written (R269). -/
theorem Canonical.galleryTrigger {s : State} (h : Canonical s) (x : Trigger) : Canonical (galleryTrigger x s) := by
  unfold Machine.galleryTrigger
  dsimp only
  split
  · apply Canonical.drain
    exact h.of_mem (by simp)
  all_goals exact h.of_mem (by simp)

theorem Canonical.deliver {s : State} (h : Canonical s) (x : Trigger) : Canonical (deliver x s) := by
  unfold Machine.deliver
  dsimp only
  generalize hq : ({ s with cl := _ } : State) = q
  have taken := (Canonical.of_mem (s := s) h (t := q) (by rw [← hq])).galleryTrigger x
  split
  · exact taken.of_mem (by simp)
  · exact taken.of_mem (by simp)

theorem Canonical.triggerDelivery {s : State} (h : Canonical s) : Canonical (triggerDelivery s) := by
  unfold Machine.triggerDelivery
  split
  · exact h
  next x _ =>
    dsimp only
    split
    · exact h.of_mem rfl
    · apply Canonical.deliver
      exact h.of_mem rfl

/-- A command of the Lodge keeps the canonical form where what its own rule yields does. -/
theorem Canonical.lodge {m op : Nat} {row len : List Byte → Bool} {mode : State → List Byte → Bool}
    {own : Ticket → List Byte → State → Reply} {s : State} (h : Canonical s)
    (ho : ∀ tk p, Canonical (own tk p s).s) : Canonical (lodge m op row len mode own s) := by
  unfold Machine.lodge
  dsimp only
  split
  · refine Canonical.of_mem ?_ (answerBadop_mem _ _)
    split
    · exact h.of_mem (by simp)
    · split
      · exact h.of_mem (by simp)
      · split
        all_goals
          split
          all_goals exact (ho (s.ticket m) (s.box m).payload).of_mem (by simp)
  · exact h

theorem Canonical.disarmOwn {s : State} (h : Canonical s) (tk : Ticket) (p : List Byte) :
    Canonical (disarmOwn tk p s).s := h.endWriting

theorem Canonical.markSetOwn {s : State} (h : Canonical s) (tk : Ticket) (p : List Byte) :
    Canonical (markSetOwn tk p s).s := by
  unfold Machine.markSetOwn
  dsimp only
  split
  · exact h
  · split
    · exact h
    · split
      · apply Canonical.drain
        exact h.of_mem (by simp)
      · exact h

/-- Only the writing that a change of mode ends stores records as the units stop (R387). -/
theorem Canonical.stopUnits {s : State} (h : Canonical s) (t : Mode) : Canonical (stopUnits t s) := by
  unfold Machine.stopUnits
  dsimp only
  generalize hr : (if s.ranges && !t.rangingTarget then stopRanging s else s) = r
  have stopped : Canonical r := h.of_mem (by rw [← hr]; simp)
  have ended : Canonical (if r.watching && t != .watch then Machine.endWriting r else r) := by
    split
    · exact stopped.endWriting
    · exact stopped
  exact ended.of_mem (by simp)

theorem Canonical.limpMove {s : State} (h : Canonical s) (t : Mode) : Canonical (limpMove t s) := by
  have ended : Canonical (if s.th.origin = some .watch ∧ t = .sweep then Machine.endWriting s else s) := by
    split
    · exact h.endWriting
    · exact h
  exact ended.of_mem (by simp [Machine.limpMove])

theorem Canonical.modeSetOwn {s : State} (h : Canonical s) (tk : Ticket) (p : List Byte) :
    Canonical (modeSetOwn tk p s).s := by
  unfold Machine.modeSetOwn
  split
  · exact h
  · split
    · exact h
    next t _ =>
      repeat' split
      iterate 4 exact h
      · exact h.limpMove t
      · exact (h.stopUnits t).of_mem (by simp [beginChange])

theorem Canonical.modeSetComplete {s : State} (h : Canonical s) (test : SelfTest) :
    Canonical (modeSetComplete test s) := by
  unfold Machine.modeSetComplete
  split
  next t _ _ _ =>
    split
    · exact (h.stopUnits t).of_mem (by simp [finishChange])
    · exact h
  · exact h

/-- A start-up begins with an empty memory. -/
theorem startUp_mem (test : SelfTest) (reads : Reads) (s : State) : (startUp test reads s).gl.mem = State.reset.gl.mem := by
  simp only [startUp, finishSelfTest_mem, factoryCheck_mem, loadWords_mem, readErrors_mem, loadMasks_mem]
  rfl

theorem Canonical.powerUp {s : State} (h : Canonical s) (b : Bool) (test : SelfTest) (reads : Reads) :
    Canonical (powerUp b test reads s) := by
  unfold Machine.powerUp
  split
  · exact h
  · dsimp only
    generalize hp : (if b = true then _ else _ : Pins) = p
    split
    · exact Canonical.of_mem (s := State.reset) rfl (startUp_mem test reads _)
    · exact h

theorem Canonical.pwrgoodFall {s : State} (h : Canonical s) (c : Cut) : Canonical (pwrgoodFall c s) := by
  unfold Machine.pwrgoodFall
  split
  · exact Canonical.of_mem (s := State.reset) rfl rfl
  · exact h

theorem Canonical.rstNAssert {s : State} (h : Canonical s) (c : Cut) : Canonical (rstNAssert c s) := by
  unfold Machine.rstNAssert
  split
  · exact h
  · split
    · exact Canonical.of_mem (s := State.reset) rfl rfl
    · exact h

theorem Canonical.act {i : Instr} {f : State → State} {s t : State} (h : Canonical s)
    (he : exec i s = act i.wellFormed f s) (e : exec i s = .next t) (hf : Canonical (f s)) : Canonical t := by
  rw [he] at e
  unfold Machine.act at e
  split at e
  · cases e
    unfold Canonical
    dsimp only
    split
    · exact hf
    · exact h
  · cases e

theorem Canonical.actAlways {i : Instr} {f : State → State} {s t : State} (he : exec i s = actAlways i.wellFormed f s)
    (e : exec i s = .next t) (hf : Canonical (f s)) : Canonical t := by
  rw [he] at e
  unfold Machine.actAlways at e
  split at e
  · cases e
    exact hf
  · cases e

/-- Every command keeps the canonical form: those that store write and erase bytes, and a reset empties the memory. -/
theorem Canonical.exec {i : Instr} {s t : State} (h : Canonical s) (e : exec i s = .next t) : Canonical t := by
  by_cases hi : storesRecords i = false
  · exact h.of_mem (exec_mem hi e)
  · cases i
    case galleryRecordWrite => exact h.act rfl e h.writeOne
    case captureDone => exact h.act rfl e h.captureDone
    case triggerDelivery => exact h.act rfl e h.triggerDelivery
    case markSet m =>
      refine h.act (f := fun s => if s.gl.holding then s else
        Machine.lodge m 0x0805 anyRow (fun p => p.length == 4) anyMode Machine.markSetOwn s) rfl e ?_
      split
      · exact h
      · exact h.lodge h.markSetOwn
    case disarm m => exact h.act rfl e (h.lodge h.disarmOwn)
    case modeSet m => exact h.act rfl e (h.lodge h.modeSetOwn)
    case modeSetComplete test => exact h.act rfl e (h.modeSetComplete test)
    case powerUp b test reads => exact Canonical.actAlways rfl e (h.powerUp b test reads)
    case pwrgoodFall c => exact Canonical.actAlways rfl e (h.pwrgoodFall c)
    case rstNAssert c => exact Canonical.actAlways rfl e (h.rstNAssert c)
    all_goals exact absurd rfl hi

/-- Settles O6: a step is a command, or a cycle that leaves the memory alone. -/
theorem galleryMemoryStaysCanonical : Obligations.GalleryMemoryStaysCanonical := by
  intro s t h e
  have h : Canonical s := h
  cases hp : s.pending with
  | nil =>
    rw [step_nil hp] at e
    cases e
    exact h.of_mem (idle_mem s)
  | cons c rest =>
    rw [step_cons hp] at e
    exact Canonical.exec (s := { s with pending := rest }) h e

end Sys2Proof.Machine
end

section
/-!
PROOFS. Event commands (R351 to R353, R378 to R383): EVT_MASK, EVT_READ, EVT_CLEAR, and the raises of EV.TEST.
-/
namespace Sys2Proof.Machine

/-! ## What a raise leaves of the masks, and what it does to each source -/

theorem Events.raiseMany_mask : ∀ (ns : List Nat) (e : Events), (ns.foldl Events.raise e).mask = e.mask
  | [], _ => rfl
  | n :: ns, e => Events.raiseMany_mask ns (e.raise n)

@[simp] theorem raises_mask (ns : List Nat) (s : State) : (raises ns s).ev.mask = s.ev.mask := by
  unfold raises
  generalize ns.eraseDups.filter (fun n => !s.ev.hasRaised s.uptime n) = ns
  dsimp only
  split
  · rfl
  · exact Events.raiseMany_mask ns s.ev

@[simp] theorem raiseIf_mask (b : Bool) (n : Nat) (s : State) : (raiseIf b n s).ev.mask = s.ev.mask := by
  unfold raiseIf
  split
  · exact raises_mask [n] s
  · rfl

@[simp] theorem dropOut_mask (n : Nat) (s : State) : (dropOut n s).ev.mask = s.ev.mask := by
  unfold dropOut
  split
  · rfl
  · exact raiseIf_mask _ _ _

@[simp] theorem enqueue_mask (p c : Nat) (o : Out) (s : State) : (enqueue p c o s).ev.mask = s.ev.mask := by
  unfold enqueue
  dsimp only
  split
  · exact dropOut_mask _ _
  · rfl

@[simp] theorem sendHost_mask (c : Nat) (f : Frame) (s : State) : (sendHost c f s).ev.mask = s.ev.mask := by
  unfold sendHost
  split
  · exact enqueue_mask _ _ _ s
  · split
    · rfl
    · exact dropOut_mask 1 s

@[simp] theorem sendResponse_mask (f : Frame) (dst : Peer) (s : State) : (sendResponse f dst s).ev.mask = s.ev.mask := by
  unfold sendResponse
  split
  · exact enqueue_mask _ _ _ s
  · split
    · exact enqueue_mask _ _ _ s
    · split
      · rfl
      · exact dropOut_mask 1 s

@[simp] theorem answer_mask (m : Nat) (a : Answer) (now : Start) (s : State) : (answer m a now s).ev.mask = s.ev.mask := by
  unfold answer respond
  dsimp only
  rw [sendResponse_mask]
  split <;> rfl

@[simp] theorem answerBadop_mask : ∀ (n : Nat) (s : State), (answerBadop n s).ev.mask = s.ev.mask
  | 0, _ => rfl
  | n + 1, s => by
    unfold answerBadop
    split
    · split
      · exact (answerBadop_mask n _).trans (answer_mask _ _ _ s)
      · rfl
    · rfl

/-- Sources raised once each: those named are raised, the others are left alone. -/
theorem Events.raises_nodup {n : Nat} : ∀ {ns : List Nat} (e : Events), ns.Nodup →
    (ns.foldl Events.raise e).get n = if n ∈ ns then (e.get n).raised else e.get n
  | [], _, _ => rfl
  | m :: ns, e, h => by
    obtain ⟨hm, hns⟩ := List.nodup_cons.mp h
    rw [List.foldl_cons, Events.raises_nodup _ hns]
    by_cases k : n = m
    · subst k
      rw [if_neg hm, e.raise_get, if_pos List.mem_cons_self]
    · rw [e.raise_other k]
      simp only [List.mem_cons, k, false_or]

/-- A raise counts once in a TBCLK cycle (R378). -/
theorem raises_get_named {ns : List Nat} {n : Nat} (s : State) (h : n ∈ ns) :
    (raises ns s).ev.get n = if s.ev.hasRaised s.uptime n then s.ev.get n else (s.ev.get n).raised := by
  have nodup : (s.newly ns).Nodup := (nodup_eraseDups ns).filter _
  rw [raises_get, Events.raises_nodup _ nodup]
  unfold State.newly
  cases hr : s.ev.hasRaised s.uptime n <;> simp [h, hr]

/-! ## EV.TEST (R383) -/

/-- The sources that a value of EV.TEST names. -/
def testSources (v : W32) : List Nat := ((List.range 32).filter (fun n => bit v n)).map (fun n => 480 + n)

theorem mem_testSources {v : W32} {k : Nat} : k ∈ testSources v ↔ ∃ n, n < 32 ∧ bit v n = true ∧ k = 480 + n := by
  unfold testSources
  simp only [List.mem_map, List.mem_filter, List.mem_range, and_assoc, eq_comm (a := k)]

theorem evTest_eq (v : W32) (s : State) : evTest v s = raises (testSources v) s := rfl

theorem evTest_raised {v : W32} {n : Nat} (s : State) (hn : n < 32) (hb : bit v n = true) : (evTest v s).ev.get (480 + n) =
    if s.ev.hasRaised s.uptime (480 + n) then s.ev.get (480 + n) else (s.ev.get (480 + n)).raised :=
  raises_get_named s (mem_testSources.mpr ⟨n, hn, hb, rfl⟩)

theorem evTest_other {v : W32} {k : Nat} (s : State) (h : ∀ n, n < 32 → bit v n = true → k ≠ 480 + n) :
    (evTest v s).ev.get k = s.ev.get k :=
  raises_other s fun hk => let ⟨n, hn, hb, e⟩ := mem_testSources.mp hk; h n hn hb e

/-! ## Commands whose masks are told -/

/-- A command of the Lodge leaves in its answer the masks alone, and the sources but for that of frames discarded. -/
theorem Completes.of_lodge_events {i : Instr} {m op : Nat} {row len : List Byte → Bool} {mode : State → List Byte → Bool}
    {own : Ticket → List Byte → State → Reply} {s u : State} {p : List Byte} {a : Answer}
    (he : exec i s = act (m < 32) (lodge m op row len mode own) s) (h : Takes s m op p)
    (hrow : row p = true) (hlen : len p = true) (hmode : mode s p = true)
    (ho : own (s.ticket m) p s = reply u a) (hp : u.pending = s.pending) :
    Completes i s (fun t => Said u t ∧ Answered m a t ∧ OnlyDrops u t ∧ t.ev.mask = u.ev.mask) := by
  obtain ⟨k, ka⟩ := lodge_own (own := own) (a := a) h hrow hlen hmode (by rw [ho]; rfl)
  rw [ho] at k
  have e := lodge_answers h hrow hlen hmode ho
  obtain ⟨hm, hl, -⟩ := h
  refine Completes.of_act he (by simpa using hm) hl ⟨k.keep hp, ka, ?_, ?_⟩
  · rw [e]
    exact (answer_onlyDrops m a s.start u).trans (answerBadop_onlyDrops 32 _)
  · rw [e]
    exact (answerBadop_mask 32 _).trans (answer_mask m a s.start u)

/-! ## EVT_MASK (R351) -/

theorem evtMask_completes {s u : State} {m : Nat} {p : List Byte} {a : Answer} (ht : Takes s m 0x0901 p)
    (hlen : p.length = 12) (ho : evtMaskOwn (s.ticket m) p s = reply u a) (hp : u.pending = s.pending) :
    Completes (.evtMask m) s (fun t => Said u t ∧ Answered m a t ∧ OnlyDrops u t ∧ t.ev.mask = u.ev.mask) :=
  Completes.of_lodge_events rfl ht rfl (by simp [hlen]) rfl ho hp

theorem evtMaskOwn_badarg {tk : Ticket} {p : List Byte} {s : State} (h : 15 < pByte p 0) :
    evtMaskOwn tk p s = reply s (.badarg 0) := if_pos h

/-- The mask word that an EVT_MASK leaves in its group. -/
def newMask (p : List Byte) (s : State) : W32 := masked (s.maskWord (pByte p 0)) (pWord p 8) (pWord p 4)

theorem evtMaskOwn_group {p : List Byte} (tk : Ticket) (s : State) (h : pByte p 0 ≤ 15) :
    ∃ u, evtMaskOwn tk p s = reply u (.okWith (wBytes (newMask p s))) ∧ Said s u ∧
      u.ev = { s.ev with mask := Tab.put freshMask s.ev.mask (pByte p 0) (newMask p s) } :=
  ⟨_, if_neg (by omega), rfl, rfl⟩

/-- EVT_MASK writes the word of its group and no other. -/
theorem evtMask_group {s : State} {m : Nat} {p : List Byte} (ht : Takes s m 0x0901 p) (hlen : p.length = 12)
    (hg : pByte p 0 ≤ 15) :
    Completes (.evtMask m) s (fun t => (∀ g, t.maskWord g = if pByte p 0 = g then newMask p s else s.maskWord g) ∧
      Said s t ∧ Answered m (.okWith (wBytes (newMask p s))) t) := by
  obtain ⟨u, hu, said, ev⟩ := evtMaskOwn_group (s.ticket m) s hg
  refine (evtMask_completes ht hlen hu said.pending).mono fun t ⟨k, ka, _, km⟩ => ⟨fun g => ?_, said.trans k, ka⟩
  unfold State.maskWord
  rw [km, ev]
  exact Tab.get_put freshMask s.ev.mask (pByte p 0) (newMask p s) g

theorem evtMask_refused {s : State} {m : Nat} {p : List Byte} (ht : Takes s m 0x0901 p) (hlen : p.length = 12)
    (hg : 15 < pByte p 0) :
    Completes (.evtMask m) s (fun t => Said s t ∧ t.ev.mask = s.ev.mask ∧ Answered m (.badarg 0) t) :=
  (evtMask_completes ht hlen (evtMaskOwn_badarg hg) rfl).mono fun _ ⟨k, ka, _, km⟩ => ⟨k, km, ka⟩

/-- A bit of a masked write is of the new value where its mask has it, else of the old one. -/
theorem bit_masked {n : Nat} (old new mask : W32) (h : n < 32) :
    bit (masked old new mask) n = if bit mask n then bit new n else bit old n := by
  have bits : bit (masked old new mask) n = (bit old n && !bit mask n || bit new n && bit mask n) := by
    simp [bit, masked, h]
  rw [bits]
  cases bit mask n <;> simp

theorem Events.masked_eq (s : State) (k : Nat) : s.ev.masked k = bit (s.maskWord (k / 32)) (k % 32) := rfl

/-! ## REG_WR of EV.TEST (R326, R383) -/

theorem regWr_completes {s u : State} {m : Nat} {p : List Byte} {a : Answer} (ht : Takes s m 0x0202 p)
    (hlen : p.length = 4 + 12 * pByte p 0) (ho : regWrOwn (s.ticket m) p s = reply u a) (hp : u.pending = s.pending) :
    Completes (.regWr m) s (fun t => Said u t ∧ Answered m a t ∧ OnlyDrops u t ∧ t.ev.mask = u.ev.mask) :=
  Completes.of_lodge_events rfl ht rfl (by simp [hlen]) rfl ho hp

/-- One triple that writes EV.TEST whole passes and raises the value's sources. -/
theorem regWrOwn_test {p : List Byte} (tk : Ticket) (s : State) (hn : pByte p 0 = 1) (ha : pNat p 4 4 = 0x100004)
    (hm : pWord p 12 = 0xFFFFFFFF) : regWrOwn tk p s = reply (evTest (pWord p 8) s) (.plain .ok) := by
  have writes : writeTriple 0x100004 (pWord p 8) 0xFFFFFFFF s = .ok s := rfl
  have triples : writeTriples p 1 0 s = .ok s := by
    unfold writeTriples
    rw [show 4 + 12 * 0 = 4 from rfl, show 8 + 12 * 0 = 8 from rfl, show 12 + 12 * 0 = 12 from rfl, ha, hm, writes]
    rfl
  have bits : testBits p 1 0 = pWord p 8 := by
    unfold testBits testBits
    rw [show 4 + 12 * 0 = 4 from rfl, show 8 + 12 * 0 = 8 from rfl, show 12 + 12 * 0 = 12 from rfl, ha, hm, if_pos rfl]
    exact (BitVec.or_zero).trans (BitVec.and_allOnes (x := pWord p 8))
  unfold regWrOwn
  rw [hn]
  dsimp only
  rw [if_neg (by omega), triples, bits]

/-- Settles O54: EVT_MASK by its mask word, EV.TEST by what a raise does to each source. -/
theorem eventMasksAndTests : Obligations.EventMasksAndTests := by
  refine ⟨fun s m p ht hlen hg => ?_, fun s m p ht hlen hg => ?_, fun s m p ht hlen hn ha hm => ?_⟩
  · refine (evtMask_group ht hlen hg).mono fun t ⟨words, k, ka⟩ => ⟨fun n hn => ?_, fun j hj => ?_, k, ?_⟩
    · have group : (32 * pByte p 0 + n) / 32 = pByte p 0 := by omega
      have place : (32 * pByte p 0 + n) % 32 = n := by omega
      rw [Events.masked_eq, Events.masked_eq, group, place, words, if_pos rfl]
      exact bit_masked _ _ _ hn
    · rw [Events.masked_eq, Events.masked_eq, words, if_neg (Ne.symm hj)]
    · rw [words, if_pos rfl]
      exact ka
  · exact (evtMask_refused ht hlen hg).mono fun t ⟨k, km, ka⟩ => ⟨fun j => by unfold Events.masked; rw [km], k, ka⟩
  · refine (regWr_completes ht (by omega) (regWrOwn_test _ s hn ha hm) (raises_said _ s).pending).mono
      fun t ⟨k, ka, drops, _⟩ => ⟨fun n hn hb => ?_, fun j hj hb => ?_, (raises_said _ s).trans k, ka⟩
    · rw [drops _ (by omega)]
      exact evTest_raised s hn hb
    · rw [drops _ hj]
      exact evTest_other s hb

end Sys2Proof.Machine
end

section
/-!
PROOFS. EVT_READ and EVT_CLEAR (R352, R353, R380 to R382), and the statement of the event commands.
-/
namespace Sys2Proof.Machine

/-! ## EVT_READ (R352, R380) -/

theorem evtRead_completes {s u : State} {m : Nat} {p : List Byte} {a : Answer} (ht : Takes s m 0x0902 p)
    (hlen : p.length = 4) (ho : evtReadOwn (s.ticket m) p s = reply u a) (hp : u.pending = s.pending) :
    Completes (.evtRead m) s (fun t => Said u t ∧ Answered m a t ∧ OnlyDrops u t ∧ t.ev.mask = u.ev.mask) :=
  Completes.of_lodge_events rfl ht rfl (by simp [hlen]) rfl ho hp

/-- Every listed source of group `g` has no raise to tell of. -/
def Restarted (g : Nat) (s : State) : Prop := ∀ n x, (n, x) ∈ s.ev.src → n / 32 = g → x.raises = 0

/-- What is listed after a restart was listed before, with its raise count or with none. -/
theorem mem_restartGroup {g n : Nat} {x : Source} {s : State} (h : (n, x) ∈ (restartGroup g s).ev.src) :
    ∃ y, (n, y) ∈ s.ev.src ∧ x = if n / 32 = g then { y with raises := 0 } else y := by
  obtain ⟨⟨k, y⟩, hy, e⟩ := List.mem_map.mp (List.mem_filter.mp h).1
  obtain ⟨rfl, rfl⟩ := Prod.mk.injEq .. ▸ e
  exact ⟨y, hy, rfl⟩

theorem restartGroup_restarted (g : Nat) (s : State) : Restarted g (restartGroup g s) := by
  intro n x h hn
  obtain ⟨y, -, rfl⟩ := mem_restartGroup h
  rw [if_pos hn]

theorem Restarted.restartGroup {g : Nat} {s : State} (h : Restarted g s) (j : Nat) : Restarted g (restartGroup j s) := by
  intro n x hx hn
  obtain ⟨y, hy, rfl⟩ := mem_restartGroup hx
  split
  · rfl
  · exact h n y hy hn

theorem restartGroups_keep {g : Nat} : ∀ (gs : List Nat) {s : State}, Restarted g s →
    Restarted g (gs.foldl (fun s g => restartGroup g s) s)
  | [], _, h => h
  | j :: gs, _, h => restartGroups_keep gs (h.restartGroup j)

theorem restartGroups_restarted {g : Nat} {gs : List Nat} (s : State) (h : g ∈ gs) :
    Restarted g (gs.foldl (fun s g => restartGroup g s) s) := by
  induction gs generalizing s with
  | nil => exact nomatch h
  | cons j gs ih =>
    rcases List.mem_cons.mp h with rfl | h
    · exact restartGroups_keep gs (restartGroup_restarted g s)
    · exact ih (restartGroup j s) h

theorem restartGroups_said : ∀ (gs : List Nat) (s : State), Said s (gs.foldl (fun s g => restartGroup g s) s)
  | [], s => Said.refl s
  | g :: gs, s =>
    have one : Said s (restartGroup g s) := rfl
    one.trans (restartGroups_said gs (restartGroup g s))

theorem restartGroups_mask : ∀ (gs : List Nat) (s : State),
    (gs.foldl (fun s g => restartGroup g s) s).ev.mask = s.ev.mask
  | [], _ => rfl
  | _ :: gs, _ => restartGroups_mask gs _

theorem Restarted.raises {n : Nat} {s : State} (h : Restarted (n / 32) s) : (s.ev.get n).raises = 0 := by
  rcases Tab.get_mem freshSource n s.ev.src with e | e
  · exact congrArg Source.raises e
  · exact h n _ e rfl

/-- The groups that an EVT_READ names. -/
def readGroups (p : List Byte) : List Nat := (List.range (pByte p 1)).map (pByte p 0 + ·)

theorem mem_readGroups {p : List Byte} {g : Nat} (h : pByte p 0 ≤ g) (k : g < pByte p 0 + pByte p 1) : g ∈ readGroups p :=
  List.mem_map.mpr ⟨g - pByte p 0, List.mem_range.mpr (by omega), by omega⟩

theorem evtReadOwn_groups {p : List Byte} (tk : Ticket) (s : State) (h1 : 1 ≤ pByte p 1) (h16 : pByte p 1 ≤ 16)
    (hsum : pByte p 0 + pByte p 1 ≤ 16) :
    evtReadOwn tk p s = reply ((readGroups p).foldl (fun s g => restartGroup g s) s)
      (.okWith ((readGroups p).flatMap s.groupBytes)) := if_neg (by omega)

theorem evtReadOwn_badarg {tk : Ticket} {p : List Byte} {s : State}
    (h : pByte p 1 = 0 ∨ 16 < pByte p 1 ∨ 16 < pByte p 0 + pByte p 1) : evtReadOwn tk p s = reply s (.badarg 1) := if_pos h

/-! ## EVT_CLEAR (R353, R382) -/

/-- The verdict on the next entry of an EVT_CLEAR: its outcome, and its source after it. -/
def State.verdictOn (s : State) (n : Nat) (seen : W16) : Byte × Source :=
  (s.ev.entered s.uptime n).clearIn (s.ev.get n) seen

/-- Source `n` put as judged. -/
def State.judged (s : State) (n : Nat) (seen : W16) : State :=
  { s with ev := { s.ev with src := Tab.put freshSource s.ev.src n (s.verdictOn n seen).2 } }

theorem judged_get (s : State) (n : Nat) (seen : W16) (k : Nat) :
    (s.judged n seen).ev.get k = if k = n then (s.verdictOn n seen).2 else s.ev.get k := by
  refine (Tab.get_put freshSource s.ev.src n (s.verdictOn n seen).2 k).trans ?_
  by_cases h : k = n
  · rw [if_pos h, if_pos h.symm]
  · rw [if_neg h, if_neg (Ne.symm h)]
    rfl

/-- `s` with `run` as the EVT_CLEAR that runs. -/
def State.clearingAs (s : State) (run : Option Clearing) : State := { s with lk := { s.lk with clearing := run } }

theorem clearNext_more {s : State} {c : Clearing} {n : Nat} {seen : W16} {es : List (Nat × W16)}
    (hc : s.lk.clearing = some c) (hl : c.left = (n, seen) :: es) (hes : es ≠ []) :
    clearNext s = (s.judged n seen).clearingAs (some { c with left := es, out := c.out ++ [(s.verdictOn n seen).1] }) := by
  have some : es.isEmpty = false := List.isEmpty_eq_false_iff.mpr hes
  unfold clearNext
  rw [hc]
  dsimp only
  rw [hl]
  dsimp only
  rw [some]
  rfl

theorem clearNext_last {s : State} {c : Clearing} {n : Nat} {seen : W16} (hc : s.lk.clearing = some c)
    (hl : c.left = [(n, seen)]) :
    clearNext s = answerBadop 32 (answer c.box (.okWith (c.out ++ [(s.verdictOn n seen).1])) c.start
      ((s.judged n seen).clearingAs none)) := by
  unfold clearNext
  rw [hc]
  dsimp only
  rw [hl]
  rfl

/-- The last entry's answer tells of no other source. -/
theorem clearNext_answers {s : State} {c : Clearing} {n : Nat} {seen : W16} (hc : s.lk.clearing = some c)
    (hl : c.left = [(n, seen)]) :
    Said (s.clearingAs none) (clearNext s) ∧
      (∀ k, k ≠ 134 → (clearNext s).ev.get k = if k = n then (s.verdictOn n seen).2 else s.ev.get k) ∧
      (clearNext s).ev.mask = s.ev.mask ∧ Answered c.box (.okWith (c.out ++ [(s.verdictOn n seen).1])) (clearNext s) := by
  rw [clearNext_last hc hl]
  generalize hv : (s.judged n seen).clearingAs none = v
  have said : Said (s.clearingAs none) v := by
    rw [← hv]
    rfl
  have ev : v.ev = (s.judged n seen).ev := by rw [← hv]; rfl
  have answered := answer_box c.box (.okWith (c.out ++ [(s.verdictOn n seen).1])) c.start v
  refine ⟨said.trans ((answer_said _ _ _ v).trans (answerBadop_said 32 _)), fun k hk => ?_, ?_, ?_⟩
  · rw [← judged_get, answerBadop_onlyDrops 32 _ k hk, answer_onlyDrops _ _ _ v k hk, ev]
  · rw [answerBadop_mask, answer_mask, ev]
    rfl
  · unfold Answered
    rw [answerBadop_box 32 _ c.box (by rw [answered]; exact Option.some_ne_none _), answered]

/-- An EVT_CLEAR that the Lodge has just taken: all its entries are still to be judged. -/
def State.clearTaken (s : State) (m : Nat) (p : List Byte) : State :=
  s.clearingAs (some { box := m, left := clearEntries p, out := [], start := s.start })

theorem evtClearOwn_taken {p : List Byte} (tk : Ticket) (s : State) (h1 : 1 ≤ pByte p 0) (h64 : pByte p 0 ≤ 64)
    (hs : ∀ i, i < pByte p 0 → pNat p (4 + 4 * i) 2 ≤ 511) :
    evtClearOwn tk p s = { s := s.clearTaken tk.mb p, ans := none, done := none } := by
  have good : (List.range (pByte p 0)).find? (fun i => 511 < pNat p (4 + 4 * i) 2) = none := by
    refine List.find?_eq_none.mpr fun i hi => ?_
    have := hs i (List.mem_range.mp hi)
    simp only [decide_eq_true_eq]
    omega
  unfold evtClearOwn
  dsimp only
  rw [if_neg (by omega), good]
  rfl

/-- While a command that takes its time runs, no command is answered in passing. -/
theorem answerBadop_waits {s : State} (h : s.lodgeRuns = false) : ∀ n, answerBadop n s = s
  | 0 => rfl
  | n + 1 => by
    unfold answerBadop
    split
    · exact if_neg (by simp [h])
    · rfl

/-- A command whose rule yields no answer yet leaves what the rule leaves, and what is answered in passing. -/
theorem lodge_unanswered {m op : Nat} {row len : List Byte → Bool} {mode : State → List Byte → Bool}
    {own : Ticket → List Byte → State → Reply} {s u : State} {p : List Byte} (h : Takes s m op p)
    (hrow : row p = true) (hlen : len p = true) (hmode : mode s p = true)
    (ho : own (s.ticket m) p s = { s := u, ans := none, done := none }) :
    lodge m op row len mode own s = answerBadop 32 u := by
  obtain ⟨-, -, hr, hn, hop, hpl⟩ := h
  unfold lodge
  simp only [hr, hn, hop, hpl, hrow, hlen, hmode, ho, Bool.not_true, and_self, if_true, if_false, Bool.false_eq_true]

/-- An EVT_CLEAR that is taken judges its first entry at once. -/
theorem evtClear_taken {s : State} {m : Nat} {p : List Byte} (ht : Takes s m 0x0903 p)
    (hlen : p.length = 4 + 4 * pByte p 0) (h1 : 1 ≤ pByte p 0) (h64 : pByte p 0 ≤ 64)
    (hs : ∀ i, i < pByte p 0 → pNat p (4 + 4 * i) 2 ≤ 511) : evtClear m s = clearNext (s.clearTaken m p) := by
  have busy : (s.clearTaken m p).lodgeRuns = false := by
    simp [State.lodgeRuns, State.midCommand, State.clearTaken, State.clearingAs]
  have taken : lodge m 0x0903 anyRow (fun p => 4 ≤ p.length && p.length == 4 + 4 * pByte p 0) anyMode evtClearOwn s =
      s.clearTaken m p :=
    (lodge_unanswered ht rfl (by simp [hlen]) rfl (evtClearOwn_taken (s.ticket m) s h1 h64 hs)).trans
      (answerBadop_waits busy 32)
  unfold evtClear
  rw [taken]
  rfl

theorem clearEntries_cons {p : List Byte} (h : 1 ≤ pByte p 0) :
    clearEntries p = (pNat p 4 2, BitVec.ofNat 16 (pNat p 6 2)) :: (clearEntries p).tail := by
  unfold clearEntries
  obtain ⟨k, hk⟩ : ∃ k, pByte p 0 = k + 1 := ⟨pByte p 0 - 1, by omega⟩
  rw [hk, List.range_succ_eq_map]
  rfl

theorem clearEntries_length (p : List Byte) : (clearEntries p).length = pByte p 0 := by simp [clearEntries]

/-- An EVT_CLEAR of one entry is judged and answered at once. -/
theorem evtClear_one {s : State} {m : Nat} {p : List Byte} (ht : Takes s m 0x0903 p)
    (hlen : p.length = 4 + 4 * pByte p 0) (h1 : pByte p 0 = 1) (hs : pNat p 4 2 ≤ 511) :
    Completes (.evtClear m) s (fun t =>
      (∀ n, n ≠ 134 → t.ev.get n =
        if n = pNat p 4 2 then (s.verdictOn (pNat p 4 2) (BitVec.ofNat 16 (pNat p 6 2))).2 else s.ev.get n) ∧
      t.ev.mask = s.ev.mask ∧ Said s t ∧
      Answered m (.okWith [(s.verdictOn (pNat p 4 2) (BitVec.ofNat 16 (pNat p 6 2))).1]) t) := by
  have idle : s.lk.clearing = none := by
    have runs := ht.2.2.1
    unfold State.lodgeRuns State.midCommand at runs
    cases hc : s.lk.clearing <;> simp_all
  have entry : clearEntries p = [(pNat p 4 2, BitVec.ofNat 16 (pNat p 6 2))] := by
    have rest : (clearEntries p).tail = [] :=
      List.length_eq_zero_iff.mp (by rw [List.length_tail, clearEntries_length]; omega)
    rw [clearEntries_cons (by omega), rest]
  have taken := evtClear_taken ht hlen (by omega) (by omega) fun i hi => by
    obtain rfl : i = 0 := by omega
    exact hs
  obtain ⟨said, get, mask, ans⟩ := clearNext_answers (s := s.clearTaken m p) rfl entry
  have same : (s.clearTaken m p).clearingAs none = s := by
    unfold State.clearTaken State.clearingAs
    dsimp only
    rw [← idle]
  rw [same] at said
  refine Completes.of_act rfl (by simpa using ht.1) ht.2.1 ?_
  rw [taken]
  exact ⟨get, mask, said.keep rfl, ans⟩

/-- An EVT_CLEAR of more entries judges the first and runs on. -/
theorem evtClear_more {s : State} {m : Nat} {p : List Byte} (ht : Takes s m 0x0903 p)
    (hlen : p.length = 4 + 4 * pByte p 0) (h2 : 2 ≤ pByte p 0) (h64 : pByte p 0 ≤ 64)
    (hs : ∀ i, i < pByte p 0 → pNat p (4 + 4 * i) 2 ≤ 511) :
    Completes (.evtClear m) s (fun t => t = (s.judged (pNat p 4 2) (BitVec.ofNat 16 (pNat p 6 2))).clearingAs
      (some { box := m, left := (clearEntries p).tail
              out := [(s.verdictOn (pNat p 4 2) (BitVec.ofNat 16 (pNat p 6 2))).1], start := s.start })) := by
  have rest : (clearEntries p).tail ≠ [] := fun e => by
    have := congrArg List.length e
    rw [List.length_tail, clearEntries_length, List.length_nil] at this
    omega
  refine Completes.of_act rfl (by simpa using ht.1) ht.2.1 ?_
  rw [evtClear_taken ht hlen (by omega) h64 hs,
    clearNext_more (s := s.clearTaken m p) rfl (clearEntries_cons (by omega)) rest]
  rfl

/-- In a cycle of its own an EVT_CLEAR judges its next entry (R382). -/
theorem tick_clears {s : State} (hl : s.live = true) (ht : s.fl.tested = true) (hr : s.av.restart = false)
    (hk : s.tb.coarse.toNat + 1 < 2 ^ 54) (hq : ∀ c ∈ s.fl.chans, c.2.fullAfter s.cycle = false) :
    tick s = lateChange (clearNext s.ticked) := by
  have cycle : tbCycle s = s.ticked := by
    rw [tbCycle_counts hk, checkFull_none (s := s.ticked) hq, ite_self]
  have tested : finishSelfTest { badCores := [], badUnits := [] } s.ticked = s.ticked := if_pos ht
  unfold tick
  rw [if_pos hl]
  dsimp only
  rw [cycle, tested, hr]
  rfl

/-- Where no LIMP change waits, none takes effect. -/
theorem lateChange_none {s : State} (h : s.th.limpLater = false) : lateChange s = s := if_neg (by simp [h])

/-- Settles O53: EVT_MASK by its mask word, EVT_READ by its restarted groups, EVT_CLEAR by the verdict on the entry whose
turn it is, EV_TEST by what a raise does to each source. -/
theorem eventCommands : Obligations.EventCommands := by
  refine ⟨fun s m p ht hlen hg => ?_, fun s m p ht hlen hg => evtMask_refused ht hlen hg,
    fun s m p ht hlen h1 h16 hsum => ?_, fun s m p ht hlen hb => ?_, fun s m p ht hlen h1 hs => ?_,
    fun s m p ht hlen h2 h64 hs => ?_, fun s c n seen es hp hl ht hr hk hc hleft hm hq => ?_, fun s v hl => ?_⟩
  · exact (evtMask_group ht hlen hg).mono fun t ⟨words, k, ka⟩ =>
      ⟨(words _).trans (if_pos rfl), fun g h => (words g).trans (if_neg (Ne.symm h)), k, ka⟩
  · have said := restartGroups_said (readGroups p) s
    refine (evtRead_completes ht hlen (evtReadOwn_groups _ s h1 h16 hsum) said.pending).mono
      fun t ⟨k, ka, drops, km⟩ => ⟨fun n hn lo hi => ?_, km.trans (restartGroups_mask _ s), said.trans k, ka⟩
    rw [drops n hn]
    exact (restartGroups_restarted s (mem_readGroups lo hi)).raises
  · exact (evtRead_completes ht hlen (evtReadOwn_badarg hb) rfl).mono fun t ⟨k, ka, _, _⟩ => ⟨k, ka⟩
  · exact evtClear_one ht hlen h1 hs
  · refine (evtClear_more ht hlen h2 h64 hs).mono fun t e => ?_
    subst e
    exact ⟨judged_get s _ _, rfl, rfl, rfl⟩
  · have later : lateChange (clearNext s.ticked) = clearNext s.ticked ∧ (clearNext s.ticked).pending = [] := by
      by_cases h : es = []
      · subst h
        have said := (clearNext_answers (s := s.ticked) hc hleft).1
        exact ⟨lateChange_none (by rw [said]; exact hm), said.pending.trans hp⟩
      · rw [clearNext_more (s := s.ticked) hc hleft h]
        exact ⟨lateChange_none hm, hp⟩
    have idles : idle s = clearNext s.ticked := by
      unfold idle
      rw [tick_clears hl ht hr hk hq, later.1, hp, ← later.2]
    refine ⟨clearNext s.ticked, by rw [step_nil hp, idles], fun k hk => ?_, fun h => ?_, fun h => ?_⟩
    · by_cases h : es = []
      · subst h
        exact (clearNext_answers (s := s.ticked) hc hleft).2.1 k (hk.resolve_right (fun x => x rfl))
      · rw [clearNext_more (s := s.ticked) hc hleft h]
        exact judged_get s.ticked n seen k
    · subst h
      obtain ⟨said, -, -, answered⟩ := clearNext_answers (s := s.ticked) hc hleft
      exact ⟨said, answered⟩
    · have some : es.isEmpty = false := List.isEmpty_eq_false_iff.mpr h
      rw [clearNext_more (s := s.ticked) hc hleft h, some]
      rfl
  · refine Completes.of_act rfl rfl hl ⟨fun n hn hb => evTest_raised s hn hb, fun k hk => ?_, (raises_said _ s).keep rfl⟩
    refine evTest_other s fun n hn hb e => ?_
    rcases hk with h | h | h
    · omega
    · omega
    · rw [e, Nat.add_sub_cancel_left, hb] at h
      exact nomatch h

end Sys2Proof.Machine
end

section
/-!
PROOFS. SPARE_MAP (R355 to R359, R278, R413): substitutions that the host asks for, cores retired, and the memory channel that
leaves the rotation.
-/
namespace Sys2Proof.Machine

/-! ## The rows of SPARE_MAP -/

/-- A SPARE_MAP of full length and a permitted mode answers what its operation yields, in the row that operation belongs to. -/
theorem spareMap_completes {i : Instr} {s u : State} {m : Nat} {p : List Byte} {a : Answer} {row : List Byte → Bool}
    (he : exec i s = act (m < 32) (spareRow m row) s) (ht : Takes s m 0x0B01 p) (hlen : p.length = 8)
    (hrow : row p = true) (hmode : spareMode s p = true) (ho : spareOwn (s.ticket m) p s = reply u a)
    (hp : u.pending = s.pending) : Completes i s (fun t => Said u t ∧ Answered m a t ∧ OnlyDrops u t) :=
  Completes.of_lodge_drops he ht hrow (subLen_of_length hlen (by omega)) hmode ho hp

/-- The operation byte of a payload that is not empty. -/
theorem opIs_eq {n : Nat} {p : List Byte} (hlen : p.length = 8) : opIs n p = (pByte p 0 == n) := by
  have some : p.isEmpty = false := List.isEmpty_eq_false_iff.mpr (by rintro rfl; simp at hlen)
  unfold opIs
  rw [some]
  rfl

section rows
variable {s u : State} {m : Nat} {p : List Byte} {a : Answer} (ht : Takes s m 0x0B01 p) (hlen : p.length = 8)
include ht hlen

theorem swap_completes (hop : pByte p 0 = 0) (hmode : s.th.mode ≠ .dormant) (ho : swapOwn p s = reply u a)
    (hp : u.pending = s.pending) : Completes (.spareMapSwap m) s (fun t => Said u t ∧ Answered m a t) := by
  have row : (!opIs 1 p && !opIs 2 p && !opIs 3 p && !opIs 4 p) = true := by simp [opIs_eq hlen, hop]
  refine (spareMap_completes rfl ht hlen row ?_ ?_ hp).mono fun t ⟨k, ka, _⟩ => ⟨k, ka⟩
  · simp [spareMode, hop, hmode]
  · simp only [spareOwn, hop, ho]

theorem home_completes (hop : pByte p 0 = 1) (hmode : s.th.mode ≠ .dormant) (ho : homeOwn p s = reply u a)
    (hp : u.pending = s.pending) : Completes (.spareMapHome m) s (fun t => Said u t ∧ Answered m a t) := by
  refine (spareMap_completes rfl ht hlen (by simp [opIs_eq hlen, hop]) ?_ ?_ hp).mono fun t ⟨k, ka, _⟩ => ⟨k, ka⟩
  · simp [spareMode, hop, hmode]
  · simp only [spareOwn, hop, ho]

theorem retire_completes (hop : pByte p 0 = 2) (hmode : s.th.mode ≠ .dormant) (ho : retireOwn p s = reply u a)
    (hp : u.pending = s.pending) :
    Completes (.spareMapRetire m) s (fun t => Said u t ∧ Answered m a t ∧ OnlyDrops u t) := by
  refine spareMap_completes rfl ht hlen (by simp [opIs_eq hlen, hop]) ?_ ?_ hp
  · simp [spareMode, hop, hmode]
  · simp only [spareOwn, hop, ho]

theorem memret_completes (hop : pByte p 0 = 3) (ho : memretOwn p s = reply u a) (hp : u.pending = s.pending) :
    Completes (.memret m) s (fun t => Said u t ∧ Answered m a t ∧ OnlyDrops u t) := by
  refine spareMap_completes rfl ht hlen (by simp [opIs_eq hlen, hop]) ?_ ?_ hp
  · simp [spareMode, hop]
  · simp only [spareOwn, hop, ho]

theorem memclr_completes (hop : pByte p 0 = 4) (hmode : s.th.mode = .dormant ∨ s.th.mode = .survey)
    (ho : memclrOwn s = reply u a) (hp : u.pending = s.pending) :
    Completes (.memclr m) s (fun t => Said u t ∧ Answered m a t) := by
  refine (spareMap_completes rfl ht hlen (by simp [opIs_eq hlen, hop]) ?_ ?_ hp).mono fun t ⟨k, ka, _⟩ => ⟨k, ka⟩
  · rcases hmode with h | h <;> simp [spareMode, hop, deepMode, h]
  · simp only [spareOwn, hop, ho]

end rows

/-! ## SWAP and HOME: a substitution planned (R357) -/

theorem chanFlight_chanNo {f c : Nat} (hf : f ≤ 32) (hc : c < chansOf f) : chanFlight (chanNo f c) = f := by
  have small : chansOf f ≤ 16 := by unfold chansOf; split <;> omega
  unfold chanFlight chanNo
  omega

/-- Core `k` of flight `f` planned for channel `c` of the flight, at the instant that the answer gives. -/
def State.planned (s : State) (f c k : Nat) : State :=
  updChan (chanNo f c) (fun x => { x with subst := some { core := k, tsw := switchInstant s.tb.coarse, fault := none } }) s

theorem planHost_eq {f c : Nat} (hf : f ≤ 32) (hc : c < chansOf f) (k : Nat) (s : State) :
    planHost (chanNo f c) (coreNo f k) s =
      reply (s.planned f c k) (.okWith (beBytes 8 (switchInstant s.tb.coarse).toNat)) := by
  have inFlight : coreNo f k - coreNo (chanFlight (chanNo f c)) 0 = k := by
    rw [chanFlight_chanNo hf hc]
    unfold coreNo
    omega
  unfold planHost planSwitch
  rw [inFlight]
  rfl

/-- What is said of a planned substitution: its channel alone is changed. -/
theorem planned_told {s t : State} {f c k : Nat} (h : Said (s.planned f c k) t) :
    t.chan (chanNo f c) = { s.chan (chanNo f c) with
      subst := some { core := k, tsw := switchInstant s.tb.coarse, fault := none } } ∧
    (∀ j, j ≠ chanNo f c → t.chan j = s.chan j) ∧ Said { s with fl := { s.fl with chans := t.fl.chans } } t := by
  have chan (j : Nat) : t.chan j = (s.planned f c k).chan j := by
    unfold State.chan
    rw [h.fl]
  refine ⟨(chan _).trans (updChan_chan_same _ _ s), fun j hj => (chan j).trans (updChan_chan_other _ s hj), ?_⟩
  rw [h.fl]
  exact h

theorem swapOwn_plans {p : List Byte} {s : State} (hf : pByte p 1 ≤ 32) (hlo : chansOf (pByte p 1) ≤ pByte p 3)
    (hhi : pByte p 3 < coresOf (pByte p 1)) (hst : (s.core (coreNo (pByte p 1) (pByte p 3))).state = 0)
    (ht : s.fl.tested = true) (hch : coreNo (pByte p 1) (pByte p 3) ∉ s.chosen (pByte p 1))
    (hc : pByte p 2 < chansOf (pByte p 1)) (he : (s.chan (chanNo (pByte p 1) (pByte p 2))).en = true)
    (hs : (s.chan (chanNo (pByte p 1) (pByte p 2))).subst = none) :
    swapOwn p s = reply (s.planned (pByte p 1) (pByte p 2) (pByte p 3))
      (.okWith (beBytes 8 (switchInstant s.tb.coarse).toNat)) := by
  have free : ¬(pByte p 3 < chansOf (pByte p 1) ∨ coresOf (pByte p 1) ≤ pByte p 3 ∨
      (s.core (coreNo (pByte p 1) (pByte p 3))).state ≠ 0 ∨ s.fl.tested = false ∨
      (s.chosen (pByte p 1)).contains (coreNo (pByte p 1) (pByte p 3)) = true) := by
    simp only [hst, ht, List.contains_iff_mem, hch]
    simp [hlo, hhi]
  have served : ¬(chansOf (pByte p 1) ≤ pByte p 2 ∨ (s.chan (chanNo (pByte p 1) (pByte p 2))).en = false ∨
      (s.chan (chanNo (pByte p 1) (pByte p 2))).subst.isSome = true) := by simp [hc, he, hs]
  unfold swapOwn
  dsimp only
  rw [if_neg (by omega), if_neg free, if_neg served]
  exact planHost_eq hf hc _ s

theorem homeOwn_plans {p : List Byte} {s : State} (hf : pByte p 1 ≤ 32) (hc : pByte p 2 < chansOf (pByte p 1))
    (hst : (s.core (coreNo (pByte p 1) (pByte p 2))).state ≠ 3) (ht : s.fl.tested = true)
    (haw : (s.chan (chanNo (pByte p 1) (pByte p 2))).core ≠ pByte p 2)
    (hs : (s.chan (chanNo (pByte p 1) (pByte p 2))).subst = none) :
    homeOwn p s = reply (s.planned (pByte p 1) (pByte p 2) (pByte p 2))
      (.okWith (beBytes 8 (switchInstant s.tb.coarse).toNat)) := by
  have ready : ¬(chansOf (pByte p 1) ≤ pByte p 2 ∨ (s.core (coreNo (pByte p 1) (pByte p 2))).state = 3 ∨
      s.fl.tested = false ∨ (s.chan (chanNo (pByte p 1) (pByte p 2))).core = pByte p 2 ∨
      (s.chan (chanNo (pByte p 1) (pByte p 2))).subst.isSome = true) := by simp [hc, hst, ht, haw, hs]
  unfold homeOwn
  dsimp only
  rw [if_neg (by omega), if_neg ready]
  exact planHost_eq hf hc _ s

/-! ## RETIRE (R356, R413) -/

theorem retireOwn_free {p : List Byte} {s : State} (hf : pByte p 1 ≤ 32) (hk : pByte p 3 < coresOf (pByte p 1))
    (hst : (s.core (coreNo (pByte p 1) (pByte p 3))).state = 0)
    (hch : coreNo (pByte p 1) (pByte p 3) ∉ s.chosen (pByte p 1)) :
    retireOwn p s = reply (retire (coreNo (pByte p 1) (pByte p 3)) s) (.plain .ok) := by
  have free : ¬(coresOf (pByte p 1) ≤ pByte p 3 ∨ (s.core (coreNo (pByte p 1) (pByte p 3))).state = 1 ∨
      (s.core (coreNo (pByte p 1) (pByte p 3))).state = 2 ∨
      (s.chosen (pByte p 1)).contains (coreNo (pByte p 1) (pByte p 3)) = true) := by
    simp only [hst, List.contains_iff_mem, hch]
    simp [hk]
  unfold retireOwn
  dsimp only
  rw [if_neg (by omega), if_neg free, if_neg (by omega)]

theorem retireOwn_retired {p : List Byte} {s : State} (hf : pByte p 1 ≤ 32) (hk : pByte p 3 < coresOf (pByte p 1))
    (hst : (s.core (coreNo (pByte p 1) (pByte p 3))).state = 3)
    (hch : coreNo (pByte p 1) (pByte p 3) ∉ s.chosen (pByte p 1)) : retireOwn p s = reply s (.plain .ok) := by
  have free : ¬(coresOf (pByte p 1) ≤ pByte p 3 ∨ (s.core (coreNo (pByte p 1) (pByte p 3))).state = 1 ∨
      (s.core (coreNo (pByte p 1) (pByte p 3))).state = 2 ∨
      (s.chosen (pByte p 1)).contains (coreNo (pByte p 1) (pByte p 3)) = true) := by
    simp only [hst, List.contains_iff_mem, hch]
    simp [hk]
  unfold retireOwn
  dsimp only
  rw [if_neg (by omega), if_neg free, if_pos hst]

/-- A core retired is in STATE 3, and no other core is changed. -/
theorem retire_core (x : Nat) (s : State) :
    ((retire x s).core x).state = 3 ∧ ∀ y, y ≠ x → (retire x s).core y = s.core y := by
  have fl := (retire_stored x s).fl
  have core (y : Nat) : (retire x s).core y = (updCore x (fun c => { c with state := 3, chan := 0 }) s).core y := by
    unfold State.core
    rw [fl]
  exact ⟨by rw [core, updCore_core_same], fun y hy => by rw [core, updCore_core_other _ s hy]⟩

/-! ## MEMRET and MEMCLR (R278, R356, R358) -/

theorem memretOwn_badarg {p : List Byte} {s : State} (h : 7 < pByte p 1 ∨ s.gl.retired ≠ none) :
    memretOwn p s = reply s (.badarg 1) := if_pos (by rwa [Option.isSome_iff_ne_none])

theorem memretOwn_commits {p : List Byte} {s : State} (hc : pByte p 1 ≤ 7) (hr : s.gl.retired = none) :
    memretOwn p s =
      if (commit retireAddr (retireWord (pByte p 1) s) s).1 then
        reply (leaveRotation (pByte p 1) (commit retireAddr (retireWord (pByte p 1) s) s).2) (.plain .ok)
      else reply (commit retireAddr (retireWord (pByte p 1) s) s).2 (.plain .worn) :=
  if_neg (by simp [hr]; omega)

/-- A commit leaves the Gallery alone but for its pending event records. -/
theorem Stored.gl {s t : State} (h : Stored s t) : t.gl = { s.gl with evts := t.gl.evts } := congrArg State.gl h

theorem memclrOwn_badarg {s : State} (h : s.gl.retired = none) (hb : bit (pread s retireAddr) 4 = false) :
    memclrOwn s = reply s (.badarg 0) := if_pos ⟨by simp [h], hb⟩

/-- Fault 0x0602 repaired for every memory channel. -/
def channelsRepaired (s : State) : State := (List.range 8).foldl (fun s c => repair 0x0602 c 0 s) s

theorem memclrOwn_commits {s : State} (h : s.gl.retired ≠ none ∨ bit (pread s retireAddr) 4 = true) :
    memclrOwn s =
      if (commit retireAddr 0 s).1 then reply (channelsRepaired (commit retireAddr 0 s).2) (.plain .ok)
      else reply (commit retireAddr 0 s).2 (.plain .worn) := by
  have some : ¬(s.gl.retired.isNone ∧ bit (pread s retireAddr) 4 = false) := by
    rintro ⟨none, clear⟩
    rcases h with h | h
    · exact h (Option.isNone_iff_eq_none.mp none)
    · rw [clear] at h
      exact nomatch h
  unfold memclrOwn channelsRepaired
  rw [if_neg some]
  generalize commit retireAddr 0 s = r
  obtain ⟨ok, u⟩ := r
  cases ok <;> rfl

theorem repairsOf_stored : ∀ (cs : List Nat) (s : State), Stored s (cs.foldl (fun s c => repair 0x0602 c 0 s) s)
  | [], s => Stored.refl s
  | c :: cs, s => (repair_stored 0x0602 c 0 s).trans (repairsOf_stored cs _)

theorem repairs_absent {c : Nat} : ∀ (cs : List Nat) {s : State}, s.outstanding 0x0602 c = false →
    (cs.foldl (fun s c => repair 0x0602 c 0 s) s).outstanding 0x0602 c = false
  | [], _, h => h
  | d :: cs, _, h => repairs_absent cs (repair_outstanding_false h 0x0602 d 0)

theorem repairs_ended {c : Nat} {cs : List Nat} (s : State) (h : c ∈ cs) :
    (cs.foldl (fun s c => repair 0x0602 c 0 s) s).outstanding 0x0602 c = false := by
  induction cs generalizing s with
  | nil => exact nomatch h
  | cons d cs ih =>
    rcases List.mem_cons.mp h with rfl | h
    · exact repairs_absent cs (repair_ended 0x0602 c 0 s)
    · exact ih _ h

/-- A commit changes no fault but those of unreadable words. -/
theorem commit_outstanding {code : Nat} (hc : code ≠ 0x0701) (unit a : Nat) (v : W32) (s : State) :
    (commit a v s).2.outstanding code unit = s.outstanding code unit := by
  cases h : s.outstanding code unit with
  | true => exact commitOwn_outstanding h hc a v
  | false =>
    refine outstanding_false fun k => ?_
    rcases (commit_bookkept a v s).faults _ k with old | new
    · exact ne_true_of_eq_false h (List.contains_iff_mem.mpr old)
    · exact hc new

theorem channelsRepaired_stored (s : State) : Stored s (channelsRepaired s) := repairsOf_stored _ s

theorem channelsRepaired_ended {c : Nat} (h : c < 8) (s : State) : (channelsRepaired s).outstanding 0x0602 c = false :=
  repairs_ended s (List.mem_range.mpr h)

section commits
variable {s : State} {m : Nat} {p : List Byte} (ht : Takes s m 0x0B01 p) (hlen : p.length = 8)
include ht hlen

/-- A MEMRET that commits takes its channel out of rotation, and no partition is held (R278). -/
theorem memret_commits (hop : pByte p 0 = 3) (hc : pByte p 1 ≤ 7) (hr : s.gl.retired = none)
    (hok : (commit retireAddr (retireWord (pByte p 1) s) s).1 = true) (hw : s.gl.writing = false) :
    Completes (.memret m) s (fun t => t.gl.retired = some (pByte p 1) ∧ (∀ q, (t.partn q).state = 0) ∧ t.gl.marks = [] ∧
      (t.ev.get 101).latched = true ∧ t.gl.mem = s.gl.mem ∧ t.tb = s.tb ∧ t.fl = s.fl ∧ Answered m (.plain .ok) t) := by
  have own := memretOwn_commits hc hr
  have stored := commit_stored retireAddr (retireWord (pByte p 1) s) s
  rw [hok, if_pos rfl] at own
  generalize (commit retireAddr (retireWord (pByte p 1) s) s).2 = v at own stored
  have unwritten : v.gl.writing = false := by rw [stored.gl]; exact hw
  obtain ⟨st, said⟩ := leaveRotation_said (c := pByte p 1) unwritten
  refine (memret_completes ht hlen hop own (said.pending.trans stored.pending)).mono fun t ⟨k, ka, drops⟩ => ?_
  have told := said.trans k
  have gl := told.gl
  refine ⟨?_, Gallery.cleared_partn (s := v) ?_, ?_, drops.latched (by omega) (leaveRotation_latched unwritten),
    told.mem.trans stored.mem, told.tb.trans stored.tb, told.fl.trans stored.fl, ka⟩
  · rw [gl]
  · rw [gl]
  · rw [gl]
    rfl

/-- A MEMRET whose word does not commit leaves the rotation as it is (R371). -/
theorem memret_worn (hop : pByte p 0 = 3) (hc : pByte p 1 ≤ 7) (hr : s.gl.retired = none)
    (hworn : (commit retireAddr (retireWord (pByte p 1) s) s).1 = false) :
    Completes (.memret m) s (fun t => t.gl = { s.gl with evts := t.gl.evts } ∧ t.tb = s.tb ∧ t.fl = s.fl ∧
      Answered m (.plain .worn) t) := by
  have own := memretOwn_commits hc hr
  have stored := commit_stored retireAddr (retireWord (pByte p 1) s) s
  rw [hworn, if_neg Bool.false_ne_true] at own
  refine (memret_completes ht hlen hop own stored.pending).mono fun t ⟨k, ka, _⟩ => ?_
  exact ⟨by rw [k.gl, stored.gl], k.tb.trans stored.tb, k.fl.trans stored.fl, ka⟩

variable (hop : pByte p 0 = 4) (hmode : s.th.mode = .dormant ∨ s.th.mode = .survey)
  (hset : s.gl.retired ≠ none ∨ bit (pread s retireAddr) 4 = true)
include hop hmode hset

/-- A MEMCLR whose word does not commit ends no fault. -/
theorem memclr_worn (hworn : (commit retireAddr 0 s).1 = false) :
    Completes (.memclr m) s (fun t => (∀ c, t.outstanding 0x0602 c = s.outstanding 0x0602 c) ∧
      t.gl = { s.gl with evts := t.gl.evts } ∧ t.tb = s.tb ∧ t.fl = s.fl ∧ Answered m (.plain .worn) t) := by
  have own := memclrOwn_commits hset
  have stored := commit_stored retireAddr 0 s
  rw [hworn, if_neg Bool.false_ne_true] at own
  refine (memclr_completes ht hlen hop hmode own stored.pending).mono fun t ⟨k, ka⟩ => ?_
  exact ⟨fun c => (k.outstanding 0x0602 c).trans (commit_outstanding (by omega) c _ _ s), by rw [k.gl, stored.gl],
    k.tb.trans stored.tb, k.fl.trans stored.fl, ka⟩

/-- A MEMCLR that commits ends the second fault of every channel (R358). -/
theorem memclr_commits (hok : (commit retireAddr 0 s).1 = true) :
    Completes (.memclr m) s (fun t => (∀ c, c < 8 → t.outstanding 0x0602 c = false) ∧
      t.gl = { s.gl with evts := t.gl.evts } ∧ t.tb = s.tb ∧ t.fl = s.fl ∧ Answered m (.plain .ok) t) := by
  have own := memclrOwn_commits hset
  rw [hok, if_pos rfl] at own
  have stored := (commit_stored retireAddr 0 s).trans (channelsRepaired_stored _)
  refine (memclr_completes ht hlen hop hmode own stored.pending).mono fun t ⟨k, ka⟩ => ?_
  exact ⟨fun c hc => (k.outstanding 0x0602 c).trans (channelsRepaired_ended hc _), by rw [k.gl, stored.gl],
    k.tb.trans stored.tb, k.fl.trans stored.fl, ka⟩

end commits

/-- Settles O60: each operation by what its own rule yields, and a word that is committed by what a commit leaves alone. -/
theorem spareMapOperations : Obligations.SpareMapOperations := by
  refine ⟨fun s m p ht hlen hop hmode hf hlo hhi hst htd hch hc he hs => ?_, fun s m p ht hlen _ hmode hf => ⟨?_, ?_, ?_⟩,
    fun s m p ht hlen hop hmode hf hc hst htd haw hs => ?_, fun s m p ht hlen hop hmode hf hk hst hch => ?_,
    fun s m p ht hlen hop hmode hf hk hst hch => ?_, fun s m p ht hlen hop hc hr hok hw => ?_,
    fun s m p ht hlen hop hb => ?_, fun s m p ht hlen hop hc hr hworn => ?_, fun s m p ht hlen hop hmode hset hworn => ?_,
    fun s m p ht hlen hop hmode hset hok => ?_, fun s m p ht hlen hop hmode hr hb => ?_⟩
  · refine (swap_completes ht hlen hop hmode (swapOwn_plans hf hlo hhi hst htd hch hc he hs) rfl).mono fun t ⟨k, ka⟩ => ?_
    obtain ⟨chan, other, said⟩ := planned_told k
    exact ⟨chan, other, said, ka⟩
  · exact fun hop => swap_completes ht hlen hop hmode (if_pos hf) rfl
  · exact fun hop => home_completes ht hlen hop hmode (if_pos hf) rfl
  · exact fun hop => (retire_completes ht hlen hop hmode (if_pos hf) rfl).mono fun _ ⟨k, ka, _⟩ => ⟨k, ka⟩
  · refine (home_completes ht hlen hop hmode (homeOwn_plans hf hc hst htd haw hs) rfl).mono fun t ⟨k, ka⟩ => ?_
    obtain ⟨chan, other, said⟩ := planned_told k
    exact ⟨chan, other, said, ka⟩
  · have stored := retire_stored (coreNo (pByte p 1) (pByte p 3)) s
    obtain ⟨state, other⟩ := retire_core (coreNo (pByte p 1) (pByte p 3)) s
    refine (retire_completes ht hlen hop hmode (retireOwn_free hf hk hst hch) stored.pending).mono
      fun t ⟨k, ka, drops⟩ => ⟨?_, fun x hx => ?_, drops.latched (by omega) (retire_latched _ s), ?_, ?_, ?_, ka⟩
    · unfold State.core
      rw [k.fl]
      exact state
    · unfold State.core
      rw [k.fl]
      exact other x hx
    · rw [k.fl, stored.fl]
      rfl
    · rw [k.tb, stored.tb]
      rfl
    · rw [k.sh, stored.sh]
      rfl
  · exact (retire_completes ht hlen hop hmode (retireOwn_retired hf hk hst hch) rfl).mono fun _ ⟨k, ka, _⟩ => ⟨k, ka⟩
  · exact memret_commits ht hlen hop hc hr hok hw
  · exact (memret_completes ht hlen hop (memretOwn_badarg hb) rfl).mono fun _ ⟨k, ka, _⟩ => ⟨k, ka⟩
  · refine (memret_worn ht hlen hop hc hr hworn).mono fun t ⟨gl, tb, fl, ka⟩ => ?_
    exact ⟨by rw [gl]; exact hr, by rw [gl], by rw [gl], by rw [gl], tb, fl, ka⟩
  · refine (memclr_worn ht hlen hop hmode hset hworn).mono fun t ⟨faults, gl, tb, fl, ka⟩ => ?_
    exact ⟨fun c _ => faults c, by rw [gl], by rw [gl], tb, fl, ka⟩
  · refine (memclr_commits ht hlen hop hmode hset hok).mono fun t ⟨faults, gl, tb, fl, ka⟩ => ?_
    exact ⟨faults, by rw [gl], by rw [gl], tb, fl, ka⟩
  · exact memclr_completes ht hlen hop hmode (memclrOwn_badarg hr hb) rfl

end Sys2Proof.Machine
end

section
/-!
PROOFS. Loggia (R424 to R428): records onto the lanes, time records, counters, and the dump of a held queue.
-/
namespace Sys2Proof.Machine

/-! ## Records pushed into the FIFO -/

/-- With the trace on and no EPOCH record waiting, a record that finds room joins the FIFO. -/
theorem Avail.pushAs_room {a : Avail} (hold urgent : Bool) (r : TraceRec) (hon : bit a.trcfg 31 = true) (hh : a.held = none)
    (hroom : a.fifo.length < if urgent then 4096 else 4032) :
    a.pushAs hold urgent r = { a with fifo := a.fifo ++ [r] } := by
  unfold Avail.pushAs
  rw [if_pos hon, hh, if_pos (by simpa using hroom)]

/-- With the trace off nothing is recorded (R426). -/
theorem Avail.push_off {a : Avail} (urgent : Bool) (r : TraceRec) (hoff : bit a.trcfg 31 = false) : a.push urgent r = a :=
  if_neg (by simp [hoff])

/-- Records that find room join the FIFO in order. -/
theorem Avail.pushes_room (f : Nat → TraceRec) : ∀ (ns : List Nat) {a : Avail}, bit a.trcfg 31 = true → a.held = none →
    a.fifo.length + ns.length ≤ 4032 → ns.foldl (fun a n => a.push false (f n)) a = { a with fifo := a.fifo ++ ns.map f }
  | [], a, _, _, _ => by rw [List.map_nil, List.append_nil, List.foldl_nil]
  | n :: ns, a, hon, hh, hroom => by
    rw [List.length_cons] at hroom
    have pushed : a.push false (f n) = { a with fifo := a.fifo ++ [f n] } :=
      Avail.pushAs_room true false (f n) hon hh (by simp; omega)
    rw [List.foldl_cons, pushed,
      Avail.pushes_room f ns (a := { a with fifo := a.fifo ++ [f n] }) hon hh (by simp; omega)]
    simp

/-! ## TRACE_RECORD_SEND (R424, R426) -/

/-- Symbol slots that the record on the lanes takes: K27.7 and four bytes on each. -/
def Avail.laneSlots (a : Avail) : Nat := if a.lanes.isEmpty then 0 else 5

theorem recSymbols_length (r : List Byte) (n : Nat) : (recSymbols r n).length = if r.isEmpty then 0 else 5 := by
  unfold recSymbols
  split <;> simp

/-- The symbol slot in which the next record goes onto the lanes. -/
def State.nextSlot (s : State) : Nat := max (s.uptime / 4) (s.av.laneAt + s.av.laneSlots)

theorem sendRec_eq (r : TraceRec) (s : State) : sendRec r s = { s with av := { s.av with
    lanes := [BitVec.ofNat 8 r.type, s.av.trSeq] ++ r.body, trSeq := s.av.trSeq + 1
    laneAt := s.nextSlot, laneRd := (List.range 4).map (fun n => s.av.rdAt n s.nextSlot) } } := by
  have slot : max (s.uptime / 4) (s.av.laneAt + (recSymbols s.av.lanes 0).length) = s.nextSlot := by
    rw [recSymbols_length]
    rfl
  unfold sendRec Avail.onLanes
  rw [slot]

theorem releaseTrace_waits {s : State} (h : s.av.held = none ∨ s.traceSettled = false) : releaseTrace s = s := by
  unfold releaseTrace
  split
  next l held =>
    have waits : s.traceSettled = false := h.resolve_left (by rw [held]; exact Option.some_ne_none l)
    exact if_neg (by simp [waits])
  · rfl

/-- The records behind an EPOCH record join the FIFO once the old epoch has no more items (R29). -/
theorem releaseTrace_settled {s : State} {l : List TraceRec} (h : s.av.held = some l) (hs : s.traceSettled = true) :
    releaseTrace s = { s with av := { s.av with fifo := s.av.fifo ++ l, held := none } } := by
  unfold releaseTrace
  rw [h]
  exact if_pos hs

theorem sendNext_nothing {s : State} (h : bit s.av.trcfg 31 = false ∨ (s.av.fifo = [] ∧ s.av.dropped = 0)) :
    sendNext s = s := by
  unfold sendNext
  rcases h with off | ⟨empty, none⟩
  · exact if_pos (by simp [off])
  · split
    · rfl
    · rw [if_neg (by simp [none]), empty]

theorem sendNext_lost {s : State} (hon : bit s.av.trcfg 31 = true) (hd : s.av.dropped ≠ 0) :
    sendNext s = sendRec ⟨10, beBytes 4 s.av.dropped ++ s.nowBytes ++ [0, 0]⟩ { s with av := { s.av with dropped := 0 } } := by
  unfold sendNext
  rw [if_neg (by simp [hon]), if_pos hd]

theorem sendNext_oldest {s : State} {r : TraceRec} {rs : List TraceRec} (hon : bit s.av.trcfg 31 = true)
    (hd : s.av.dropped = 0) (hf : s.av.fifo = r :: rs) :
    sendNext s = sendRec r { s with av := { s.av with fifo := rs } } := by
  unfold sendNext
  rw [if_neg (by simp [hon]), if_neg (by simp [hd]), hf]

/-! ## What stands on a lane (R424) -/

section lane
variable {a : Avail} (n : Nat) (h : a.lanes.length = 16)
include h

theorem lanes_some : a.lanes.isEmpty = false := List.isEmpty_eq_false_iff.mpr (by intro e; rw [e] at h; cases h)

/-- The symbols of a record on a lane: K27.7 and the lane's four bytes. -/
theorem recSymbols_eq : recSymbols a.lanes n =
    k27 :: (List.range 4).map (fun j => { ctl := false, byte := a.lanes.getD (4 * j + n) 0 }) :=
  if_neg (by simp [lanes_some h])

theorem symbols_start : (a.symbols n a.laneAt).getLastD k28 = k27 := by
  have one : a.laneAt + 1 - a.laneAt = 1 := by omega
  unfold Avail.symbols
  dsimp only
  rw [recSymbols_eq n h, one]
  rfl

/-- Byte `j` of the lane stands in slot `j + 1` of its record. -/
theorem symbols_byte {j : Nat} (hj : j < 4) : (a.symbols n (a.laneAt + 1 + j)).getLastD k28 =
    { ctl := false, byte := a.lanes.getD (4 * j + n) 0 } := by
  have slots : a.laneAt + 1 + j + 1 - a.laneAt = j + 2 := by omega
  unfold Avail.symbols
  dsimp only
  rw [recSymbols_eq n h, slots]
  match j, hj with
  | 0, _ | 1, _ | 2, _ | 3, _ => rfl

/-- Behind the record the lane is idle. -/
theorem symbols_idle {t : Nat} (ht : a.laneAt + 5 ≤ t) : (a.symbols n t).getLastD k28 = k28 := by
  have five : (recSymbols a.lanes n).length = 5 := by rw [recSymbols_length, lanes_some h]; rfl
  obtain ⟨k, hk⟩ : ∃ k, t + 1 - a.laneAt = 5 + (k + 1) := ⟨t - a.laneAt - 5, by omega⟩
  unfold Avail.symbols
  dsimp only
  rw [five, hk, Nat.add_sub_cancel_left, List.take_of_length_le (by simp [five]), List.getLastD_eq_getLast?,
    List.getLast?_append, List.getLast?_replicate]
  rfl

end lane

/-! ## AV.TRDUMP (R427) -/

theorem stages_words (n : Nat) : ∀ (top : Nat) (q : List QEntry), (stages n top q).map Prod.snd = q
  | _, [] => rfl
  | _, e :: es => congrArg (e :: ·) (stages_words n _ es)

theorem stages_length (n top : Nat) (q : List QEntry) : (stages n top q).length = q.length := by
  rw [← List.length_map (f := Prod.snd), stages_words]

/-- A word that is still falling lies as far above stage 15 as it has cycles to fall. -/
theorem stages_falling {n : Nat} : ∀ (top : Nat) (q : List QEntry), ∀ ke ∈ stages n top q, ke.1 ≤ 15 - (ke.2.ready - n)
  | _, [], ke, h => nomatch h
  | _, e :: es, ke, h => by
    rcases List.mem_cons.mp h with rfl | h
    · exact Nat.min_le_right _ _
    · exact stages_falling _ es ke h

/-- Words that have fallen stand one behind the other. -/
theorem stages_fallen {n : Nat} : ∀ {top : Nat} {q : List QEntry}, top ≤ 15 → (∀ e ∈ q, e.ready ≤ n) →
    ∀ j, j < q.length → ((stages n top q).map Prod.fst)[j]? = some (top - j)
  | _, [], _, _, j, hj => absurd hj (Nat.not_lt_zero j)
  | top, e :: es, htop, hq, j, hj => by
    have first : min top (15 - (e.ready - n)) = top := by
      have := hq e List.mem_cons_self
      omega
    unfold stages
    dsimp only
    rw [first, List.map_cons]
    cases j with
    | zero => rfl
    | succ j =>
      rw [List.getElem?_cons_succ, stages_fallen (by omega) (fun x hx => hq x (List.mem_cons_of_mem e hx)) j (by simpa using hj)]
      congr 1
      omega

/-- Stamped records that find room join the FIFO in order. -/
theorem pushesStamped_room {α : Type} (era : α → Nat) (f : α → TraceRec) : ∀ (xs : List α) {s : State},
    bit s.av.trcfg 31 = true → s.av.held = none → s.av.fifo.length + xs.length ≤ 4032 →
    xs.foldl (fun s x => s.pushStamped (era x) (f x)) s = { s with av := { s.av with fifo := s.av.fifo ++ xs.map f } }
  | [], s, _, _, _ => by rw [List.map_nil, List.append_nil, List.foldl_nil]
  | x :: xs, s, hon, hh, hroom => by
    rw [List.length_cons] at hroom
    have pushed : s.pushStamped (era x) (f x) = { s with av := { s.av with fifo := s.av.fifo ++ [f x] } } := by
      unfold State.pushStamped
      rw [Avail.pushAs_room (era x == s.tb.era) false (f x) hon hh (by simp; omega)]
    rw [List.foldl_cons, pushed, pushesStamped_room era f xs
      (s := { s with av := { s.av with fifo := s.av.fifo ++ [f x] } }) hon hh (by simp; omega)]
    simp

theorem dumpQueue_held {v : W32} {s : State} (hi : fld v 0 10 < 524) (hh : (s.chan (fld v 0 10)).hold = true)
    (hn : s.av.held = none) (hon : bit s.av.trcfg 31 = true)
    (hroom : s.av.fifo.length + (s.chan (fld v 0 10)).queue.length ≤ 4032) :
    dumpQueue v s = { s with av := { s.av with
      fifo := s.av.fifo ++ (stages s.cycle 15 (s.chan (fld v 0 10)).queue).map
        (fun ke => stampRec true ke.1 (fld v 0 10) ke.2.word) } } := by
  unfold dumpQueue
  dsimp only
  rw [if_pos ⟨hi, hh⟩]
  exact pushesStamped_room (fun ke : Nat × QEntry => ke.2.era) _ _ hon hn (by rwa [stages_length])

theorem dumpQueue_refused {v : W32} {s : State} (h : 524 ≤ fld v 0 10 ∨ (s.chan (fld v 0 10)).hold = false) :
    dumpQueue v s = s := if_neg fun ⟨hi, hh⟩ => by
  rcases h with h | h
  · omega
  · rw [h] at hh
    exact nomatch hh

/-- Settles O59: records by the FIFO and the lanes, the dump by the stages of its queue. -/
theorem traceAndCounters : Obligations.TraceAndCounters := by
  refine ⟨fun s hl hw hn => ?_, fun s r rs hl hw hon hd hf => ?_, fun s hl hw hon hd => ?_,
    fun s l hl hh hs hon hd hf hne => ?_, fun a n hn h => ⟨symbols_start n h, fun j hj => symbols_byte n h hj,
      fun t ht => symbols_idle n h ht⟩, fun s hl hh hon hroom => ?_, fun s hl hoff => ?_, fun s hl hh hon hrate hroom => ?_,
    fun s hl hrate => ?_, fun s hl => ?_, fun s v hl hi hh hn hon hroom => ?_,
    fun n q => ⟨stages_words n 15 q, stages_falling 15 q, stages_fallen (by omega)⟩, fun s v hl h => ?_⟩
  · refine exec_of_act (f := traceSend) rfl rfl hl ?_
    unfold traceSend
    rw [releaseTrace_waits hw, sendNext_nothing hn]
  · refine exec_of_act (f := traceSend) rfl rfl hl ?_
    unfold traceSend
    rw [releaseTrace_waits hw, sendNext_oldest hon hd hf, sendRec_eq]
    rfl
  · refine exec_of_act (f := traceSend) rfl rfl hl ?_
    unfold traceSend
    rw [releaseTrace_waits hw, sendNext_lost hon hd, sendRec_eq]
    rfl
  · obtain ⟨r, rs, rfl⟩ := List.exists_cons_of_ne_nil hne
    have sent : traceSend s = sendRec r { s with av := { s.av with fifo := rs, held := none } } := by
      unfold traceSend
      rw [releaseTrace_settled hh hs, hf]
      exact sendNext_oldest (s := { s with av := { s.av with fifo := r :: rs, held := none } }) hon hd rfl
    refine Completes.of_act (f := traceSend) rfl rfl hl ?_
    rw [sent, sendRec_eq]
    exact ⟨rfl, rfl, rfl⟩
  · refine Completes.of_act (f := traceTime) rfl rfl hl ?_
    unfold traceTime
    dsimp only
    unfold Avail.push
    rw [Avail.pushAs_room true true _ hon hh hroom]
    exact ⟨⟨_, rfl, rfl, rfl⟩, rfl⟩
  · refine exec_of_act (f := traceTime) rfl rfl hl ?_
    unfold traceTime
    dsimp only
    rw [Avail.push_off true _ hoff]
  · refine exec_of_act (f := traceBurst) rfl rfl hl ?_
    unfold traceBurst
    dsimp only
    rw [if_neg hrate, Avail.pushes_room (counterRec s.av.lcnt s.nowBytes) (List.range 256) hon hh (by simpa using hroom)]
  · refine exec_of_act (f := traceBurst) rfl rfl hl ?_
    unfold traceBurst
    rw [if_pos hrate]
  · exact exec_of_act (f := latchCounters) rfl rfl hl rfl
  · refine exec_of_act (f := dumpQueue v) rfl rfl hl ?_
    rw [dumpQueue_held hi hh hn hon hroom]
  · refine exec_of_act (f := dumpQueue v) rfl rfl hl ?_
    rw [dumpQueue_refused h]

end Sys2Proof.Machine
end

section
/-!
PROOFS. The throttle (R400, R401): a step above 7.
-/
namespace Sys2Proof.Machine

/-- A part whose throttle stands in step 9, which no run of the part reaches: every on-die sensor has failed, and the failure
of the one that leads is still to be judged. -/
def overStepped : State := { State.reset with th := { State.reset.th with
  step := 9, evaluated := true, leads := [0]
  sens := (List.range 8).map (fun k => (k, { freshSens k with fail := true })) } }

/-- The judgement of the sensor that leads takes the throttle one step up, but no further than 7 (R401). -/
theorem overStepped_evaluates : (throttleEvaluation overStepped).th.step = 7 := by decide +kernel

/-- Refutes O56: with no control set the step falls from 9 to 7, since the step up of R401 is `min 7 (step + 1)` whatever the
step was. The clause asks that it never falls for every state and does not ask that the step be one of 0 to 7. -/
theorem not_temperatureAndThrottle : ¬ Obligations.TemperatureAndThrottle := by
  intro ⟨_, _, _, _, _, _, never, _⟩
  obtain ⟨t, runs, -, -, -, rises⟩ := never overStepped rfl (by decide +kernel)
  have runs' : exec .throttleEvaluation overStepped = .next { throttleEvaluation overStepped with pending := [] } :=
    exec_of_act (f := throttleEvaluation) rfl rfl rfl rfl
  obtain rfl : { throttleEvaluation overStepped with pending := [] } = t := by
    rw [runs'] at runs
    exact Host.Outcome.next.inj runs
  have := rises rfl
  rw [overStepped_evaluates] at this
  exact absurd this (by decide)

end Sys2Proof.Machine
end

section
/-!
PROOFS. Registers and persistent words: REG_RD, REG_WR, RC_READ, PREG_WR, PREG_WEAR, SCRUB_READ and CORRECTION_REWRITE (R325 to
R328, R364, R372, R373, R375).
-/
namespace Sys2Proof.Machine

/-- What is said of a state is said of it with another queue. -/
theorem Said.requeue {u t : State} (h : Said u t) (q : List Instr) :
    Said { u with pending := q } { t with pending := q } := by
  unfold Said at *
  rw [h]

/-- A command of the Lodge answers what its own rule yields, whatever that rule does to the queue of waiting commands. -/
theorem Completes.of_lodge_requeued {i : Instr} {m op : Nat} {row len : List Byte → Bool} {mode : State → List Byte → Bool}
    {own : Ticket → List Byte → State → Reply} {s u : State} {p : List Byte} {a : Answer}
    (he : exec i s = act (m < 32) (lodge m op row len mode own) s) (h : Takes s m op p)
    (hrow : row p = true) (hlen : len p = true) (hmode : mode s p = true) (ho : own (s.ticket m) p s = reply u a) :
    Completes i s (fun t => Said { u with pending := s.pending } t ∧ Answered m a t ∧ OnlyDrops u t) := by
  obtain ⟨k, ka⟩ := lodge_own (own := own) (a := a) h hrow hlen hmode (by rw [ho]; rfl)
  rw [ho] at k
  have e := lodge_answers h hrow hlen hmode ho
  obtain ⟨hm, hl, -⟩ := h
  refine Completes.of_act he (by simpa using hm) hl ⟨k.requeue _, ka, ?_⟩
  rw [e]
  exact (answer_onlyDrops m a s.start u).trans (answerBadop_onlyDrops 32 _)

/-! ## REG_RD (R325) -/

/-- The words that a REG_RD names, in order. -/
def readAddrs (p : List Byte) : List Nat :=
  (rangesOf p).flatMap (fun r => (List.range r.2.2).map (fun j => r.2.1 + 4 * j))

/-- The most words that a REG_RD of mailbox `m` may ask for (R325). -/
def State.readLimit (s : State) (m : Nat) : Nat := if (s.ticket m).src.path = spiPath then 1023 else 351

section regRd
variable {s : State} {m : Nat} {p : List Byte} (reads : Reads)

theorem regRdOwn_reads (h : rdBad p (s.readLimit m) = none) : regRdOwn reads (s.ticket m) p s =
    reply (readWords (readAddrs p) (strike reads s)).2 (.okWith (readWords (readAddrs p) (strike reads s)).1) := by
  unfold State.readLimit at h
  unfold regRdOwn
  rw [h]
  rfl

theorem regRdOwn_badarg {off : Nat} (h : rdBad p (s.readLimit m) = some off) :
    regRdOwn reads (s.ticket m) p s = reply s (.badarg off) := by
  unfold State.readLimit at h
  unfold regRdOwn
  rw [h]

variable {u : State} {a : Answer} (ht : Takes s m 0x0201 p) (hlen : p.length = 4 + 8 * pByte p 0)
include ht hlen

theorem regRd_completes (ho : regRdOwn reads (s.ticket m) p s = reply u a) :
    Completes (.regRd m reads) s (fun t => Said { u with pending := s.pending } t ∧ Answered m a t) :=
  (Completes.of_lodge_requeued rfl ht rfl (by simp [hlen]) rfl ho).mono fun _ ⟨k, ka, _⟩ => ⟨k, ka⟩

end regRd

/-- An error does not come to stand in a register. -/
theorem strike_upset_other {reads : Reads} {s : State} {a : Nat} (ha : mapped a = false) (h : ∀ x ∈ s.ps.upset, x.1 ≠ a) :
    ∀ x ∈ (strike reads s).ps.upset, x.1 ≠ a := by
  intro x hx e
  rcases List.mem_append.mp hx with new | old
  · have word := (Bool.and_eq_true_iff.mp (List.mem_filter.mp new).2).1
    rw [e, ha] at word
    exact nomatch word
  · exact h x old e

theorem checkRead_unset {s : State} {a : Nat} (h : ∀ x ∈ s.ps.upset, x.1 ≠ a) : checkRead a s = s := by
  have none : s.ps.upset.find? (fun x => x.1 == a) = none :=
    List.find?_eq_none.mpr fun x hx => by simpa using h x hx
  unfold checkRead
  rw [none]

/-- A REG_RD of TB.STATUS alone passes the checks of R325. -/
theorem rdBad_status {p : List Byte} {limit : Nat} (hr : rangesOf p = [(4, 0x10008, 1)]) (hl : 1 ≤ limit) :
    pByte p 0 = 1 ∧ rdBad p limit = none := by
  have one : pByte p 0 = 1 := by simpa [rangesOf] using congrArg List.length hr
  have sum : sumPast limit 0 [(4, 0x10008, 1)] = none := by
    unfold sumPast
    rw [if_neg (by omega)]
    rfl
  refine ⟨one, ?_⟩
  unfold rdBad
  rw [hr, one]
  exact sum

theorem readWords_status {s : State} (h : ∀ x ∈ s.ps.upset, x.1 ≠ 0x10008) :
    readWords [0x10008] s = (wBytes s.tbStatus, s) := by
  unfold readWords readWords
  rw [checkRead_unset h]
  have value : regRead 0x10008 s = (s.tbStatus, s) := rfl
  rw [value]
  exact congrArg (·, s) (List.append_nil _)

/-! ## REG_WR (R326) -/

section regWr
variable {s u : State} {p : List Byte} (tk : Ticket) (h1 : 1 ≤ pByte p 0) (h100 : pByte p 0 ≤ 100)
include h1 h100

theorem regWrOwn_writes (h : writeTriples p (pByte p 0) 0 s = .ok u) :
    regWrOwn tk p s = reply (evTest (testBits p (pByte p 0) 0) u) (.plain .ok) := by
  unfold regWrOwn
  dsimp only
  rw [if_neg (by omega), h]

theorem regWrOwn_refused {e : Refused} (h : writeTriples p (pByte p 0) 0 s = .error e) :
    regWrOwn tk p s = reply s ⟨e.status, e.arg, []⟩ := by
  unfold regWrOwn
  dsimp only
  rw [if_neg (by omega), h]

end regWr

/-- What EV.TEST does to each source. -/
theorem evTest_get (v : W32) (s : State) (n : Nat) : (evTest v s).ev.get n =
    if 480 ≤ n ∧ n < 512 ∧ bit v (n - 480) = true ∧ s.ev.hasRaised s.uptime n = false then (s.ev.get n).raised
    else s.ev.get n := by
  by_cases h : 480 ≤ n ∧ n < 512 ∧ bit v (n - 480) = true
  · obtain ⟨lo, hi, set⟩ := h
    have raised := evTest_raised s (n := n - 480) (by omega) set
    rw [Nat.add_sub_of_le lo] at raised
    rw [raised]
    cases hr : s.ev.hasRaised s.uptime n <;> simp [lo, hi, set]
  · rw [if_neg fun ⟨lo, hi, set, _⟩ => h ⟨lo, hi, set⟩]
    refine evTest_other s fun k hk set e => h ?_
    subst e
    rw [Nat.add_sub_cancel_left]
    exact ⟨by omega, by omega, set⟩

/-- One triple that writes TB.HOLD whole. -/
theorem regWrOwn_hold {p : List Byte} (tk : Ticket) (s : State) (hn : pByte p 0 = 1) (ha : pNat p 4 4 = 0x10004)
    (hm : pWord p 12 = 0xFFFFFFFF) (hv : fld (pWord p 8) 24 8 ≠ 0) :
    regWrOwn tk p s = reply { s with tb := { s.tb with hold := pWord p 8 } } (.plain .ok) := by
  have whole (old v : W32) : masked old v 0xFFFFFFFF = v := by
    unfold masked
    rw [show ~~~(0xFFFFFFFF : W32) = 0#32 from rfl, BitVec.and_zero, BitVec.zero_or]
    exact BitVec.and_allOnes
  have writes : writeTriple 0x10004 (pWord p 8) 0xFFFFFFFF s = .ok { s with tb := { s.tb with hold := pWord p 8 } } := by
    have passes : writeTriple 0x10004 (pWord p 8) 0xFFFFFFFF s =
        writeTbHold (masked (baseValue 0x10004 s) (pWord p 8) 0xFFFFFFFF) s := rfl
    rw [passes, whole]
    exact if_neg hv
  have triples : writeTriples p 1 0 s = .ok { s with tb := { s.tb with hold := pWord p 8 } } := by
    unfold writeTriples
    rw [show 4 + 12 * 0 = 4 from rfl, show 8 + 12 * 0 = 8 from rfl, show 12 + 12 * 0 = 12 from rfl, ha, hm, writes]
    rfl
  have none : testBits p 1 0 = 0 := by
    unfold testBits testBits
    rw [show 4 + 12 * 0 = 4 from rfl, ha, if_neg (by omega)]
    rfl
  have written := regWrOwn_writes tk (by omega) (by omega) (hn.symm ▸ triples)
  rw [hn, none] at written
  exact written

/-! ## RC_READ (R364) -/

theorem rcRead_completes {s : State} {a : Nat} {P : State → Prop} (hl : s.live = true)
    (h : P { rcClear a s with pending := s.pending }) : Completes (.rcRead a) s P := Completes.of_act rfl rfl hl h

theorem rcClear_flags {a i : Nat} (s : State) (h1 : 0x20000 ≤ a) (h2 : a < 0x40000)
    (hc : chanAt (a - 0x20000) = some (i, 0x08)) : rcClear a s = updChan i (Chan.readFlags s.cycle) s := by
  unfold rcClear
  rw [if_pos ⟨h1, h2⟩, hc]
  rfl

/-- The words of an array above an address. -/
theorem wordOf_below {base n a : Nat} (h : a < base) : wordOf base n a = none := if_neg (by omega)

theorem rcClear_low {a : Nat} (s : State) (h : a < 0x20000) : rcClear a s = s := by
  unfold rcClear
  rw [if_neg (by omega), if_neg (by omega), if_neg (by omega), wordOf_below (by omega), wordOf_below (by omega)]

/-! ## PREG_WR and PREG_WEAR (R327, R328) -/

theorem takeLearn_said (ws : List (Nat × W32)) (s : State) :
    (takeLearn ws s).ps = s.ps ∧ (takeLearn ws s).fl = s.fl ∧ (takeLearn ws s).sh = s.sh ∧
      (takeLearn ws s).gl = s.gl ∧ (takeLearn ws s).pending = s.pending := by
  unfold takeLearn
  split
  · exact ⟨rfl, rfl, rfl, rfl, rfl⟩
  · exact ⟨rfl, rfl, rfl, rfl, rfl⟩

theorem pregWrOwn_commits {p : List Byte} {ws : List (Nat × W32)} {s : State} (tk : Ticket) (hw : pregWords p = .ok ws)
    (hc : (commits ws s).2.1 = true) :
    pregWrOwn tk p s = reply (takeLearn (ws.take (commits ws s).1) (commits ws s).2.2) (.plain .ok) := by
  unfold pregWrOwn
  rw [hw]
  dsimp only
  generalize commits ws s = r at hc ⊢
  obtain ⟨k, ok, u⟩ := r
  obtain rfl : ok = true := hc
  rfl

theorem pregWrOwn_badarg {p : List Byte} {off : Nat} {s : State} (tk : Ticket) (hw : pregWords p = .error off) :
    pregWrOwn tk p s = reply s (.badarg off) := by
  unfold pregWrOwn
  rw [hw]

theorem pregWr_completes {s u : State} {m : Nat} {p : List Byte} {a : Answer} (ht : Takes s m 0x0203 p)
    (hlen : p.length = 8 + 4 * pByte p 4) (ho : pregWrOwn (s.ticket m) p s = reply u a) (hp : u.pending = s.pending) :
    Completes (.pregWr m) s (fun t => Said u t ∧ Answered m a t) :=
  Completes.of_lodge rfl ht rfl (by simp [hlen]) rfl ho hp

/-! ## The scrub (R372, R373) -/

/-- A word outside the spare pool that no spare holds is read in its own cell. -/
theorem wordAt_own {s : State} {a : Nat} (ha : a < 0x010FC000) (hh : holder s.ps.spares a = none) : s.wordAt a = some a := by
  unfold State.wordAt
  rw [if_neg (by omega), hh]

/-- An error met at the word read is found there. -/
theorem scrubRead_own (r : ReadResult) {s : State} (ha : s.ps.scrubAddr < 0x010FC000)
    (hh : holder s.ps.spares s.ps.scrubAddr = none) : scrubRead r s =
      { checkRead s.ps.scrubAddr (strike [(s.ps.scrubAddr, r)] s) with
        ps := { (checkRead s.ps.scrubAddr (strike [(s.ps.scrubAddr, r)] s)).ps with
          scrubAddr := s.ps.scrubAddr + 4
          scrubs := (checkRead s.ps.scrubAddr (strike [(s.ps.scrubAddr, r)] s)).ps.scrubs } } := by
  have inner : s.ps.scrubAddr ≠ 0x010FFFFC := by omega
  unfold scrubRead
  dsimp only
  rw [wordAt_own ha hh, if_neg inner, if_neg inner]

theorem strike_good (a : Nat) (s : State) : strike [(a, .good)] s = s := by
  unfold strike
  rw [show List.filter (fun x => mapped x.1 && x.2 != ReadResult.good) [(a, ReadResult.good)] = [] by simp]
  rfl

/-- An error of a mapped word stands before those that stood. -/
theorem strike_upset {a : Nat} {r : ReadResult} (s : State) (ha : mapped a = true) (hr : r ≠ .good) :
    strike [(a, r)] s = { s with ps := { s.ps with upset := (a, r) :: s.ps.upset } } := by
  unfold strike
  rw [show List.filter (fun x => mapped x.1 && x.2 != ReadResult.good) [(a, r)] = [(a, r)] by simp [ha, hr]]
  rfl

theorem scrubRead_good {s : State} (hlast : s.ps.scrubAddr ≠ 0x010FFFFC)
    (h : ∀ w, s.wordAt s.ps.scrubAddr = some w → ∀ x ∈ s.ps.upset, x.1 ≠ w) :
    scrubRead .good s = { s with ps := { s.ps with scrubAddr := s.ps.scrubAddr + 4 } } := by
  unfold scrubRead
  dsimp only
  rw [if_neg hlast, if_neg hlast]
  split
  next w hw => rw [strike_good, checkRead_unset (h w hw)]
  · rfl

theorem scrubRead_corrected {s : State} (ha : s.ps.scrubAddr < 0x010FC000)
    (hh : holder s.ps.spares s.ps.scrubAddr = none) (hr : s.ps.rewrite.contains s.ps.scrubAddr = false)
    (hm : mapped s.ps.scrubAddr = true) : scrubRead .corrected s = { s with ps := { s.ps with
      scrubAddr := s.ps.scrubAddr + 4, rewrite := s.ps.rewrite ++ [s.ps.scrubAddr]
      upset := s.ps.upset.filter (fun x => x.1 ≠ s.ps.scrubAddr) } } := by
  have found : checkRead s.ps.scrubAddr (strike [(s.ps.scrubAddr, .corrected)] s) = { s with ps := { s.ps with
      rewrite := s.ps.rewrite ++ [s.ps.scrubAddr], upset := s.ps.upset.filter (fun x => x.1 ≠ s.ps.scrubAddr) } } := by
    have waits : s.ps.scrubAddr ∉ s.ps.rewrite := by simpa using hr
    rw [strike_upset s hm (by simp)]
    unfold checkRead
    simp [checkWord, clearUpset, waits]
  rw [scrubRead_own .corrected ha hh, found]

/-- A word with an uncorrectable error is found unreadable, with `b` the state in which the error is no more. -/
theorem checkRead_uncorrectable {s : State} {a : Nat} (h : s.ps.upset.find? (fun x => x.1 == a) = some (a, .uncorrectable)) :
    checkRead a s = findUnreadable a (clearUpset a s) := by
  unfold checkRead
  rw [h]
  rfl

/-- An uncorrectable error that a scrub meets, or that stands in its word, is found. -/
theorem scrub_uncorrectable {s : State} {r : ReadResult} (hm : mapped s.ps.scrubAddr = true)
    (hr : r = .uncorrectable ∨ (r = .good ∧
      s.ps.upset.find? (fun x => x.1 == s.ps.scrubAddr) = some (s.ps.scrubAddr, .uncorrectable))) :
    checkRead s.ps.scrubAddr (strike [(s.ps.scrubAddr, r)] s) = findUnreadable s.ps.scrubAddr (clearUpset s.ps.scrubAddr s) := by
  rcases hr with rfl | ⟨rfl, found⟩
  · rw [strike_upset s hm (by simp), checkRead_uncorrectable (by simp)]
    unfold clearUpset
    simp
  · rw [strike_good, checkRead_uncorrectable found]

theorem PStore.cell_setCell_own {p : PStore} {a : Nat} (h : holder p.spares a = none) (c : PWord) :
    (p.setCell a c).cell a = c := by
  have set : p.setCell a c = { p with words := Tab.put freshWord p.words a c } := by
    unfold PStore.setCell
    rw [h]
  rw [set]
  exact (PStore.cell_own (p := { p with words := Tab.put freshWord p.words a c }) h).trans (Tab.get_put_same _ _ _ _)

/-- The store as the finding of word `a` leaves it. -/
def PStore.found (p : PStore) (a : Nat) : PStore :=
  { p.setCell a { p.cell a with unreadable := true } with
    unread := (p.setCell a { p.cell a with unreadable := true }).unread + 1, last := w32 a, lastKind := 2 }

theorem PStore.found_reads {p : PStore} {a : Nat} (h : holder p.spares a = none) :
    (p.found a).read a = wordReset a ∧ (p.found a).unread = p.unread + 1 := by
  have cell : (p.found a).cell a = { p.cell a with unreadable := true } := PStore.cell_setCell_own h _
  constructor
  · unfold PStore.read
    rw [cell]
    exact if_pos rfl
  · unfold PStore.found PStore.setCell
    rw [h]

theorem findUnreadable_eq {a : Nat} {s : State} (hu : (s.ps.cell a).unreadable = false) : findUnreadable a s =
    detects [{ code := 0x0701, unit := unitOfWord a, action := 0, stays := true, part := a / 4 % 4 }]
      (raise 116 { s with ps := s.ps.found a }) := by
  unfold findUnreadable
  dsimp only
  rw [hu, if_neg Bool.false_ne_true]
  rfl

/-- A readable word that is found unreadable reads as its reset value, is counted, and is a fault with event 116 (R375). -/
theorem findUnreadable_found {a : Nat} {s : State} (hh : holder s.ps.spares a = none) (hu : (s.ps.cell a).unreadable = false) :
    (findUnreadable a s).ps.read a = wordReset a ∧ (findUnreadable a s).ps.unread = s.ps.unread + 1 ∧
      wordFault a ∈ (findUnreadable a s).av.outst ∧ ((findUnreadable a s).ev.get 116).latched = true := by
  obtain ⟨reset, count⟩ := PStore.found_reads hh
  rw [findUnreadable_eq hu]
  refine ⟨?_, ?_, mem_detects_outst List.mem_cons_self rfl _, detects_keeps _ (raises_latched _ List.mem_cons_self)⟩
  · rw [detects_ps, (raise_said 116 _).ps]
    exact reset
  · rw [detects_ps, (raise_said 116 _).ps]
    exact count

/-! ## The rewrite of a corrected word (R372) -/

/-- The words that wait for a rewrite, and the count of corrected ones, stay as they are. -/
def Uncorrected (p q : PStore) : Prop := q.rewrite = p.rewrite ∧ q.corr = p.corr

theorem Uncorrected.trans {p q r : PStore} (h : Uncorrected p q) (k : Uncorrected q r) : Uncorrected p r :=
  ⟨k.1.trans h.1, k.2.trans h.2⟩

theorem PStore.setCell_uncorrected (p : PStore) (a : Nat) (c : PWord) : Uncorrected p (p.setCell a c) := by
  unfold PStore.setCell
  split
  · exact ⟨rfl, rfl⟩
  · exact ⟨rfl, rfl⟩

theorem findUnreadable_uncorrected (a : Nat) (s : State) : Uncorrected s.ps (findUnreadable a s).ps := by
  unfold findUnreadable
  dsimp only
  split
  · exact ⟨rfl, rfl⟩
  · rw [detects_ps, (raise_said 116 _).ps]
    exact (PStore.setCell_uncorrected s.ps a _).trans ⟨rfl, rfl⟩

theorem intoSpare_uncorrected : ∀ (n a : Nat) (v : W32) (s : State), Uncorrected s.ps (intoSpare n a v s).2.ps
  | 0, _, _, _ => ⟨rfl, rfl⟩
  | n + 1, a, v, s => by
    unfold intoSpare
    dsimp only
    split
    · exact ⟨rfl, rfl⟩
    · split
      · rw [(raises_said _ _).ps]
        exact ⟨rfl, rfl⟩
      · refine Uncorrected.trans ?_ (intoSpare_uncorrected n a v _)
        rw [(raises_said _ _).ps]
        exact ⟨rfl, rfl⟩

theorem refuseWrite_uncorrected (a : Nat) (old : W32) (s : State) : Uncorrected s.ps (refuseWrite a old s).ps := by
  unfold refuseWrite
  dsimp only
  rw [(raise_said 115 _).ps]
  split
  · exact PStore.setCell_uncorrected _ _ _
  · exact (PStore.setCell_uncorrected _ _ _).trans (findUnreadable_uncorrected a _)

theorem writeWord_uncorrected (a : Nat) (v : W32) (s : State) : Uncorrected s.ps (writeWord a v s).2.ps := by
  have wrote (c : PWord) : Uncorrected s.ps ((clearUpset a s).ps.setCell a c) :=
    Uncorrected.trans ⟨rfl, rfl⟩ (PStore.setCell_uncorrected _ _ _)
  unfold writeWord
  dsimp only
  split
  · rw [committed_ps]
    exact wrote _
  · split
    · rw [committed_ps]
      exact (wrote _).trans (intoSpare_uncorrected 4096 a v _)
    · exact (wrote _).trans ((intoSpare_uncorrected 4096 a v _).trans (refuseWrite_uncorrected a _ _))

/-- The rewrite of a readable word is counted and raises event 118, whether or not the word takes it (log 45). -/
theorem correctionRewrite_counts {s : State} {a : Nat} {as : List Nat} (h : s.ps.rewrite = a :: as)
    (hu : (s.ps.cell a).unreadable = false) :
    (correctionRewrite s).ps.rewrite = as ∧ (correctionRewrite s).ps.corr = s.ps.corr + 1 ∧
      ((correctionRewrite s).ev.get 118).latched = true := by
  have rewritten : correctionRewrite s = (writeWord a (s.ps.cell a).data (raise 118 { s with ps := { s.ps with
      rewrite := as, corr := s.ps.corr + 1, last := w32 a, lastKind := 3 } })).2 := by
    unfold correctionRewrite
    rw [h]
    exact if_neg (ne_true_of_eq_false hu)
  rw [rewritten]
  generalize hv : ({ s with ps := { s.ps with
      rewrite := as, corr := s.ps.corr + 1, last := w32 a, lastKind := 3 } } : State) = v
  obtain ⟨waits, count⟩ := writeWord_uncorrected a (s.ps.cell a).data (raise 118 v)
  rw [(raise_said 118 v).ps] at waits count
  refine ⟨waits.trans (by rw [← hv]), count.trans (by rw [← hv]), ?_⟩
  exact (writeWord_bookkept a _ _).latched 118 (raises_latched v (by simp))

/-- Settles O52: each command by what its own rule yields, and the scrub by what a checked read of its word finds. -/
theorem registersAndWords : Obligations.RegistersAndWords := by
  refine ⟨fun s m p reads ht _ hlen hok => ?_, fun s m p reads ht hlen hr hup => ?_, fun s m p off reads ht _ hlen hbad => ?_,
    fun s u m p ht _ hlen h1 h100 hw => ?_, fun s m p ht hlen hn ha hm hv => ?_, fun s m p e ht _ hlen h1 h100 hw => ?_,
    fun s hl => ?_, fun s a i hl h1 h2 hc => ?_, fun s a hl ha => ?_, fun s m p ws ht _ hlen hw hc => ?_,
    fun s m p off ht _ hlen hw => ?_, fun s m p ht hlen hal h1 h256 hlo hhi => ?_, fun s hl hlast hup => ?_,
    fun s hl ha hh hr hm => ?_, fun s r hl ha hh hu hm hr => ?_, fun s a as hl hr hu => ?_, fun s hl hr => ?_⟩
  · exact regRd_completes reads ht hlen (regRdOwn_reads reads hok)
  · obtain ⟨one, ok⟩ := rdBad_status (p := p) (limit := s.readLimit m) hr (by unfold State.readLimit; split <;> omega)
    have words : readAddrs p = [0x10008] := by
      unfold readAddrs
      rw [hr]
      rfl
    have own := regRdOwn_reads reads ok
    rw [words, readWords_status (strike_upset_other rfl hup)] at own
    exact regRd_completes reads ht (by omega) own
  · exact (regRd_completes reads ht hlen (regRdOwn_badarg reads hbad)).mono fun t ⟨k, ka⟩ => ⟨k, ka⟩
  · refine (Completes.of_lodge_requeued rfl ht rfl (by simp [hlen]) rfl (regWrOwn_writes _ h1 h100 hw)).mono
      fun t ⟨k, ka, drops⟩ => ⟨((raises_said _ u).requeue _).trans k, fun n hn => ?_, ka⟩
    rw [drops n hn]
    exact evTest_get _ u n
  · exact (regWr_completes ht (by omega) (regWrOwn_hold _ s hn ha hm hv) rfl).mono fun t ⟨k, ka, _⟩ => ⟨k, ka⟩
  · exact (regWr_completes ht hlen (regWrOwn_refused _ h1 h100 hw) rfl).mono fun t ⟨k, ka, _⟩ => ⟨k, ka⟩
  · exact exec_of_act (f := rcClear 0xC0008) rfl rfl hl rfl
  · refine rcRead_completes hl ?_
    rw [rcClear_flags s h1 h2 hc]
    exact ⟨updChan_chan_same _ _ s, fun j hj => updChan_chan_other _ s hj, rfl⟩
  · refine exec_of_act (f := rcClear a) rfl rfl hl ?_
    rw [rcClear_low s ha]
  · have stored := commits_stored ws s
    obtain ⟨ps, fl, sh, gl, pending⟩ := takeLearn_said (ws.take (commits ws s).1) (commits ws s).2.2
    refine (pregWr_completes ht hlen (pregWrOwn_commits _ hw hc) (pending.trans stored.pending)).mono fun t ⟨k, ka⟩ => ?_
    refine ⟨k.ps.trans ps, (k.fl.trans fl).trans stored.fl, (k.sh.trans sh).trans stored.sh, k.mem.trans ?_, ka⟩
    rw [gl]
    exact stored.mem
  · exact pregWr_completes ht hlen (pregWrOwn_badarg _ hw) rfl
  · have own : pregWearOwn (s.ticket m) p s = reply s (.okWith (beBytes 4 s.ps.free ++
        (List.range (pNat p 4 2)).flatMap (fun j => wBytes (s.wearOf (pNat p 0 4 + 4 * j))))) := by
      unfold pregWearOwn
      dsimp only
      rw [if_neg (by omega), if_neg (by omega)]
    exact Completes.of_lodge rfl ht rfl (by simp [hlen]) rfl own rfl
  · refine exec_of_act (f := scrubRead .good) rfl rfl hl ?_
    rw [scrubRead_good hlast hup]
  · refine exec_of_act (f := scrubRead .corrected) rfl rfl hl ?_
    rw [scrubRead_corrected ha hh hr hm]
  · obtain ⟨reset, count, fault, latched⟩ := findUnreadable_found (s := clearUpset s.ps.scrubAddr s) hh hu
    refine Completes.of_act (f := scrubRead r) rfl rfl hl ?_
    rw [scrubRead_own r ha hh, scrub_uncorrectable hm hr]
    exact ⟨reset, rfl, count, List.contains_iff_mem.mpr fault, latched⟩
  · exact Completes.of_act (f := correctionRewrite) rfl rfl hl (correctionRewrite_counts hr hu)
  · refine exec_of_act (f := correctionRewrite) rfl rfl hl ?_
    unfold correctionRewrite
    rw [hr]

end Sys2Proof.Machine
end

section
/-!
PROOFS. Resets, start-up and the test access port (R374, R394, R397, R429, R432, R445).
-/
namespace Sys2Proof.Machine

/-! ## A reset (R374, R397, R445) -/

theorem takeLearn_nil (s : State) : takeLearn [] s = s := rfl

/-- A reset that cuts a command before its first word finds the words as they were. -/
theorem cutWords_zero (m : Option Nat) (s : State) : cutWords m 0 s = s := by
  unfold cutWords cutShort
  split
  · split
    · split
      · dsimp only
        rw [List.take_zero]
        exact takeLearn_nil s
      · rfl
    · rfl
  · rfl

/-- While the Lodge takes no command, a reset cuts none short. -/
theorem cutWords_busy {s : State} (h : s.lodgeRuns = false) (m : Option Nat) (k : Nat) : cutWords m k s = s := by
  unfold cutWords
  split
  · exact if_neg (ne_true_of_eq_false h)
  · rfl

theorem resetWords_none {c : Cut} {s : State} (hw : c.words = 0) (he : c.envWords = 0) : resetWords c s = s := by
  unfold resetWords
  rw [hw, he, cutWords_zero]
  dsimp only
  split
  · split
    · rw [List.take_zero]
      rfl
    · rfl
  · rfl

/-- With no command named, a reset cuts only an ENV_LOAD short. -/
theorem resetWords_envLoad {c : Cut} {s : State} {e : EnvLoad} (hl : s.live = true) (hb : c.box = none)
    (he : s.bl.envLoad = some e) : resetWords c s = (commits (e.words.take c.envWords) s).2.2 := by
  have uncut : cutWords (s.executing c.box) c.words s = s := by
    cases hr : s.lodgeRuns with
    | false => exact cutWords_busy hr _ _
    | true =>
      unfold State.lodgeRuns State.midCommand at hr
      have idle : s.executing none = none := by
        unfold State.executing
        cases hr : s.av.restart <;> cases hm : s.cl.markAsk <;> cases hc : s.lk.clearing <;> simp_all
      rw [hb, idle]
      rfl
  unfold resetWords
  rw [if_pos hl, uncut]
  dsimp only
  rw [he]

theorem executing_next {s : State} {m : Nat} (hr : s.lodgeRuns = true) (hn : s.nextBox = some m) :
    s.executing (some m) = some m := by
  unfold State.lodgeRuns State.midCommand at hr
  unfold State.executing
  cases hs : s.av.restart <;> cases hm : s.cl.markAsk <;> cases hc : s.lk.clearing <;> simp_all

theorem cutShort_bl (m k : Nat) (s : State) : (cutShort m k s).bl = s.bl := by
  unfold cutShort
  split
  · dsimp only
    unfold takeLearn
    split
    · exact (commits_stored _ s).bl
    · exact (commits_stored _ s).bl
  · rfl

/-- A reset that cuts the command taken next keeps the words before the cut. -/
theorem resetWords_command {c : Cut} {s : State} {m : Nat} (hl : s.live = true) (hr : s.lodgeRuns = true)
    (hn : s.nextBox = some m) (hb : c.box = some m) (he : s.bl.envLoad = none) : resetWords c s = cutShort m c.words s := by
  have cut : cutWords (s.executing c.box) c.words s = cutShort m c.words s := by
    rw [hb, executing_next hr hn]
    exact if_pos hr
  unfold resetWords
  rw [if_pos hl, cut]
  dsimp only
  rw [cutShort_bl, he]

theorem pwrgoodFall_high {c : Cut} {s : State} (h : s.pins.pwrgood = true) : pwrgoodFall c s =
    { volatileReset (resetWords c s) with
      pins := { (resetWords c s).pins.reset with pwrgood := false }
      id := { (resetWords c s).id with powerUp := true } } := if_pos h

theorem rstNAssert_high {c : Cut} {s : State} (hp : s.pins.pwrgood = true) (hr : s.pins.rstN = true) : rstNAssert c s =
    { volatileReset (resetWords c s) with
      pins := { (resetWords c s).pins.reset with rstN := false }
      id := { (resetWords c s).id with powerUp := false } } := by
  unfold rstNAssert
  rw [hr, hp]
  rfl

theorem live_iff {s : State} : s.live = true ↔ s.pins.pwrgood = true ∧ s.pins.rstN = true := Bool.and_eq_true_iff

theorem down_of_pwrgood {s : State} (h : s.pins.pwrgood = false) : s.live = false := by
  unfold State.live
  rw [h, Bool.false_and]

theorem down_of_rstN {s : State} (h : s.pins.rstN = false) : s.live = false := by
  unfold State.live
  rw [h, Bool.and_false]

/-! ## Start-up (R394) -/

/-- What start-up sets once: the mode, the counts, and an empty memory. -/
structure StartView where
  live : Bool
  mode : Mode
  startup : Bool
  pend : Option Mode
  tested : Bool
  coarse : Coarse
  epoch : W16
  uptime : Nat
  mem : Memory
  shotNum : W64
  sumBusy : Bool

def State.startView (s : State) : StartView :=
  { live := s.live, mode := s.th.mode, startup := s.th.startup, pend := s.th.pend, tested := s.fl.tested
    coarse := s.tb.coarse, epoch := s.tb.epoch, uptime := s.uptime, mem := s.gl.mem, shotNum := s.sh.shotNum
    sumBusy := s.bl.sumBusy }

theorem Stored.startView {s t : State} (h : Stored s t) : t.startView = s.startView := by
  rw [h]
  rfl

theorem Said.startView {s t : State} (h : Said s t) : t.startView = s.startView := by
  rw [h]
  rfl

/-- Where each of a list of changes keeps the view, all of them do. -/
theorem foldl_startView {α : Type} {f : State → α → State} (h : ∀ s x, (f s x).startView = s.startView) :
    ∀ (l : List α) (s : State), (l.foldl f s).startView = s.startView
  | [], _ => rfl
  | x :: l, s => (foldl_startView h l (f s x)).trans (h s x)

theorem loadTherm_startView (s : State) : (loadTherm s).startView = s.startView := by
  unfold loadTherm
  refine (foldl_startView (fun s k => ?_) _ _).trans ?_
  · rfl
  · rfl

theorem loadLines_startView (s : State) : (loadLines s).startView = s.startView := by
  unfold loadLines
  refine foldl_startView (fun s x => ?_) _ s
  rfl

theorem loadCores_startView (s : State) : (loadCores s).startView = s.startView := by
  unfold loadCores
  refine foldl_startView (fun s x => ?_) _ s
  rfl

theorem loadGallery_startView (s : State) : (loadGallery s).startView = s.startView := by
  unfold loadGallery
  dsimp only
  split
  · exact (outOfService_said _).startView
  · rfl

theorem loadWords_startView (s : State) : (loadWords s).startView = s.startView := by
  unfold loadWords
  rw [loadGallery_startView]
  have log (s : State) : (loadLog s).startView = s.startView := rfl
  have cln (s : State) : (loadCln s).startView = s.startView := rfl
  have link (s : State) : (loadLink s).startView = s.startView := rfl
  have masks (s : State) : (loadMasks s).startView = s.startView := rfl
  have tb (s : State) : (loadTb s).startView = s.startView := rfl
  rw [log, loadCores_startView, loadLines_startView, loadTherm_startView, cln, link, masks, tb]

theorem readErrors_startView (reads : Reads) (s : State) : (readErrors reads s).startView = s.startView :=
  ((strike_stored reads s).trans (checkReads_stored _ _)).startView

theorem factoryCheck_startView (s : State) : (factoryCheck s).startView = s.startView := by
  unfold factoryCheck
  dsimp only
  split
  · rfl
  · exact ((raise_stored 117 _).trans (detect_stored 0x0702 0 0 true _)).startView

theorem planRepair_startView (i code : Nat) (s : State) : (planRepair i code s).startView = s.startView := by
  unfold planRepair
  split
  · rfl
  · rfl

theorem coreFault_startView (code x : Nat) (s : State) : (coreFault code x s).startView = s.startView := by
  unfold coreFault
  dsimp only
  split
  · rfl
  · split
    · exact (planRepair_startView _ _ _).trans (detect_stored _ _ _ _ s).startView
    · refine (foldl_startView (fun s i => ?_) _ _).trans ((detect_stored _ _ _ _ _).startView.trans (retire_stored x s).startView)
      split
      · exact planRepair_startView _ _ s
      · rfl

theorem selfTest_startView (test : SelfTest) (s : State) : (selfTest test s).startView = s.startView := by
  unfold selfTest
  dsimp only
  rw [foldl_startView (fun s x => coreFault_startView 0x0102 x s),
    foldl_startView (fun s u => (detect_stored 0x0901 u 0 true s).startView),
    foldl_startView (fun s u => (repair_stored 0x0901 u 0 s).startView)]
  exact (raiseIf_said _ 4 s).startView

theorem surveyStart_startView (s : State) : (surveyStart s).startView = s.startView := by
  have latched : (latchDrivers s).startView = s.startView := by
    unfold latchDrivers
    refine (foldl_startView (fun s d => ?_) _ _).trans (checkReads_stored _ s).startView
    rfl
  have fills (u : State) : (startFill none u).startView = u.startView := rfl
  exact (fills (latchDrivers s)).trans latched

theorem queueCmd_startView (d op arg : Nat) (s : State) : (queueCmd d op arg s).startView = s.startView := by
  unfold queueCmd
  split
  · rfl
  · rfl

theorem startDrivers_startView (s : State) : (startDrivers s).startView = s.startView := by
  unfold startDrivers
  refine foldl_startView (fun s d => ?_) _ s
  simp only [queueCmd_startView]

/-- The self-test of start-up ends. -/
theorem finishSelfTest_startView (test : SelfTest) {s : State} (h : s.fl.tested = false) :
    (finishSelfTest test s).startView = { s.startView with tested := true } := by
  unfold finishSelfTest
  rw [if_neg (ne_true_of_eq_false h), startDrivers_startView, surveyStart_startView, selfTest_startView]
  rfl

/-- The words that start-up loads and checks leave the view of the reset state. -/
theorem loaded_startView (reads : Reads) (s : State) :
    (loadWords (readErrors reads (loadMasks (volatileReset s)))).startView = (volatileReset s).startView := by
  rw [loadWords_startView, readErrors_startView]
  rfl

/-- What start-up has set once its self-test has ended. -/
theorem startUp_startView (test : SelfTest) (reads : Reads) (s : State) : (startUp test reads s).startView =
    { State.reset.startView with live := s.live, tested := true, sumBusy := true } := by
  unfold startUp
  dsimp only
  have loaded := loaded_startView reads s
  generalize loadWords (readErrors reads (loadMasks (volatileReset s))) = u at loaded
  have checked := factoryCheck_startView { u with bl := { u.bl with sumBusy := true } }
  have busy : ({ u with bl := { u.bl with sumBusy := true } } : State).startView = { u.startView with sumBusy := true } := rfl
  rw [busy, loaded] at checked
  rw [finishSelfTest_startView test (congrArg StartView.tested checked), checked]
  rfl

/-- POWER_UP as the last of the two pins rises. -/
theorem powerUp_starts {s : State} {b : Bool} (test : SelfTest) (reads : Reads) (h0 : s.live = false)
    {p : Pins} (hp : p = if b then { s.pins with pwrgood := true } else { s.pins with rstN := true })
    (h1 : p.pwrgood = true) (h2 : p.rstN = true) : powerUp b test reads s = startUp test reads { s with pins := p } := by
  have up : ({ s with pins := p } : State).live = true := live_iff.mpr ⟨h1, h2⟩
  unfold powerUp
  rw [if_neg (ne_true_of_eq_false h0), ← hp]
  exact if_pos up

/-- What the last pin's rise starts. -/
theorem powerUp_completes {s : State} {b : Bool} {test : SelfTest} (reads : Reads) (ht : test.wellFormed = true)
    (h0 : s.live = false) {p : Pins} (hp : p = if b then { s.pins with pwrgood := true } else { s.pins with rstN := true })
    (h1 : p.pwrgood = true) (h2 : p.rstN = true) :
    Completes (.powerUp b test reads) s (fun t =>
      t.live = true ∧ t.th.mode = .survey ∧ t.th.startup = true ∧ t.th.pend = none ∧ t.fl.tested = true ∧ t.tb.coarse = 0 ∧
      t.tb.epoch = 0 ∧ t.uptime = 0 ∧ t.gl.mem = [] ∧ t.sh.shotNum = 0 ∧ t.bl.sumBusy = true) := by
  have view := startUp_startView test reads { s with pins := p }
  have up : ({ s with pins := p } : State).live = true := live_iff.mpr ⟨h1, h2⟩
  rw [up] at view
  refine Completes.of_always (f := powerUp b test reads) rfl ht ?_
  rw [powerUp_starts test reads h0 hp h1 h2]
  exact ⟨congrArg StartView.live view, congrArg StartView.mode view, congrArg StartView.startup view,
    congrArg StartView.pend view, congrArg StartView.tested view, congrArg StartView.coarse view,
    congrArg StartView.epoch view, congrArg StartView.uptime view, congrArg StartView.mem view,
    congrArg StartView.shotNum view, congrArg StartView.sumBusy view⟩

/-! ## The test access port (R429) -/

theorem exec_of_always {i : Instr} {s u : State} {f : State → State} {ok : Bool} (hok : ok = true)
    (hu : { f s with pending := s.pending } = u) (he : exec i s = actAlways ok f s := by rfl) : exec i s = .next u := by
  rw [he, ← hu]
  unfold actAlways
  rw [if_pos hok]

theorem always_next {i : Instr} {s : State} {f : State → State} (he : exec i s = actAlways true f s)
    (hp : (f s).pending = s.pending) : exec i s = .next (f s) := by
  rw [he]
  unfold actAlways
  rw [if_pos rfl, ← hp]

/-- The state after cycles of TCK that start with nothing shown on TDO. -/
def State.clocked (s : State) (clocks : List Tck) : State := clocks.foldl tapClock { s with pins := { s.pins with tdo := [] } }

theorem tapClocks_pins : ∀ (clocks : List Tck) (s : State), clocks.foldl tapClock s = { s with pins := { s.pins with
    tap := (clocks.foldl tapClock s).pins.tap, ir := (clocks.foldl tapClock s).pins.ir
    irShift := (clocks.foldl tapClock s).pins.irShift, dr := (clocks.foldl tapClock s).pins.dr
    tdo := (clocks.foldl tapClock s).pins.tdo } }
  | [], _ => rfl
  | c :: clocks, s => by
    rw [List.foldl_cons, tapClocks_pins clocks (tapClock s c)]
    rfl

theorem clocked_pins (s : State) (clocks : List Tck) : s.clocked clocks = { s with pins := { s.pins with
    tap := (s.clocked clocks).pins.tap, ir := (s.clocked clocks).pins.ir, irShift := (s.clocked clocks).pins.irShift
    dr := (s.clocked clocks).pins.dr, tdo := (s.clocked clocks).pins.tdo } } := by
  exact tapClocks_pins clocks { s with pins := { s.pins with tdo := [] } }

theorem jtagRun_selected {code : BitVec 4} {clocks : List Tck} {s : State} (h : (s.clocked clocks).pins.ir = code) :
    jtagRun code clocks s = s.clocked clocks := if_pos h

/-- Five cycles with TMS at 1 lead from every state of the controller to Test-Logic-Reset. -/
theorem TapState.five_resets (t : TapState) : ((((t.next true).next true).next true).next true).next true = .testLogicReset := by
  cases t <;> rfl

/-- In Test-Logic-Reset IDCODE is selected. -/
theorem tapClock_resets {s : State} {c : Tck} (h : s.pins.tap.next c.tms = .testLogicReset) :
    (tapClock s c).pins.tap = .testLogicReset ∧ (tapClock s c).pins.ir = 1 := by
  unfold tapClock
  dsimp only
  rw [h]
  exact ⟨rfl, rfl⟩

theorem clocked_five {clocks : List Tck} (s : State) (h5 : clocks.length = 5) (ht : clocks.all Tck.tms = true) :
    (s.clocked clocks).pins.tap = .testLogicReset ∧ (s.clocked clocks).pins.ir = 1 := by
  match clocks, h5 with
  | [a, b, c, d, e], _ =>
    simp only [List.all_cons, List.all_nil, Bool.and_true, Bool.and_eq_true] at ht
    obtain ⟨ha, hb, hc, hd, he⟩ := ht
    refine tapClock_resets ?_
    show ((((s.pins.tap.next a.tms).next b.tms).next c.tms).next d.tms).next e.tms = .testLogicReset
    rw [ha, hb, hc, hd, he]
    exact TapState.five_resets _

/-- `s` with the controller in state `t`. -/
def State.atTap (s : State) (t : TapState) : State := { s with pins := { s.pins with tap := t } }

theorem atTap_self {s : State} {t : TapState} (h : s.pins.tap = t) : s.atTap t = s := by
  unfold State.atTap
  rw [← h]

/-- `s` in Shift-DR with register `dr` and what TDO has shown. -/
def State.shiftingDr (s : State) (dr : List Bool) (tdo : List (Option Bool)) : State :=
  { s with pins := { s.pins with tap := .shiftDr, dr := dr, tdo := tdo } }

/-- The way from Run-Test/Idle into Shift-DR, by which the register captures. -/
def enterDr : List Tck := [⟨true, false⟩, ⟨false, false⟩, ⟨false, false⟩]

theorem clocked_enterDr {s : State} (h : s.pins.tap = .runTestIdle) :
    s.clocked enterDr = s.shiftingDr s.capture [none, none, none] := by
  have enters : (s.atTap .runTestIdle).clocked enterDr = s.shiftingDr s.capture [none, none, none] := rfl
  rw [atTap_self h] at enters
  exact enters

theorem clocked_append (s : State) (as bs : List Tck) : s.clocked (as ++ bs) = bs.foldl tapClock (s.clocked as) :=
  List.foldl_append

/-- A cycle in Shift-DR shows the register's first bit and takes TDI behind its last. -/
theorem tapClock_shiftingDr (s : State) (dr : List Bool) (tdo : List (Option Bool)) (b : Bool) :
    tapClock (s.shiftingDr dr tdo) ⟨false, b⟩ = s.shiftingDr (dr.tail ++ [b]) (tdo ++ [dr.head?]) := rfl

/-- A whole register is shifted out as zeros are shifted in. -/
theorem shiftOut : ∀ (k : Nat) (dr : List Bool) (tdo : List (Option Bool)) (s : State),
    (List.replicate dr.length (⟨false, false⟩ : Tck)).foldl tapClock (s.shiftingDr (dr ++ List.replicate k false) tdo) =
      s.shiftingDr (List.replicate (k + dr.length) false) (tdo ++ dr.map some)
  | k, [], tdo, s => by simp
  | k, b :: dr, tdo, s => by
    have one : (b :: (dr ++ List.replicate k false)).tail ++ [false] = dr ++ List.replicate (k + 1) false := by
      rw [List.tail_cons, List.append_assoc, ← List.replicate_succ']
    rw [List.length_cons, List.replicate_succ, List.foldl_cons, List.cons_append, tapClock_shiftingDr, one,
      List.head?_cons, shiftOut (k + 1) dr (tdo ++ [some b]) s]
    simp [Nat.add_right_comm, Nat.add_assoc]

/-- The bits of a code of the instruction register, as they are shifted in. -/
theorem ofNat_bitNat (c : BitVec 4) :
    BitVec.ofNat 4 (bitNat [c.getLsbD 0, c.getLsbD 1, c.getLsbD 2, c.getLsbD 3]) = c := by
  revert c
  decide

theorem bits_bitList (c : BitVec 4) : [c.getLsbD 0, c.getLsbD 1, c.getLsbD 2, c.getLsbD 3] = bitList 4 c.toNat := rfl

/-- `s` in state `t` of a scan of the instruction register, with what the register and TDO have. -/
def State.inIr (s : State) (t : TapState) (sh : List Bool) (tdo : List (Option Bool)) : State :=
  { s with pins := { s.pins with tap := t, irShift := sh, tdo := tdo } }

section scan
variable (s : State) (sh : List Bool) (tdo : List (Option Bool)) (b : Bool)

theorem tapClock_runTestIdle : tapClock (s.inIr .runTestIdle sh tdo) ⟨true, b⟩ = s.inIr .selectDr sh (tdo ++ [none]) := rfl

theorem tapClock_selectDr : tapClock (s.inIr .selectDr sh tdo) ⟨true, b⟩ = s.inIr .selectIr sh (tdo ++ [none]) := rfl

theorem tapClock_selectIr : tapClock (s.inIr .selectIr sh tdo) ⟨false, b⟩ = s.inIr .captureIr sh (tdo ++ [none]) := rfl

theorem tapClock_captureIr : tapClock (s.inIr .captureIr sh tdo) ⟨false, b⟩ =
    s.inIr .shiftIr [true, false, false, false] (tdo ++ [none]) := rfl

theorem tapClock_shiftIr : tapClock (s.inIr .shiftIr sh tdo) ⟨false, b⟩ =
    s.inIr .shiftIr (sh.tail ++ [b]) (tdo ++ [sh.head?]) := rfl

/-- The last bit is shifted in on the way out. -/
theorem tapClock_shiftIr_last : tapClock (s.inIr .shiftIr sh tdo) ⟨true, b⟩ =
    s.inIr .exit1Ir (sh.tail ++ [b]) (tdo ++ [sh.head?]) := rfl

/-- Update-IR selects the code shifted in. -/
theorem tapClock_exit1Ir : tapClock (s.inIr .exit1Ir sh tdo) ⟨true, b⟩ =
    { s.inIr .updateIr sh (tdo ++ [none]) with
      pins := { (s.inIr .updateIr sh (tdo ++ [none])).pins with ir := BitVec.ofNat 4 (bitNat sh) } } := rfl

end scan

/-- A scan of the instruction register from Run-Test/Idle to Update-IR that shifts four bits in. -/
def scanIr (a b c d : Bool) : List Tck :=
  [⟨true, false⟩, ⟨true, false⟩, ⟨false, false⟩, ⟨false, false⟩, ⟨false, a⟩, ⟨false, b⟩, ⟨false, c⟩, ⟨true, d⟩, ⟨true, false⟩]

theorem clocked_scanIr {s : State} (h : s.pins.tap = .runTestIdle) (a b c d : Bool) :
    s.clocked (scanIr a b c d) = { s with pins := { s.pins with
      tap := .updateIr, ir := BitVec.ofNat 4 (bitNat [a, b, c, d]), irShift := [a, b, c, d]
      tdo := [none, none, none, none, some true, some false, some false, some false, none] } } := by
  have start : ({ s with pins := { s.pins with tdo := [] } } : State) = s.inIr .runTestIdle s.pins.irShift [] := by
    unfold State.inIr
    rw [← h]
  unfold State.clocked scanIr
  simp only [start, List.foldl_cons, List.foldl_nil, tapClock_runTestIdle, tapClock_selectDr, tapClock_selectIr,
    tapClock_captureIr, tapClock_shiftIr, tapClock_shiftIr_last, tapClock_exit1Ir]
  rfl

/-- `s` with the input pins at the levels that a SAMPLE takes. -/
def State.levels (s : State) (p : BitVec 24) : State :=
  { s with pins := { s.pins with
    trgin := p.getLsbD 2, ct := bits p.toNat 9 4, spiPins := bits p.toNat 13 4, ppsIn := p.getLsbD 17 } }

/-- Settles O57: a reset by what it does to words in progress, POWER_UP by what start-up sets once, the port by its scans. -/
theorem resetsAndBoundaryScan : Obligations.ResetsAndBoundaryScan := by
  refine ⟨fun s c hp hw he => ?_, fun s c hp => ?_, fun s c e hl hb he => ?_, fun s c m hl hr hn hb he => ?_,
    fun s c hp hr hw he => ?_, fun s b test reads ht hl => ?_, fun s test reads ht hp hr => ?_,
    fun s test reads ht hp hr => ?_, fun s test reads ht hp hr => ?_, fun s clocks h5 ht => ?_, fun s h hir => ?_,
    fun s p h hir => ?_, fun s c b h1 h2 h hir => ?_, fun s c h1 h2 h => ?_⟩
  · have falls : pwrgoodFall c s = _ := (pwrgoodFall_high hp).trans (by rw [resetWords_none hw he])
    rw [always_next (f := pwrgoodFall c) rfl (by rw [falls]; rfl), falls]
    rfl
  · have low : pwrgoodFall c s = s := if_neg (ne_true_of_eq_false hp)
    rw [always_next (f := pwrgoodFall c) rfl (by rw [low]), low]
  · refine Completes.of_always (f := pwrgoodFall c) rfl rfl ?_
    rw [pwrgoodFall_high (live_iff.mp hl).1, resetWords_envLoad hl hb he]
    exact ⟨rfl, rfl, rfl⟩
  · refine Completes.of_always (f := rstNAssert c) rfl rfl ?_
    rw [rstNAssert_high (live_iff.mp hl).1 (live_iff.mp hl).2, resetWords_command hl hr hn hb he]
    exact ⟨Bool.and_false _, rfl, rfl⟩
  · have falls : rstNAssert c s = _ := (rstNAssert_high hp hr).trans (by rw [resetWords_none hw he])
    rw [always_next (f := rstNAssert c) rfl (by rw [falls]; rfl), falls]
    rfl
  · have up : powerUp b test reads s = s := if_pos hl
    refine exec_of_always ht ?_
    rw [up]
  · have waits : powerUp true test reads s = { s with pins := { s.pins with pwrgood := true } } := by
      have low : ({ s with pins := { s.pins with pwrgood := true } } : State).live = false := hr
      unfold powerUp
      rw [if_neg (by rw [down_of_pwrgood hp]; exact Bool.false_ne_true)]
      exact if_neg (ne_true_of_eq_false low)
    refine exec_of_always ht ?_
    rw [waits]
  · exact powerUp_completes reads ht (down_of_pwrgood hp) rfl rfl hr
  · exact powerUp_completes reads ht (down_of_rstN hr) rfl hp rfl
  · obtain ⟨tap, ir⟩ := clocked_five s h5 ht
    refine Completes.of_always (f := jtagRun 1 clocks) rfl rfl ?_
    rw [jtagRun_selected ir]
    exact ⟨tap, ir, by rw [clocked_pins s clocks]⟩
  · have scanned : s.clocked (enterDr ++ List.replicate 32 ⟨false, false⟩) =
        s.shiftingDr (List.replicate 32 false) ([none, none, none] ++ (bitList 32 idcode.toNat).map some) := by
      have captured : s.capture = bitList 32 idcode.toNat ++ List.replicate 0 false := by
        unfold State.capture
        rw [if_pos hir, List.replicate_zero, List.append_nil]
      rw [clocked_append, clocked_enterDr h, captured]
      exact shiftOut 0 (bitList 32 idcode.toNat) [none, none, none] s
    have runs := jtagRun_selected (code := 1) (by rw [scanned]; exact hir)
    refine exec_of_always (f := jtagRun 1 (enterDr ++ List.replicate 32 ⟨false, false⟩)) rfl ?_
    rw [runs, scanned]
    rfl
  · have tap : (s.levels p).pins.tap = .runTestIdle := h
    have scanned := clocked_enterDr tap
    have captured : (s.levels p).capture = bitList 24 (s.levels p).cells := by
      have ir : (s.levels p).pins.ir = 2 := hir
      unfold State.capture
      rw [ir]
      rfl
    rw [captured] at scanned
    have runs := jtagRun_selected (code := 2) (clocks := enterDr) (s := s.levels p) (by rw [scanned]; exact hir)
    have sampled : jtagSample p enterDr s = (s.levels p).shiftingDr (bitList 24 (s.levels p).cells) [none, none, none] :=
      runs.trans scanned
    refine Completes.of_always (f := jtagSample p enterDr) rfl rfl ?_
    rw [sampled]
    exact ⟨rfl, hir, rfl, rfl, rfl, rfl, rfl⟩
  · have captured : s.capture = [false] := by
      unfold State.capture
      rw [hir, if_neg h1, if_neg h2]
    have scanned : s.clocked (enterDr ++ [⟨false, b⟩, ⟨false, false⟩]) =
        s.shiftingDr [false] [none, none, none, some false, some b] := by
      rw [clocked_append, clocked_enterDr h, captured]
      rfl
    have runs := jtagRun_selected (code := c) (by rw [scanned]; exact hir)
    refine exec_of_always (f := jtagRun c (enterDr ++ [⟨false, b⟩, ⟨false, false⟩])) rfl ?_
    rw [runs, scanned]
    rfl
  · have code := ofNat_bitNat c
    have scanned := clocked_scanIr h (c.getLsbD 0) (c.getLsbD 1) (c.getLsbD 2) (c.getLsbD 3)
    rw [code, bits_bitList] at scanned
    have runs := jtagRun_selected (code := c) (by rw [scanned])
    refine exec_of_always (f := jtagRun c (scanIr (c.getLsbD 0) (c.getLsbD 1) (c.getLsbD 2) (c.getLsbD 3))) rfl ?_
    rw [runs, scanned]

end Sys2Proof.Machine
end

section
/-!
PROOFS. Modes (R323, R324, R386 to R394): MODE_SET and its completion, LIMP entry and return, and the end of start-up.
-/
namespace Sys2Proof.Machine

/-! ## What bears on LIMP -/

/-- What LIMP depends on: the mode registers, the faults outstanding, the cores, and the reference. -/
structure LimpView where
  th : Modes
  outst : List FaultId
  cores : Tab Core
  limpRef : Bool

def State.limpView (s : State) : LimpView :=
  { th := s.th, outst := s.av.outst, cores := s.fl.cores, limpRef := s.tb.limpRef }

theorem Said.limpView {s t : State} (h : Said s t) : t.limpView = s.limpView := by
  rw [h]
  rfl

theorem Recorded.limpView {s t : State} (h : Recorded s t) : t.limpView = s.limpView :=
  Said.limpView (s := { s with gl := t.gl }) h

theorem FireOnly.limpView {s t : State} (h : FireOnly s t) : t.limpView = s.limpView := by
  rw [h]
  rfl

theorem limpView_th {s t : State} (h : t.limpView = s.limpView) : t.th = s.th := congrArg LimpView.th h

theorem limpView_limpCond {s t : State} (h : t.limpView = s.limpView) : t.limpCond = s.limpCond := by
  have cores : t.fl.cores = s.fl.cores := congrArg LimpView.cores h
  have outst : t.av.outst = s.av.outst := congrArg LimpView.outst h
  have ref : t.tb.limpRef = s.tb.limpRef := congrArg LimpView.limpRef h
  unfold State.limpCond State.limpSpares State.sparesOf State.core
  rw [cores, outst, ref, limpView_th h]

/-! ## The units that stop (R387 step 2) -/

theorem stopSchedule_limpView (s : State) : (stopSchedule s).limpView = s.limpView := by
  unfold stopSchedule
  dsimp only
  split
  · rfl
  · generalize hu : ({ s with sh := _ } : State) = u
    have kept : (dropFrames (selectOff u)).limpView = s.limpView := by
      have off : (selectOff u).limpView = s.limpView := by
        rw [(selectOff_fireOnly u).limpView, ← hu]
        rfl
      exact off
    split
    · exact (raise_said 24 _).limpView.trans kept
    · exact kept

theorem dropTrigStart_limpView (st : Status) (s : State) : (dropTrigStart st s).limpView = s.limpView := by
  unfold dropTrigStart
  split
  · exact (complete_said _ _ _).limpView
  · rfl

theorem snapDrop_limpView (st : Status) (s : State) : (snapDrop st s).limpView = s.limpView := by
  unfold snapDrop
  split
  · exact (complete_said _ _ _).limpView
  · rfl

theorem dropEpoch_limpView (st : Status) (s : State) : (dropEpoch st s).limpView = s.limpView := by
  unfold dropEpoch
  split
  · exact (complete_said _ _ _).limpView
  · rfl

theorem cancelFill_limpView (s : State) : (cancelFill s).limpView = s.limpView := by
  unfold cancelFill
  dsimp only
  split
  · rfl
  · split
    · exact (complete_said _ _ _).limpView
    · rfl

theorem foldl_limpView {α : Type} {f : State → α → State} (h : ∀ s x, (f s x).limpView = s.limpView) :
    ∀ (l : List α) (s : State), (l.foldl f s).limpView = s.limpView
  | [], _ => rfl
  | x :: l, s => (foldl_limpView h l (f s x)).trans (h s x)

theorem endTests_limpView (s : State) : (endTests s).limpView = s.limpView := by
  unfold endTests
  dsimp only
  refine (foldl_limpView (fun s d => ?_) _ _).trans ?_
  · rfl
  · rfl

theorem endWriting_limpView (s : State) : (endWriting s).limpView = s.limpView := by
  by_cases h : s.gl.state = .out
  · have out : endWriting s = s := if_pos h
    rw [out]
  · obtain ⟨u, recorded, e⟩ := endWriting_stops h
    rw [e]
    have stops : (stopWriting .idle u).limpView = u.limpView := rfl
    exact stops.trans recorded.limpView

theorem stopRanging_limpView (s : State) : (stopRanging s).limpView = s.limpView := by
  have off (u : State) : (lockersOff u).limpView = u.limpView := rfl
  unfold stopRanging
  rw [off, snapDrop_limpView, dropTrigStart_limpView, (raiseIf_said _ 28 _).limpView, stopSchedule_limpView]

theorem ite_limpView {c : Prop} [Decidable c] {f : State → State} (h : ∀ s, (f s).limpView = s.limpView) (s : State) :
    (if c then f s else s).limpView = s.limpView := by
  split
  · exact h s
  · rfl

theorem stopUnits_limpView (t : Mode) (s : State) : (stopUnits t s).limpView = s.limpView := by
  have holds (u : State) : (clearHolds u).limpView = u.limpView := rfl
  have slots (u : State) : (slotsStop u).limpView = u.limpView := rfl
  have tests (u : State) : (endTests (cancelFill u)).limpView = u.limpView :=
    (endTests_limpView _).trans (cancelFill_limpView u)
  unfold stopUnits
  dsimp only
  rw [dropEpoch_limpView, holds, ite_limpView tests, ite_limpView slots, ite_limpView endWriting_limpView,
    ite_limpView stopRanging_limpView]

/-! ## The arrival (R387 steps 3 and 4) -/

/-- The mode registers stay as they are, and no event that stands is cleared but that of discarded frames. -/
structure Arrived (s t : State) : Prop where
  th : t.th = s.th
  latched : ∀ n, n ≠ 134 → (s.ev.get n).latched = true → (t.ev.get n).latched = true

theorem Arrived.trans {s t u : State} (h : Arrived s t) (k : Arrived t u) : Arrived s u where
  th := k.th.trans h.th
  latched n hn hs := k.latched n hn (h.latched n hn hs)

theorem Arrived.of_same {s t : State} (h : t.th = s.th) (he : t.ev = s.ev) : Arrived s t where
  th := h
  latched n _ hs := by rw [he]; exact hs

theorem Arrived.refl (s : State) : Arrived s s := .of_same rfl rfl

theorem Arrived.of_drops {s t : State} (h : t.th = s.th) (k : OnlyDrops s t) : Arrived s t where
  th := h
  latched _ hn hs := k.latched hn hs

theorem raise_arrived (n : Nat) (s : State) : Arrived s (raise n s) where
  th := (raise_said n s).th
  latched _ _ hs := raises_keeps [n] hs

theorem complete_arrived (tk : Ticket) (a : Answer) (s : State) : Arrived s (complete tk a s) :=
  .of_drops (complete_said tk a s).th (complete_onlyDrops tk a s)

theorem Arrived.ite {c : Prop} [Decidable c] {f : State → State} (h : ∀ s, Arrived s (f s)) (s : State) :
    Arrived s (if c then f s else s) := by
  split
  · exact h s
  · exact .refl s

theorem Posted.th {s t : State} (h : Posted s t) : t.th = s.th := by rw [h]

theorem streamStart_arrived (s : State) : Arrived s (streamStart s) := by
  obtain ⟨posted, drops⟩ := placeItem_posted (epochItem s.tb.epoch) true
    { s with ar := { s.ar with streamOn := true, streamEpoch := s.tb.epoch } }
  exact .of_drops posted.th drops

theorem autoArm_arrived (s : State) : Arrived s (autoArm s) := by
  refine Arrived.ite (fun s => ?_) s
  unfold selfArm
  split
  · exact .of_same rfl rfl
  · exact raise_arrived 102 s

theorem enterRanging_arrived (old t : Mode) (s : State) : Arrived s (enterRanging old t s) := by
  unfold enterRanging
  dsimp only
  have streams : Arrived s (if (old == .sweep || old == .watch) = true then s else streamStart (dropOpened s)) := by
    split
    · exact .refl s
    · exact (Arrived.of_same (s := s) (t := dropOpened s) rfl rfl).trans (streamStart_arrived _)
  refine streams.trans (Arrived.ite (f := fun s => autoArm (clearMap s)) (fun s => ?_) _)
  exact (Arrived.of_same (s := s) (t := clearMap s) rfl rfl).trans (autoArm_arrived _)

theorem enterRest_arrived (old t : Mode) (s : State) : Arrived s (enterRest old t s) := by
  unfold enterRest
  dsimp only
  have stops : Arrived s
      (if (old == .sweep || old == .watch || old == .limp) = true then lockersOff (streamStop s) else streamStop s) := by
    split
    · exact .of_same rfl rfl
    · exact .of_same rfl rfl
  refine stops.trans ?_
  cases t with
  | dormant => exact .of_same rfl rfl
  | survey => exact .of_same rfl rfl
  | tally | sweep | watch | limp => exact .of_same rfl rfl

theorem slotsEnter_arrived (s : State) : Arrived s (slotsEnter s) := by
  unfold slotsEnter startWaiters
  split
  · exact .refl s
  · exact .of_same rfl rfl

theorem autostart_arrived (s : State) : Arrived s (autostart s) := by
  unfold autostart
  split
  · exact .of_same rfl rfl
  · exact .refl s

theorem wake_arrived (s : State) : Arrived s (wake s) := .of_same rfl rfl

/-- What follows the arrival in a MODE_SET that completes. -/
def afterArrival (tk : Ticket) (old t : Mode) (s : State) : State :=
  let s := if old == .dormant then wake s else s
  let s := takeSource s.th.mode s
  let s := if (old == .dormant || old == .survey) && t != .dormant && t != .survey then slotsEnter s else s
  let s := if t.rangingTarget then enterRanging old t s else enterRest old t s
  let s := complete tk (.okWith (modeData s.th.mode)) s
  if t.rangingTarget then autostart s else s

/-- What comes before the arrival. -/
def beforeArrival (t : Mode) (test : SelfTest) (s : State) : State :=
  if t == .survey then selfTest test (stopUnits t s) else stopUnits t s

theorem finishChange_eq (tk : Ticket) (t : Mode) (test : SelfTest) (s : State) :
    finishChange tk t test s = afterArrival tk s.th.mode t (arrive t (beforeArrival t test s)) := rfl

theorem afterArrival_arrived (tk : Ticket) (old t : Mode) (s : State) : Arrived s (afterArrival tk old t s) := by
  have source (u : State) : Arrived u (takeSource u.th.mode u) := .of_same rfl rfl
  have entered (u : State) : Arrived u (if t.rangingTarget = true then enterRanging old t u else enterRest old t u) := by
    split
    · exact enterRanging_arrived old t u
    · exact enterRest_arrived old t u
  have answered (u : State) : Arrived u (complete tk (.okWith (modeData u.th.mode)) u) := complete_arrived tk _ u
  have woken : Arrived s (if (old == .dormant) = true then wake s else s) := Arrived.ite wake_arrived s
  exact ((((woken.trans (source _)).trans (Arrived.ite slotsEnter_arrived _)).trans (entered _)).trans (answered _)).trans
    (Arrived.ite autostart_arrived _)

/-- LIMP is entered at the arrival at a ranging mode in which it holds, or waits (R389, R391). -/
def State.arrivesLimp (s : State) (t : Mode) : Bool :=
  t.rangingTarget && (s.limpCond || s.th.limpDue || s.th.limpPend)

theorem arrive_th (t : Mode) (s : State) :
    (arrive t s).th.mode = (if s.arrivesLimp t then .limp else t) ∧
      (arrive t s).th.origin = (if s.arrivesLimp t then some t else none) ∧ (arrive t s).th.pend = none ∧
      ((arrive t s).ev.get 1).latched = true ∧ (s.arrivesLimp t = true → ((arrive t s).ev.get 2).latched = true) := by
  unfold arrive
  dsimp only
  rw [(raises_said _ _).th]
  refine ⟨rfl, rfl, rfl, raises_latched _ (by simp), fun h => raises_latched _ ?_⟩
  have limp : (t.rangingTarget && (s.limpCond || s.th.limpDue || s.th.limpPend)) = true := h
  rw [limp]
  simp

/-- The mode registers and the events of a MODE_SET that completes. -/
theorem modeSetComplete_arrives {s : State} {test : SelfTest} {g : Mode} {tk : Ticket} (hl : s.live = true)
    (ht : test.wellFormed = true) (hp : s.th.pend = some g) (hk : s.th.pendTk = some tk) (hd : s.drained g = true) {b : Bool}
    (hb : (beforeArrival g test s).arrivesLimp g = b) :
    Completes (.modeSetComplete test) s (fun t =>
      t.th.mode = (if b then .limp else g) ∧ t.th.origin = (if b then some g else none) ∧ t.th.pend = none ∧
      (t.ev.get 1).latched = true ∧ (b = true → (t.ev.get 2).latched = true)) := by
  have done : modeSetComplete test s = afterArrival tk s.th.mode g (arrive g (beforeArrival g test s)) := by
    unfold modeSetComplete
    rw [hp, hk]
    exact (if_pos hd).trans (finishChange_eq tk g test s)
  obtain ⟨mode, origin, pend, one, two⟩ := arrive_th g (beforeArrival g test s)
  rw [hb] at mode origin two
  have after := afterArrival_arrived tk s.th.mode g (arrive g (beforeArrival g test s))
  refine Completes.of_act (f := modeSetComplete test) rfl ht hl ?_
  rw [done]
  dsimp only
  rw [after.th]
  exact ⟨mode, origin, pend, after.latched 1 (by omega) one, fun h => after.latched 2 (by omega) (two h)⟩

/-- Before the arrival at a ranging mode nothing changes that bears on LIMP. -/
theorem beforeArrival_arrivesLimp {s : State} {g : Mode} (test : SelfTest) (h : g.rangingTarget = true) :
    (beforeArrival g test s).arrivesLimp g = (s.limpCond || s.th.limpDue || s.th.limpPend) := by
  have ranging : (g == .survey) = false := by
    cases g with
    | survey => exact nomatch h
    | _ => rfl
  have view := stopUnits_limpView g s
  unfold beforeArrival State.arrivesLimp
  rw [ranging, if_neg Bool.false_ne_true, h, limpView_limpCond view, limpView_th view, Bool.true_and]

/-! ## MODE_SET (R323, R386, R387) -/

theorem Stored.th {s t : State} (h : Stored s t) :
    t.th = { s.th with quietFrom := t.th.quietFrom, limpDue := t.th.limpDue } := congrArg State.th h

/-- What a change to the units of SURVEY leaves of the mode registers. -/
structure SameMode (a b : Modes) : Prop where
  mode : b.mode = a.mode
  origin : b.origin = a.origin
  pend : b.pend = a.pend
  pendTk : b.pendTk = a.pendTk

theorem SameMode.trans {a b c : Modes} (h : SameMode a b) (k : SameMode b c) : SameMode a c where
  mode := k.mode.trans h.mode
  origin := k.origin.trans h.origin
  pend := k.pend.trans h.pend
  pendTk := k.pendTk.trans h.pendTk

theorem Stored.sameMode {s t : State} (h : Stored s t) : SameMode s.th t.th := by
  rw [h]
  exact ⟨rfl, rfl, rfl, rfl⟩

theorem foldl_th {α : Type} {f : State → α → State} (h : ∀ s x, (f s x).th = s.th) :
    ∀ (l : List α) (s : State), (l.foldl f s).th = s.th
  | [], _ => rfl
  | x :: l, s => (foldl_th h l (f s x)).trans (h s x)

theorem surveyStart_sameMode (s : State) : SameMode s.th (surveyStart s).th := by
  have filled (u : State) : (startFill none u).th = u.th := rfl
  rw [surveyStart, filled]
  unfold latchDrivers
  rw [foldl_th (fun s d => ?_)]
  · exact (checkReads_stored _ s).sameMode
  · rfl

/-- The mode registers while a change to `g` waits for the ticket `tk`. -/
def Modes.waiting (a : Modes) (tk : Ticket) (g : Mode) : Modes := { a with pend := some g, pendTk := some tk }

/-- A change that is begun waits, with its ticket, in the mode in force (R387 steps 1 and 2). -/
theorem beginChange_th (tk : Ticket) (g : Mode) (s : State) :
    SameMode (s.th.waiting tk g) (beginChange tk g s).th := by
  unfold beginChange
  dsimp only
  have th : ({ stopUnits g s with th := { (stopUnits g s).th with pend := some g, pendTk := some tk } } : State).th =
      s.th.waiting tk g := by rw [← limpView_th (stopUnits_limpView g s)]; rfl
  rw [← th]
  split
  · exact surveyStart_sameMode _
  · exact ⟨rfl, rfl, rfl, rfl⟩

section modeSet
variable {s : State} {m : Nat} {p : List Byte} {a : Answer} (ht : Takes s m 0x0101 p) (hlen : p.length = 4)
include ht hlen

/-- A MODE_SET that is taken leaves what its own rule does, and its answer. -/
theorem modeSet_completes (ha : (modeSetOwn (s.ticket m) p s).ans = some a) :
    Completes (.modeSet m) s (fun t =>
      Said { (modeSetOwn (s.ticket m) p s).s with pending := s.pending } t ∧ Answered m a t) := by
  obtain ⟨said, answered⟩ := lodge_own (row := anyRow) (len := fun p => p.length == 4) (mode := anyMode) (own := modeSetOwn)
    ht rfl (beq_iff_eq.mpr hlen) rfl ha
  exact Completes.of_act rfl (decide_eq_true ht.1) ht.2.1 ⟨said.requeue s.pending, answered⟩

/-- A MODE_SET that its own rule answers with one word and no more. -/
theorem modeSet_replies {u : State} (ho : modeSetOwn (s.ticket m) p s = reply u a) :
    Completes (.modeSet m) s (fun t => Said { u with pending := s.pending } t ∧ Answered m a t) := by
  obtain ⟨t, next, said, answered⟩ := modeSet_completes ht hlen (a := a) (by rw [ho]; rfl)
  rw [ho] at said
  exact ⟨t, next, said, answered⟩

end modeSet

section modeSetOwn
variable {s : State} {p : List Byte} {g : Mode} (tk : Ticket)

theorem modeSetOwn_startup (h : s.th.startup = true) : modeSetOwn tk p s = reply s (.plain .busy) := if_pos h

variable (hs : s.th.startup = false) (hg : Mode.ofCode (pByte p 0) = some g) (hl : g ≠ .limp)
include hs hg hl

theorem modeSetOwn_refused (ha : allowed s.th.mode g = false) : modeSetOwn tk p s = reply s (.plain .mode) := by
  unfold modeSetOwn
  simp [hs, hg, hl, ha]

theorem modeSetOwn_same (hm : g = s.th.mode) (hp : s.th.pend = none) : modeSetOwn tk p s =
    { s := s, ans := some (.plain .ok), done := some (.okWith (modeData g)) } := by
  have ha : allowed g g = true := by
    cases g with
    | limp => exact absurd rfl hl
    | dormant | survey | sweep | watch | tally => rfl
  unfold modeSetOwn
  simp [hs, hg, hl, ha, hp, ← hm]

theorem modeSetOwn_begins (ha : allowed s.th.mode g = true) (hp : s.th.pend = none) (hm : g ≠ s.th.mode)
    (hr : s.th.mode ≠ .limp ∨ g.rangingTarget = false) : modeSetOwn tk p s = reply (beginChange tk g s) (.plain .ok) := by
  have moves : ¬(s.th.mode = .limp ∧ g.rangingTarget = true) := fun ⟨limp, ranging⟩ =>
    hr.elim (· limp) (fun rest => by rw [rest] at ranging; cases ranging)
  unfold modeSetOwn
  simp only [hs, hg, hl, ha, hp, hm, moves, if_false, Bool.false_eq_true, Bool.not_true, Option.isSome_none]

end modeSetOwn

/-! ## LIMP (R389, R390) -/

theorem ownChange_waits {f : State → State} {s : State} (h : s.midCommand = true) :
    ownChange f s = { s with th := { s.th with limpLater := true } } := if_pos h

theorem ownChange_now {f : State → State} {s : State} (h : s.midCommand = false) : ownChange f s = f s :=
  if_neg (ne_true_of_eq_false h)

/-- The part in mode `m`, with the source that it selects and what is left of LIMP. -/
def State.inMode (s : State) (m : Mode) (o : Option Mode) : State :=
  { s with
    th := { s.th with mode := m, origin := o, limpDue := false }
    fl := { s.fl with clnLoop := cnlSource s.fl.f32sel m } }

/-- A change of mode of the part's own tells its events and takes the source of the mode. -/
theorem changes_mode (m : Mode) (o : Option Mode) (ns : List Nat) (s : State) {t : State}
    (h : t = takeSource m (raises ns { s with th := { s.th with mode := m, origin := o, limpDue := false } })) :
    Said (s.inMode m o) { t with pending := s.pending } ∧ ∀ n ∈ ns, (t.ev.get n).latched = true := by
  subst h
  refine ⟨?_, fun n hn => raises_latched _ hn⟩
  have said := raises_said ns { s with th := { s.th with mode := m, origin := o, limpDue := false } }
  unfold Said at *
  unfold takeSource State.inMode
  rw [said]

theorem enterLimp_enters {s : State} (hm : s.th.mode = .sweep ∨ s.th.mode = .watch) (hd : s.th.limpDue = true)
    (hp : s.th.pend = none) : enterLimp s = takeSource .limp
      (raises [2, 1] { s with th := { s.th with mode := .limp, origin := some s.th.mode, limpDue := false } }) := by
  unfold enterLimp
  rcases hm with e | e
  · simp [e, hd, hp]
  · simp [e, hd, hp]

theorem enterLimp_stays {s : State} (hm : s.th.mode = .sweep ∨ s.th.mode = .watch)
    (h : s.th.limpDue = false ∨ s.th.pend ≠ none) : enterLimp s = s := by
  have notDue : ¬(s.th.limpDue = true ∧ s.th.pend.isNone = true) := fun ⟨due, free⟩ =>
    h.elim (fun e => by rw [e] at due; cases due) (· (Option.isNone_iff_eq_none.mp free))
  unfold enterLimp
  rcases hm with e | e
  · simp only [e, notDue, if_false]
  · simp only [e, notDue, if_false]

theorem enterLimp_pends {s : State} (h : restMode s = true) : enterLimp s = { s with th := { s.th with
    limpPend := s.th.limpPend || s.limpCond && s.th.pend.all Mode.rangingTarget } } := by
  have rest : enterLimp s =
      if s.limpCond && s.th.pend.all Mode.rangingTarget then { s with th := { s.th with limpPend := true } } else s := by
    unfold restMode at h
    unfold enterLimp
    cases e : s.th.mode with
    | dormant | survey | tally => rfl
    | sweep | watch | limp => rw [e] at h; cases h
  rw [rest]
  cases s.limpCond && s.th.pend.all Mode.rangingTarget with
  | true => simp
  | false => simp

theorem backFromLimp_returns {s : State} {o : Mode} (hm : s.th.mode = .limp) (ho : s.th.origin = some o)
    (hq : s.quiet = 1000) (hp : s.th.pend = none) : backFromLimp s = leaveLimp o s := by
  unfold backFromLimp
  rw [hm, ho]
  exact if_pos ⟨hq, by rw [hp]; rfl⟩

theorem backFromLimp_stays {s : State} (h : s.th.mode ≠ .limp ∨ s.quiet ≠ 1000 ∨ s.th.pend ≠ none) :
    backFromLimp s = s := by
  unfold backFromLimp
  split
  · rename_i limp _
    refine if_neg fun ⟨quiet, free⟩ => ?_
    rcases h with e | e | e
    · exact e limp
    · exact e quiet
    · exact e (Option.isNone_iff_eq_none.mp free)
  · rfl

/-! ## The end of start-up (R394 step 12, R409) -/

theorem detectsEach_stored : ∀ (fs : List Found) (s : State), Stored s (fs.foldl (fun s f => detects [f] s) s)
  | [], s => .refl s
  | f :: fs, s => (detects_stored [f] s).trans (detectsEach_stored fs _)

theorem detectsEach_ps : ∀ (fs : List Found) (s : State), (fs.foldl (fun s f => detects [f] s) s).ps = s.ps
  | [], _ => rfl
  | f :: fs, s => (detectsEach_ps fs _).trans (detects_ps [f] s)

theorem detectsEach_keepsFaults : ∀ (fs : List Found) (s : State), KeepsFaults s (fs.foldl (fun s f => detects [f] s) s)
  | [], s => .refl s
  | f :: fs, s => (detects_keepsFaults s [f]).trans (detectsEach_keepsFaults fs _)

/-- Faults found one after the other are the only ones that come to be outstanding. -/
theorem detectsEach_outst {id : FaultId} : ∀ (fs : List Found) {s : State},
    id ∈ (fs.foldl (fun s f => detects [f] s) s).av.outst → id ∈ s.av.outst ∨ ∃ f ∈ fs, id = f.id
  | [], _, h => .inl h
  | f :: fs, s, h => by
    rcases detectsEach_outst fs h with old | ⟨x, hx, e⟩
    · refine (detects_outst old).imp_right fun ⟨x, hx, e⟩ => ⟨x, ?_, e⟩
      rw [List.mem_singleton.mp hx]
      exact List.mem_cons_self
    · exact .inr ⟨x, List.mem_cons_of_mem _ hx, e⟩

/-- A fault that is counted again at the end of start-up is one whose condition persists. -/
theorem uncounted_persists {s : State} {f : Found} (h : f ∈ s.uncounted) : s.persists f.id = true := by
  unfold State.uncounted at h
  have h := (List.mem_filter.mp h).1
  rcases List.mem_append.mp h with h | h
  · rcases List.mem_append.mp h with line | core
    · obtain ⟨x, hx, rfl⟩ := List.mem_map.mp line
      exact (List.mem_filter.mp hx).2
    · obtain ⟨x, hx, rfl⟩ := List.mem_map.mp core
      have stuck := (List.mem_filter.mp hx).2
      simp only [Bool.and_eq_true, State.coreStuck] at stuck
      obtain ⟨⟨⟨-, spares⟩, -⟩, -⟩ := stuck
      unfold Found.id
      dsimp only
      split
      · exact spares
      · exact spares
  · split at h
    · rename_i second
      rw [List.mem_singleton.mp h]
      exact (Bool.and_eq_true_iff.mp second).1
    · cases h

/-- The faults outstanding after the recount, of those before it, are those that persist. -/
theorem recount_outst {s : State} {id : FaultId} (h : id ∈ s.av.outst) :
    id ∈ (recount s).av.outst ↔ s.persists id = true := by
  unfold recount
  dsimp only
  generalize hu : settle _ = u
  have kept : u.av.outst = s.av.outst.filter s.persists := by rw [← hu]; rfl
  have same (x : FaultId) : u.persists x = s.persists x := by rw [← hu]; rfl
  constructor
  · intro found
    rcases detectsEach_outst u.uncounted found with old | ⟨f, hf, rfl⟩
    · rw [kept] at old
      exact (List.mem_filter.mp old).2
    · rw [← same]
      exact uncounted_persists hf
  · intro persists
    refine detectsEach_keepsFaults u.uncounted u id ?_ ?_
    · rw [kept]
      exact List.mem_filter.mpr ⟨h, persists⟩
    · intro code
      unfold State.persists at persists
      rw [code] at persists
      cases persists

theorem recount_stored (s : State) : Stored s (recount s) := by
  unfold recount
  dsimp only
  generalize hu : settle _ = u
  have cleared : Stored s u := by rw [← hu]; rfl
  exact cleared.trans (detectsEach_stored u.uncounted u)

theorem recount_ps (s : State) : (recount s).ps = s.ps := by
  unfold recount
  dsimp only
  rw [detectsEach_ps]
  rfl

/-- The part once start-up has ended, before the faults outstanding are counted again. -/
def State.started (s : State) : State := { s with th := { s.th with startup := false } }

theorem startUpEnd_ends {s : State} (hs : s.th.startup = true) (ht : s.fl.tested = true) (hd : s.ca.fillDone = true)
    (hf : s.ca.fill = false) (hg : s.gl.trained = true ∨ s.gl.state = .out) : startUpEnd s = raise 0 (recount s.started) := by
  refine if_pos ?_
  rw [hs, ht, hd, hf]
  rcases hg with e | e
  · rw [e]; rfl
  · rw [e, beq_self_eq_true, Bool.or_true]; rfl

theorem startUpEnd_waits {s : State} (h : s.th.startup = false ∨ s.ca.fill = true ∨ s.ca.fillDone = false) :
    startUpEnd s = s := by
  refine if_neg ?_
  rcases h with e | e | e
  · simp [e]
  · simp [e]
  · simp [e]

/-- Settles O55, clause by clause from how MODE_SET's own rule, its completion, LIMP and the end of start-up behave. -/
theorem modeChanges : Obligations.ModeChanges := by
  unfold Obligations.ModeChanges
  refine ⟨?_, ?_, ?_, ?_, ?_, ?_, ?_, ?_, ?_, ?_, ?_, ?_, ?_, ?_, ?_, ?_, ?_⟩
  · intro s m p ht hlen hs
    exact modeSet_replies ht hlen (modeSetOwn_startup (s.ticket m) hs)
  · intro s m p ht hlen hs hg hl hp
    have own := modeSetOwn_same (s.ticket m) hs hg hl rfl hp
    obtain ⟨t, next, said, answered⟩ := modeSet_completes ht hlen (a := .plain .ok) (by rw [own])
    rw [own] at said
    exact ⟨t, next, said, answered⟩
  · intro s m p g ht hlen hs hg hl ha
    exact modeSet_replies ht hlen (modeSetOwn_refused (s.ticket m) hs hg hl ha)
  · intro s m p g ht hlen hs hg hl ha hp hm hr
    obtain ⟨t, next, said, answered⟩ := modeSet_replies ht hlen (modeSetOwn_begins (s.ticket m) hs hg hl ha hp hm hr)
    obtain ⟨mode, origin, pend, pendTk⟩ := beginChange_th (s.ticket m) g s
    exact ⟨t, next, by rw [said.th]; exact pend, by rw [said.th]; exact pendTk, by rw [said.th]; exact mode,
      by rw [said.th]; exact origin, answered⟩
  · intro s test g tk hl ht hp hk hd hr
    have stays : (beforeArrival g test s).arrivesLimp g = false := by rw [State.arrivesLimp, hr, Bool.false_and]
    obtain ⟨t, next, mode, origin, pend, one, -⟩ := modeSetComplete_arrives hl ht hp hk hd stays
    exact ⟨t, next, mode, origin, pend, one⟩
  · intro s test g tk hl ht hp hk hr hc hd hw
    have stays : (beforeArrival g test s).arrivesLimp g = false := by
      rw [beforeArrival_arrivesLimp test hr, hc, hd, hw]
      rfl
    obtain ⟨t, next, mode, origin, pend, one, -⟩ := modeSetComplete_arrives hl ht hp hk (if_pos hr) stays
    exact ⟨t, next, mode, origin, pend, one⟩
  · intro s test g tk hl ht hp hk hr hw
    have limp : (beforeArrival g test s).arrivesLimp g = true := by
      rw [beforeArrival_arrivesLimp test hr, Bool.or_eq_true, Bool.or_eq_true]
      exact or_assoc.mpr hw
    obtain ⟨t, next, mode, origin, pend, -, two⟩ := modeSetComplete_arrives hl ht hp hk (if_pos hr) limp
    exact ⟨t, next, mode, origin, pend, two rfl⟩
  · intro s test hl ht hp
    have waits : modeSetComplete test s = s := by
      unfold modeSetComplete
      rw [hp]
    exact exec_of_act (f := modeSetComplete test) rfl ht hl (by rw [waits])
  · intro s hl hc hm hd hp
    obtain ⟨said, latched⟩ := changes_mode .limp (some s.th.mode) [2, 1] s (enterLimp_enters hm hd hp)
    refine Completes.of_act (f := limpEntry) rfl rfl hl ?_
    rw [limpEntry, ownChange_now hc]
    exact ⟨said, latched 1 (by simp), latched 2 (by simp)⟩
  · intro s hl hc hm h
    exact exec_of_act (f := limpEntry) rfl rfl hl (by rw [limpEntry, ownChange_now hc, enterLimp_stays hm h])
  · intro s hl hc hr
    exact exec_of_act (f := limpEntry) rfl rfl hl (by rw [limpEntry, ownChange_now hc, enterLimp_pends hr])
  · intro s hl hc
    exact ⟨exec_of_act (f := limpEntry) rfl rfl hl (by rw [limpEntry, ownChange_waits hc]),
      exec_of_act (f := limpReturn) rfl rfl hl (by rw [limpReturn, ownChange_waits hc])⟩
  · intro s o hl hc hm ho hq hp
    obtain ⟨said, latched⟩ := changes_mode o none [3, 1] s (backFromLimp_returns hm ho hq hp)
    refine Completes.of_act (f := limpReturn) rfl rfl hl ?_
    rw [limpReturn, ownChange_now hc]
    exact ⟨said, latched 1 (by simp), latched 3 (by simp)⟩
  · intro s hl hc h
    exact exec_of_act (f := limpReturn) rfl rfl hl (by rw [limpReturn, ownChange_now hc, backFromLimp_stays h])
  · intro s hl hm hp hq
    exact exec_of_act (f := limpPendClear) rfl rfl hl (by rw [limpPendClear, if_pos ⟨hm, hp, hq⟩])
  · intro s hl hs ht hd hf hg
    have stored := recount_stored s.started
    have said := raise_said 0 (recount s.started)
    refine Completes.of_act (f := startUpEnd) rfl rfl hl ?_
    rw [startUpEnd_ends hs ht hd hf hg]
    dsimp only
    refine ⟨?_, ?_, raises_latched _ (by simp), fun id hid => ?_, ?_, ?_, ?_, ?_, ?_⟩
    · rw [said.th, stored.th]; rfl
    · rw [said.th, stored.th]; rfl
    · rw [raise, raises_outst]
      exact recount_outst (s := s.started) hid
    · rw [said.tb, stored.tb]; rfl
    · rw [said.fl, stored.fl]; rfl
    · rw [said.sh, stored.sh]; rfl
    · rw [said.ps, recount_ps]; rfl
    · rw [said.mem, stored.gl]; rfl
  · intro s hl h
    exact exec_of_act (f := startUpEnd) rfl rfl hl (by rw [startUpEnd_waits h])

end Sys2Proof.Machine
end

section
/-!
PROOFS. Schedule banks (chapter 4): the piece that SCHED_LOAD writes, the withdrawal of a bank fixed for coming frames, and the
verdict of admission.
-/
namespace Sys2Proof.Machine

/-! ## Banks (R101, R109) -/

/-- The bank that is standby while bank `a` is active. -/
def State.standbyOf (u : State) (a : Nat) : Tab W64 := if a = 0 then u.sh.bankB else u.sh.bankA

/-- The other one, which is active. -/
def State.activeOf (u : State) (a : Nat) : Tab W64 := if a = 0 then u.sh.bankA else u.sh.bankB

/-- `s` with other steps in its banks. -/
def State.withBanks (a b : Tab W64) (s : State) : State := { s with sh := { s.sh with bankA := a, bankB := b } }

theorem setStandby_only (f : Tab W64 → Tab W64) (s : State) :
    setStandby f s = s.withBanks (setStandby f s).sh.bankA (setStandby f s).sh.bankB := by
  unfold setStandby
  split <;> rfl

theorem setStandby_standbyOf (f : Tab W64 → Tab W64) (s : State) :
    (setStandby f s).standbyOf s.sh.active = f (s.standbyOf s.sh.active) := by
  unfold setStandby State.standbyOf
  split <;> rfl

theorem setStandby_activeOf (f : Tab W64 → Tab W64) (s : State) :
    (setStandby f s).activeOf s.sh.active = s.activeOf s.sh.active := by
  unfold setStandby State.activeOf
  split <;> rfl

/-! ## A piece of a bank (R107, R333) -/

/-- Word `j` of the piece that payload `p` carries. -/
def pieceWord (p : List Byte) (j : Nat) : W64 := BitVec.ofNat 64 (pNat p (8 + 8 * j) 8)

/-- A bank after the first `n` words of the piece are written from step `first` on. -/
def putPiece (p : List Byte) (first n : Nat) (t : Tab W64) : Tab W64 :=
  (List.range n).foldl (fun t j => Tab.put noStep t (first + j) (pieceWord p j)) t

theorem putPiece_succ (p : List Byte) (first n : Nat) (t : Tab W64) :
    putPiece p first (n + 1) t = Tab.put noStep (putPiece p first n t) (first + n) (pieceWord p n) := by
  unfold putPiece
  rw [List.range_succ, List.foldl_append]
  rfl

theorem putPiece_outside {p : List Byte} {first k : Nat} (t : Tab W64) :
    ∀ {n : Nat}, k < first ∨ first + n ≤ k → Tab.get noStep (putPiece p first n t) k = Tab.get noStep t k
  | 0, _ => rfl
  | n + 1, h => by
    rw [putPiece_succ, Tab.get_put_other _ _ (by omega), putPiece_outside t (by omega)]

theorem putPiece_inside {p : List Byte} {first j : Nat} (t : Tab W64) :
    ∀ {n : Nat}, j < n → Tab.get noStep (putPiece p first n t) (first + j) = pieceWord p j
  | n + 1, h => by
    rw [putPiece_succ]
    by_cases last : j = n
    · rw [last, Tab.get_put_same]
    · rw [Tab.get_put_other _ _ (by omega), putPiece_inside t (by omega)]

/-- Between `s` and `t` the piece of payload `p` was written to the standby bank, and no other step of either bank. -/
structure PieceLoaded (p : List Byte) (s t : State) : Prop where
  inside : ∀ j, j < pNat p 2 2 → Tab.get noStep (t.standbyOf s.sh.active) (pNat p 0 2 + j) = pieceWord p j
  outside : ∀ k, k < pNat p 0 2 ∨ pNat p 0 2 + pNat p 2 2 ≤ k →
    Tab.get noStep (t.standbyOf s.sh.active) k = Tab.get noStep (s.standbyOf s.sh.active) k
  active : t.activeOf s.sh.active = s.activeOf s.sh.active

/-! ## A bank fixed for coming frames is withdrawn (R107) -/

theorem withdrawNext_stays {s : State} (h : s.sh.run.all (fun r => r.bank = s.sh.active) = true) : withdrawNext s = s := by
  unfold withdrawNext
  split
  · rfl
  · next r hr =>
    rw [hr, Option.all_some, decide_eq_true_eq] at h
    exact if_pos h

theorem withdrawNext_only (s : State) :
    withdrawNext s = { s with
      sh := { s.sh with
        q := (withdrawNext s).sh.q, armed := (withdrawNext s).sh.armed, dwells := (withdrawNext s).sh.dwells
        run := (withdrawNext s).sh.run }
      ms := (withdrawNext s).ms } := by
  unfold withdrawNext
  split
  · rfl
  · split
    · rfl
    · split <;> rfl

/-- From `s` to `t` frame `n`, the first for which the standby bank was fixed, begins anew at step 0 of the active bank; the
positions allocated in it and after it are withdrawn, and no shot is fired. -/
structure BegunAnew (r : Sched) (n : Nat) (s t : State) : Prop where
  run : ∃ r', t.sh.run = some r' ∧ r'.bank = s.sh.active ∧ r'.frame = n ∧ r'.step = 0 ∧ r'.sidx = 0 ∧ r'.did = none ∧
    r'.endStop = r.endStop
  armed : t.sh.armed = s.sh.armed.filter (fun q => q.frame < n)
  ledger : t.sh.ledger = s.sh.ledger
  shotNum : t.sh.shotNum = s.sh.shotNum
  active : t.sh.active = s.sh.active
  said : Said { s with sh := t.sh, ms := t.ms } t

theorem BegunAnew.andSaid {r : Sched} {n : Nat} {s t u : State} (h : BegunAnew r n s t) (k : Said t u) :
    BegunAnew r n s u := by
  have sh := k.sh
  constructor
  case said =>
    rw [sh, k.ms]
    exact h.said.trans k
  all_goals rw [sh]
  · exact h.run
  · exact h.armed
  · exact h.ledger
  · exact h.shotNum
  · exact h.active

theorem withdrawNext_begins {s : State} {r : Sched} {n b : Nat} {u : Nominal} (hr : s.sh.run = some r)
    (hb : r.bank ≠ s.sh.active) (hk : (r.known.filter (fun f => f.2.1 ≠ s.sh.active)).getLast? = some (n, b, u)) :
    BegunAnew r n s (withdrawNext s) := by
  unfold withdrawNext
  rw [hr]
  dsimp only
  rw [if_neg hb, hk]
  exact ⟨⟨_, rfl, rfl, rfl, rfl, rfl, rfl, rfl⟩, rfl, rfl, rfl, rfl, rfl⟩

/-! ## SCHED_LOAD (R107, R333) -/

/-- The standby bank is loading, or admission of its first `len` steps runs for command `tk`. -/
def State.loadingBank (commit : Bool) (len : Nat) (tk : Ticket) (s : State) : State :=
  { s with sh := { s.sh with
    stby := if commit then .admission else .loading, swPend := false
    admission := if commit then some (len, tk) else none } }

/-- What an accepted SCHED_LOAD leaves. -/
def afterLoad (tk : Ticket) (p : List Byte) (s : State) : State :=
  (setStandby (putPiece p (pNat p 0 2) (pNat p 2 2)) (withdrawNext s)).loadingBank ((pByte p 4).testBit 0) (pNat p 6 2) tk

section
variable {tk : Ticket} {p : List Byte} {s : State} {c : Bool} (hc : (pByte p 4).testBit 0 = c)
  (hn : c = false → pNat p 2 2 ≠ 0) (hfit : pNat p 0 2 + pNat p 2 2 ≤ 4096)
include hc hn hfit

/-- A piece that lies in the bank, and is not empty but with COMMIT, passes the first check of R333. -/
theorem piece_fits : ¬((pNat p 2 2 = 0 ∧ (pByte p 4).testBit 0 = false) ∨ 4096 < pNat p 0 2 + pNat p 2 2) := by
  rintro (⟨none, plain⟩ | beyond)
  · exact hn (hc ▸ plain) none
  · omega

theorem schedLoadOwn_loads (ha : s.sh.admission = none) :
    schedLoadOwn tk p s = reply (afterLoad tk p s) (.plain .ok) := by
  unfold schedLoadOwn
  dsimp only
  rw [if_neg (piece_fits hc hn hfit), ha]
  rfl

theorem schedLoadOwn_busy (ha : s.sh.admission ≠ none) : schedLoadOwn tk p s = reply s (.plain .busy) := by
  unfold schedLoadOwn
  dsimp only
  rw [if_neg (piece_fits hc hn hfit), if_pos (Option.isSome_iff_ne_none.mpr ha)]

end

/-- Beside the banks and the state of the standby bank a load changes what the withdrawal changes. -/
theorem afterLoad_only (tk : Ticket) (p : List Byte) (s : State) :
    afterLoad tk p s = ((withdrawNext s).withBanks (afterLoad tk p s).sh.bankA (afterLoad tk p s).sh.bankB).loadingBank
      ((pByte p 4).testBit 0) (pNat p 6 2) tk :=
  congrArg (State.loadingBank ((pByte p 4).testBit 0) (pNat p 6 2) tk) (setStandby_only _ (withdrawNext s))

theorem afterLoad_loaded (tk : Ticket) (p : List Byte) (s : State) : PieceLoaded p s (afterLoad tk p s) := by
  have only := withdrawNext_only s
  have act : (withdrawNext s).sh.active = s.sh.active := by rw [only]
  have standby : (withdrawNext s).standbyOf s.sh.active = s.standbyOf s.sh.active := by rw [only]; rfl
  have active : (withdrawNext s).activeOf s.sh.active = s.activeOf s.sh.active := by rw [only]; rfl
  have written := setStandby_standbyOf (putPiece p (pNat p 0 2) (pNat p 2 2)) (withdrawNext s)
  have others := setStandby_activeOf (putPiece p (pNat p 0 2) (pNat p 2 2)) (withdrawNext s)
  rw [act, standby] at written
  rw [act, active] at others
  have bank : (afterLoad tk p s).standbyOf s.sh.active = putPiece p (pNat p 0 2) (pNat p 2 2) (s.standbyOf s.sh.active) :=
    written
  refine ⟨fun j hj => ?_, fun k hk => ?_, others⟩
  · rw [bank, putPiece_inside _ hj]
  · rw [bank, putPiece_outside _ hk]

/-- A load that withdraws a bank begins the first of its frames anew. -/
theorem afterLoad_begins (tk : Ticket) (p : List Byte) {s : State} {r : Sched} {n b : Nat} {u : Nominal}
    (hr : s.sh.run = some r) (hb : r.bank ≠ s.sh.active)
    (hk : (r.known.filter (fun f => f.2.1 ≠ s.sh.active)).getLast? = some (n, b, u)) :
    BegunAnew r n s (afterLoad tk p s) := by
  obtain ⟨run, armed, ledger, shotNum, active, -⟩ := withdrawNext_begins hr hb hk
  have only := afterLoad_only tk p s
  constructor
  case said =>
    rw [withdrawNext_only s] at only
    rw [only]
    rfl
  all_goals rw [only]
  · exact run
  · exact armed
  · exact ledger
  · exact shotNum
  · exact active

/-- What is said after a load leaves the piece loaded. -/
theorem PieceLoaded.said {p : List Byte} {s t u : State} (h : PieceLoaded p s t) (k : Said t u) : PieceLoaded p s u := by
  have standby : u.standbyOf s.sh.active = t.standbyOf s.sh.active := by unfold State.standbyOf; rw [k.sh]
  have active : u.activeOf s.sh.active = t.activeOf s.sh.active := by unfold State.activeOf; rw [k.sh]
  refine ⟨?_, ?_, ?_⟩
  · rw [standby]; exact h.inside
  · rw [standby]; exact h.outside
  · rw [active]; exact h.active

/-- The SCHED_LOAD that mailbox `m` holds is well formed, the Lodge takes it, and COMMIT is `c`. -/
structure LoadTaken (s : State) (m : Nat) (p : List Byte) (c : Bool) : Prop where
  takes : Takes s m 0x0501 p
  header : 8 ≤ p.length
  length : p.length = 8 + 8 * pNat p 2 2
  commit : (pByte p 4).testBit 0 = c
  mode : s.th.mode ≠ .dormant
  nonempty : c = false → pNat p 2 2 ≠ 0
  fits : pNat p 0 2 + pNat p 2 2 ≤ 4096

/-- A row of SCHED_LOAD. -/
def loadRow (m : Nat) (row : List Byte → Bool) (s : State) : State :=
  lodge m 0x0501 row schedLoadLen schedLoadMode schedLoadOwn s

section
variable {i : Instr} {m : Nat} {row : List Byte → Bool} {s : State} {p : List Byte} {c : Bool}
  (he : exec i s = act (m < 32) (loadRow m row) s) (h : LoadTaken s m p c) (hrow : row p = true)
include he h hrow

theorem load_completes {u : State} {a : Answer} (ho : schedLoadOwn (s.ticket m) p s = reply u a)
    (hp : u.pending = s.pending) : Completes i s (fun t => Said u t ∧ Answered m a t) := by
  have len : schedLoadLen p = true := by
    unfold schedLoadLen
    rw [Bool.and_eq_true, decide_eq_true_eq, beq_iff_eq]
    exact ⟨h.header, h.length⟩
  exact Completes.of_lodge he h.takes hrow len (bne_iff_ne.mpr h.mode) ho hp

/-- While admission runs a SCHED_LOAD answers BUSY. -/
theorem load_busy (ha : s.sh.admission ≠ none) : Completes i s (fun t => Said s t ∧ Answered m (.plain .busy) t) :=
  load_completes he h hrow (schedLoadOwn_busy h.commit h.nonempty h.fits ha) rfl

/-- An accepted SCHED_LOAD answers OK; its piece is loaded, and the standby bank is in the state that COMMIT asks for. -/
theorem load_loads (ha : s.sh.admission = none) {P : State → Prop}
    (hP : ∀ t, Said (afterLoad (s.ticket m) p s) t → PieceLoaded p s t → Answered m (.plain .ok) t → P t) :
    Completes i s P := by
  refine (load_completes he h hrow (schedLoadOwn_loads h.commit h.nonempty h.fits ha) ?_).mono fun t ⟨said, answered⟩ =>
    hP t said ((afterLoad_loaded _ p s).said said) answered
  rw [afterLoad_only, withdrawNext_only]
  rfl

/-- With no bank fixed for a coming frame a SCHED_LOAD changes the standby bank and its state alone. -/
theorem load_stays (ha : s.sh.admission = none) (hr : s.sh.run.all (fun r => r.bank = s.sh.active) = true) :
    Completes i s (fun t =>
      Said ((s.withBanks t.sh.bankA t.sh.bankB).loadingBank c (pNat p 6 2) (s.ticket m)) t ∧
      PieceLoaded p s t ∧ Answered m (.plain .ok) t) := by
  refine load_loads he h hrow ha fun t said loaded answered => ⟨?_, loaded, answered⟩
  have only := afterLoad_only (s.ticket m) p s
  rw [withdrawNext_stays hr, h.commit] at only
  rw [said.sh, ← only]
  exact said

/-- A SCHED_LOAD that withdraws a bank begins the first of its frames anew. -/
theorem load_begins {r : Sched} {n b : Nat} {u : Nominal} (ha : s.sh.admission = none) (hr : s.sh.run = some r)
    (hb : r.bank ≠ s.sh.active) (hk : (r.known.filter (fun f => f.2.1 ≠ s.sh.active)).getLast? = some (n, b, u)) :
    Completes i s (fun t => BegunAnew r n s t ∧ PieceLoaded p s t ∧
      t.sh.stby = (if c then .admission else .loading) ∧ t.sh.swPend = false ∧
      t.sh.admission = (if c then some (pNat p 6 2, s.ticket m) else none) ∧ Answered m (.plain .ok) t) := by
  refine load_loads he h hrow ha fun t said loaded answered =>
    ⟨(afterLoad_begins _ p hr hb hk).andSaid said, loaded, ?_, ?_, ?_, answered⟩
  all_goals rw [said.sh]
  · rw [← h.commit]; rfl
  · rfl
  · rw [← h.commit]; rfl

end

/-! ## ADMISSION_COMPLETE (R108, R109, R333) -/

/-- No admission runs. -/
def State.admissionOver (s : State) : State := { s with sh := { s.sh with admission := none } }

section
variable {s : State} {len : Nat} {tk : Ticket} (ha : s.sh.admission = some (len, tk))
include ha

theorem admissionComplete_fails (hv : s.admissionOver.verdict len ≠ none) :
    Said { s with sh := { s.sh with admission := none, stby := .loading } } (admissionComplete s) := by
  obtain ⟨⟨step, rule⟩, hv⟩ := Option.ne_none_iff_exists'.mp hv
  unfold State.admissionOver at hv
  unfold admissionComplete
  rw [ha]
  dsimp only
  rw [hv]
  exact complete_said tk _ _

/-- The admitted bank becomes active: its length is the one admitted, and the bank that was active is standby. -/
def State.admitted (len : Nat) (s : State) : State :=
  switchBank { s with sh := { s.sh with
    admission := none, stby := .committed
    lenA := if s.sh.active = 0 then s.sh.lenA else len, lenB := if s.sh.active = 0 then len else s.sh.lenB } }

theorem admissionComplete_passes (hr : s.sh.run = none) (hv : s.admissionOver.verdict len = none) :
    Said (s.admitted len) (admissionComplete s) := by
  have idle : s.sh.run.isSome = false := by rw [hr]; rfl
  unfold State.admissionOver at hv
  unfold admissionComplete
  rw [ha]
  dsimp only
  rw [hv, idle, if_neg Bool.false_ne_true]
  exact complete_said tk _ (s.admitted len)

end

/-- Settles O27: a load by what it writes and, where a bank is withdrawn, by the frame that begins anew; the verdict by its two
cases. -/
theorem scheduleBanks : Obligations.ScheduleBanks := by
  unfold Obligations.ScheduleBanks
  intro bank other takes loaded anew
  have taken {s : State} {m : Nat} {p : List Byte} {c : Bool} : takes s m p c → LoadTaken s m p c :=
    fun ⟨ht, h8, hlen, hc, hm, hn, hf⟩ => ⟨ht, h8, hlen, hc, hm, hn, hf⟩
  have plain {p : List Byte} (h : (pByte p 4).testBit 0 = false) : (!(pByte p 4).testBit 0) = true := by rw [h]; rfl
  have piece {s t : State} {p : List Byte} : PieceLoaded p s t → loaded s t p := fun ⟨h, k, l⟩ => ⟨h, k, l⟩
  have begun {s t : State} {r : Sched} {n : Nat} : BegunAnew r n s t → anew s t r n :=
    fun ⟨run, armed, ledger, num, active, said⟩ => ⟨run, armed, ledger, num, active, said⟩
  refine ⟨fun s m p h ha hr => ?_, fun s m p r n b u h ha hr hb hk => ?_, fun s m p h ha hr => ?_,
    fun s m p r n b u h ha hr hb hk => ?_, fun s m p h ha => ?_, fun s m p h ha => ?_, fun s len tk hl ha hv => ?_,
    fun s len tk hl ha hr hv => ?_⟩
  · refine (load_stays (i := .schedLoad m) rfl (taken h) (plain (taken h).commit) ha hr).mono
      fun t ⟨said, pieces, answered⟩ => ⟨?_, piece pieces, answered⟩
    have none : ((s.withBanks t.sh.bankA t.sh.bankB).loadingBank false (pNat p 6 2) (s.ticket m)) =
        { s with sh := { s.sh with bankA := t.sh.bankA, bankB := t.sh.bankB, stby := .loading, swPend := false } } := by
      simp only [State.loadingBank, State.withBanks, ha, Bool.false_eq_true, if_false]
    rw [← none]
    exact said
  · exact (load_begins (i := .schedLoad m) rfl (taken h) (plain (taken h).commit) ha hr hb hk).mono
      fun t ⟨anew, pieces, rest⟩ => ⟨begun anew, piece pieces, rest⟩
  · exact (load_stays (i := .schedLoadCommit m) rfl (taken h) (taken h).commit ha hr).mono
      fun t ⟨said, pieces, answered⟩ => ⟨said, piece pieces, answered⟩
  · exact (load_begins (i := .schedLoadCommit m) rfl (taken h) (taken h).commit ha hr hb hk).mono
      fun t ⟨anew, pieces, rest⟩ => ⟨begun anew, piece pieces, rest⟩
  · exact load_busy (i := .schedLoad m) rfl (taken h) (plain (taken h).commit) ha
  · exact load_busy (i := .schedLoadCommit m) rfl (taken h) (taken h).commit ha
  · have said := admissionComplete_fails ha hv
    exact Completes.of_kept (f := admissionComplete) rfl rfl hl said.pending said
  · have said := admissionComplete_passes ha hr hv
    refine Completes.of_kept (f := admissionComplete) rfl rfl hl said.pending ?_
    rw [said.sh]
    refine ⟨rfl, rfl, rfl, ?_, fun h => if_pos h, fun h => if_neg (by omega), said⟩
    cases hv : s.sh.valid <;> simp [State.admitted, switchBank, hv]

end Sys2Proof.Machine
end

section
/-!
PROOFS. The schedule runs (chapter 4): its start and its stop, the dwells formed for its steps, and the positions allocated ahead.
-/
namespace Sys2Proof.Machine

/-! ## SCHED_START (R111, R334) -/

/-- With no mode change pending that stops the scheduler, a schedule that is started goes on (R111, R387). -/
theorem beginSchedule_stays {s : State} (h : s.leaving = false) (t : Coarse) : beginSchedule t s = startSchedule t s := by
  unfold beginSchedule
  rw [h]
  rfl

section
variable {tk : Ticket} {p : List Byte} {s : State} (h0 : pByte p 0 = 0) (hb : s.schedBusy = false)
include h0 hb

theorem schedStartOwn_now (hv : s.sh.valid = true) (hl : s.leaving = false) :
    schedStartOwn tk p s = reply (startSchedule (wholeMicro s.tb.coarse 20000) s)
      (.okWith (beBytes 8 (wholeMicro s.tb.coarse 20000).toNat)) := by
  unfold schedStartOwn
  simp [h0, hb, hv, beginSchedule_stays hl]

theorem schedStartOwn_stale (hv : s.sh.valid = false) : schedStartOwn tk p s = reply s (.plain .stale) := by
  unfold schedStartOwn
  simp [h0, hb, hv]

end

/-- A SCHED_START of 12 bytes that the Lodge takes in a ranging mode completes with what its own rule yields. -/
theorem schedStart_completes {s u : State} {m : Nat} {p : List Byte} {a : Answer} (ht : Takes s m 0x0502 p)
    (hr : s.ranges = true) (hlen : p.length = 12) (ho : schedStartOwn (s.ticket m) p s = reply u a)
    (hp : u.pending = s.pending) : Completes (.schedStart m) s (fun t => Said u t ∧ Answered m a t) :=
  Completes.of_lodge (row := anyRow) (len := fun p => p.length == 12) (mode := fun s _ => s.ranges) rfl ht rfl
    (beq_iff_eq.mpr hlen) hr ho hp

/-! ## Dwells (R131, R149) -/

/-- The next step of a running schedule that has no dwell gets one, with the greatest of the power steps asked for. -/
theorem formDwell_forms {s : State} {r : Sched} (hr : s.sh.run = some r) (hd : r.did = none) (he : r.endStop = false) :
    ∃ d : Dwell, (d.did = s.sh.nextDid ∧ d.step = r.step ∧ d.reached = 0 ∧ d.nfired = 0 ∧
        d.line = (s.stepAt r.bank r.step).line ∧ d.pline = s.pline d.line ∧
        d.pEff = max (s.stepAt r.bank r.step).pwr (max s.em.plim (thrPower s.th.step))) ∧
      formDwell s = { s with sh := { s.sh with
        dwells := s.sh.dwells ++ [d], nextDid := s.sh.nextDid + 1, run := some { r with did := some s.sh.nextDid } } } := by
  have free : ¬(r.did.isSome = true ∨ (r.endStop = true ∧ r.frame ≠ s.sh.frameNow)) := by simp [hd, he]
  unfold formDwell
  rw [hr]
  dsimp only
  rw [if_neg free]
  exact ⟨_, ⟨rfl, rfl, rfl, rfl, rfl, rfl, rfl⟩, rfl⟩

theorem formDwell_formed {s : State} {r : Sched} {k : Nat} (hr : s.sh.run = some r) (hd : r.did = some k) :
    formDwell s = s := by
  unfold formDwell
  rw [hr]
  exact if_pos (.inl (by rw [hd]; rfl))

/-! ## Positions (R104 to R106, R120) -/

/-- What an allocation leaves beside the positions, from `s` to `t`: the dither code goes on from `q`, and no shot is fired. -/
structure Advanced (s t : State) : Prop where
  armed : t.sh.armed = s.sh.armed
  q : t.sh.q = ditherNext s.sh.q
  shotNum : t.sh.shotNum = s.sh.shotNum
  ledger : t.sh.ledger = s.sh.ledger
  dwells : t.sh.dwells = s.sh.dwells

theorem advance_advanced (last frameLast : Bool) (b : StepWord) (r : Sched) (s : State) :
    Advanced s (advance last frameLast b r s) := by
  unfold advance
  split
  · exact ⟨rfl, rfl, rfl, rfl, rfl⟩
  · dsimp only
    split <;> exact ⟨rfl, rfl, rfl, rfl, rfl⟩

/-- The entry that still holds the ledger slot of the next position of dwell `d`, where that position asks for one (R120). -/
def State.slotHolder (r : Sched) (d : Dwell) (s : State) : Option Entry :=
  if decide (r.sidx % d.m ≠ 0) || s.blocked d then none
  else s.entry ((s.sh.shotNum.toNat + (s.sh.armed.filter s.holds).length) % 8192)

/-- The next position of the schedule `r`, of dwell `d` (R105, R106). -/
def State.nextPosition (r : Sched) (d : Dwell) (s : State) : Position :=
  let b := s.stepAt r.bank r.step
  let last := decide (r.sidx = b.nshot)
  { did := d.did, bank := r.bank, frame := r.frame, step := r.step, sidx := r.sidx, tplan := planInstant r.t s.sh.q b.dscale
    q := s.sh.q, thin := decide (r.sidx % d.m ≠ 0), full := (s.slotHolder r d).isSome, last := last
    frameLast := last && decide (r.step + 1 = s.lenOf r.bank) }

/-- A position that finds its slot held is counted, and is a fault of the flights that hold it (R120). -/
def slotHeld (e : Option Entry) (s : State) : State :=
  match e with
  | some e => detects (e.openFlights.map (fun f => ⟨0x0204, f, 4, true, 0⟩))
      (raise 27 { s with sh := { s.sh with lfullCnt := s.sh.lfullCnt + 1 } })
  | none => s

theorem slotHeld_sh (e : Option Entry) (s : State) :
    (slotHeld e s).sh = { s.sh with lfullCnt := (slotHeld e s).sh.lfullCnt } := by
  cases e with
  | none => rfl
  | some e =>
    unfold slotHeld
    dsimp only
    rw [(detects_stored _ _).sh, (raise_said 27 _).sh]

theorem entryAllocate_next {s : State} {r : Sched} {k : Nat} {d : Dwell} (hr : s.sh.run = some r) (hk : r.did = some k)
    (hd : s.dwell k = some d) :
    entryAllocate s = advance (s.nextPosition r d).last (s.nextPosition r d).frameLast (s.stepAt r.bank r.step) r
      (slotHeld (s.slotHolder r d)
        (notePeak { s with sh := { s.sh with armed := s.sh.armed ++ [s.nextPosition r d] } })) := by
  have dwell : r.did.bind s.dwell = some d := by rw [hk]; exact hd
  unfold entryAllocate
  rw [formDwell_formed hr hk]
  extract_lets w
  split
  · next e => cases hr.symm.trans e
  · next e =>
    cases hr.symm.trans e
    split
    · next e => cases dwell.symm.trans e
    · next e =>
      cases dwell.symm.trans e
      rfl

/-- ENTRY_ALLOCATE of a schedule whose step has its dwell appends one position, and goes on (R104, R106). -/
theorem entryAllocate_appends {s : State} {r : Sched} {k : Nat} {d : Dwell} (hr : s.sh.run = some r) (hk : r.did = some k)
    (hd : s.dwell k = some d) :
    Advanced { s with sh := { s.sh with armed := s.sh.armed ++ [s.nextPosition r d] } } (entryAllocate s) := by
  rw [entryAllocate_next hr hk hd]
  obtain ⟨armed, q, shotNum, ledger, dwells⟩ := advance_advanced (s.nextPosition r d).last (s.nextPosition r d).frameLast
    (s.stepAt r.bank r.step) r (slotHeld (s.slotHolder r d)
      (notePeak { s with sh := { s.sh with armed := s.sh.armed ++ [s.nextPosition r d] } }))
  rw [slotHeld_sh] at armed q shotNum ledger dwells
  exact ⟨armed, q, shotNum, ledger, dwells⟩

/-! ## SCHED_STOP (R113, R334) -/

/-- The schedule stops with no bank waiting: nothing is left of it but the dwells of which a position was reached, and OFF goes
out on the FIRE pairs (R113, R139). -/
theorem stopSchedule_stops {s : State} (hr : s.sh.run ≠ none) (hp : s.sh.swPend = false) :
    ∃ ds, stopSchedule s = { s with
      sh := { s.sh with run := none, armed := [], dwells := ds }, ms := (stopSchedule s).ms, em := (stopSchedule s).em } := by
  unfold stopSchedule
  rw [if_neg (mt Option.isNone_iff_eq_none.mp hr)]
  dsimp only
  rw [hp, if_neg Bool.false_ne_true]
  generalize hu : ({ s with sh := _ } : State) = u
  have off := selectOff_fireOnly u
  generalize selectOff u = w at off
  refine ⟨u.sh.dwells, ?_⟩
  rw [off, ← hu]
  rfl

section
variable {tk : Ticket} {p : List Byte} {s : State}

theorem schedStopOwn_now (h0 : (pByte p 0).testBit 0 = false) (ht : s.sh.trigStart = none) :
    schedStopOwn tk p s = reply (stopSchedule s) (.plain .ok) := by
  have none : dropTrigStart .stale s = s := by
    unfold dropTrigStart
    rw [ht]
  unfold schedStopOwn
  rw [none, h0]
  rfl

end

/-- A SCHED_STOP of four bytes that the Lodge takes completes with what its own rule yields, in every mode. -/
theorem schedStop_completes {s u : State} {m : Nat} {p : List Byte} {a : Answer} (ht : Takes s m 0x0503 p)
    (hlen : p.length = 4) (ho : schedStopOwn (s.ticket m) p s = reply u a) (hp : u.pending = s.pending) :
    Completes (.schedStop m) s (fun t => Said u t ∧ Answered m a t) :=
  Completes.of_lodge (row := anyRow) (len := fun p => p.length == 4) (mode := anyMode) rfl ht rfl
    (beq_iff_eq.mpr hlen) rfl ho hp

/-- Settles O28: SCHED_START and SCHED_STOP by their own rules, a dwell and a position by what each appends. -/
theorem scheduleStartsAndStops : Obligations.ScheduleStartsAndStops := by
  refine ⟨fun s m p ht hr hlen h0 hb hv hl => ?_, fun s m p ht hr hlen h0 hb hv => ?_, fun s r hl hr hd he => ?_,
    fun s r k d hl hr hk hd => ?_, fun s m p ht hlen h0 hts hr hw => ?_⟩
  · refine (schedStart_completes ht hr hlen (schedStartOwn_now h0 hb hv hl) rfl).mono fun t ⟨said, answered⟩ => ?_
    rw [said.sh, said.ms]
    exact ⟨answered, said, ⟨_, rfl, rfl, rfl, rfl, rfl, rfl⟩, rfl, rfl, rfl⟩
  · exact schedStart_completes ht hr hlen (schedStartOwn_stale h0 hb hv) rfl
  · obtain ⟨d, fields, forms⟩ := formDwell_forms hr hd he
    refine Completes.of_kept (f := formDwell) rfl rfl hl (by rw [forms]) ?_
    rw [forms]
    exact ⟨rfl, d, rfl, fields⟩
  · have advanced := entryAllocate_appends hr hk hd
    exact Completes.of_act (f := entryAllocate) rfl rfl hl
      ⟨⟨_, advanced.armed, rfl, rfl, rfl, rfl, rfl, rfl⟩, advanced.q, advanced.shotNum, advanced.ledger, advanced.dwells⟩
  · obtain ⟨ds, stops⟩ := stopSchedule_stops hr hw
    refine (schedStop_completes ht hlen (schedStopOwn_now h0 hts) (by rw [stops])).mono fun t ⟨said, answered⟩ => ?_
    rw [said.sh, said.ms, said.em]
    refine ⟨by rw [stops], by rw [stops], by rw [stops], by rw [stops], ?_, answered⟩
    rw [stops] at said ⊢
    exact said

end Sys2Proof.Machine
end

section
/-!
PROOFS. Shots (chapter 4): the ledger, positions that are reached, what fires and what does not, void shots, close words and
SELECT words; and that nothing but a position counts a shot.
-/
namespace Sys2Proof.Machine

/-! ## The ledger (R117, R120) -/

theorem Tab.find?_insert {α : Type} (k : Nat) (v : α) :
    ∀ t : Tab α, (Tab.insert t k v).find? (fun e => e.1 = k) = some (k, v)
  | [] => by simp [Tab.insert]
  | (k', v') :: t => by
    unfold Tab.insert
    split
    · simp
    · split
      · simp
      · next other => simp [Ne.symm other, Tab.find?_insert k v t]

theorem entry_congr {s t : State} (h : t.sh.ledger = s.sh.ledger) (tag : Nat) : t.entry tag = s.entry tag := by
  unfold State.entry
  rw [h]

theorem entry_of_insert {s : State} {l : Tab Entry} {tag : Nat} {e : Entry} (h : s.sh.ledger = Tab.insert l tag e) :
    s.entry tag = some e := by
  unfold State.entry
  rw [h, Tab.find?_insert]
  rfl

/-- A change of the entry in slot `tag` changes what that slot holds. -/
theorem entry_updEntry (tag k : Nat) (f : Entry → Entry) (s : State) :
    (updEntry tag f s).entry k = (s.entry k).map (fun e => if k = tag then f e else e) := by
  have key : ((fun e : Nat × Entry => decide (e.1 = k)) ∘ fun e => if e.1 = tag then (e.1, f e.2) else e) =
      fun e => decide (e.1 = k) := by
    funext e
    simp only [Function.comp_apply]
    split <;> rfl
  unfold State.entry updEntry
  rw [List.find?_map, key]
  cases found : s.sh.ledger.find? (fun e => decide (e.1 = k)) with
  | none => rfl
  | some e =>
    have own : e.1 = k := by simpa using List.find?_some found
    by_cases h : k = tag
    · simp [own, h]
    · simp [own, h]

theorem entry_updEntry_same (tag : Nat) (f : Entry → Entry) (s : State) :
    (updEntry tag f s).entry tag = (s.entry tag).map f := by
  rw [entry_updEntry]
  simp only [if_true]

/-- A change of an entry that keeps its number keeps the number in every slot. -/
theorem entry_updEntry_num {tag : Nat} {f : Entry → Entry} (hf : ∀ e, (f e).num = e.num) (s : State) (k : Nat) :
    ((updEntry tag f s).entry k).map Entry.num = (s.entry k).map Entry.num := by
  have num : (Entry.num ∘ fun e => if k = tag then f e else e) = Entry.num := by
    funext e
    simp only [Function.comp_apply]
    split
    · exact hf e
    · rfl
  rw [entry_updEntry, Option.map_map, num]

theorem get_optional {α : Type} (k : Nat) : ∀ t : Tab α,
    Tab.get (fun _ => none) (t.map (fun kv => (kv.1, some kv.2))) k = (t.find? (fun e => e.1 = k)).map Prod.snd
  | [] => rfl
  | (k', v) :: t => by
    by_cases h : k = k'
    · simp [Tab.get, h]
    · simp [Tab.get, h, Ne.symm h, get_optional k t]

theorem Entry.settle_num (e : Entry) : e.settle.num = e.num := by
  unfold Entry.settle
  split <;> rfl

theorem Entry.settle_void (e : Entry) : e.settle.void = e.void := by
  unfold Entry.settle
  split <;> rfl

theorem traceShot_said (e : Entry) (s : State) : Said s (traceShot e s) := by
  unfold traceShot
  split
  · exact pushStamped_said _ _ s
  · exact Said.refl s

theorem traceShot_ev (e : Entry) (s : State) : (traceShot e s).ev = s.ev := by
  unfold traceShot
  split <;> rfl

/-! ## FIRE pairs (R136, R138) -/

theorem firePair_congr {s t : State} (h : t.em.fire = s.em.fire) (d : Nat) : t.firePair d = s.firePair d := by
  unfold State.firePair
  rw [h]

/-- What is sent to a driver joins what its pair has not sent yet; nothing goes to an absent driver (R135). -/
theorem driveFire_firePair_same (d : Nat) (o : FireOut) (s : State) :
    (driveFire d o s).firePair d = if (s.driver d).present then
      (s.firePair d).filter (fun x => !x.ended s.tb.coarse) ++ [o] else s.firePair d := by
  unfold driveFire
  split
  · exact Tab.get_put_same noFire s.em.fire d _
  · rfl

theorem driveFire_firePair_other {d k : Nat} (o : FireOut) (s : State) (h : k ≠ d) :
    (driveFire d o s).firePair k = s.firePair k := by
  unfold driveFire
  split
  · exact Tab.get_put_other noFire _ h
  · rfl

/-! ## A shot fires (R105, R117, R121) -/

/-- The entry of the shot that position `p` of dwell `d` fires next. -/
def State.newEntry (p : Position) (d : Dwell) (s : State) : Entry :=
  let n := s.sh.shotNum.toNat
  { num := n, did := d.did, step := p.step, sidx := p.sidx, line := d.line, pline := d.pline, drv := d.drv
    pwr := d.pEff, q := p.q, tplan := p.tplan, fire := Config.noFireStamp n, state := 1, void := false
    syn := s.synthetic d.drv, inc := false, amb := false, group := d.group.getD (shotId n), fb := none, shown := false
    opens := (s.served d).filter (fun i => !s.fl.flrst.contains (chanFlight i)) }

/-- The shot is counted, and its entry is in the slot of its TAG. -/
def State.counted (p : Position) (d : Dwell) (s : State) : State :=
  { s with
    sh := { s.sh with
      shotNum := s.sh.shotNum + 1, ledger := Tab.insert s.sh.ledger (s.sh.shotNum.toNat % 8192) (s.newEntry p d) }
    em := { s.em with diagCnt := if d.diag then s.em.diagCnt + 1 else s.em.diagCnt } }

/-- The shot is counted in its dwell, which has the shot's group where it had none. -/
def Dwell.fired (group : Nat) (d : Dwell) : Dwell := { d with nfired := d.nfired + 1, group := some group, diag := false }

/-- The strobe goes out, and its energy, a pulse of width `w`, is charged to the line. -/
def strobed (p : Position) (d : Dwell) (w : Nat) (s : State) : State :=
  count (140 + d.drv) 1 (charge d.pline (min d.pEff 30) w (driveFire d.drv (.strobe p.tplan)
    (updDwell d.did (Dwell.fired (s.newEntry p d).group) (s.counted p d))))

theorem fireShot_eq (p : Position) (d : Dwell) (w : Nat) (s : State) :
    fireShot p d w s = if s.synthetic d.drv then
        shotFired (s.sh.shotNum.toNat % 8192)
          (stampOf p.tplan + ((strobed p d w s).fbDelay d.drv).signExtend 64) (strobed p d w s)
      else strobed p d w s := rfl

theorem strobed_only (p : Position) (d : Dwell) (w : Nat) (s : State) :
    strobed p d w s = { s with
      sh := { (s.counted p d).sh with dwells := (strobed p d w s).sh.dwells }
      em := { (s.counted p d).em with fire := (strobed p d w s).em.fire, lines := (strobed p d w s).em.lines }
      av := (strobed p d w s).av } := by
  have fires := driveFire_fireOnly d.drv (.strobe p.tplan)
    (updDwell d.did (Dwell.fired (s.newEntry p d).group) (s.counted p d))
  unfold FireOnly at fires
  unfold strobed
  rw [fires]
  rfl

/-- The strobe goes out on the pair of the dwell's driver, and on no other. -/
theorem strobed_firePair (p : Position) (d : Dwell) (w k : Nat) (s : State) :
    (strobed p d w s).firePair k =
      (driveFire d.drv (.strobe p.tplan)
        (updDwell d.did (Dwell.fired (s.newEntry p d).group) (s.counted p d))).firePair k := rfl

/-! ## Only positions count shots (R117) -/

/-- Between `s` and `t` no shot was counted, or one, whose entry is in the slot of its TAG. -/
def CountsOne (s t : State) : Prop :=
  t.sh.shotNum = s.sh.shotNum ∨
    t.sh.shotNum = s.sh.shotNum + 1 ∧ (t.entry (s.sh.shotNum.toNat % 8192)).map (·.num) = some s.sh.shotNum.toNat

theorem CountsOne.before {s u t : State} (hn : u.sh.shotNum = s.sh.shotNum) (h : CountsOne u t) : CountsOne s t := by
  unfold CountsOne at *
  rw [← hn]
  exact h

theorem CountsOne.after {s t u : State} (h : CountsOne s t) (hn : u.sh.shotNum = t.sh.shotNum)
    (hl : u.sh.ledger = t.sh.ledger) : CountsOne s u := by
  unfold CountsOne at *
  rw [hn, entry_congr hl]
  exact h

/-- An entry as its shot gets the fire stamp `st`. -/
def Entry.stamped (st : Stamp) (e : Entry) : Entry := Entry.settle { e with state := 2, fire := st }

theorem shotFired_num (tag : Nat) (st : Stamp) (s : State) (k : Nat) :
    ((shotFired tag st s).entry k).map Entry.num = (s.entry k).map Entry.num := by
  unfold shotFired
  split
  · rfl
  · dsimp only
    rw [entry_congr (congrArg Shots.ledger (traceShot_said _ _).sh)]
    exact entry_updEntry_num (f := Entry.stamped st) (fun e => Entry.settle_num _) s k

theorem fireShot_counts (p : Position) (d : Dwell) (w : Nat) (s : State) : CountsOne s (fireShot p d w s) := by
  have only := strobed_only p d w s
  have num : (strobed p d w s).sh.shotNum = s.sh.shotNum + 1 := by rw [only]; rfl
  have entry : (strobed p d w s).entry (s.sh.shotNum.toNat % 8192) = some (s.newEntry p d) :=
    entry_of_insert (by rw [only]; rfl)
  rw [fireShot_eq]
  split
  · exact .inr ⟨(shotFired_shot _ _ _).trans num, by rw [shotFired_num, entry]; rfl⟩
  · exact .inr ⟨num, by rw [entry]; rfl⟩

theorem judgePosition_counts (p : Position) (d : Dwell) (s : State) : CountsOne s (judgePosition p d s) := by
  unfold judgePosition
  split
  · exact .inl (withhold_shot _ _)
  · split
    · exact .inl (withhold_shot _ _)
    · split
      · exact .inl (withhold_shot _ _)
      · extract_lets r w l
        split
        · exact .inl (by simp)
        · exact fireShot_counts p d _ s

theorem beginFrame_shot (p : Position) (s : State) : (beginFrame p s).sh.shotNum = s.sh.shotNum := by
  unfold beginFrame
  split
  · dsimp only
    split <;> simp
  · rfl

theorem stopSchedule_ledger (s : State) : (stopSchedule s).sh.ledger = s.sh.ledger := by
  unfold stopSchedule
  split
  · rfl
  · dsimp only
    generalize hu : ({ s with sh := _ } : State) = u
    have off : (selectOff u).sh.ledger = s.sh.ledger := by rw [selectOff_fireOnly u, ← hu]
    split
    · rw [raise, (raises_said _ _).sh]
      exact off
    · exact off

theorem shotPosition_counts (s : State) : CountsOne s (shotPosition s) := by
  unfold shotPosition
  split
  · exact .inl rfl
  · extract_lets _ u v w
    have reached : v.sh.shotNum = s.sh.shotNum := (updDwell_shot _ _ _).trans (beginFrame_shot _ _)
    have judged : CountsOne s w := by
      unfold w
      split
      · exact ((judgePosition_counts _ _ _).before reached).after rfl rfl
      · exact .inl reached
    split
    · split
      · exact judged.after (stopSchedule_shot w) (stopSchedule_ledger w)
      · exact judged
    · exact judged

theorem shotId_eq (n : Nat) : shotId n = n / 8192 % 256 * 8192 + n % 8192 := by
  unfold shotId
  omega

/-- Settles O10: the effect of every other row leaves the number alone, by the laws of KeepsShots; a position by its fates. -/
theorem onlyShotPositionsCountShots : Obligations.OnlyShotPositionsCountShots := by
  refine ⟨rfl, fun i s t hi h => ?_, fun s => ?_, fun s c => ⟨fun hg => ?_, fun hg hr => ?_⟩, fun n => ⟨rfl, shotId_eq n⟩⟩
  · cases i
    case shotPosition | powerUp | pwrgoodFall | rstNAssert => exact hi.elim
    case jtagIdcode | jtagSample | jtagBypass =>
      refine actAlways_keeps (g := fun s => s.sh.shotNum) (fun _ _ => rfl) (fun _ => rfl) h ?_
      simp
    all_goals
      refine act_keeps (g := fun s => s.sh.shotNum) (fun _ _ => rfl) (fun _ => rfl) h ?_
      simp
  · cases hl : s.live with
    | true => exact Completes.of_act (f := shotPosition) rfl rfl hl (shotPosition_counts s)
    | false => exact ⟨s, act_held rfl hl, .inl rfl⟩
  · exact Completes.of_always (f := pwrgoodFall c) rfl rfl (by rw [pwrgoodFall_high hg]; rfl)
  · exact Completes.of_always (f := rstNAssert c) rfl rfl (by rw [rstNAssert_high hg hr]; rfl)

end Sys2Proof.Machine
end

section
/-!
PROOFS. The fates of a shot (chapter 4): a position within a frame that fires or is thinned out, a void shot, its close word, and
the SELECT word of its dwell.
-/
namespace Sys2Proof.Machine

/-! ## A position within a frame (R105, R148) -/

/-- The position is taken; it is the one reached last. -/
def State.taking (q : Position) (ps : List Position) (s : State) : State :=
  { s with sh := { s.sh with armed := ps, frameNow := q.frame, stepNow := q.step } }

/-- One more position of the dwell is reached. -/
def Dwell.reach (q : Position) (d : Dwell) : Dwell := { d with reached := d.reached + 1, firing := !q.last }

/-- The state in which a position is judged. -/
def State.reaching (q : Position) (ps : List Position) (s : State) : State :=
  updDwell q.did (Dwell.reach q) (s.taking q ps)

theorem beginFrame_within {q : Position} (h : q.sidx ≠ 0) (s : State) : beginFrame q s = s := if_neg fun k => h k.2

section
variable {s : State} {q : Position} {ps : List Position} {d : Dwell} (ha : s.sh.armed = q :: ps) (hi : q.sidx ≠ 0)
  (hf : q.frameLast = false) (hd : s.dwell q.did = some d)
include ha hi hf hd

/-- A position that neither begins nor ends a frame is judged, and nothing else happens at it. -/
theorem shotPosition_within : shotPosition s = notePeak (judgePosition q (d.reach q) (s.reaching q ps)) := by
  have dwell : (s.reaching q ps).dwell q.did = some (d.reach q) := by
    refine dwell_updDwell ?_ hd
    exact fun _ => rfl
  unfold shotPosition
  split
  · next e => cases ha.symm.trans e
  · next e =>
    cases ha.symm.trans e
    extract_lets _ u v w
    have taken : u = s.taking q ps := beginFrame_within hi _
    have judged : w = notePeak (judgePosition q (d.reach q) (s.reaching q ps)) := by
      unfold w v
      rw [taken]
      split
      · next e => cases dwell.symm.trans e; rfl
      · next e => cases dwell.symm.trans e
    split
    · rw [hf, Bool.false_and, if_neg Bool.false_ne_true, judged]
    · exact judged

end

/-- A position that is withheld moves on the end of its dwell, and does nothing else. -/
theorem withhold_dwells (p : Position) (s : State) : ∃ ds, withhold p s = { s with sh := { s.sh with dwells := ds } } :=
  ⟨_, rfl⟩

theorem notePeak_peak (s : State) : ∃ n, notePeak s = { s with sh := { s.sh with peak := n } } := ⟨_, rfl⟩

section
variable {p : Position} {d : Dwell} {s : State}

theorem judgePosition_thin (h : p.thin = true) :
    judgePosition p d s = withhold p { s with sh := { s.sh with skipCnt := s.sh.skipCnt + 1 } } := if_pos h

/-- A position that nothing withholds, on a driver without an energy limit, fires (R105, R120, R151, R152). -/
theorem judgePosition_fires (ht : p.thin = false) (hf : p.full = false) (hb : s.blocked d = false)
    (he : (s.driver d.drv).eyeLim = 0xFFFFFFFF) : ∃ w, judgePosition p d s = fireShot p d w s := by
  unfold judgePosition
  rw [if_neg (by simp [ht]), if_neg (by simp [hf]), if_neg (by simp [hb])]
  extract_lets r w l
  exact ⟨w, if_neg fun h => h.1 he⟩

end

section
variable {s : State} {q : Position} {ps : List Position} {d : Dwell} (ha : s.sh.armed = q :: ps) (hi : q.sidx ≠ 0)
  (hf : q.frameLast = false) (hd : s.dwell q.did = some d)
include ha hi hf hd

/-- A position within a frame that nothing withholds sends its strobe, and its shot is counted. -/
theorem shotPosition_fires (ht : q.thin = false) (hfull : q.full = false) (hb : s.blocked d = false)
    (he : (s.driver d.drv).eyeLim = 0xFFFFFFFF) (hsyn : s.synthetic d.drv = false) :
    ∃ w, shotPosition s = notePeak (strobed q (d.reach q) w (s.reaching q ps)) := by
  have free : (s.reaching q ps).blocked (d.reach q) = false := hb
  have own : (s.reaching q ps).synthetic (d.reach q).drv = false := hsyn
  obtain ⟨w, fires⟩ := judgePosition_fires (p := q) (d := d.reach q) (s := s.reaching q ps) ht hfull free he
  exact ⟨w, by rw [shotPosition_within ha hi hf hd, fires, fireShot_eq, own, if_neg Bool.false_ne_true]⟩

end

/-- From `s` to `t` position `p` of dwell `d` fires: the strobe goes out, and the shot is counted and in the ledger. -/
structure Fired (p : Position) (d : Dwell) (s t : State) : Prop where
  pending : t.pending = s.pending
  tb : t.tb = s.tb
  fl : t.fl = s.fl
  gl : t.gl = s.gl
  armed : t.sh.armed = s.sh.armed
  skipCnt : t.sh.skipCnt = s.sh.skipCnt
  shotNum : t.sh.shotNum = s.sh.shotNum + 1
  entry : t.entry (s.sh.shotNum.toNat % 8192) = some (s.newEntry p d)
  em : t.em = { s.em with
    diagCnt := if d.diag then s.em.diagCnt + 1 else s.em.diagCnt, fire := t.em.fire, lines := t.em.lines }
  firePair : t.firePair d.drv = if (s.driver d.drv).present then
    (s.firePair d.drv).filter (fun o => !o.ended s.tb.coarse) ++ [.strobe p.tplan] else s.firePair d.drv
  otherPairs : ∀ k, k ≠ d.drv → t.firePair k = s.firePair k

theorem strobed_fired (p : Position) (d : Dwell) (w : Nat) (s : State) : Fired p d s (strobed p d w s) := by
  have only := strobed_only p d w s
  constructor
  case entry => exact entry_of_insert (by rw [only]; rfl)
  case firePair => exact driveFire_firePair_same _ _ _
  case otherPairs => exact fun k hk => driveFire_firePair_other _ _ hk
  case em => exact congrArg State.em only
  all_goals rw [only]
  · rfl
  · rfl
  · rfl

/-! ## Void shots (R115, R156) -/

/-- Only the shots and the emitter link differ. -/
def ShotsOnly (s t : State) : Prop := t = { s with sh := t.sh, em := t.em }

theorem ShotsOnly.trans {s t u : State} (h : ShotsOnly s t) (k : ShotsOnly t u) : ShotsOnly s u := by
  unfold ShotsOnly at *
  rw [k, h]

theorem updEntry_shotsOnly (tag : Nat) (f : Entry → Entry) (s : State) : ShotsOnly s (updEntry tag f s) := rfl

theorem updDwell_shotsOnly (did : Nat) (f : Dwell → Dwell) (s : State) : ShotsOnly s (updDwell did f s) := rfl

theorem updLine_shotsOnly (x : Nat) (f : Line → Line) (s : State) : ShotsOnly s (updLine x f s) := rfl

theorem updDriver_shotsOnly (d : Nat) (f : Driver → Driver) (s : State) : ShotsOnly s (updDriver d f s) := rfl

theorem updDwell_ledger (did : Nat) (f : Dwell → Dwell) (s : State) : (updDwell did f s).sh.ledger = s.sh.ledger := rfl

def Entry.voided (e : Entry) : Entry := Entry.settle { e with state := 2, void := true }

def Dwell.voidedAt (t : Stamp) (d : Dwell) : Dwell := { Dwell.closes t d with nvoid := d.nvoid + 1 }

def Line.voided (l : Line) : Line := if l.state = 3 then l else { l with voidRun := min 255 (l.voidRun + 1) }

def Driver.voidOn (x : Nat) (r : Driver) : Driver := { r with voids := r.voids + 1, lastVoid := x }

/-- One more void shot is counted. -/
def State.countVoid (s : State) : State := { s with sh := { s.sh with voidCnt := s.sh.voidCnt + 1 } }

/-- The shot of entry `e` in slot `tag` is void: its entry, its dwell, its line and its driver say so, and it is counted. -/
def State.voided (tag : Nat) (e : Entry) (s : State) : State :=
  (updDriver e.drv (Driver.voidOn e.pline) (updLine e.pline Line.voided
    (updDwell e.did (Dwell.voidedAt (s.voidClose e.tplan)) (updEntry tag Entry.voided s)))).countVoid

theorem shotVoid_eq (tag : Nat) (e : Entry) (s : State) :
    shotVoid tag e s = traceShot { e with void := true } (count (148 + e.drv) 1 (raise 25 (s.voided tag e))) := by
  unfold shotVoid State.voided State.countVoid
  dsimp only
  rfl

theorem voided_shotsOnly (tag : Nat) (e : Entry) (s : State) : ShotsOnly s (s.voided tag e) :=
  ((((updEntry_shotsOnly _ _ s).trans (updDwell_shotsOnly _ _ _)).trans (updLine_shotsOnly _ _ _)).trans
    (updDriver_shotsOnly _ _ _)).trans rfl

theorem voided_ledger (tag : Nat) (e : Entry) (s : State) :
    (s.voided tag e).sh.ledger = (updEntry tag Entry.voided s).sh.ledger := by
  unfold State.voided State.countVoid
  rw [updDriver_sh, updLine_sh, updDwell_ledger]

theorem voided_voidCnt (tag : Nat) (e : Entry) (s : State) : (s.voided tag e).sh.voidCnt = s.sh.voidCnt + 1 := by
  unfold State.voided State.countVoid
  rw [updDriver_sh, updLine_sh]
  rfl

theorem shotVoid_said (tag : Nat) (e : Entry) (s : State) : Said (s.voided tag e) (shotVoid tag e s) := by
  rw [shotVoid_eq]
  exact ((raise_said 25 _).trans (count_said _ _ _)).trans (traceShot_said _ _)

theorem shotVoid_raised (tag : Nat) (e : Entry) (s : State) : Raised 25 s (shotVoid tag e s) := by
  have only := voided_shotsOnly tag e s
  have raised := raise_raised 25 (s.voided tag e)
  have ev : (s.voided tag e).ev = s.ev := by rw [only]
  have uptime : (s.voided tag e).uptime = s.uptime := by rw [only]
  unfold Raised at *
  rw [shotVoid_eq, traceShot_ev, count_ev, raised, ev, uptime]

theorem voided_entry {tag : Nat} {e : Entry} {s : State} (h : s.entry tag = some e) :
    (s.voided tag e).entry tag = some e.voided := by
  rw [entry_congr (voided_ledger tag e s), entry_updEntry_same, h]
  rfl

theorem voidDecision_armed {tag : Nat} {e : Entry} {s : State} (h : s.entry tag = some e) (hs : e.syn = false)
    (h1 : e.state = 1) : voidDecision tag s = shotVoid tag e s := by
  unfold voidDecision
  rw [h]
  simp only [hs, h1, Bool.false_eq_true, if_false, if_true]

/-! ## Close words (R61, R115) -/

/-- Channel `c` takes the close word of shot (`gen`, `tag`) in flight cycle `n`. -/
def Chan.closed (n skews era gen tag : Nat) (c : Chan) : Chan :=
  { c.accept n skews era (.close false c.mrg c.drop gen tag c.ova) false c.ecnt with mrg := false, drop := false }

/-- A close word that finds the latch empty and the push port free is pushed at once. -/
theorem presentClose_open {gen tag i : Nat} {s : State} (he : (s.chan i).en = true) (hl : (s.chan i).latch = none)
    (hn : ((s.chan i).noteOf s.cycle).latched = false) (hp : (s.chan i).portOpen s.cycle = true) :
    ∃ f : Chan → Chan, presentClose gen tag i s = updChan i f s ∧
      f (s.chan i) = (s.chan i).closed s.cycle s.ca.skews s.tb.era gen tag := by
  unfold presentClose
  extract_lets c w
  rw [if_neg (by simp [c, he])]
  split
  · next e => cases hl.symm.trans e
  · exact ⟨_, (if_neg (ne_true_of_eq_false hn)).trans (if_pos hp), rfl⟩

/-- A shot that has fired and whose close words are due presents them to the one channel that its dwell serves. -/
theorem closeWordPresent_one {tag i : Nat} {e : Entry} {d : Dwell} {s : State} (h : s.entry tag = some e) (h2 : e.state = 2)
    (hs : e.shown = false) (hd : s.dwell e.did = some d) (hi : s.served d = [i]) (hl : (s.chan i).latch = none)
    (hn : ((s.chan i).noteOf s.cycle).latched = false) :
    closeWordPresent tag s =
      presentClose (e.num / 8192 % 256) tag i (updEntry tag (fun e => { e with shown := true }) s) := by
  have alone : (s.chan i).mergesClose s.cycle = false := by
    unfold Chan.mergesClose
    rw [hl, hn, Option.isSome_none, Bool.or_self, Bool.and_false]
  unfold closeWordPresent
  rw [h]
  refine (if_neg (by simp [h2, hs])).trans ?_
  extract_lets u
  have dwell : u.dwell e.did = some d := hd
  split
  · next e => cases dwell.symm.trans e
  · next e =>
    cases dwell.symm.trans e
    have served : u.served d = [i] := hi
    rw [served]
    have merged : [i].any (fun i => (u.chan i).mergesClose u.cycle) = false := by
      rw [List.any_cons, List.any_nil, Bool.or_false]
      exact alone
    dsimp only
    rw [merged]
    rfl

/-! ## SELECT words (R139, R154, R158) -/

/-- The word of a dwell is sent for line `x`. -/
def Dwell.selectOn (x : Nat) (diag : Bool) (d : Dwell) : Dwell :=
  { d with selected := true, pline := x, drv := driverOf x, diag := diag }

/-- No diagnostic pulse is due on the line. -/
def Line.undue (l : Line) : Line := { l with diagDue := false }

/-- The line that the map gives dwell `d` now is selected for it. -/
def State.selecting (d : Dwell) (diag : Bool) (s : State) : State :=
  updLine (s.pline d.line) Line.undue (updDwell d.did (Dwell.selectOn (s.pline d.line) diag) s)

/-- DIAG of the SELECT word for line `x` (R154). -/
def State.diagOf (x : Nat) (s : State) : Bool := (s.line x).diagDue && decide ((s.driver (driverOf x)).width < 4)

/-- The SELECT word of dwell `d`, and when it begins (R139). -/
def State.selectOut (d : Dwell) (s : State) : FireOut :=
  .select (d.t0 - 200) (selectWord (dlineOf (s.pline d.line)) (min d.pEff 30) (s.driver (driverOf (s.pline d.line))).width
    (s.diagOf (s.pline d.line)) false)

theorem selectNext_first {s : State} {d : Dwell} (h : s.sh.dwells.find? (fun d => !d.selected) = some d) :
    selectNext s =
      driveFire (driverOf (s.pline d.line)) (s.selectOut d) (s.selecting d (s.diagOf (s.pline d.line))) := by
  unfold selectNext
  rw [h]
  rfl

theorem find?_dwell {s : State} {p : Dwell → Bool} {d : Dwell} (h : s.sh.dwells.find? p = some d) :
    ∃ e, s.dwell d.did = some e := by
  have found : (s.sh.dwells.find? (fun e => decide (e.did = d.did))).isSome = true :=
    List.find?_isSome.mpr ⟨d, List.mem_of_find?_eq_some h, decide_eq_true rfl⟩
  exact Option.isSome_iff_exists.mp found

/-- Settles O29: a position, a void shot, a close word and a SELECT word by what each leaves. -/
theorem shotsFireAndClose : Obligations.ShotsFireAndClose := by
  refine ⟨fun s q ps d hl ha hi hf ht hfull hd _ hb he hsyn => ?_, fun s q ps d hl ha hi hf ht hd => ?_,
    fun s tag e hl htag h hs h1 => ?_, fun s tag e d i hl htag h h2 hs hd hi hen hlt hp hn => ?_, fun s d hl hd => ?_⟩
  · obtain ⟨w, fires⟩ := shotPosition_fires ha hi hf hd ht hfull hb he hsyn
    have fired := strobed_fired q (d.reach q) w (s.reaching q ps)
    generalize strobed q (d.reach q) w (s.reaching q ps) = v at fires fired
    refine Completes.of_kept (f := shotPosition) rfl rfl hl (by rw [fires]; exact fired.pending) ?_
    rw [fires]
    refine ⟨fired.armed, fired.shotNum, fired.skipCnt, fired.tb, fired.fl, congrArg Gallery.mem fired.gl, fired.em,
      fired.firePair, fired.otherPairs, (s.reaching q ps).newEntry q (d.reach q), ?_, rfl, rfl, rfl, rfl, rfl⟩
    rw [get_optional]
    exact fired.entry
  · refine Completes.of_act (f := shotPosition) rfl rfl hl ?_
    rw [shotPosition_within ha hi hf hd, judgePosition_thin ht]
    obtain ⟨ds, withheld⟩ := withhold_dwells q
      { s.reaching q ps with sh := { (s.reaching q ps).sh with skipCnt := (s.reaching q ps).sh.skipCnt + 1 } }
    rw [withheld]
    obtain ⟨n, noted⟩ := notePeak_peak { s.reaching q ps with sh := { (s.reaching q ps).sh with
      skipCnt := (s.reaching q ps).sh.skipCnt + 1, dwells := ds } }
    rw [noted]
    exact ⟨rfl, rfl, rfl, rfl, rfl⟩
  · refine Completes.of_act (f := voidDecision tag) rfl (decide_eq_true htag) hl ?_
    rw [voidDecision_armed h hs h1]
    have said := shotVoid_said tag e s
    refine ⟨?_, ?_, shotVoid_raised tag e s, ?_, ?_⟩
    · have entry := (entry_congr (congrArg Shots.ledger said.sh) tag).trans (voided_entry h)
      exact (congrArg (Option.map Entry.void) entry).trans (congrArg some (Entry.settle_void _))
    · exact (congrArg Shots.voidCnt said.sh).trans (voided_voidCnt tag e s)
    · refine Said.keep (u := { s with sh := (shotVoid tag e s).sh, em := (shotVoid tag e s).em }) ?_ rfl
      rw [said.sh, said.em, ← voided_shotsOnly]
      exact said
    · exact shotVoid_shot tag e s
  · obtain ⟨f, pushed, closed⟩ := presentClose_open (gen := e.num / 8192 % 256) (tag := tag)
      (s := updEntry tag (fun e => { e with shown := true }) s) hen hlt hn hp
    have becomes := updChan_becomes i f (updEntry tag (fun e => { e with shown := true }) s)
    rw [closed] at becomes
    refine Completes.of_act (f := closeWordPresent tag) rfl (decide_eq_true htag) hl ?_
    rw [closeWordPresent_one h h2 hs hd hi hlt hn, pushed]
    refine ⟨?_, congrArg Chan.queue becomes.chan, congrArg Chan.mrg becomes.chan, congrArg Chan.drop becomes.chan,
      congrArg Chan.ova becomes.chan, becomes.other, rfl⟩
    have entry := entry_updEntry_same tag (fun e => { e with shown := true }) s
    rw [h] at entry
    exact congrArg (Option.map Entry.shown) entry
  · obtain ⟨e, he⟩ := find?_dwell hd
    refine Completes.of_act (f := selectNext) rfl rfl hl ?_
    rw [selectNext_first hd]
    have fires := driveFire_fireOnly (driverOf (s.pline d.line)) (s.selectOut d) (s.selecting d (s.diagOf (s.pline d.line)))
    generalize hv : driveFire _ _ _ = v at fires
    have selected : (s.selecting d (s.diagOf (s.pline d.line))).dwell d.did =
        some (e.selectOn (s.pline d.line) (s.diagOf (s.pline d.line))) := by
      refine dwell_updDwell ?_ he
      exact fun _ => rfl
    refine ⟨?_, ?_, ?_, ?_, ?_⟩
    · rw [fires]
      rfl
    · have dwell := (dwell_congr (congrArg State.sh fires) d.did).trans selected
      exact congrArg (Option.map fun d => (d.selected, d.pline)) dwell
    · have line : v.line (s.pline d.line) = (s.selecting d (s.diagOf (s.pline d.line))).line (s.pline d.line) := by
        rw [fires]
        rfl
      exact (congrArg Line.diagDue line).trans (congrArg Line.diagDue (updLine_line_same _ _ _))
    · rw [← hv]
      exact driveFire_firePair_same _ _ _
    · rw [← hv]
      exact fun k hk => driveFire_firePair_other _ _ hk

end Sys2Proof.Machine
end

section
/-!
PROOFS. The end of a dwell (chapters 4 and 6): the assignment of a stamp, the token of a channel, the join, and the registers of
the ledger.
-/
namespace Sys2Proof.Machine

/-! ## Assignment (R125, R127) -/

/-- An entry joins an increment queue that has room (R166). -/
theorem pushInc_room {i : Nat} {s : State} (h : (s.achan i).incs.length < 32) (x : Inc) :
    pushInc i x s = updAChan i (fun a => { a with incs := a.incs ++ [x] }) s := if_neg (Nat.not_le.mpr h)

/-- A stamp with one candidate shot is one increment, and not ambiguous (R126). -/
theorem judgeStamp_one {i n : Nat} {st : Stamp} {e : Entry} {s : State}
    (h : s.sh.ledger.filter (fun x => s.candidate i st x.2) = [(n, e)]) :
    judgeStamp i st s = pushInc i (.inc (s.shotInterval i st e).toNat e.did n false) s := by
  unfold judgeStamp
  rw [h]
  rfl

/-- The stamp that waits alone on channel `i` is taken from the assignment buffer. -/
def State.unwaited (i : Nat) (s : State) : State := updAChan i (fun a => { a with waits := a.waits.tail }) s

section
variable {i n : Nat} {st : Stamp} {e : Entry} {s : State} (hr : s.arcadeRuns = true) (hw : (s.achan i).waits = [.stamp st])
  (hj : s.judgeable st = true) (hc : s.sh.ledger.filter (fun x => s.candidate i st x.2) = [(n, e)])
  (hlen : (s.achan i).incs.length < 32)
include hr hw hj hc hlen

theorem stampAssignment_one :
    stampAssignment i s = updAChan i
      (fun a => { a with incs := a.incs ++ [.inc (s.shotInterval i st e).toNat e.did n false] }) (s.unwaited i) := by
  have room : ((s.unwaited i).achan i).incs.length < 32 := by
    unfold State.unwaited
    rw [updAChan_achan_same]
    exact hlen
  have judged : judgeStamp i st (s.unwaited i) = updAChan i
      (fun a => { a with incs := a.incs ++ [.inc (s.shotInterval i st e).toNat e.did n false] }) (s.unwaited i) :=
    (judgeStamp_one (s := s.unwaited i) hc).trans (pushInc_room room _)
  have empty : ((updAChan i (fun a => { a with incs := a.incs ++ [.inc (s.shotInterval i st e).toNat e.did n false] })
      (s.unwaited i)).achan i).waits = [] := by
    unfold State.unwaited
    rw [updAChan_achan_same, updAChan_achan_same, hw]
    rfl
  unfold State.unwaited at judged empty ⊢
  unfold stampAssignment
  rw [hr, hw]
  dsimp only
  rw [if_neg (by decide), if_pos hj, judged, empty]
  rfl

end

/-! ## The end of a dwell on a channel (R171) -/

/-- Channel `i` has its token of the dwell. -/
def Dwell.withToken (i : Nat) (d : Dwell) : Dwell := { d with tokens := i :: d.tokens }

theorem dwellEndToken_ends {i : Nat} {d : Dwell} {s : State}
    (hd : s.sh.dwells.find? (fun d => (s.served d).contains i && d.reached ≠ 0 && !d.tokens.contains i) = some d)
    (he : s.endsOn i d = true) (hlen : (s.achan i).incs.length < 32) :
    dwellEndToken i s = updAChan i (fun a => { a with incs := a.incs ++ [.token d.did] })
      (updDwell d.did (Dwell.withToken i) s) := by
  unfold dwellEndToken
  rw [hd]
  exact (if_pos he).trans (pushInc_room (s := updDwell d.did (Dwell.withToken i) s) hlen _)

/-! ## The join (R131, R176) -/

/-- The ledger without the entries of dwell `did`, with the dwells `ds`, the snapshot slots `sl` and the trace as in `av`. -/
def State.freed (did : Nat) (ds : List Dwell) (sl : List Slot) (av : Avail) (s : State) : State :=
  { s with
    sh := { s.sh with ledger := s.sh.ledger.filter (fun e => e.2.did ≠ did), dwells := ds }
    ar := { s.ar with slots := sl }
    av := av }

theorem traceDwell_only (d : Dwell) (s : State) : traceDwell d s = { s with av := (traceDwell d s).av } := by
  unfold traceDwell
  split <;> rfl

/-- A join frees the entries of its dwell; beside these only dwells, snapshot slots, the trace and the streams may differ. -/
theorem dwellJoin_joins {d : Dwell} {s : State} (hd : s.sh.dwells.find? s.joinable = some d) :
    ∃ ds sl av, Streamed (s.freed d.did ds sl av) (dwellJoin s) := by
  unfold dwellJoin
  split
  · next e => cases hd.symm.trans e
  · next e =>
    cases hd.symm.trans e
    extract_lets d' _ u v _ w
    obtain ⟨streamed, -⟩ := placeDwells_entered w.sh.dwells.length w
    have only : ∃ av, w = { v with ar := { v.ar with slots := v.ar.slots.map (Slot.about d') }, av := av } :=
      ⟨_, traceDwell_only d' _⟩
    clear_value w
    obtain ⟨av, rfl⟩ := only
    exact ⟨_, _, av, streamed⟩

/-! ## Registers (R134) -/

theorem shotHi_eq (x : W64) : ((x >>> 32).truncate 32 : W32).toNat = x.toNat / 2 ^ 32 := by
  have bound := x.isLt
  rw [BitVec.truncate_eq_setWidth, BitVec.toNat_setWidth, BitVec.toNat_ushiftRight, Nat.shiftRight_eq_div_pow]
  omega

/-- A write to SH.LSEL that selects a held slot copies the words of its entry. -/
theorem lselWrite_held {v : W32} {e : Entry} {s : State} (h : s.entry (fld v 0 13) = some e) :
    lselWrite v s = { s with sh := { s.sh with
      lsel := fld v 0 13, lent := (List.range e.words.length).zip (e.words.map w32) } } := by
  unfold lselWrite
  dsimp only
  rw [h]

/-- Settles O30: an assignment and a token by the entry that joins the queue, a join by the entries that go, and the two
registers by what they copy. -/
theorem dwellsEndAndJoin : Obligations.DwellsEndAndJoin := by
  refine ⟨fun s i st n e hl hr hi hw hj hc hlen => ?_, fun s i d hl hi hd he hlen => ?_, fun s d hl hd => ?_, fun s hl => ?_,
    fun s v e hl h => ?_⟩
  · refine Completes.of_act (f := stampAssignment i) rfl (decide_eq_true hi) hl ?_
    rw [stampAssignment_one hr hw hj hc hlen]
    refine ⟨?_, fun j hj => ?_, rfl⟩
    · refine (updAChan_achan_same _ _ _).trans ?_
      unfold State.unwaited
      rw [updAChan_achan_same, hw]
      rfl
    · exact (updAChan_achan_other _ _ hj).trans (updAChan_achan_other _ _ hj)
  · obtain ⟨e, dwell⟩ := find?_dwell hd
    refine Completes.of_act (f := dwellEndToken i) rfl (decide_eq_true hi) hl ?_
    rw [dwellEndToken_ends hd he hlen]
    refine ⟨updAChan_achan_same _ _ _, fun j hj => updAChan_achan_other _ _ hj, ?_, rfl⟩
    have token : (updDwell d.did (Dwell.withToken i) s).dwell d.did = some (e.withToken i) := by
      refine dwell_updDwell ?_ dwell
      exact fun _ => rfl
    refine (congrArg (Option.map fun d => d.tokens.contains i) token).trans ?_
    simp [Dwell.withToken]
  · obtain ⟨ds, sl, av, streamed⟩ := dwellJoin_joins hd
    have sh := streamed.sh
    refine Completes.of_kept (f := dwellJoin) rfl rfl hl streamed.pending ?_
    exact ⟨by rw [sh]; rfl, by rw [sh]; rfl, streamed.tb, streamed.fl, dwellJoin_mem s⟩
  · exact Completes.of_act (f := latchShotnum) rfl rfl hl ⟨rfl, shotHi_eq s.sh.shotNum⟩
  · refine Completes.of_act (f := lselWrite v) rfl rfl hl ?_
    rw [lselWrite_held h]
    exact ⟨rfl, rfl, rfl⟩

end Sys2Proof.Machine
end
